-- ==== Sys2Proof/Word.lean ====
section
/-! DEFINITION. The word and byte types, an entry table with a default, and the plainest arithmetic: nothing here is specific to a rule of the spec. -/

namespace Sys2Proof

/-- One 32-bit word of the register window. -/
abbrev Word := BitVec 32

/-- One byte. -/
abbrev Byte := BitVec 8

/-- Sparse data by key: the listed keys rise, and a key not listed holds a default that the reader supplies. -/
abbrev Tab (α : Type) := List (Nat × α)

end Sys2Proof
end

