-- ==== Sys2Proof/Syntax.lean ====
section
/-! DEFINITION. The commands of the block: one constructor of `Instr` per row of the command table. An operand `t` is the instant of the event inside the present 250 ns base tick, in ns; events are queued in the order in which they occur. -/

namespace Sys2Proof

/-- A write access at the register port (R51): the data, its four parity bits, and REG_PRIV. -/
structure PortWrite where
  data : Word
  par  : BitVec 4
  priv : Bool
  deriving DecidableEq, Repr

/-- A vendor-defined message as received (R61): the enterprise number, the bytes RQ_INST and CODE of the body, the payload after them, and whether the bus owner sent it. -/
structure VendorReq where
  pen     : BitVec 32
  rq      : Byte
  code    : Byte
  payload : List Byte
  owner   : Bool
  deriving DecidableEq, Repr

/-- The most recent capture of a berth's ACT_CNT that the engine domain has taken (R39): the Gray-coded count, ACT_P, and how many engine cycles ago it was taken. -/
structure Capture where
  berth : Fin 256
  gray  : BitVec 16
  par   : Bool
  age   : BitVec 16
  deriving DecidableEq, Repr

/-- An erase or program of the flash whose busy bit stays set (R67): whether an epoch advance issued it, whether it is an erase, and how many ns the bit has been set. -/
structure FlashBusy where
  epoch : Bool
  erase : Bool
  busy  : Nat
  deriving DecidableEq, Repr

/-- An entry of the reservation table whose parity fails when it is read (R317): its number in the table and its key. -/
structure BadEntry where
  num   : BitVec 16
  berth : Fin 256
  acct  : Fin 256
  igid  : BitVec 16
  deriving DecidableEq, Repr

/-- What reaches the governor at a sample tick from outside its registers: the captures of the berths' ACT_CNT; the sensor values that fail their parity check at the latch (class of R87 times 4096, plus the index); the loops whose lane operands fail parity; the destinations whose arbitration fails parity, as DETAIL of source 258 names them; the reservation entries whose parity fails at the snapshot; and whether the ledger's conservation check fails. -/
structure SampleIn where
  captures   : List Capture := []
  badSensors : List Nat := []
  badLoops   : List (Fin 1024) := []
  badDests   : List (BitVec 12) := []
  badEntries : List BadEntry := []
  badLedger  : Bool := false
  deriving DecidableEq, Repr

/-- One slot of a Hawser frame (R266). -/
structure Slot where
  node  : Nat
  flags : Nat
  job   : Nat
  step  : Nat
  prog  : Nat
  base  : Nat
  floor : Nat
  ceil  : Nat
  cap   : Nat
  t1    : Nat
  t4    : Nat
  stop  : Nat
  deriving DecidableEq, Repr

/-- A block of the statistics collective (R286). -/
structure Block where
  start   : Nat
  span    : Nat
  n       : Nat
  contrib : Nat
  mean    : Nat
  sum     : Nat
  m2      : Nat
  deriving DecidableEq, Repr

/-- A Hawser frame as its fields (R264 to R266, R286): the header with whether its CRC holds, the slots whose CRC holds, the nodes whose slot segments fail, and the running and result blocks, none where their CRC fails. -/
structure Frame where
  hdrOk  : Bool
  fctr   : Nat
  tmark  : Nat
  path   : Nat
  hop    : Nat
  nodes  : Nat
  turned : Bool
  slots  : List Slot
  badSlots : List Nat
  run    : Option Block
  result : Option Block
  deriving DecidableEq, Repr

/-- An uncorrectable word: its memory, its word address, and what it holds as DETAIL of R312 names it; for memory 9 the switch records are 0 to 1023, the stamps 1024 to 1535 and the refusal records 1536 to 1543; for memories 10 and 11 the record slot and the place in the queue. -/
abbrev BadWord := Fin 12 × Nat × Nat

/-- The commands, in the order of the table; each names its row and the rule the table gives it. -/
inductive Instr where
  /-- POWER_ON_RESET (R403). -/
  | powerOnReset
  /-- RST_N_ASSERT (R70). -/
  | rstNAssert
  /-- RST_N_RELEASE (R337). -/
  | rstNRelease (vselEn : Bool)
  /-- BROWN_OUT (R404). -/
  | brownOut
  /-- BOOT_COMPLETE (R337). -/
  | bootComplete (readOk : Bool) (t : Fin 250)
  /-- EPOCH_ADVANCE (R253). -/
  | epochAdvance (flashOk : Bool) (t : Fin 250)
  /-- BASE_TICK (R15). -/
  | baseTick
  /-- SAMPLE_TICK (R23). -/
  | sampleTick (inp : SampleIn)
  /-- SLUICE_TICK (R129). -/
  | sluiceTick (ups : List (Fin 256)) (t : Fin 250)
  /-- BERTH_RETIRE_COMPLETE (R384). -/
  | berthRetireComplete (b : Fin 256) (t : Fin 250)
  /-- THERMAL_SWEEP_COMPLETE (R210). -/
  | thermalSweepComplete (codes : List (Fin 384 × BitVec 16)) (t : Fin 250)
  /-- PATH_MONITOR_SWEEP (R211). -/
  | pathMonitorSweep (codes : List (Fin 128 × BitVec 16)) (t : Fin 250)
  /-- PHASE_CURRENT_CONVERSION (R197). -/
  | phaseCurrentConversion (codes : List (Fin 64 × BitVec 12)) (t : Fin 250)
  /-- SHED_COMPLETE (R198). -/
  | shedComplete (p : Fin 64) (t : Fin 250)
  /-- REMOTE_SENSE_CONVERSION (R204). -/
  | remoteSenseConversion (r : Fin 8) (code : BitVec 14) (t : Fin 250)
  /-- COMPENSATOR_REQUEST (R183). -/
  | compensatorRequest (r : Fin 8) (upset : Bool) (t : Fin 250)
  /-- FEED_FORWARD_REQUEST (R184). -/
  | feedForwardRequest (r : Fin 8) (code : BitVec 16) (t : Fin 250)
  /-- RAIL_PERIOD_START (R190). -/
  | railPeriodStart (r : Fin 8) (t : Fin 250)
  /-- RAIL_ON_DELAY_EXPIRY (R190). -/
  | railOnDelayExpiry (r : Fin 8) (t : Fin 250)
  /-- RAIL_PGOOD_DELAY_EXPIRY (R190). -/
  | railPgoodDelayExpiry (r : Fin 8) (t : Fin 250)
  /-- RAIL_OFF_DELAY_EXPIRY (R191). -/
  | railOffDelayExpiry (r : Fin 8) (t : Fin 250)
  /-- RAIL_DISCHARGE_EXPIRY (R191). -/
  | railDischargeExpiry (r : Fin 8) (t : Fin 250)
  /-- PHASE_OVERCURRENT (R193). -/
  | phaseOvercurrent (p : Fin 64) (t : Fin 250)
  /-- PHASE_FAULT (R194). -/
  | phaseFault (p : Fin 64) (t : Fin 250)
  /-- VCORE_CLAMP_ENGAGE (R195). -/
  | vcoreClampEngage (t : Fin 250)
  /-- OVERLOAD_BIN_END (R196). -/
  | overloadBinEnd (r : Fin 8) (t : Fin 250)
  /-- SYNC_IN_EDGE (R180). -/
  | syncInEdge (period : BitVec 20) (t : Fin 250)
  /-- SYNC_LOSS (R181). -/
  | syncLoss (t : Fin 250)
  /-- STAGE_FAULT (R55). -/
  | stageFault (t : Fin 250)
  /-- PWRBRK_ASSERT (R74). -/
  | pwrbrkAssert (t : Fin 250)
  /-- PWRBRK_RELEASE (R74). -/
  | pwrbrkRelease (t : Fin 250)
  /-- VSEL_CHANGE (R71). -/
  | vselChange (v : BitVec 4) (t : Fin 250)
  /-- THERMAL_TRIP (R72). -/
  | thermalTrip (t : Fin 250)
  /-- BERTH_ERR (R43). -/
  | berthErr (b : Fin 256) (t : Fin 250)
  /-- ACCT_TOGGLE (R41). -/
  | acctToggle (b acct : Fin 256) (gray : BitVec 16) (t : Fin 250)
  /-- FCST_CHANGE (R42). -/
  | fcstChange (b : Fin 256) (v : BitVec 4) (t : Fin 250)
  /-- PS_ANSWER (R45). -/
  | psAnswer (b : Fin 256) (ack nak hold : Bool) (rsn : BitVec 4) (t : Fin 250)
  /-- PS_HOLD_TIMEOUT (R295). -/
  | psHoldTimeout (t : Fin 250)
  /-- PS_EXIT_ACK_TIMEOUT (R296). -/
  | psExitAckTimeout (t : Fin 250)
  /-- ENTRY_GATES_CLOSED (R297). -/
  | entryGatesClosed (t : Fin 250)
  /-- RET_ASSERT (R297). -/
  | retAssert (t : Fin 250)
  /-- BIAS_SETTLE_EXPIRY (R297). -/
  | biasSettleExpiry (t : Fin 250)
  /-- ENTRY_COMPLETE (R297). -/
  | entryComplete (t : Fin 250)
  /-- OFF_NOTICE_REPEAT (R64). -/
  | offNoticeRepeat (t : Fin 250)
  /-- PLL_LOCK (R34). -/
  | pllLock (t : Fin 250)
  /-- RET_RELEASE (R301). -/
  | retRelease (t : Fin 250)
  /-- EXIT_REGIONS_RESTORE (R301). -/
  | exitRegionsRestore (t : Fin 250)
  /-- LINK_ACT_RISE (R75). -/
  | linkActRise (stays : Bool) (t : Fin 250)
  /-- WAKE_N_ASSERT (R302). -/
  | wakeNAssert (t : Fin 250)
  /-- HAWSER_WAKE_DETECT (R69). -/
  | hawserWakeDetect (p : Fin 2) (t : Fin 250)
  /-- WAKE_TIMER_FIRE (R303). -/
  | wakeTimerFire (t : Fin 250)
  /-- AUTO_IDLE_REQUEST (R293). -/
  | autoIdleRequest (t : Fin 250)
  /-- DROOP_CROSSING (R156). -/
  | droopCrossing (d : Fin 256) (t : Fin 250)
  /-- STRETCH_ESCALATE (R156). -/
  | stretchEscalate (rg : Fin 16) (t : Fin 250)
  /-- STRETCH_HOLD_EXPIRY (R156). -/
  | stretchHoldExpiry (rg : Fin 16) (t : Fin 250)
  /-- STRETCH_RELEASE_STEP (R156). -/
  | stretchReleaseStep (rg : Fin 16) (t : Fin 250)
  /-- DETECTOR_STUCK (R223). -/
  | detectorStuck (d : Fin 256) (t : Fin 250)
  /-- FSYN_LOCK (R159). -/
  | fsynLock (k : Fin 16) (t : Fin 250)
  /-- FSYN_GLIDE_STEP (R161). -/
  | fsynGlideStep (k : Fin 16) (t : Fin 250)
  /-- COAST_ENTRY (R164). -/
  | coastEntry (lost : Option (Fin 16)) (t : Fin 250)
  /-- COAST_EXIT (R165). -/
  | coastExit (k : Fin 16) (t : Fin 250)
  /-- CLKMON_WINDOW (R166). -/
  | clkmonWindow (ref : BitVec 12) (syns rgns : List (BitVec 12)) (mark : Bool) (t : Fin 250)
  /-- REGION_SWITCH_COMPLETE (R168). -/
  | regionSwitchComplete (rg : Fin 16) (t : Fin 250)
  /-- REGION_SWITCH_HANG (R168). -/
  | regionSwitchHang (rg : Fin 16) (t : Fin 250)
  /-- AUTO_FORCE (R170). -/
  | autoForce (rg : Fin 16) (t : Fin 250)
  /-- TRIM_WINDOW_END (R173). -/
  | trimWindowEnd (count : BitVec 24) (t : Fin 250)
  /-- HINT_WORD_ARRIVAL (R49). -/
  | hintWordArrival (n : Fin 4) (w : BitVec 64) (p : BitVec 8) (t : Fin 250)
  /-- HINT_NOP (R137). -/
  | hintNop (t : Fin 250)
  /-- RESERVE (R140). -/
  | reserve (t : Fin 250)
  /-- CONFIRM (R141). -/
  | confirm (t : Fin 250)
  /-- RETRACT (R141). -/
  | retract (t : Fin 250)
  /-- RELEASE (R141). -/
  | release (t : Fin 250)
  /-- HINT (R145). -/
  | hint (t : Fin 250)
  /-- CANCEL (R145). -/
  | cancel (t : Fin 250)
  /-- RESERVATION_EXPIRE (R141). -/
  | reservationExpire (b a : Fin 256) (i : BitVec 16) (t : Fin 250)
  /-- CONFIRMED_LIFETIME_END (R141). -/
  | confirmedLifetimeEnd (b a : Fin 256) (i : BitVec 16) (t : Fin 250)
  /-- HINT_ACTIVATE (R145). -/
  | hintActivate (k : Fin 16) (t : Fin 250)
  /-- HINT_EXPIRE (R145). -/
  | hintExpire (k : Fin 16) (t : Fin 250)
  /-- REGISTER_WRITE (R375). -/
  | registerWrite (addr : BitVec 18) (wr : PortWrite) (t : Fin 250)
  /-- REG_PAIR_READ (R9). -/
  | regPairRead (addr : BitVec 18) (t : Fin 250)
  /-- SG1_COUNTER_READ (R328). -/
  | sg1CounterRead (k : Fin 11) (t : Fin 250)
  /-- TRACE_DRAIN_READ (R391). -/
  | traceDrainRead (n : Fin 4) (i : Fin 256) (t : Fin 250)
  /-- LOOP_SLOT_ENABLE (R104). -/
  | loopSlotEnable (k : Fin 1024) (fb : Bool) (wr : PortWrite) (t : Fin 250)
  /-- STATE_WORD_WRITE (R86). -/
  | stateWordWrite (k : Fin 1024) (half : Fin 3) (wr : PortWrite) (t : Fin 250)
  /-- PERIOD_WRITE (R79). -/
  | periodWrite (wr : PortWrite) (t : Fin 250)
  /-- PERIOD_CHANGE (R79). -/
  | periodChange
  /-- PCAP_ENABLE (R109). -/
  | pcapEnable (wr : PortWrite) (t : Fin 250)
  /-- STEADY_ENABLE (R121). -/
  | steadyEnable (wr : PortWrite) (t : Fin 250)
  /-- HLIM_WRITE (R118). -/
  | hlimWrite (i : Fin 19) (wr : PortWrite) (t : Fin 250)
  /-- FSYN_ENABLE (R159). -/
  | fsynEnable (k : Fin 16) (wr : PortWrite) (t : Fin 250)
  /-- REGION_SWITCH (R167). -/
  | regionSwitch (rg : Fin 16) (wr : PortWrite) (t : Fin 250)
  /-- REGION_FORCE (R169). -/
  | regionForce (rg : Fin 16) (wr : PortWrite) (t : Fin 250)
  /-- RAIL_ENABLE (R177). -/
  | railEnable (r : Fin 8) (wr : PortWrite) (t : Fin 250)
  /-- RAIL_DISABLE (R191). -/
  | railDisable (r : Fin 8) (wr : PortWrite) (t : Fin 250)
  /-- RAIL_COMMIT (R185). -/
  | railCommit (r : Fin 8) (wr : PortWrite) (t : Fin 250)
  /-- PHASE_OOS_WRITE (R176). -/
  | phaseOosWrite (p : Fin 64) (wr : PortWrite) (t : Fin 250)
  /-- TBL_LOAD (R226). -/
  | tblLoad (k : Fin 64) (wr : PortWrite) (t : Fin 250)
  /-- MT_RAISE (R229). -/
  | mtRaise (r : Fin 8) (wr : PortWrite) (t : Fin 250)
  /-- MT_LOWER (R229). -/
  | mtLower (r : Fin 8) (wr : PortWrite) (t : Fin 250)
  /-- MT_RESTART_WINDOW (R230). -/
  | mtRestartWindow (r : Fin 8) (wr : PortWrite) (t : Fin 250)
  /-- MT_HELD_STEP_APPLY (R229). -/
  | mtHeldStepApply (r : Fin 8) (t : Fin 250)
  /-- MT_WINDOW_DECISION (R230). -/
  | mtWindowDecision (r : Fin 8) (t : Fin 250)
  /-- MT_RESTORE (R231). -/
  | mtRestore (r : Fin 8) (wr : PortWrite) (t : Fin 250)
  /-- HBM_TEMP_WRITE (R212). -/
  | hbmTempWrite (k : Fin 16) (wr : PortWrite) (t : Fin 250)
  /-- HBM_TEMP_TIMEOUT (R212). -/
  | hbmTempTimeout (k : Fin 16) (t : Fin 250)
  /-- SENSOR_BROKEN_CLEAR (R224). -/
  | sensorBrokenClear (addr : BitVec 18) (wr : PortWrite) (t : Fin 250)
  /-- BERTH_PRESENT_SET (R384). -/
  | berthPresentSet (b : Fin 256) (wr : PortWrite) (t : Fin 250)
  /-- BERTH_PRESENT_CLEAR (R384). -/
  | berthPresentClear (b : Fin 256) (wr : PortWrite) (t : Fin 250)
  /-- QUARANTINE_RELEASE (R315). -/
  | quarantineRelease (i : Fin 8) (wr : PortWrite) (t : Fin 250)
  /-- COLLECTOR_BIT_CLEAR (R311). -/
  | collectorBitClear (i : Fin 10) (wr : PortWrite) (t : Fin 250)
  /-- REACTION_WRITE (R316). -/
  | reactionWrite (i : Fin 40) (wr : PortWrite) (t : Fin 250)
  /-- SUSPECT_CLEAR (R322). -/
  | suspectClear (i : Fin 8) (wr : PortWrite) (t : Fin 250)
  /-- WINDOW_ENABLE (R247). -/
  | windowEnable (wr : PortWrite) (t : Fin 250)
  /-- WINDOW_DISABLE (R247). -/
  | windowDisable (wr : PortWrite) (t : Fin 250)
  /-- FREEZE_WRITE (R258). -/
  | freezeWrite (wr : PortWrite) (t : Fin 250)
  /-- HAWSER_ENABLE (R263). -/
  | hawserEnable (wr : PortWrite) (t : Fin 250)
  /-- ENUMERATE (R262). -/
  | enumerate (wr : PortWrite) (t : Fin 250)
  /-- IDL_WAKE (R288). -/
  | idlWake (wr : PortWrite) (t : Fin 250)
  /-- GLOBAL_STOP_WRITE (R283). -/
  | globalStopWrite (wr : PortWrite) (t : Fin 250)
  /-- PROGRESS_PUBLISH (R276). -/
  | progressPublish (wr : PortWrite) (t : Fin 250)
  /-- JOB_STEP_CLOSE (R322). -/
  | jobStepClose (t : Fin 250)
  /-- PS_ENTRY_REQUEST (R292). -/
  | psEntryRequest (wr : PortWrite) (t : Fin 250)
  /-- PS_EXIT_REQUEST (R302). -/
  | psExitRequest (wr : PortWrite) (t : Fin 250)
  /-- PS_CANCEL (R307). -/
  | psCancel (wr : PortWrite) (t : Fin 250)
  /-- HEARTBEAT (R347). -/
  | heartbeat (wr : PortWrite) (t : Fin 250)
  /-- HEARTBEAT_LAPSE (R347). -/
  | heartbeatLapse (t : Fin 250)
  /-- PILOT_RESTART_REQUEST (R339). -/
  | pilotRestartRequest (wr : PortWrite) (t : Fin 250)
  /-- WATCHDOG_EXPIRY (R339). -/
  | watchdogExpiry (k : Fin 3) (pc : Word) (t : Fin 250)
  /-- PILOT_TRAP (R339). -/
  | pilotTrap (k : Fin 3) (pc : Word) (t : Fin 250)
  /-- PILOT_PANIC (R339). -/
  | pilotPanic (k : Fin 3) (pc : Word) (t : Fin 250)
  /-- PILOT_RESTART_COMPLETE (R340). -/
  | pilotRestartComplete (k : Fin 3) (t : Fin 250)
  /-- GOV_LOCK_WRITE (R385). -/
  | govLockWrite (wr : PortWrite) (t : Fin 250)
  /-- HLIM_LOCK_WRITE (R118). -/
  | hlimLockWrite (wr : PortWrite) (t : Fin 250)
  /-- HARBOUR_LOCK_WRITE (R128). -/
  | harbourLockWrite (wr : PortWrite) (t : Fin 250)
  /-- FLT_LOCK_WRITE (R316). -/
  | fltLockWrite (wr : PortWrite) (t : Fin 250)
  /-- WDT_LOCK_WRITE (R350). -/
  | wdtLockWrite (wr : PortWrite) (t : Fin 250)
  /-- FCU_CTRL_CLR (R150). -/
  | fcuCtrlClr (wr : PortWrite) (t : Fin 250)
  /-- DRP_CTRL_CLR (R175). -/
  | drpCtrlClr (wr : PortWrite) (t : Fin 250)
  /-- REG_CTRL_CLR (R206). -/
  | regCtrlClr (wr : PortWrite) (t : Fin 250)
  /-- SNS_CTRL_CLR (R234). -/
  | snsCtrlClr (wr : PortWrite) (t : Fin 250)
  /-- IDL_CTRL_CLR (R289). -/
  | idlCtrlClr (wr : PortWrite) (t : Fin 250)
  /-- PS_CTRL_CLR (R308). -/
  | psCtrlClr (wr : PortWrite) (t : Fin 250)
  /-- FLT_CTRL_CLR (R331). -/
  | fltCtrlClr (wr : PortWrite) (t : Fin 250)
  /-- CMD_CFG_CLR (R373). -/
  | cmdCfgClr (wr : PortWrite) (t : Fin 250)
  /-- TRC_CTRL_CLR (R395). -/
  | trcCtrlClr (wr : PortWrite) (t : Fin 250)
  /-- WATCH_ARM (R392). -/
  | watchArm (wr : PortWrite) (t : Fin 250)
  /-- WATCH_HIT (R392). -/
  | watchHit (t : Fin 250)
  /-- COMMAND_TAKE (R351). -/
  | commandTake (n : Fin 16) (i : Fin 64) (wr : PortWrite) (t : Fin 250)
  /-- REPLY_RELEASE (R354). -/
  | replyRelease (n : Fin 16) (wr : PortWrite) (t : Fin 250)
  /-- FENCE_WAIT_ABORT (R371). -/
  | fenceWaitAbort (n : Fin 16) (wr : PortWrite) (t : Fin 250)
  /-- REQUEST_WINDOW_CLEAR (R373). -/
  | requestWindowClear (n : Fin 16) (wr : PortWrite) (t : Fin 250)
  /-- FENCE_WAIT_TIMEOUT (R371). -/
  | fenceWaitTimeout (n : Fin 16) (t : Fin 250)
  /-- NOP (R364). -/
  | nop (n : Fin 16) (t : Fin 250)
  /-- SESSION_OPEN (R344). -/
  | sessionOpen (n : Fin 16) (t : Fin 250)
  /-- VERSION_QUERY (R364). -/
  | versionQuery (n : Fin 16) (t : Fin 250)
  /-- UPDATE_BEGIN (R342). -/
  | updateBegin (n : Fin 16) (t : Fin 250)
  /-- UPDATE_DATA (R342). -/
  | updateData (n : Fin 16) (t : Fin 250)
  /-- UPDATE_FINISH (R342). -/
  | updateFinish (n : Fin 16) (t : Fin 250)
  /-- UPDATE_VERIFY_COMPLETE (R343). -/
  | updateVerifyComplete (readOk : Bool) (t : Fin 250)
  /-- FLASH_OPERATION_TIMEOUT (R67). -/
  | flashOperationTimeout (op : FlashBusy) (t : Fin 250)
  /-- SVN_COMMIT (R336). -/
  | svnCommit (n : Fin 16) (t : Fin 250)
  /-- REG_WRITE (R365). -/
  | regWrite (n : Fin 16) (t : Fin 250)
  /-- REG_READ (R364). -/
  | regRead (n : Fin 16) (t : Fin 250)
  /-- LAW_LOAD (R366). -/
  | lawLoad (n : Fin 16) (t : Fin 250)
  /-- LAW_UNLOAD (R103). -/
  | lawUnload (n : Fin 16) (t : Fin 250)
  /-- RAIL_TARGET (R187). -/
  | railTarget (n : Fin 16) (t : Fin 250)
  /-- PS_REQUEST (R292). -/
  | psRequest (n : Fin 16) (t : Fin 250)
  /-- GLOBAL_STOP (R283). -/
  | globalStop (n : Fin 16) (t : Fin 250)
  /-- ACCT_OPEN (R244). -/
  | acctOpen (n : Fin 16) (t : Fin 250)
  /-- ACCOUNT_OPEN_TICK (R244). -/
  | accountOpenTick (a : Fin 256) (t : Fin 250)
  /-- ACCT_CLOSE (R245). -/
  | acctClose (n : Fin 16) (t : Fin 250)
  /-- ACCOUNT_CLOSE_COMMIT (R245). -/
  | accountCloseCommit (a : Fin 256) (t : Fin 250)
  /-- ACCT_QUERY (R364). -/
  | acctQuery (n : Fin 16) (t : Fin 250)
  /-- STATEMENT_SIGN (R252). -/
  | statementSign (t : Fin 250)
  /-- STMT_READ (R367). -/
  | stmtRead (n : Fin 16) (t : Fin 250)
  /-- STMT_RELEASE (R254). -/
  | stmtRelease (n : Fin 16) (t : Fin 250)
  /-- STMT_LIST (R364). -/
  | stmtList (n : Fin 16) (t : Fin 250)
  /-- ATTEST_KEY (R364). -/
  | attestKey (n : Fin 16) (t : Fin 250)
  /-- ATTEST_CERT (R368). -/
  | attestCert (n : Fin 16) (t : Fin 250)
  /-- ATTEST_QUOTE (R368). -/
  | attestQuote (n : Fin 16) (t : Fin 250)
  /-- TABLE_LOAD (R366). -/
  | tableLoad (n : Fin 16) (t : Fin 250)
  /-- TRIM_STEP (R229). -/
  | trimStep (n : Fin 16) (t : Fin 250)
  /-- TELEM_READ (R368). -/
  | telemRead (n : Fin 16) (t : Fin 250)
  /-- FENCE_RESET (R369). -/
  | fenceReset (n : Fin 16) (t : Fin 250)
  /-- FENCE_QUERY (R364). -/
  | fenceQuery (n : Fin 16) (t : Fin 250)
  /-- ENTDAA (R57). -/
  | entdaa (addr : BitVec 7) (t : Fin 250)
  /-- SETDASA (R57). -/
  | setdasa (addr : BitVec 7) (t : Fin 250)
  /-- RSTDAA (R57). -/
  | rstdaa (t : Fin 250)
  /-- SET_ENDPOINT_ID (R58). -/
  | setEndpointId (eid : BitVec 8) (t : Fin 250)
  /-- IDENTIFY (R62). -/
  | identify (q : VendorReq) (t : Fin 250)
  /-- WAKE (R62). -/
  | wake (q : VendorReq) (t : Fin 250)
  /-- FRU_WRITE (R62). -/
  | fruWrite (q : VendorReq) (t : Fin 250)
  /-- FRU_READ (R62). -/
  | fruRead (q : VendorReq) (t : Fin 250)
  /-- FAULT_STATUS (R62). -/
  | faultStatus (q : VendorReq) (t : Fin 250)
  /-- REFLASH_BEGIN (R346). -/
  | reflashBegin (q : VendorReq) (t : Fin 250)
  /-- REFLASH_DATA (R346). -/
  | reflashData (q : VendorReq) (t : Fin 250)
  /-- REFLASH_FINISH (R346). -/
  | reflashFinish (q : VendorReq) (readOk : Bool) (t : Fin 250)
  /-- GET_TID (R63). -/
  | getTid (t : Fin 250)
  /-- GET_PLDM_VERSION (R63). -/
  | getPldmVersion (type : BitVec 8) (t : Fin 250)
  /-- GET_PLDM_TYPES (R63). -/
  | getPldmTypes (t : Fin 250)
  /-- GET_PLDM_COMMANDS (R63). -/
  | getPldmCommands (type : BitVec 8) (t : Fin 250)
  /-- SET_EVENT_RECEIVER (R63). -/
  | setEventReceiver (receiver : BitVec 8) (t : Fin 250)
  /-- EVENT_MESSAGE_SUPPORTED (R63). -/
  | eventMessageSupported (t : Fin 250)
  /-- EVENT_MESSAGE_BUFFER_SIZE (R63). -/
  | eventMessageBufferSize (size : BitVec 16) (t : Fin 250)
  /-- GET_SENSOR_READING (R63). -/
  | getSensorReading (id : BitVec 16) (t : Fin 250)
  /-- GET_PDR_REPOSITORY_INFO (R63). -/
  | getPdrRepositoryInfo (t : Fin 250)
  /-- GET_PDR (R63). -/
  | getPdr (handle : BitVec 32) (t : Fin 250)
  /-- POLL_FOR_PLATFORM_EVENT_MESSAGE (R325). -/
  | pollForPlatformEventMessage (ack : Bool) (t : Fin 250)
  /-- FAULT_RECORD_SEND (R325). -/
  | faultRecordSend (t : Fin 250)
  /-- EVENT_ACCEPTANCE (R325). -/
  | eventAcceptance (t : Fin 250)
  /-- FRAME_ORIGINATE (R261). -/
  | frameOriginate (t : Fin 250)
  /-- FRAME_RECEIVE (R266). -/
  | frameReceive (p : Fin 2) (fr : Frame) (dt : Fin 17) (t : Fin 250)
  /-- TUG_ROUND (R277). -/
  | tugRound (t : Fin 250)
  /-- LINK_TRAIN (R267). -/
  | linkTrain (p : Fin 2) (t : Fin 250)
  /-- LINK_UP (R267). -/
  | linkUp (p : Fin 2) (t : Fin 250)
  /-- LINK_DOWN (R267). -/
  | linkDown (p : Fin 2) (t : Fin 250)
  /-- SEGMENT_ENTRY (R268). -/
  | segmentEntry (t : Fin 250)
  /-- NODE_MISSING (R282). -/
  | nodeMissing (n : Fin 64) (t : Fin 250)
  /-- TIME_STEP (R272). -/
  | timeStep
  /-- STOP_CUT (R284). -/
  | stopCut (t : Fin 250)
  /-- SCRUB_PASS (R319). -/
  | scrubPass (fixed : List (Fin 12 × Nat)) (bad : List BadWord) (deferred : Nat) (t : Fin 250)
  /-- SCRUB_LATE (R319). -/
  | scrubLate (t : Fin 250)
  /-- PLL_LOCK_LOSS (R312). -/
  | pllLockLoss (t : Fin 250)
  /-- EXTEST (R396). -/
  | extest (data : Nat) (t : Fin 250)
  /-- IDCODE (R396). -/
  | idcode (t : Fin 250)
  /-- SAMPLE_PRELOAD (R396). -/
  | samplePreload (data : Nat) (t : Fin 250)
  /-- BYPASS (R396). -/
  | bypass (t : Fin 250)
  /-- REGACC (R397). -/
  | regacc (addr : BitVec 18) (we : Bool) (data : Word) (t : Fin 250)
  /-- FTEST (R398). -/
  | ftest (b : Bool) (t : Fin 250)
  /-- FINJ (R398). -/
  | finj (source : BitVec 9) (detail : BitVec 32) (stage : BitVec 4) (go : Bool) (t : Fin 250)
  /-- PHASE_PERIOD_START (R179). -/
  | phasePeriodStart (p : Fin 64) (t : Fin 250)
  /-- TIMEBASE_PHASE_ZERO (R180). -/
  | timebasePhaseZero (since : BitVec 18) (t : Fin 250)
  /-- DETECTOR_RELEASE (R156). -/
  | detectorRelease (d : Fin 256) (t : Fin 250)
  /-- BROWN_OUT_RECOVERY (R404). -/
  | brownOutRecovery (vselEn : Bool)
  /-- ALWAYS_ON_SUPPLY_REMOVAL (R72). -/
  | alwaysOnSupplyRemoval
  /-- BAD_HINT_WORD (R137). -/
  | badHintWord (t : Fin 250)
  /-- PILOT_SRAM_UNCORRECTABLE (R339). -/
  | pilotSramUncorrectable (k : Fin 3) (addr : Nat) (t : Fin 250)
  deriving DecidableEq, Repr

end Sys2Proof
end

