-- ==== Sys2Proof/Machine/Arith.lean ====
section
/-! DEFINITION. The arithmetic the rules share: saturation (R14), bit fields, Gray code (R39), parity (R36, R51), the CRC-32C of R352, integer roots, and the operations of the sparse table `Tab`. -/

namespace Sys2Proof.Machine

/-! ### Saturation and signed fields (R13, R14) -/

/-- The largest value of an unsigned w-bit field. -/
def umax (w : Nat) : Nat := 2 ^ w - 1

/-- An unsigned quantity saturated into w bits (R14). -/
def usat (w : Nat) (x : Nat) : Nat := min x (umax w)

/-- An integer saturated into an unsigned w-bit field (R14). -/
def usatInt (w : Nat) (x : Int) : Nat := usat w x.toNat

/-- A 32-bit saturating count up by n. -/
def cntAdd (x n : Nat) : Nat := usat 32 (x + n)

/-- An integer saturated into a signed field of w bits (R14). -/
def ssat (w : Nat) (x : Int) : Int := max (-(2 ^ (w - 1) : Int)) (min x (2 ^ (w - 1) - 1))

/-- The 32-bit loop variable range, Q16.16 (R13). -/
def s32 (x : Int) : Int := ssat 32 x

/-- The 48-bit loop accumulator range, Q32.16 (R13). -/
def s48 (x : Int) : Int := ssat 48 x

/-- The signed reading of a w-bit field. -/
def toSigned (w : Nat) (x : Nat) : Int := if 2 * (x % 2 ^ w) < 2 ^ w then (x % 2 ^ w : Nat) else (x % 2 ^ w : Nat) - (2 ^ w : Int)

/-- The w-bit two's-complement field of an integer. -/
def ofSigned (w : Nat) (x : Int) : Nat := (x % (2 ^ w : Int)).toNat

/-- Arithmetic shift right by n places (rounds toward minus infinity). -/
def asr (x : Int) (n : Nat) : Int := Int.fdiv x (2 ^ n)

/-- Bit n of a number. -/
def bit (x n : Nat) : Bool := x / 2 ^ n % 2 == 1

/-- Bits [lo + w - 1 : lo] of a number. -/
def bits (x lo w : Nat) : Nat := x / 2 ^ lo % 2 ^ w

/-- A truth value as a bit. -/
def b2n (b : Bool) : Nat := if b then 1 else 0

/-- The number whose bit n is set exactly where the test holds, for n below the bound. -/
def mapBits (bound : Nat) (test : Nat → Bool) : Nat := (List.range bound).foldl (fun acc n => acc + b2n (test n) * 2 ^ n) 0

/-- The bits set in a number, below a bound. -/
def bitList (bound : Nat) (x : Nat) : List Nat := (List.range bound).filter fun n => bit x n

/-- Insert a w-bit value at bit lo of a word. -/
def insertField (old : Word) (lo w v : Nat) : Word :=
  BitVec.ofNat 32 (old.toNat % 2 ^ lo + v % 2 ^ w * 2 ^ lo + old.toNat / 2 ^ (lo + w) * 2 ^ (lo + w))

/-- Bits [lo + w - 1 : lo] of a word. -/
def field (x : Word) (lo w : Nat) : Nat := x.toNat / 2 ^ lo % 2 ^ w

/-- Floor of the square root, by bits from the top. -/
def isqrt (x : Nat) : Nat :=
  (List.range 64).foldl (fun r k => let t := r + 2 ^ (63 - k); if t * t ≤ x then t else r) 0

/-! ### Codes -/

/-- The binary number of a 16-bit Gray code (R39). -/
def grayToBin (g : Nat) : Nat := (List.range 16).foldl (fun b k => b ^^^ (g / 2 ^ k)) 0 % 2 ^ 16

/-- The number of ones among the low n bits. -/
def popcount (n x : Nat) : Nat := (List.range n).foldl (fun c k => c + x / 2 ^ k % 2) 0

/-- The odd-parity bit of the low n bits: with it, the count of ones is odd (R36, R51). -/
def oddParity (n x : Nat) : Nat := (popcount n x + 1) % 2

/-- The four odd-parity bits of a word, one per byte (R51). -/
def wordParity (x : Word) : Nat :=
  (List.range 4).foldl (fun p k => p + oddParity 8 (field x (8 * k) 8) * 2 ^ k) 0

/-- One bit of the reflected CRC-32C, Castagnoli polynomial (R352). -/
def crcBit (c : Nat) : Nat := if c % 2 = 1 then (c / 2) ^^^ 0x82F63B78 else c / 2

/-- One byte of the CRC-32C. -/
def crcByte (c : Nat) (b : Byte) : Nat := Nat.repeat crcBit 8 (c ^^^ b.toNat)

/-- The CRC-32C of a list of bytes: initial value and final exclusive-OR all ones (R352). -/
def crc32c (bs : List Byte) : Nat := (bs.foldl crcByte 0xFFFFFFFF) ^^^ 0xFFFFFFFF

/-- The n bytes of a number, least significant first. -/
def leBytes (n x : Nat) : List Byte := (List.range n).map fun k => BitVec.ofNat 8 (x / 256 ^ k)

/-- The n bytes of a number, most significant first. -/
def beBytes (n x : Nat) : List Byte := (leBytes n x).reverse

/-- The number of a list of bytes, least significant first. -/
def ofLeBytes (bs : List Byte) : Nat := bs.foldr (fun b acc => b.toNat + 256 * acc) 0

/-- The number of a list of bytes, most significant first. -/
def ofBeBytes (bs : List Byte) : Nat := ofLeBytes bs.reverse

/-- The CRC-32C of words, each word least significant byte first (R352). -/
def crcWords (ws : List Nat) : Nat := crc32c (ws.flatMap fun w => leBytes 4 w)

/-! ### Order -/

/-- Insert an element before the first of greater key. -/
def insertBy {α : Type} (key : α → Nat) (x : α) : List α → List α
  | [] => [x]
  | y :: ys => if key x < key y then x :: y :: ys else y :: insertBy key x ys

/-- Sort by a key; elements of equal key keep their order. -/
def sortBy {α : Type} (key : α → Nat) (xs : List α) : List α := xs.foldl (fun acc x => insertBy key x acc) []

/-! ### The sparse table -/

/-- The value at a key: the first listing, or the default of the key. -/
def Tab.get {α : Type} (d : Nat → α) : Tab α → Nat → α
  | [], k => d k
  | (k', v) :: rest, k => if k' = k then v else Tab.get d rest k

/-- A table without a key. -/
def Tab.erase {α : Type} (m : Tab α) (k : Nat) : Tab α := m.filter fun p => p.1 != k

/-- Insert a listing before the first larger key. -/
def Tab.ins {α : Type} (k : Nat) (v : α) : Tab α → Tab α
  | [] => [(k, v)]
  | (k', v') :: rest => if k < k' then (k, v) :: (k', v') :: rest else (k', v') :: Tab.ins k v rest

/-- Store a value at a key, keeping the form: keys rise and no listing holds its default. -/
def Tab.put {α : Type} [DecidableEq α] (d : Nat → α) (m : Tab α) (k : Nat) (v : α) : Tab α :=
  if v = d k then Tab.erase m k else Tab.ins k v (Tab.erase m k)

/-- The canonical form: keys strictly rise, and no listing holds what an unlisted key reads as. -/
def Tab.wf {α : Type} [DecidableEq α] (d : Nat → α) : Tab α → Bool
  | [] => true
  | [(k, v)] => decide (v ≠ d k)
  | (k, v) :: (k', v') :: rest => decide (v ≠ d k) && decide (k < k') && Tab.wf d ((k', v') :: rest)

/-- Update the value at a key. -/
def Tab.upd {α : Type} [DecidableEq α] (d : Nat → α) (m : Tab α) (k : Nat) (f : α → α) : Tab α := Tab.put d m k (f (Tab.get d m k))

end Sys2Proof.Machine
end

