-- ==== Sys2Proof/Machine/Crypto.lean ====
section
/-! DEFINITION. The cryptography the spec names by its standards: SHA-384 (FIPS 180-4), ECDSA on curve P-384 (FIPS 186-5) and the deterministic nonce of RFC 6979 (R252, R335, R368). -/

namespace Sys2Proof.Machine

/-! ### SHA-384 -/

/-- Round constants, first half. -/
def shaK1 : List (BitVec 64) :=
  [0x428A2F98D728AE22, 0x7137449123EF65CD, 0xB5C0FBCFEC4D3B2F, 0xE9B5DBA58189DBBC,
   0x3956C25BF348B538, 0x59F111F1B605D019, 0x923F82A4AF194F9B, 0xAB1C5ED5DA6D8118,
   0xD807AA98A3030242, 0x12835B0145706FBE, 0x243185BE4EE4B28C, 0x550C7DC3D5FFB4E2,
   0x72BE5D74F27B896F, 0x80DEB1FE3B1696B1, 0x9BDC06A725C71235, 0xC19BF174CF692694,
   0xE49B69C19EF14AD2, 0xEFBE4786384F25E3, 0x0FC19DC68B8CD5B5, 0x240CA1CC77AC9C65,
   0x2DE92C6F592B0275, 0x4A7484AA6EA6E483, 0x5CB0A9DCBD41FBD4, 0x76F988DA831153B5,
   0x983E5152EE66DFAB, 0xA831C66D2DB43210, 0xB00327C898FB213F, 0xBF597FC7BEEF0EE4,
   0xC6E00BF33DA88FC2, 0xD5A79147930AA725, 0x06CA6351E003826F, 0x142929670A0E6E70,
   0x27B70A8546D22FFC, 0x2E1B21385C26C926, 0x4D2C6DFC5AC42AED, 0x53380D139D95B3DF,
   0x650A73548BAF63DE, 0x766A0ABB3C77B2A8, 0x81C2C92E47EDAEE6, 0x92722C851482353B]

/-- Round constants, second half. -/
def shaK2 : List (BitVec 64) :=
  [0xA2BFE8A14CF10364, 0xA81A664BBC423001, 0xC24B8B70D0F89791, 0xC76C51A30654BE30,
   0xD192E819D6EF5218, 0xD69906245565A910, 0xF40E35855771202A, 0x106AA07032BBD1B8,
   0x19A4C116B8D2D0C8, 0x1E376C085141AB53, 0x2748774CDF8EEB99, 0x34B0BCB5E19B48A8,
   0x391C0CB3C5C95A63, 0x4ED8AA4AE3418ACB, 0x5B9CCA4F7763E373, 0x682E6FF3D6B2B8A3,
   0x748F82EE5DEFB2FC, 0x78A5636F43172F60, 0x84C87814A1F0AB72, 0x8CC702081A6439EC,
   0x90BEFFFA23631E28, 0xA4506CEBDE82BDE9, 0xBEF9A3F7B2C67915, 0xC67178F2E372532B,
   0xCA273ECEEA26619C, 0xD186B8C721C0C207, 0xEADA7DD6CDE0EB1E, 0xF57D4F7FEE6ED178,
   0x06F067AA72176FBA, 0x0A637DC5A2C898A6, 0x113F9804BEF90DAE, 0x1B710B35131C471B,
   0x28DB77F523047D84, 0x32CAAB7B40C72493, 0x3C9EBE0A15C9BEBC, 0x431D67C49C100D4C,
   0x4CC5D4BECB3E42B6, 0x597F299CFC657E2A, 0x5FCB6FAB3AD6FAEC, 0x6C44198C4A475817]

/-- The initial hash value of SHA-384. -/
def shaInit : List (BitVec 64) :=
  [0xCBBB9D5DC1059ED8, 0x629A292A367CD507, 0x9159015A3070DD17, 0x152FECD8F70E5939,
   0x67332667FFC00B31, 0x8EB44A8768581511, 0xDB0C2E0D64F98FA7, 0x47B5481DBEFA4FA4]

/-- One block of the message schedule: 80 words from 16. -/
def shaSchedule (ws : List (BitVec 64)) : List (BitVec 64) :=
  ((List.range 64).foldl (fun (acc : Array (BitVec 64)) k =>
    let x := acc[k + 1]!
    let y := acc[k + 14]!
    let s0 := x.rotateRight 1 ^^^ x.rotateRight 8 ^^^ x >>> 7
    let s1 := y.rotateRight 19 ^^^ y.rotateRight 61 ^^^ y >>> 6
    acc.push (s1 + acc[k + 9]! + s0 + acc[k]!)) ws.toArray).toList

/-- The eight working words. -/
structure ShaRegs where
  a : BitVec 64
  b : BitVec 64
  c : BitVec 64
  d : BitVec 64
  e : BitVec 64
  f : BitVec 64
  g : BitVec 64
  h : BitVec 64

/-- One round. -/
def shaRound (r : ShaRegs) (kw : BitVec 64 × BitVec 64) : ShaRegs :=
  let s1 := r.e.rotateRight 14 ^^^ r.e.rotateRight 18 ^^^ r.e.rotateRight 41
  let ch := (r.e &&& r.f) ^^^ (~~~r.e &&& r.g)
  let t1 := r.h + s1 + ch + kw.1 + kw.2
  let s0 := r.a.rotateRight 28 ^^^ r.a.rotateRight 34 ^^^ r.a.rotateRight 39
  let mj := (r.a &&& r.b) ^^^ (r.a &&& r.c) ^^^ (r.b &&& r.c)
  ⟨t1 + s0 + mj, r.a, r.b, r.c, r.d + t1, r.e, r.f, r.g⟩

/-- Fold one 128-byte block into the hash value. -/
def shaBlock (h : List (BitVec 64)) (block : List Byte) : List (BitVec 64) :=
  let ws := (List.range 16).map fun k => BitVec.ofNat 64 (ofBeBytes ((block.drop (8 * k)).take 8))
  let v := fun n => h.getD n 0
  let r := ((shaK1 ++ shaK2).zip (shaSchedule ws)).foldl shaRound ⟨v 0, v 1, v 2, v 3, v 4, v 5, v 6, v 7⟩
  [v 0 + r.a, v 1 + r.b, v 2 + r.c, v 3 + r.d, v 4 + r.e, v 5 + r.f, v 6 + r.g, v 7 + r.h]

/-- Fold n blocks of a padded message. -/
def shaBlocks : Nat → List Byte → List (BitVec 64) → List (BitVec 64)
  | 0, _, h => h
  | n + 1, m, h => shaBlocks n (m.drop 128) (shaBlock h (m.take 128))

/-- SHA-384 of a message, 48 bytes. -/
def sha384 (m : List Byte) : List Byte :=
  let n := m.length
  let zeros := (256 - (n + 17) % 128) % 128
  let padded := m ++ [0x80] ++ List.replicate zeros 0 ++ beBytes 16 (8 * n)
  ((shaBlocks (padded.length / 128) padded shaInit).take 6).flatMap fun w => beBytes 8 w.toNat

/-- HMAC with SHA-384 (RFC 2104), for keys of at most one block. -/
def hmac384 (key msg : List Byte) : List Byte :=
  let k := key ++ List.replicate (128 - key.length) 0
  sha384 ((k.map (· ^^^ 0x5C)) ++ sha384 ((k.map (· ^^^ 0x36)) ++ msg))

/-! ### P-384 -/

/-- The field prime. -/
def p384 : Nat := 2 ^ 384 - 2 ^ 128 - 2 ^ 96 + 2 ^ 32 - 1

/-- The curve coefficient b. -/
def b384 : Nat := 0xB3312FA7E23EE7E4988E056BE3F82D19181D9C6EFE8141120314088F5013875AC656398D8A2ED19D2A85C8EDD3EC2AEF

/-- The order of the base point. -/
def n384 : Nat := 0xFFFFFFFFFFFFFFFFFFFFFFFFFFFFFFFFFFFFFFFFFFFFFFFFC7634D81F4372DDF581A0DB248B0A77AECEC196ACCC52973

/-- The base point. -/
def g384 : Nat × Nat :=
  (0xAA87CA22BE8B05378EB1C71EF320AD746E1D3B628BA79B9859F741E082542A385502F25DBF55296C3A545E3872760AB7,
   0x3617DE4A96262C6F5D9E98BF9292DC29F8F41DBD289A147CE9DA3113B5F0B8C00A60B1CE1D7E819D7A431D7C90EA0E5F)

/-- Modular power by the bits of the exponent, most significant first. -/
def powMod (m base e : Nat) : Nat :=
  (List.range 384).foldl (fun acc k =>
    let sq := acc * acc % m
    if e / 2 ^ (383 - k) % 2 = 1 then sq * base % m else sq) 1

/-- The inverse modulo a prime. -/
def invMod (m x : Nat) : Nat := powMod m (x % m) (m - 2)

/-- A point in affine coordinates; none is the point at infinity. -/
abbrev Point := Option (Nat × Nat)

/-- The sum of two points of the curve. -/
def padd (a b : Point) : Point :=
  match a, b with
  | none, q => q
  | q, none => q
  | some (x1, y1), some (x2, y2) =>
    if x1 = x2 ∧ (y1 + y2) % p384 = 0 then none
    else
      let l := if x1 = x2 then (3 * x1 * x1 + (p384 - 3)) * invMod p384 (2 * y1) % p384
        else (y2 + p384 - y1) * invMod p384 (x2 + p384 - x1) % p384
      let x3 := (l * l + 2 * p384 - x1 - x2) % p384
      some (x3, (l * (x1 + p384 - x3) + p384 - y1) % p384)

/-- A multiple of a point, by the bits of the factor. -/
def pmul (k : Nat) (a : Point) : Point :=
  (List.range 384).foldl (fun acc i =>
    let d := padd acc acc
    if k / 2 ^ (383 - i) % 2 = 1 then padd d a else d) none

/-- A point lies on the curve. -/
def onCurve (x y : Nat) : Bool :=
  decide (x < p384) && decide (y < p384) && y * y % p384 == (x * x * x + (p384 - 3) * x + b384) % p384

/-- ECDSA verification of a digest under a public key. -/
def ecdsaVerify (qx qy : Nat) (digest : List Byte) (r s : Nat) : Bool :=
  if !onCurve qx qy ∨ r = 0 ∨ n384 ≤ r ∨ s = 0 ∨ n384 ≤ s then false
  else
    let e := ofBeBytes digest
    let w := invMod n384 s
    match padd (pmul (e * w % n384) (some g384)) (pmul (r * w % n384) (some (qx, qy))) with
    | none => false
    | some (x, _) => x % n384 == r

/-- The public key of a private key. -/
def publicKey (d : Nat) : Nat × Nat := (pmul d (some g384)).getD (0, 0)

/-- The candidate nonces of RFC 6979, at most n of them, and the first that is in range. -/
def rfcLoop : Nat → List Byte → List Byte → Nat
  | 0, _, _ => 0
  | n + 1, k, v =>
    let v := hmac384 k v
    let c := ofBeBytes v
    if 0 < c ∧ c < n384 then c
    else
      let k := hmac384 k (v ++ [0])
      rfcLoop n k (hmac384 k v)

/-- The deterministic nonce of RFC 6979 for a private key and a digest. -/
def rfcNonce (d : Nat) (digest : List Byte) : Nat :=
  let seed := beBytes 48 d ++ beBytes 48 (ofBeBytes digest % n384)
  let v := List.replicate 48 (1 : Byte)
  let k := hmac384 (List.replicate 48 0) (v ++ [0] ++ seed)
  let v := hmac384 k v
  let k := hmac384 k (v ++ [1] ++ seed)
  rfcLoop 8 k (hmac384 k v)

/-- The ECDSA signature (r, s) of a message (R252). -/
def ecdsaSign (d : Nat) (msg : List Byte) : Nat × Nat :=
  let digest := sha384 msg
  let k := rfcNonce d digest
  let r := ((pmul k (some g384)).getD (0, 0)).1 % n384
  (r, invMod n384 k * (ofBeBytes digest + r * d) % n384)

end Sys2Proof.Machine
end

