-- ==== Sys2Proof/Config.lean ====
section
/-! DEFINITION. The values that the spec leaves open: opaque constants, of which nothing can be proved. Each is applied to the counter of free values that the step advances, or to the operands it depends on. -/

namespace Sys2Proof.Config

/-- How many of a sample's loops, counted from the last in the order of R80, fail to complete when the sample exceeds its TBL allowance (R82, R83). -/
opaque overruns : Nat → Nat

/-- How many steps, and how many TBL micro-instructions, the loops abandoned in a sample had executed before its step 4 (R82, R83); the model bounds them by what those loops have. -/
opaque partSteps : Nat → Nat
opaque partTbls : Nat → Nat

/-- The lane cycles a sample loses to bank stalls (R81). -/
opaque stallCycles : Nat → Nat

/-- In which sweep of every CAL_SW, and from which of its sensors on, a converter or a path-monitor group calibrates (R213): by converter (0 to 15) or group (16 to 23). -/
opaque calSweep : Nat → Nat
opaque calFirst : Nat → Nat

/-- A working register that the executed law never wrote (R101), or that the ROM law 1 leaves (R102). -/
opaque workReg : Nat → BitVec 48

/-- The CRC word of the ROM law 1, whose micro-instructions the spec does not list (R102). -/
opaque romCrc : Nat → BitVec 32

/-- The share of the 0.5 % bound that the period correction takes while SYNC_IN is acquired (R180). -/
opaque syncShare : Nat → Nat

/-- The phase count that R197 gives where the per-phase capacity is 0. -/
opaque phasesAtZero : Nat → Nat

/-- The rate correction a node takes from its offset in a frame (R270); the model bounds it to ±0.2 %. -/
opaque rateStep : Nat → Nat

/-- VAR of a collective result without a contributor: M2 / 0 (R287). -/
opaque varAtZero : Nat → BitVec 64

/-- The version that GetPLDMVersion gives for a PLDM type (R63); the spec names no revision of DSP0240 or DSP0248. -/
opaque pldmVersion : Nat → BitVec 32

/-- The fields of PLDM answers whose contents the spec leaves to DSP0240 and DSP0248, by the command and what it asks about (R63). -/
opaque pldmFields : Nat → Nat → List Byte

end Sys2Proof.Config
end

