-- ==== Sys2Proof/Machine/RegMap.lean ====
section
/-! DEFINITION. The register map of the window as data: every register table of the spec's chapters, with each field's bits, access code and reset value. -/

namespace Sys2Proof.Machine

/-- The access codes of R12; `trig` is a trigger field of R375 (acts at a write of 1, reads 0). -/
inductive Acc where
  | ro | ros | rw | rw1c | rwo | rwl | trig
  deriving DecidableEq, Repr

/-- One field of a register word: bits [lo + w - 1 : lo]; a fused field resets to its fuses. -/
structure FieldDef where
  name  : String
  lo    : Nat
  w     : Nat
  acc   : Acc
  reset : Nat
  fused : Bool
  deriving DecidableEq, Repr

/-- One register of a table, or an array of n1 by n2 of them (first index strides s1 bytes, second s2). An empty name is a reserved word that reads 0. -/
structure RegDef where
  name   : String
  base   : Nat
  n1     : Nat
  s1     : Nat
  n2     : Nat
  s2     : Nat
  fields : List FieldDef
  deriving DecidableEq, Repr

/-- A field at a byte offset of the window. -/
structure Fld where
  off : Nat
  lo  : Nat
  w   : Nat
  deriving DecidableEq, Repr

/-- Registers of 0x0 to 0xFF (R381). -/
def regsGlobal : List RegDef := [
    ⟨"GOV_ID", 0x0, 1, 0x4, 1, 0x4, [
      ⟨"PART", 0, 16, .ro, 0x5302, false⟩,
      ⟨"MAJOR", 16, 8, .ro, 0x1, false⟩,
      ⟨"MINOR", 24, 8, .ro, 0x0, false⟩]⟩,
    ⟨"GOV_STRAP", 0x4, 1, 0x4, 1, 0x4, [
      ⟨"VSEL_EN", 0, 1, .ros, 0x0, false⟩,
      ⟨"VSEL", 4, 4, .ro, 0x0, false⟩,
      ⟨"DBG_CLOSED", 8, 1, .ro, 0x0, true⟩]⟩,
    ⟨"GOV_DEVID", 0x8, 4, 0x4, 1, 0x4, [
      ⟨"ID", 0, 32, .ro, 0x0, true⟩]⟩,
    ⟨"GOV_TIME_LO", 0x18, 1, 0x4, 1, 0x4, [
      ⟨"T", 0, 32, .ro, 0x0, false⟩]⟩,
    ⟨"GOV_TIME_HI", 0x1C, 1, 0x4, 1, 0x4, [
      ⟨"T", 0, 32, .ro, 0x0, false⟩]⟩,
    ⟨"SAMPLE_IDX_LO", 0x20, 1, 0x4, 1, 0x4, [
      ⟨"IDX", 0, 32, .ro, 0x0, false⟩]⟩,
    ⟨"SAMPLE_IDX_HI", 0x24, 1, 0x4, 1, 0x4, [
      ⟨"IDX", 0, 16, .ro, 0x0, false⟩]⟩,
    ⟨"", 0x28, 2, 0x4, 1, 0x4, []⟩,
    ⟨"GOV_IRQ_SRC", 0x30, 1, 0x4, 1, 0x4, [
      ⟨"CMD", 0, 1, .ro, 0x0, false⟩,
      ⟨"FLT", 1, 1, .ro, 0x0, false⟩,
      ⟨"WIN", 2, 1, .rw1c, 0x0, false⟩,
      ⟨"STEADY", 3, 1, .rw1c, 0x0, false⟩,
      ⟨"PS", 4, 1, .rw1c, 0x0, false⟩,
      ⟨"IDL", 5, 1, .rw1c, 0x0, false⟩,
      ⟨"HARBOUR", 6, 1, .rw1c, 0x0, false⟩]⟩,
    ⟨"GOV_IRQ_EN", 0x34, 1, 0x4, 1, 0x4, [
      ⟨"EN", 0, 7, .rw, 0x7F, false⟩]⟩,
    ⟨"GOV_IRQ_MAP", 0x38, 1, 0x4, 1, 0x4, [
      ⟨"LINE_0", 0, 2, .rw, 0x0, false⟩,
      ⟨"LINE_1", 2, 2, .rw, 0x1, false⟩,
      ⟨"LINE_2", 4, 2, .rw, 0x2, false⟩,
      ⟨"LINE_3", 6, 2, .rw, 0x2, false⟩,
      ⟨"LINE_4", 8, 2, .rw, 0x3, false⟩,
      ⟨"LINE_5", 10, 2, .rw, 0x3, false⟩,
      ⟨"LINE_6", 12, 2, .rw, 0x3, false⟩]⟩,
    ⟨"GOV_IRQ_LINE", 0x3C, 1, 0x4, 1, 0x4, [
      ⟨"LINE", 0, 4, .ro, 0x0, false⟩]⟩,
    ⟨"GOV_LOCK", 0x40, 1, 0x4, 1, 0x4, [
      ⟨"BT", 0, 1, .rwo, 0x0, false⟩]⟩,
    ⟨"GOV_LOCK_STAT", 0x44, 1, 0x4, 1, 0x4, [
      ⟨"BT", 0, 1, .ro, 0x0, false⟩,
      ⟨"HLIM", 1, 1, .ro, 0x0, false⟩,
      ⟨"HARBOUR", 2, 1, .ro, 0x0, false⟩,
      ⟨"FLT", 3, 1, .ro, 0x0, false⟩,
      ⟨"WDT", 4, 1, .ro, 0x0, false⟩,
      ⟨"LOCKED_WR", 16, 1, .rw1c, 0x0, false⟩]⟩,
    ⟨"GOV_BT_REF", 0x48, 1, 0x4, 1, 0x4, [
      ⟨"REFUSED", 0, 1, .rw1c, 0x0, false⟩,
      ⟨"BERTH", 8, 8, .ro, 0x0, false⟩,
      ⟨"RSN", 16, 2, .ro, 0x0, false⟩]⟩,
    ⟨"", 0x4C, 45, 0x4, 1, 0x4, []⟩]

/-- Registers of 0x100 to 0x1FF (R350). -/
def regsPilots : List RegDef := [
    ⟨"FWP_VER", 0x100, 1, 0x4, 1, 0x4, [
      ⟨"FW_VER", 0, 32, .ro, 0x0, false⟩]⟩,
    ⟨"FWP_VER_HI", 0x104, 1, 0x4, 1, 0x4, [
      ⟨"FW_VER", 0, 32, .ro, 0x0, false⟩]⟩,
    ⟨"FWP_DIGEST", 0x108, 12, 0x4, 1, 0x4, [
      ⟨"DIGEST", 0, 32, .ro, 0x0, false⟩]⟩,
    ⟨"FWP_SVN", 0x138, 1, 0x4, 1, 0x4, [
      ⟨"IMG_SVN", 0, 16, .ro, 0x0, false⟩,
      ⟨"FUSE_SVN", 16, 16, .ro, 0x0, true⟩]⟩,
    ⟨"FWP_FEAT", 0x13C, 1, 0x4, 1, 0x4, [
      ⟨"FEAT", 0, 32, .ro, 0x0, false⟩]⟩,
    ⟨"FWP_FEAT_HI", 0x140, 1, 0x4, 1, 0x4, [
      ⟨"FEAT", 0, 32, .ro, 0x0, false⟩]⟩,
    ⟨"SUP_STAT", 0x144, 1, 0x4, 1, 0x4, [
      ⟨"MODE", 0, 2, .ro, 0x0, false⟩,
      ⟨"HARBOUR", 2, 1, .ro, 0x0, false⟩,
      ⟨"SESSION", 3, 1, .ro, 0x0, false⟩,
      ⟨"HB_LAPSE", 4, 1, .rw1c, 0x0, false⟩,
      ⟨"REFUSED", 5, 1, .rw1c, 0x0, false⟩]⟩,
    ⟨"FWP_PSTATE", 0x148, 1, 0x4, 1, 0x4, [
      ⟨"STATE_0", 0, 3, .ro, 0x0, false⟩,
      ⟨"STATE_1", 3, 3, .ro, 0x0, false⟩,
      ⟨"STATE_2", 6, 3, .ro, 0x0, false⟩]⟩,
    ⟨"FWP_WDT", 0x14C, 1, 0x4, 1, 0x4, [
      ⟨"TMO_A", 0, 8, .rwl, 0xA, false⟩,
      ⟨"TMO_B", 8, 8, .rwl, 0xA, false⟩,
      ⟨"TMO_C", 16, 8, .rwl, 0xA, false⟩,
      ⟨"LOCK", 31, 1, .rwo, 0x0, false⟩]⟩,
    ⟨"FWP_RST_CNT", 0x150, 3, 0x4, 1, 0x4, [
      ⟨"COUNT", 0, 32, .ros, 0x0, false⟩]⟩,
    ⟨"FWP_RST_LAST", 0x15C, 1, 0x4, 1, 0x4, [
      ⟨"PILOT", 0, 2, .ro, 0x0, false⟩,
      ⟨"CAUSE", 8, 8, .ro, 0x0, false⟩]⟩,
    ⟨"FWP_RST_REQ", 0x160, 1, 0x4, 1, 0x4, [
      ⟨"REQ", 0, 3, .trig, 0x0, false⟩]⟩,
    ⟨"FWP_UPD", 0x164, 1, 0x4, 1, 0x4, [
      ⟨"USTATE", 0, 3, .ro, 0x0, false⟩,
      ⟨"FAIL_RSN", 4, 4, .ro, 0x0, false⟩]⟩,
    ⟨"SUP_HB", 0x168, 1, 0x4, 1, 0x4, [
      ⟨"HB_TMO", 0, 16, .rw, 0x3E8, false⟩]⟩,
    ⟨"SUP_HB_KICK", 0x16C, 1, 0x4, 1, 0x4, [
      ⟨"W", 0, 32, .trig, 0x0, false⟩]⟩,
    ⟨"SUP_SESSION", 0x170, 1, 0x4, 1, 0x4, [
      ⟨"ID", 0, 16, .ro, 0x0, false⟩]⟩,
    ⟨"SUP_ANCHOR", 0x174, 1, 0x4, 1, 0x4, [
      ⟨"CAUSE", 0, 4, .ro, 0x0, false⟩]⟩,
    ⟨"SUP_JOURNAL", 0x180, 16, 0x4, 1, 0x4, [
      ⟨"SEQ", 0, 16, .ro, 0x0, false⟩,
      ⟨"VALID", 16, 1, .ro, 0x0, false⟩,
      ⟨"RESULT", 24, 8, .ro, 0x0, false⟩]⟩,
    ⟨"", 0x1C0, 16, 0x4, 1, 0x4, []⟩]

/-- Registers of 0x300 to 0x3FF (R289), part 1. -/
def regsHawserA : List RegDef := [
    ⟨"IDL_CFG", 0x300, 1, 0x4, 1, 0x4, [
      ⟨"UP_EN", 0, 1, .rw, 0x0, false⟩,
      ⟨"DN_EN", 1, 1, .rw, 0x0, false⟩,
      ⟨"EN", 2, 1, .rw, 0x0, false⟩,
      ⟨"ROOT", 3, 1, .rw, 0x0, false⟩,
      ⟨"TUG_EN", 4, 1, .rw, 0x0, false⟩,
      ⟨"COLL_EN", 5, 1, .rw, 0x0, false⟩,
      ⟨"STAMP_DIV", 8, 4, .rw, 0x0, false⟩]⟩,
    ⟨"IDL_STAT", 0x304, 1, 0x4, 1, 0x4, [
      ⟨"UP_LINK", 0, 2, .ro, 0x0, false⟩,
      ⟨"DN_LINK", 2, 2, .ro, 0x0, false⟩,
      ⟨"MODE", 4, 2, .ro, 0x0, false⟩,
      ⟨"ENUM_DONE", 6, 1, .ro, 0x0, false⟩,
      ⟨"LOCKED", 7, 1, .ro, 0x0, false⟩,
      ⟨"RING_SLOW", 8, 1, .ro, 0x0, false⟩,
      ⟨"ALIGN_PEND", 9, 1, .ro, 0x0, false⟩,
      ⟨"NODE", 16, 6, .ro, 0x0, false⟩,
      ⟨"NODES", 22, 7, .ro, 0x0, false⟩]⟩,
    ⟨"IDL_EVT", 0x308, 1, 0x4, 1, 0x4, [
      ⟨"REFUSED", 0, 1, .rw1c, 0x0, false⟩,
      ⟨"ENUM_ERR", 1, 1, .rw1c, 0x0, false⟩,
      ⟨"STEPPED", 2, 1, .rw1c, 0x0, false⟩,
      ⟨"LOCK_LOST", 3, 1, .rw1c, 0x0, false⟩,
      ⟨"LINK_DOWN", 4, 1, .rw1c, 0x0, false⟩,
      ⟨"NODE_EVENT", 5, 1, .rw1c, 0x0, false⟩]⟩,
    ⟨"IDL_CTRL", 0x30C, 1, 0x4, 1, 0x4, [
      ⟨"ENUM", 0, 1, .trig, 0x0, false⟩,
      ⟨"WAKE", 1, 1, .trig, 0x0, false⟩,
      ⟨"CLR", 2, 1, .trig, 0x0, false⟩,
      ⟨"STOP", 3, 1, .trig, 0x0, false⟩,
      ⟨"STOP_ACT", 4, 2, .rw, 0x1, false⟩]⟩,
    ⟨"IDL_FCTR", 0x310, 1, 0x4, 1, 0x4, [
      ⟨"FCTR", 0, 32, .ro, 0x0, false⟩]⟩,
    ⟨"IDL_OFFSET", 0x314, 1, 0x4, 1, 0x4, [
      ⟨"OFFSET", 0, 32, .ro, 0x0, false⟩]⟩,
    ⟨"IDL_RLAT", 0x318, 1, 0x4, 1, 0x4, [
      ⟨"RLAT", 0, 16, .ro, 0x0, false⟩,
      ⟨"FLIGHT", 16, 16, .ro, 0x0, false⟩]⟩,
    ⟨"IDL_RATE", 0x31C, 1, 0x4, 1, 0x4, [
      ⟨"RATE", 0, 16, .ro, 0x0, false⟩]⟩,
    ⟨"IDL_PROG_POS", 0x320, 1, 0x4, 1, 0x4, [
      ⟨"PROG", 0, 16, .rw, 0x0, false⟩,
      ⟨"JOB", 16, 16, .rw, 0x0, false⟩]⟩,
    ⟨"IDL_PROG_STEP", 0x324, 1, 0x4, 1, 0x4, [
      ⟨"STEP", 0, 32, .rw, 0x0, false⟩]⟩,
    ⟨"IDL_PROG_CFG", 0x328, 1, 0x4, 1, 0x4, [
      ⟨"PROG_TMO", 0, 16, .rw, 0x3E8, false⟩]⟩,
    ⟨"IDL_TUG_CAP", 0x32C, 1, 0x4, 1, 0x4, [
      ⟨"BASE", 0, 16, .rw, 0x7080, false⟩,
      ⟨"PEXC_T", 16, 16, .rw, 0x7080, false⟩]⟩,
    ⟨"IDL_TUG_LIM", 0x330, 1, 0x4, 1, 0x4, [
      ⟨"FLOOR", 0, 16, .rw, 0x7080, false⟩,
      ⟨"CEIL", 16, 16, .rw, 0x7080, false⟩]⟩,
    ⟨"IDL_TUG_GAIN", 0x334, 1, 0x4, 1, 0x4, [
      ⟨"TUG_GAIN", 0, 16, .rw, 0x20, false⟩,
      ⟨"PACE_GAIN", 16, 16, .rw, 0x10, false⟩]⟩,
    ⟨"IDL_TUG_THR", 0x338, 1, 0x4, 1, 0x4, [
      ⟨"LAG_THR", 0, 8, .rw, 0x10, false⟩,
      ⟨"LIM_MARGIN", 16, 16, .rw, 0x100, false⟩]⟩,
    ⟨"IDL_TUG_STAT", 0x33C, 1, 0x4, 1, 0x4, [
      ⟨"APPLIED", 0, 16, .ro, 0x0, false⟩,
      ⟨"CRIT", 16, 6, .ro, 0x0, false⟩,
      ⟨"CRIT_VALID", 22, 1, .ro, 0x0, false⟩,
      ⟨"PACED", 23, 1, .ro, 0x0, false⟩,
      ⟨"DONOR", 24, 1, .ro, 0x0, false⟩,
      ⟨"RECEIVER", 25, 1, .ro, 0x0, false⟩,
      ⟨"FROZEN", 26, 1, .ro, 0x0, false⟩,
      ⟨"LIMITED", 27, 1, .ro, 0x0, false⟩]⟩,
    ⟨"IDL_TUG_LAG", 0x340, 1, 0x4, 1, 0x4, [
      ⟨"LAG", 0, 16, .ro, 0x0, false⟩,
      ⟨"PACED_BY", 16, 6, .ro, 0x0, false⟩]⟩,
    ⟨"IDL_STOP_REC", 0x344, 1, 0x4, 1, 0x4, [
      ⟨"ID", 0, 8, .ro, 0x0, false⟩,
      ⟨"ACTION", 8, 2, .ro, 0x0, false⟩,
      ⟨"ORIGIN", 10, 6, .ro, 0x0, false⟩,
      ⟨"VALID", 16, 1, .ro, 0x0, false⟩,
      ⟨"HELD", 17, 1, .ro, 0x0, false⟩]⟩,
    ⟨"IDL_STOP_TRX", 0x348, 1, 0x4, 1, 0x4, [
      ⟨"T", 0, 32, .ro, 0x0, false⟩]⟩,
    ⟨"IDL_STOP_TRX_HI", 0x34C, 1, 0x4, 1, 0x4, [
      ⟨"T", 0, 32, .ro, 0x0, false⟩]⟩,
    ⟨"IDL_STOP_CUT", 0x350, 1, 0x4, 1, 0x4, [
      ⟨"IDX", 0, 32, .ro, 0x0, false⟩]⟩,
    ⟨"IDL_STOP_CUT_HI", 0x354, 1, 0x4, 1, 0x4, [
      ⟨"IDX", 0, 16, .ro, 0x0, false⟩]⟩,
    ⟨"IDL_NODE_FAULT", 0x358, 1, 0x4, 1, 0x4, [
      ⟨"MAP", 0, 32, .rw1c, 0x0, false⟩]⟩,
    ⟨"IDL_NODE_FAULT_HI", 0x35C, 1, 0x4, 1, 0x4, [
      ⟨"MAP", 0, 32, .rw1c, 0x0, false⟩]⟩]

/-- Registers of 0x300 to 0x3FF (R289), part 2. -/
def regsHawserB : List RegDef := [
    ⟨"IDL_NODE_MISS", 0x360, 1, 0x4, 1, 0x4, [
      ⟨"MAP", 0, 32, .rw1c, 0x0, false⟩]⟩,
    ⟨"IDL_NODE_MISS_HI", 0x364, 1, 0x4, 1, 0x4, [
      ⟨"MAP", 0, 32, .rw1c, 0x0, false⟩]⟩,
    ⟨"IDL_COLL_START", 0x368, 1, 0x4, 1, 0x4, [
      ⟨"START", 0, 32, .ro, 0x0, false⟩]⟩,
    ⟨"IDL_COLL_START_HI", 0x36C, 1, 0x4, 1, 0x4, [
      ⟨"START", 0, 16, .ro, 0x0, false⟩]⟩,
    ⟨"IDL_COLL_N", 0x370, 1, 0x4, 1, 0x4, [
      ⟨"N", 0, 32, .ro, 0x0, false⟩]⟩,
    ⟨"IDL_COLL_STAT", 0x374, 1, 0x4, 1, 0x4, [
      ⟨"VALID", 0, 1, .ro, 0x0, false⟩,
      ⟨"SKIPPED", 1, 1, .rw1c, 0x0, false⟩,
      ⟨"SAT", 2, 1, .rw1c, 0x0, false⟩]⟩,
    ⟨"IDL_COLL_CONTRIB", 0x378, 1, 0x4, 1, 0x4, [
      ⟨"MAP", 0, 32, .ro, 0x0, false⟩]⟩,
    ⟨"IDL_COLL_CONTRIB_HI", 0x37C, 1, 0x4, 1, 0x4, [
      ⟨"MAP", 0, 32, .ro, 0x0, false⟩]⟩,
    ⟨"IDL_COLL_MEAN", 0x380, 1, 0x4, 1, 0x4, [
      ⟨"MEAN", 0, 32, .ro, 0x0, false⟩]⟩,
    ⟨"IDL_COLL_MEAN_HI", 0x384, 1, 0x4, 1, 0x4, [
      ⟨"MEAN", 0, 32, .ro, 0x0, false⟩]⟩,
    ⟨"IDL_COLL_VAR", 0x388, 1, 0x4, 1, 0x4, [
      ⟨"VAR", 0, 32, .ro, 0x0, false⟩]⟩,
    ⟨"IDL_COLL_VAR_HI", 0x38C, 1, 0x4, 1, 0x4, [
      ⟨"VAR", 0, 32, .ro, 0x0, false⟩]⟩,
    ⟨"IDL_COLL_SUM", 0x390, 1, 0x4, 1, 0x4, [
      ⟨"SUM", 0, 32, .ro, 0x0, false⟩]⟩,
    ⟨"IDL_COLL_SUM_HI", 0x394, 1, 0x4, 1, 0x4, [
      ⟨"SUM", 0, 32, .ro, 0x0, false⟩]⟩,
    ⟨"IDL_CNT_CRC", 0x398, 1, 0x4, 1, 0x4, [
      ⟨"COUNT", 0, 32, .ros, 0x0, false⟩]⟩,
    ⟨"IDL_CNT_MISS", 0x39C, 1, 0x4, 1, 0x4, [
      ⟨"COUNT", 0, 32, .ros, 0x0, false⟩]⟩,
    ⟨"IDL_CNT_LINKDN", 0x3A0, 1, 0x4, 1, 0x4, [
      ⟨"COUNT", 0, 32, .ros, 0x0, false⟩]⟩,
    ⟨"IDL_STAMP_HEAD", 0x3A4, 1, 0x4, 1, 0x4, [
      ⟨"HEAD", 0, 9, .ro, 0x0, false⟩]⟩,
    ⟨"", 0x3A8, 22, 0x4, 1, 0x4, []⟩]

/-- Registers of 0x400 to 0x4FF (R96). -/
def regsEngine : List RegDef := [
    ⟨"ENG_CFG", 0x400, 1, 0x4, 1, 0x4, [
      ⟨"PERIOD", 0, 4, .rw, 0x2, false⟩,
      ⟨"PER_ACT", 4, 4, .ro, 0x2, false⟩,
      ⟨"PER_PEND", 8, 1, .ro, 0x0, false⟩]⟩,
    ⟨"ENG_STATUS", 0x404, 1, 0x4, 1, 0x4, [
      ⟨"CAP_REF", 0, 1, .rw1c, 0x0, false⟩,
      ⟨"LAW_REF", 1, 1, .rw1c, 0x0, false⟩,
      ⟨"PARAM_REF", 2, 1, .rw1c, 0x0, false⟩,
      ⟨"OVR", 3, 1, .rw1c, 0x0, false⟩,
      ⟨"PEAK_VALID", 4, 1, .rw1c, 0x0, false⟩,
      ⟨"REF_SLOT", 16, 10, .ro, 0x0, false⟩]⟩,
    ⟨"ENG_STEPS", 0x408, 1, 0x4, 1, 0x4, [
      ⟨"USED", 0, 16, .ro, 0x0, false⟩,
      ⟨"LIMIT", 16, 16, .ro, 0x400, false⟩]⟩,
    ⟨"ENG_PEAK", 0x40C, 1, 0x4, 1, 0x4, [
      ⟨"MIN_IDLE", 0, 16, .ros, 0xFFFF, false⟩,
      ⟨"TBL_MAX", 16, 16, .ros, 0x0, false⟩]⟩,
    ⟨"ENG_OVR_SAMPLES", 0x410, 1, 0x4, 1, 0x4, [
      ⟨"COUNT", 0, 32, .ros, 0x0, false⟩]⟩,
    ⟨"", 0x414, 3, 0x4, 1, 0x4, []⟩,
    ⟨"ENG_WIN_DIE", 0x420, 1, 0x4, 1, 0x4, [
      ⟨"W", 0, 32, .ro, 0x400, false⟩]⟩,
    ⟨"ENG_WIN_RAIL", 0x424, 8, 0x4, 1, 0x4, [
      ⟨"W", 0, 32, .ro, 0x400, false⟩]⟩,
    ⟨"ENG_WIN_REGION", 0x444, 16, 0x4, 1, 0x4, [
      ⟨"W", 0, 32, .ro, 0x400, false⟩]⟩]

/-- Registers of 0x500 to 0x7FF (R308, R309, R310). -/
def regsPower : List RegDef := [
    ⟨"PS_CTRL", 0x500, 1, 0x4, 1, 0x4, [
      ⟨"TARGET", 0, 3, .rw, 0x0, false⟩,
      ⟨"START", 4, 1, .trig, 0x0, false⟩,
      ⟨"CANCEL", 5, 1, .trig, 0x0, false⟩,
      ⟨"CLR", 6, 1, .trig, 0x0, false⟩]⟩,
    ⟨"PS_STAT", 0x504, 1, 0x4, 1, 0x4, [
      ⟨"STATE", 0, 3, .ro, 0x0, false⟩,
      ⟨"TO", 3, 3, .ro, 0x0, false⟩,
      ⟨"BUSY", 6, 1, .ro, 0x0, false⟩,
      ⟨"REFUSED", 7, 1, .rw1c, 0x0, false⟩,
      ⟨"PHASE", 8, 3, .ro, 0x0, false⟩,
      ⟨"HELD", 11, 1, .ro, 0x0, false⟩,
      ⟨"RESULT", 12, 2, .ro, 0x0, false⟩,
      ⟨"ATTEMPT", 16, 16, .ro, 0x0, false⟩]⟩,
    ⟨"PS_CFG", 0x508, 1, 0x4, 1, 0x4, [
      ⟨"T_HOLD", 0, 10, .rw, 0x64, false⟩,
      ⟨"IDLE_AUTO", 16, 1, .rw, 0x0, false⟩,
      ⟨"HWS_FWD", 17, 1, .rw, 0x0, false⟩]⟩,
    ⟨"PS_IDLE", 0x50C, 1, 0x4, 1, 0x4, [
      ⟨"IDLE_ACT", 0, 12, .rw, 0x10, false⟩,
      ⟨"IDLE_SMP", 16, 16, .rw, 0x3E8, false⟩]⟩,
    ⟨"PS_WAKE_EN", 0x510, 1, 0x4, 1, 0x4, [
      ⟨"EN", 0, 6, .rw, 0x1F, false⟩]⟩,
    ⟨"PS_WAKE_STAT", 0x514, 1, 0x4, 1, 0x4, [
      ⟨"LATCH", 0, 6, .ro, 0x0, false⟩,
      ⟨"CAUSE", 8, 6, .rw1c, 0x0, false⟩,
      ⟨"REPLAYED", 16, 1, .rw1c, 0x0, false⟩,
      ⟨"OFF_WAKE", 17, 1, .rw1c, 0x0, false⟩,
      ⟨"EXIT_FAULT", 18, 1, .rw1c, 0x0, false⟩]⟩,
    ⟨"PS_WAKE_TIME_LO", 0x518, 1, 0x4, 1, 0x4, [
      ⟨"T", 0, 32, .rw, 0x0, false⟩]⟩,
    ⟨"PS_WAKE_TIME_HI", 0x51C, 1, 0x4, 1, 0x4, [
      ⟨"T", 0, 32, .rw, 0x0, false⟩]⟩,
    ⟨"PS_CNT_DONE", 0x520, 1, 0x4, 1, 0x4, [
      ⟨"COUNT", 0, 32, .ros, 0x0, false⟩]⟩,
    ⟨"PS_CNT_ABORT", 0x524, 1, 0x4, 1, 0x4, [
      ⟨"COUNT", 0, 32, .ros, 0x0, false⟩]⟩,
    ⟨"PS_CNT_REFUSE", 0x528, 1, 0x4, 1, 0x4, [
      ⟨"COUNT", 0, 32, .ros, 0x0, false⟩]⟩,
    ⟨"PS_CNT_HOLD", 0x52C, 1, 0x4, 1, 0x4, [
      ⟨"COUNT", 0, 32, .ros, 0x0, false⟩]⟩,
    ⟨"PS_CNT_WAKE", 0x530, 1, 0x4, 1, 0x4, [
      ⟨"COUNT", 0, 32, .ros, 0x0, false⟩]⟩,
    ⟨"PS_LOG_HEAD", 0x534, 1, 0x4, 1, 0x4, [
      ⟨"HEAD", 0, 3, .ro, 0x0, false⟩]⟩,
    ⟨"", 0x538, 50, 0x4, 1, 0x4, []⟩,
    ⟨"PS_ST_RGN", 0x600, 4, 0x40, 1, 0x4, [
      ⟨"OFFMASK", 0, 16, .rw, 0x0, false⟩]⟩,
    ⟨"PS_ST_TIME", 0x604, 4, 0x40, 1, 0x4, [
      ⟨"BIAS_SETTLE", 0, 8, .rw, 0xA, false⟩]⟩,
    ⟨"", 0x608, 4, 0x40, 2, 0x4, []⟩,
    ⟨"PS_ST_RAIL", 0x610, 4, 0x40, 4, 0x4, [
      ⟨"ENTRY_2i", 0, 4, .rw, 0x0, false⟩,
      ⟨"NPH_2i", 4, 7, .rw, 0x1, false⟩,
      ⟨"EN_2i", 11, 1, .rw, 0x1, false⟩,
      ⟨"ENTRY_2i1", 16, 4, .rw, 0x0, false⟩,
      ⟨"NPH_2i1", 20, 7, .rw, 0x1, false⟩,
      ⟨"EN_2i1", 27, 1, .rw, 0x1, false⟩]⟩,
    ⟨"PS_ST_BIAS", 0x620, 4, 0x40, 8, 0x4, [
      ⟨"BB_N_2i", 0, 5, .rw, 0x0, false⟩,
      ⟨"BB_P_2i", 5, 5, .rw, 0x0, false⟩,
      ⟨"SA_2i", 10, 4, .rw, 0x0, false⟩,
      ⟨"BB_N_2i1", 16, 5, .rw, 0x0, false⟩,
      ⟨"BB_P_2i1", 21, 5, .rw, 0x0, false⟩,
      ⟨"SA_2i1", 26, 4, .rw, 0x0, false⟩]⟩,
    ⟨"PS_REFUSE", 0x700, 8, 0x20, 8, 0x4, [
      ⟨"W", 0, 32, .ro, 0x0, false⟩]⟩]

/-- Registers of 0x800 to 0xBFF (R102). -/
def regsLaws : List RegDef := [
    ⟨"LAW_W0", 0x800, 64, 0x10, 1, 0x4, [
      ⟨"START", 0, 12, .ro, 0x0, false⟩,
      ⟨"LEN", 12, 8, .ro, 0x0, false⟩,
      ⟨"STEPS", 20, 4, .ro, 0x0, false⟩,
      ⟨"ROM", 24, 1, .ro, 0x0, false⟩,
      ⟨"VALID", 25, 1, .ro, 0x0, false⟩]⟩,
    ⟨"LAW_W1", 0x804, 64, 0x10, 1, 0x4, [
      ⟨"CRC", 0, 32, .ro, 0x0, false⟩]⟩,
    ⟨"LAW_W2", 0x808, 64, 0x10, 1, 0x4, [
      ⟨"USE", 0, 16, .ro, 0x0, false⟩]⟩,
    ⟨"LAW_W3", 0x80C, 64, 0x10, 1, 0x4, []⟩]

/-- Registers of 0xC00 to 0xCFF (R128). -/
def regsLimits : List RegDef := [
    ⟨"LIM_CFG", 0xC00, 1, 0x4, 1, 0x4, [
      ⟨"PCAP_EN", 0, 1, .rw, 0x0, false⟩,
      ⟨"EXC_EN", 1, 1, .rw, 0x0, false⟩,
      ⟨"TSD_EN", 2, 1, .rw, 0x0, false⟩,
      ⟨"BE_EN", 3, 1, .rw, 0x0, false⟩,
      ⟨"FLOOR_EN", 4, 1, .rw, 0x0, false⟩,
      ⟨"STEADY", 5, 1, .rw, 0x0, false⟩]⟩,
    ⟨"LIM_SLOTS", 0xC04, 1, 0x4, 1, 0x4, [
      ⟨"PCAP_SLOT", 0, 10, .rw, 0x108, false⟩,
      ⟨"BE_SLOT", 16, 10, .rw, 0x109, false⟩]⟩,
    ⟨"LIM_PCAP", 0xC08, 1, 0x4, 1, 0x4, [
      ⟨"PCAP", 0, 16, .rw, 0x7080, false⟩,
      ⟨"PEXC", 16, 16, .rw, 0x7080, false⟩]⟩,
    ⟨"LIM_EXC", 0xC0C, 1, 0x4, 1, 0x4, [
      ⟨"EXC_MAX", 0, 12, .rw, 0x0, false⟩,
      ⟨"RECHG", 16, 8, .rw, 0x8, false⟩]⟩,
    ⟨"LIM_EXC_STAT", 0xC10, 1, 0x4, 1, 0x4, [
      ⟨"CREDIT", 0, 14, .ro, 0x0, false⟩,
      ⟨"GRANTED", 16, 1, .ro, 0x0, false⟩,
      ⟨"SPENT", 17, 1, .ro, 0x0, false⟩]⟩,
    ⟨"LIM_TSD_THR", 0xC14, 1, 0x4, 1, 0x4, [
      ⟨"T_SD", 0, 16, .rw, 0x1680, false⟩,
      ⟨"T_HYS", 16, 16, .rw, 0x100, false⟩]⟩,
    ⟨"LIM_TSD_STEP", 0xC18, 1, 0x4, 1, 0x4, [
      ⟨"STEP", 0, 16, .rw, 0x190, false⟩,
      ⟨"KMAX", 16, 8, .rw, 0x10, false⟩]⟩,
    ⟨"LIM_TSD_STAT", 0xC1C, 1, 0x4, 1, 0x4, [
      ⟨"K", 0, 8, .ro, 0x0, false⟩]⟩,
    ⟨"LIM_PCAP_MIN", 0xC20, 1, 0x4, 1, 0x4, [
      ⟨"PCAP_MIN", 0, 16, .rw, 0x3200, false⟩]⟩,
    ⟨"LIM_BE", 0xC24, 1, 0x4, 1, 0x4, [
      ⟨"BE_MARGIN", 0, 16, .rw, 0x200, false⟩]⟩,
    ⟨"LIM_LC_BUDGET", 0xC28, 1, 0x4, 1, 0x4, [
      ⟨"BUDGET", 0, 16, .rw, 0x0, false⟩]⟩,
    ⟨"LIM_STEADY_ACT", 0xC2C, 1, 0x4, 1, 0x4, [
      ⟨"STEADY_ACT", 0, 12, .rw, 0x0, false⟩]⟩,
    ⟨"LIM_FSTEADY", 0xC30, 8, 0x4, 1, 0x4, [
      ⟨"FSTEADY_2i", 0, 16, .rw, 0x0, false⟩,
      ⟨"FSTEADY_2i1", 16, 16, .rw, 0x0, false⟩]⟩,
    ⟨"LIM_STEADY_STAT", 0xC50, 1, 0x4, 1, 0x4, [
      ⟨"ACTIVE", 0, 1, .ro, 0x0, false⟩,
      ⟨"BROKEN", 1, 1, .rw1c, 0x0, false⟩]⟩,
    ⟨"LIM_STEADY_WIN", 0xC54, 1, 0x4, 1, 0x4, [
      ⟨"W", 0, 32, .ro, 0x400, false⟩]⟩,
    ⟨"LIM_STATUS", 0xC58, 1, 0x4, 1, 0x4, [
      ⟨"REFUSED", 0, 1, .rw1c, 0x0, false⟩]⟩,
    ⟨"LIM_HARBOUR", 0xC60, 1, 0x4, 1, 0x4, [
      ⟨"HP_PCAP", 0, 16, .rwl, 0x5DC0, false⟩,
      ⟨"HP_EXC", 16, 1, .rwl, 0x0, false⟩,
      ⟨"HP_STEADY", 17, 1, .rwl, 0x0, false⟩,
      ⟨"HP_FLOORS", 18, 1, .rwl, 0x1, false⟩,
      ⟨"LOCK", 31, 1, .rwo, 0x0, false⟩]⟩]

/-- Registers of 0xD00 to 0xDFF (R120). -/
def regsBollards : List RegDef := [
    ⟨"HLIM_VCORE", 0xD00, 1, 0x4, 1, 0x4, [
      ⟨"FUSE", 0, 12, .ro, 0x0, true⟩,
      ⟨"MAX", 16, 12, .rwl, 0x0, false⟩]⟩,
    ⟨"HLIM_OC", 0xD04, 1, 0x4, 1, 0x4, [
      ⟨"FUSE", 0, 16, .ro, 0x0, true⟩,
      ⟨"MAX", 16, 16, .rwl, 0x0, false⟩]⟩,
    ⟨"HLIM_FSYN", 0xD08, 16, 0x4, 1, 0x4, [
      ⟨"FUSE", 0, 16, .ro, 0x0, true⟩,
      ⟨"MAX", 16, 16, .rwl, 0x0, false⟩]⟩,
    ⟨"HLIM_TSOFT", 0xD48, 1, 0x4, 1, 0x4, [
      ⟨"TSOFT", 0, 16, .rwl, 0x1E00, false⟩]⟩,
    ⟨"HLIM_CTRL", 0xD4C, 1, 0x4, 1, 0x4, [
      ⟨"LOCK", 0, 1, .rwo, 0x0, false⟩,
      ⟨"REFUSED", 1, 1, .rw1c, 0x0, false⟩]⟩,
    ⟨"HLIM_ACT_CNT", 0xD50, 1, 0x4, 1, 0x4, [
      ⟨"COUNT", 0, 32, .ros, 0x0, false⟩]⟩]

/-- Registers of 0xE00 to 0xFFF (R146, R150), part 1. -/
def regsSluiceA : List RegDef := [
    ⟨"FCU_CLS_ENTRY", 0xF00, 16, 0x10, 1, 0x4, [
      ⟨"ENTRY_0", 0, 4, .rw, 0x0, false⟩,
      ⟨"ENTRY_1", 4, 4, .rw, 0x0, false⟩,
      ⟨"ENTRY_2", 8, 4, .rw, 0x0, false⟩,
      ⟨"ENTRY_3", 12, 4, .rw, 0x0, false⟩,
      ⟨"ENTRY_4", 16, 4, .rw, 0x0, false⟩,
      ⟨"ENTRY_5", 20, 4, .rw, 0x0, false⟩,
      ⟨"ENTRY_6", 24, 4, .rw, 0x0, false⟩,
      ⟨"ENTRY_7", 28, 4, .rw, 0x0, false⟩]⟩,
    ⟨"FCU_CLS_CFG", 0xF04, 16, 0x10, 1, 0x4, [
      ⟨"RAILMASK", 0, 8, .rw, 0x0, false⟩,
      ⟨"PRE", 8, 8, .rw, 0x0, false⟩]⟩,
    ⟨"FCU_CLS_RISE", 0xF08, 16, 0x10, 1, 0x4, [
      ⟨"RISE0", 0, 16, .rw, 0x0, false⟩,
      ⟨"RISE1", 16, 16, .rw, 0x0, false⟩]⟩,
    ⟨"FCU_CLS_RSEL", 0xF0C, 16, 0x10, 1, 0x4, [
      ⟨"RSEL0", 0, 3, .rw, 0x0, false⟩,
      ⟨"RSEL1", 4, 3, .rw, 0x0, false⟩]⟩,
    ⟨"ASL_CFG", 0xE00, 1, 0x4, 1, 0x4, [
      ⟨"PRESS", 0, 12, .rw, 0x10, false⟩]⟩,
    ⟨"ASL_STATUS", 0xE04, 1, 0x4, 1, 0x4, [
      ⟨"REFUSED", 0, 1, .rw1c, 0x0, false⟩]⟩,
    ⟨"FCU_CFG", 0xE10, 1, 0x4, 1, 0x4, [
      ⟨"HORIZON", 0, 8, .rw, 0x4F, false⟩,
      ⟨"LEAD", 8, 8, .rw, 0x10, false⟩,
      ⟨"IN_EN", 16, 4, .rw, 0x0, false⟩,
      ⟨"OPEN_EN", 20, 1, .rw, 0x0, false⟩]⟩,
    ⟨"FCU_CONF_MAX", 0xE14, 1, 0x4, 1, 0x4, [
      ⟨"CONF_MAX", 0, 16, .rw, 0xFA0, false⟩]⟩,
    ⟨"FCU_CTRL", 0xE18, 1, 0x4, 1, 0x4, [
      ⟨"CLR", 0, 1, .trig, 0x0, false⟩]⟩,
    ⟨"FCU_LIVE", 0xE1C, 1, 0x4, 1, 0x4, [
      ⟨"LIVE", 0, 16, .ro, 0x0, false⟩,
      ⟨"LIVE_PEAK", 16, 16, .ros, 0x0, false⟩]⟩,
    ⟨"FCU_HINT_STAT", 0xE20, 1, 0x4, 1, 0x4, [
      ⟨"ACTIVE", 0, 16, .ro, 0x0, false⟩,
      ⟨"HELD", 16, 16, .ro, 0x0, false⟩]⟩,
    ⟨"FCU_STATUS", 0xE24, 1, 0x4, 1, 0x4, [
      ⟨"REFUSED", 0, 1, .rw1c, 0x0, false⟩,
      ⟨"REASON", 1, 3, .ro, 0x0, false⟩,
      ⟨"INPUT", 4, 2, .ro, 0x0, false⟩]⟩,
    ⟨"FCU_LAST_REF", 0xE28, 1, 0x4, 1, 0x4, [
      ⟨"BERTH", 0, 8, .ro, 0x0, false⟩,
      ⟨"ACCT", 8, 8, .ro, 0x0, false⟩,
      ⟨"IGID", 16, 16, .ro, 0x0, false⟩]⟩,
    ⟨"FCU_CNT_ACCEPT", 0xE40, 1, 0x4, 1, 0x4, [
      ⟨"COUNT", 0, 32, .ros, 0x0, false⟩]⟩,
    ⟨"FCU_CNT_CONFIRM", 0xE44, 1, 0x4, 1, 0x4, [
      ⟨"COUNT", 0, 32, .ros, 0x0, false⟩]⟩,
    ⟨"FCU_CNT_RETRACT", 0xE48, 1, 0x4, 1, 0x4, [
      ⟨"COUNT", 0, 32, .ros, 0x0, false⟩]⟩,
    ⟨"FCU_CNT_RELEASE", 0xE4C, 1, 0x4, 1, 0x4, [
      ⟨"COUNT", 0, 32, .ros, 0x0, false⟩]⟩,
    ⟨"FCU_CNT_EXPIRE", 0xE50, 1, 0x4, 1, 0x4, [
      ⟨"COUNT", 0, 32, .ros, 0x0, false⟩]⟩,
    ⟨"FCU_CNT_CONFEND", 0xE54, 1, 0x4, 1, 0x4, [
      ⟨"COUNT", 0, 32, .ros, 0x0, false⟩]⟩,
    ⟨"FCU_CNT_PURGE", 0xE58, 1, 0x4, 1, 0x4, [
      ⟨"COUNT", 0, 32, .ros, 0x0, false⟩]⟩,
    ⟨"FCU_CNT_REF_FULL", 0xE5C, 1, 0x4, 1, 0x4, [
      ⟨"COUNT", 0, 32, .ros, 0x0, false⟩]⟩,
    ⟨"FCU_CNT_REF_BAD", 0xE60, 1, 0x4, 1, 0x4, [
      ⟨"COUNT", 0, 32, .ros, 0x0, false⟩]⟩,
    ⟨"FCU_CNT_ORPHAN", 0xE64, 1, 0x4, 1, 0x4, [
      ⟨"COUNT", 0, 32, .ros, 0x0, false⟩]⟩,
    ⟨"FCU_CNT_DUP", 0xE68, 1, 0x4, 1, 0x4, [
      ⟨"COUNT", 0, 32, .ros, 0x0, false⟩]⟩]

/-- Registers of 0xE00 to 0xFFF (R146, R150), part 2. -/
def regsSluiceB : List RegDef := [
    ⟨"FCU_CNT_BADWORD", 0xE6C, 1, 0x4, 1, 0x4, [
      ⟨"COUNT", 0, 32, .ros, 0x0, false⟩]⟩,
    ⟨"FCU_CNT_HINT", 0xE70, 1, 0x4, 1, 0x4, [
      ⟨"COUNT", 0, 32, .ros, 0x0, false⟩]⟩,
    ⟨"FCU_RAIL_FC", 0xE80, 8, 0x4, 1, 0x4, [
      ⟨"RISE", 0, 16, .ro, 0x0, false⟩,
      ⟨"ENTRY", 16, 4, .ro, 0x0, false⟩,
      ⟨"ENTRY_VALID", 20, 1, .ro, 0x0, false⟩,
      ⟨"READY", 21, 1, .ro, 0x0, false⟩]⟩]

/-- Registers of 0x1000 to 0x3FFF (R373). -/
def regsCommands : List RegDef := [
    ⟨"CMD_REQ", 0x1000, 16, 0x200, 64, 0x4, [
      ⟨"WORD", 0, 32, .rw, 0x0, false⟩]⟩,
    ⟨"CMD_RPL", 0x1100, 16, 0x200, 64, 0x4, [
      ⟨"WORD", 0, 32, .ro, 0x0, false⟩]⟩,
    ⟨"CMD_STAT", 0x3000, 16, 0x10, 1, 0x4, [
      ⟨"TAKEN", 0, 1, .ro, 0x0, false⟩,
      ⟨"WAIT", 1, 1, .ro, 0x0, false⟩,
      ⟨"RDY", 2, 1, .rw1c, 0x0, false⟩,
      ⟨"DUP", 3, 1, .ro, 0x0, false⟩,
      ⟨"OVR", 4, 1, .rw1c, 0x0, false⟩,
      ⟨"CRC_FAIL", 5, 1, .rw1c, 0x0, false⟩,
      ⟨"STARTED", 6, 1, .ro, 0x0, false⟩,
      ⟨"LAST_SEQ", 16, 16, .ro, 0x0, false⟩]⟩,
    ⟨"CMD_CTRL", 0x3004, 16, 0x10, 1, 0x4, [
      ⟨"ABORT", 0, 1, .trig, 0x0, false⟩,
      ⟨"CLEAR", 1, 1, .trig, 0x0, false⟩]⟩,
    ⟨"CMD_CNT_CRC", 0x3008, 16, 0x10, 1, 0x4, [
      ⟨"COUNT", 0, 32, .ros, 0x0, false⟩]⟩,
    ⟨"CMD_CNT_TAKEN", 0x300C, 16, 0x10, 1, 0x4, [
      ⟨"COUNT", 0, 32, .ros, 0x0, false⟩]⟩,
    ⟨"CMD_CFG", 0x3100, 1, 0x4, 1, 0x4, [
      ⟨"WAIT_TMO", 0, 16, .rw, 0x64, false⟩,
      ⟨"CLR", 16, 1, .trig, 0x0, false⟩]⟩,
    ⟨"CMD_SUMMARY", 0x3104, 1, 0x4, 1, 0x4, [
      ⟨"RDY", 0, 16, .ro, 0x0, false⟩,
      ⟨"TAKEN", 16, 16, .ro, 0x0, false⟩]⟩,
    ⟨"CMD_IRQ_EN", 0x3108, 1, 0x4, 1, 0x4, [
      ⟨"EN", 0, 16, .rw, 0xFFFF, false⟩]⟩,
    ⟨"FENCE_STATE", 0x3800, 128, 0x4, 1, 0x4, [
      ⟨"SIG", 0, 32, .ro, 0x0, false⟩]⟩]

/-- Registers of 0x4000 to 0x5FFF (R290). -/
def regsStamps : List RegDef := [
    ⟨"IDL_STAMP", 0x4000, 512, 0x10, 4, 0x4, [
      ⟨"W", 0, 32, .ro, 0x0, false⟩]⟩]

/-- Registers of 0x10000 to 0x1FFFF (R85). -/
def regsSlots : List RegDef := [
    ⟨"LS_CTRL", 0x10000, 1024, 0x40, 1, 0x4, [
      ⟨"EN", 0, 1, .rw, 0x0, false⟩,
      ⟨"DEST", 1, 3, .rw, 0x0, false⟩,
      ⟨"LAW", 4, 6, .rw, 0x0, false⟩,
      ⟨"TARGET", 16, 8, .rw, 0x0, false⟩,
      ⟨"KIND", 24, 8, .rw, 0x0, false⟩]⟩,
    ⟨"LS_FB", 0x10004, 1024, 0x40, 1, 0x4, [
      ⟨"FB_PRI", 0, 16, .rw, 0x0, false⟩,
      ⟨"FB_SEC", 16, 16, .rw, 0x0, false⟩]⟩,
    ⟨"LS_SP", 0x10008, 1024, 0x40, 1, 0x4, [
      ⟨"SP", 0, 32, .rw, 0x0, false⟩]⟩,
    ⟨"LS_FBSCALE", 0x1000C, 1024, 0x40, 1, 0x4, [
      ⟨"FBSCALE", 0, 32, .rw, 0x10000, false⟩]⟩,
    ⟨"LS_P0", 0x10010, 1024, 0x40, 1, 0x4, [
      ⟨"P0", 0, 32, .rw, 0x0, false⟩]⟩,
    ⟨"LS_P1", 0x10014, 1024, 0x40, 1, 0x4, [
      ⟨"P1", 0, 32, .rw, 0x0, false⟩]⟩,
    ⟨"LS_P2", 0x10018, 1024, 0x40, 1, 0x4, [
      ⟨"P2", 0, 32, .rw, 0x0, false⟩]⟩,
    ⟨"LS_P3", 0x1001C, 1024, 0x40, 1, 0x4, [
      ⟨"P3", 0, 32, .rw, 0x0, false⟩]⟩,
    ⟨"LS_ULO", 0x10020, 1024, 0x40, 1, 0x4, [
      ⟨"ULO", 0, 32, .rw, 0x0, false⟩]⟩,
    ⟨"LS_UHI", 0x10024, 1024, 0x40, 1, 0x4, [
      ⟨"UHI", 0, 32, .rw, 0x10000, false⟩]⟩,
    ⟨"LS_OUT", 0x10028, 1024, 0x40, 1, 0x4, [
      ⟨"OUT", 0, 32, .ro, 0x0, false⟩]⟩,
    ⟨"LS_S1", 0x1002C, 1024, 0x40, 1, 0x4, [
      ⟨"S1", 0, 32, .rw, 0x0, false⟩]⟩,
    ⟨"LS_S0_LO", 0x10030, 1024, 0x40, 1, 0x4, [
      ⟨"S0", 0, 32, .rw, 0x0, false⟩]⟩,
    ⟨"LS_S0_HI", 0x10034, 1024, 0x40, 1, 0x4, [
      ⟨"S0", 0, 16, .rw, 0x0, false⟩]⟩,
    ⟨"LS_OVR_CNT", 0x10038, 1024, 0x40, 1, 0x4, [
      ⟨"OVR_CNT", 0, 32, .ros, 0x0, false⟩]⟩,
    ⟨"LS_STAT", 0x1003C, 1024, 0x40, 1, 0x4, [
      ⟨"WON", 0, 1, .ro, 0x0, false⟩,
      ⟨"SATO", 1, 1, .ro, 0x0, false⟩,
      ⟨"SATA", 2, 1, .ro, 0x0, false⟩,
      ⟨"LOST", 3, 1, .ro, 0x0, false⟩,
      ⟨"STALE_IN", 4, 1, .ro, 0x0, false⟩,
      ⟨"OVR", 8, 1, .rw1c, 0x0, false⟩,
      ⟨"SAT", 9, 1, .rw1c, 0x0, false⟩,
      ⟨"REFUSED", 10, 1, .rw1c, 0x0, false⟩]⟩]

/-- Registers of 0x20000 to 0x23FFF (R383). -/
def regsBerths : List RegDef := [
    ⟨"BT_CFG", 0x20000, 256, 0x40, 1, 0x4, [
      ⟨"PRESENT", 0, 1, .rwl, 0x0, true⟩,
      ⟨"RAIL", 1, 3, .rwl, 0x0, true⟩,
      ⟨"REGION", 4, 4, .rwl, 0x0, true⟩,
      ⟨"RETIRING", 8, 1, .ro, 0x0, false⟩]⟩,
    ⟨"BT_PEAK_CNT", 0x20004, 256, 0x40, 1, 0x4, [
      ⟨"PEAK_CNT", 0, 16, .rwl, 0x0, true⟩]⟩,
    ⟨"BT_WIN", 0x20008, 256, 0x40, 1, 0x4, [
      ⟨"W", 0, 32, .ro, 0x400, false⟩]⟩,
    ⟨"BT_ACT", 0x2000C, 256, 0x40, 1, 0x4, [
      ⟨"ACT", 0, 12, .ro, 0x0, false⟩,
      ⟨"GAVG", 16, 12, .ro, 0x0, false⟩]⟩,
    ⟨"BT_SLOPE", 0x20010, 256, 0x40, 1, 0x4, [
      ⟨"UP", 0, 12, .rw, 0x1, false⟩,
      ⟨"DN", 16, 12, .rw, 0x1, false⟩]⟩,
    ⟨"BT_OPEN", 0x20014, 256, 0x40, 1, 0x4, [
      ⟨"UP_OPEN", 0, 12, .rw, 0x1, false⟩,
      ⟨"HEAD", 16, 12, .rw, 0x40, false⟩]⟩,
    ⟨"BT_GATE", 0x20018, 256, 0x40, 1, 0x4, [
      ⟨"GATE", 0, 12, .ro, 0x0, false⟩,
      ⟨"TARGET", 16, 12, .ro, 0x0, false⟩,
      ⟨"STARTED", 28, 1, .ro, 0x0, false⟩,
      ⟨"OPENSLOPE", 29, 1, .ro, 0x0, false⟩]⟩,
    ⟨"BT_FCU", 0x2001C, 256, 0x40, 1, 0x4, [
      ⟨"RSUM", 0, 12, .ro, 0x0, false⟩,
      ⟨"RCNT", 16, 16, .ro, 0x0, false⟩]⟩,
    ⟨"BT_IPEAK", 0x20020, 256, 0x40, 1, 0x4, [
      ⟨"IPEAK", 0, 16, .rw, 0x0, false⟩]⟩,
    ⟨"BT_MODEL", 0x20024, 256, 0x40, 1, 0x4, [
      ⟨"CEFF_TBL", 0, 6, .rw, 0x0, false⟩,
      ⟨"LEAKV_TBL", 8, 6, .rw, 0x0, false⟩,
      ⟨"LEAKT_TBL", 16, 6, .rw, 0x0, false⟩,
      ⟨"MODEL_EN", 24, 1, .rw, 0x0, false⟩]⟩,
    ⟨"BT_NAME0", 0x20028, 256, 0x40, 1, 0x4, [
      ⟨"NAME", 0, 32, .rwl, 0x0, false⟩]⟩,
    ⟨"BT_NAME1", 0x2002C, 256, 0x40, 1, 0x4, [
      ⟨"NAME", 0, 32, .rwl, 0x0, false⟩]⟩,
    ⟨"BT_ACCT", 0x20030, 256, 0x40, 1, 0x4, [
      ⟨"ACCT", 0, 8, .ro, 0x0, false⟩,
      ⟨"CLS", 8, 1, .ro, 0x0, false⟩,
      ⟨"QUAR", 9, 1, .ro, 0x0, false⟩,
      ⟨"VIOL", 10, 1, .ro, 0x0, false⟩]⟩,
    ⟨"BT_POWER", 0x20034, 256, 0x40, 1, 0x4, [
      ⟨"PW", 0, 16, .ro, 0x0, false⟩,
      ⟨"PL", 16, 16, .ro, 0x0, false⟩]⟩,
    ⟨"BT_CEIL", 0x20038, 256, 0x40, 1, 0x4, [
      ⟨"CEIL", 0, 12, .ro, 0x0, false⟩,
      ⟨"FLOOR", 16, 12, .ro, 0x0, false⟩]⟩,
    ⟨"", 0x2003C, 256, 0x40, 1, 0x4, []⟩]

/-- Registers of 0x24000 to 0x27FFF (R206, R207, R208), part 1. -/
def regsRegulatorA : List RegDef := [
    ⟨"REG_TB", 0x24000, 1, 0x4, 1, 0x4, [
      ⟨"FSW_KHZ", 0, 12, .rw, 0x3E8, false⟩]⟩,
    ⟨"REG_SYNC", 0x24004, 1, 0x4, 1, 0x4, [
      ⟨"SYNC_EN", 0, 1, .rw, 0x0, false⟩,
      ⟨"SYNC_PH", 8, 8, .rw, 0x0, false⟩]⟩,
    ⟨"REG_TB_STAT", 0x24008, 1, 0x4, 1, 0x4, [
      ⟨"PER_EFF", 0, 18, .ro, 0xC800, false⟩,
      ⟨"SYNC_VALID", 24, 1, .ro, 0x0, false⟩,
      ⟨"SYNC_LOCK", 25, 1, .ro, 0x0, false⟩,
      ⟨"SYNC_LOST", 26, 1, .rw1c, 0x0, false⟩,
      ⟨"REFUSED", 27, 1, .rw1c, 0x0, false⟩]⟩,
    ⟨"REG_SYNC_CNT", 0x2400C, 1, 0x4, 1, 0x4, [
      ⟨"COUNT", 0, 32, .ros, 0x0, false⟩]⟩,
    ⟨"REG_VIN_GAIN", 0x24010, 1, 0x4, 1, 0x4, [
      ⟨"VIN_GAIN", 0, 32, .rw, 0x3E800, false⟩]⟩,
    ⟨"REG_VIN_OFS", 0x24014, 1, 0x4, 1, 0x4, [
      ⟨"VIN_OFS", 0, 32, .rw, 0x0, false⟩]⟩,
    ⟨"REG_VIN_CFG", 0x24018, 1, 0x4, 1, 0x4, [
      ⟨"FF_EN", 0, 1, .rw, 0x1, false⟩,
      ⟨"VIN_NOM", 16, 16, .rw, 0x2EE0, false⟩]⟩,
    ⟨"REG_VIN", 0x2401C, 1, 0x4, 1, 0x4, [
      ⟨"VIN", 0, 32, .ro, 0x0, false⟩]⟩,
    ⟨"REG_PIN", 0x24020, 1, 0x4, 1, 0x4, [
      ⟨"PIN", 0, 16, .ro, 0x0, false⟩,
      ⟨"PFIXED", 16, 16, .rw, 0x0, false⟩]⟩,
    ⟨"REG_CTRL", 0x24024, 1, 0x4, 1, 0x4, [
      ⟨"CLR", 0, 1, .trig, 0x0, false⟩]⟩,
    ⟨"", 0x24028, 54, 0x4, 1, 0x4, []⟩,
    ⟨"RAIL_CTRL", 0x24100, 8, 0x100, 1, 0x4, [
      ⟨"EN", 0, 1, .rw, 0x0, false⟩,
      ⟨"RDIV", 1, 2, .rw, 0x0, false⟩,
      ⟨"RPH", 8, 8, .rw, 0x0, false⟩,
      ⟨"VF_TBL", 16, 6, .rw, 0x0, false⟩,
      ⟨"EFF_TBL", 22, 6, .rw, 0x0, false⟩,
      ⟨"COMMIT", 31, 1, .trig, 0x0, false⟩]⟩,
    ⟨"RAIL_STATE", 0x24104, 8, 0x100, 1, 0x4, [
      ⟨"STATE", 0, 3, .ro, 0x0, false⟩,
      ⟨"FSTOP", 3, 1, .ro, 0x0, false⟩,
      ⟨"PEND", 4, 1, .ro, 0x0, false⟩,
      ⟨"REACHED", 5, 1, .ro, 0x0, false⟩,
      ⟨"INWIN", 6, 1, .ro, 0x0, false⟩,
      ⟨"TGT_ENTRY", 8, 4, .ro, 0x0, false⟩,
      ⟨"RCH_ENTRY", 12, 4, .ro, 0x0, false⟩,
      ⟨"N_ACT", 16, 7, .ro, 0x0, false⟩,
      ⟨"N_REQ", 24, 7, .ro, 0x0, false⟩]⟩,
    ⟨"RAIL_FLAGS", 0x24108, 8, 0x100, 1, 0x4, [
      ⟨"NEED_HI", 0, 1, .ro, 0x0, false⟩,
      ⟨"OL", 1, 1, .ro, 0x0, false⟩,
      ⟨"READY", 2, 1, .ro, 0x0, false⟩,
      ⟨"OL_SEEN", 8, 1, .rw1c, 0x0, false⟩,
      ⟨"WIN_LOST", 9, 1, .rw1c, 0x0, false⟩,
      ⟨"REFUSED", 10, 1, .rw1c, 0x0, false⟩]⟩,
    ⟨"RAIL_SEL", 0x2410C, 8, 0x100, 1, 0x4, [
      ⟨"ENTRY_MAX", 0, 4, .rw, 0xF, false⟩,
      ⟨"OL_ENTRY", 4, 4, .rw, 0x0, false⟩,
      ⟨"FORCE_ENTRY", 8, 4, .rw, 0x0, false⟩,
      ⟨"FORCE_EN", 12, 1, .rw, 0x0, false⟩]⟩,
    ⟨"RAIL_ENTRY", 0x24110, 8, 0x100, 8, 0x4, [
      ⟨"ENTRY_2i", 0, 12, .rw, 0x0, true⟩,
      ⟨"ENTRY_2i1", 16, 12, .rw, 0x0, true⟩]⟩,
    ⟨"RAIL_SLEW", 0x24130, 8, 0x100, 1, 0x4, [
      ⟨"SLEW_UP", 0, 12, .rw, 0x50, false⟩,
      ⟨"SLEW_DN", 16, 12, .rw, 0x50, false⟩]⟩,
    ⟨"RAIL_RAMP", 0x24134, 8, 0x100, 1, 0x4, [
      ⟨"ON_RAMP", 0, 12, .rw, 0x8, false⟩,
      ⟨"OFF_RAMP", 16, 12, .rw, 0x8, false⟩]⟩,
    ⟨"RAIL_DLY", 0x24138, 8, 0x100, 1, 0x4, [
      ⟨"ON_DLY", 0, 16, .rw, 0x0, false⟩,
      ⟨"OFF_DLY", 16, 16, .rw, 0x0, false⟩]⟩,
    ⟨"RAIL_STOP", 0x2413C, 8, 0x100, 1, 0x4, [
      ⟨"STOP_MV", 0, 12, .rw, 0x190, false⟩,
      ⟨"T_DIS", 16, 16, .rw, 0x3E8, false⟩]⟩,
    ⟨"RAIL_WIN", 0x24140, 8, 0x100, 1, 0x4, [
      ⟨"UV_WIN", 0, 8, .rw, 0xC, false⟩,
      ⟨"OV_WIN", 8, 8, .rw, 0xC, false⟩,
      ⟨"PG_DLY", 16, 16, .rw, 0x64, false⟩]⟩,
    ⟨"RAIL_B", 0x24144, 8, 0x100, 4, 0x4, [
      ⟨"B", 0, 32, .rw, 0x0, false⟩]⟩,
    ⟨"RAIL_C1", 0x24154, 8, 0x100, 1, 0x4, [
      ⟨"C1", 0, 32, .rw, 0x0, false⟩]⟩,
    ⟨"RAIL_C2", 0x24158, 8, 0x100, 1, 0x4, [
      ⟨"C2", 0, 32, .rw, 0x0, false⟩]⟩]

/-- Registers of 0x24000 to 0x27FFF (R206, R207, R208), part 2. -/
def regsRegulatorB : List RegDef := [
    ⟨"RAIL_VC_LO", 0x2415C, 8, 0x100, 1, 0x4, [
      ⟨"VC_LO", 0, 32, .rw, 0x0, false⟩]⟩,
    ⟨"RAIL_VC_HI", 0x24160, 8, 0x100, 1, 0x4, [
      ⟨"VC_HI", 0, 32, .rw, 0x0, false⟩]⟩,
    ⟨"RAIL_DUTY", 0x24164, 8, 0x100, 1, 0x4, [
      ⟨"DMAX", 0, 16, .rw, 0x8000, false⟩,
      ⟨"TON_MIN", 16, 16, .rw, 0x600, false⟩]⟩,
    ⟨"RAIL_SHED", 0x24168, 8, 0x100, 1, 0x4, [
      ⟨"NPH_MIN", 0, 7, .rw, 0x1, false⟩,
      ⟨"SHED_EN", 7, 1, .rw, 0x0, false⟩,
      ⟨"NPH_READY", 8, 7, .rw, 0x1, false⟩,
      ⟨"UTIL", 16, 8, .rw, 0xC0, false⟩,
      ⟨"SHED_HOLD", 24, 8, .rw, 0x8, false⟩]⟩,
    ⟨"RAIL_IPH", 0x2416C, 8, 0x100, 1, 0x4, [
      ⟨"IPH_CAP", 0, 16, .rw, 0x230, false⟩,
      ⟨"IMB_THR", 16, 16, .rw, 0x50, false⟩]⟩,
    ⟨"RAIL_OL", 0x24170, 8, 0x100, 1, 0x4, [
      ⟨"ILIM_SLOW", 0, 16, .rw, 0xFFFF, false⟩,
      ⟨"OL_WIN", 16, 7, .rw, 0xA, false⟩]⟩,
    ⟨"RAIL_KVIN", 0x24174, 8, 0x100, 1, 0x4, [
      ⟨"KVIN", 0, 32, .rw, 0x0, false⟩]⟩,
    ⟨"RAIL_TELE", 0x24178, 8, 0x100, 1, 0x4, [
      ⟨"VOUT", 0, 12, .ro, 0x0, false⟩,
      ⟨"IOUT", 16, 16, .ro, 0x0, false⟩]⟩,
    ⟨"RAIL_POUT", 0x2417C, 8, 0x100, 1, 0x4, [
      ⟨"POUT", 0, 16, .ro, 0x0, false⟩,
      ⟨"IOL_MEAN", 16, 16, .ro, 0x0, false⟩]⟩,
    ⟨"RAIL_VCMD", 0x24180, 8, 0x100, 1, 0x4, [
      ⟨"VCMD", 0, 32, .ro, 0x0, false⟩]⟩,
    ⟨"RAIL_CNT_SHED", 0x24184, 8, 0x100, 1, 0x4, [
      ⟨"COUNT", 0, 32, .ros, 0x0, false⟩]⟩,
    ⟨"RAIL_CNT_ABORT", 0x24188, 8, 0x100, 1, 0x4, [
      ⟨"COUNT", 0, 32, .ros, 0x0, false⟩]⟩,
    ⟨"RAIL_CNT_OL", 0x2418C, 8, 0x100, 1, 0x4, [
      ⟨"COUNT", 0, 32, .ros, 0x0, false⟩]⟩,
    ⟨"", 0x24190, 8, 0x100, 28, 0x4, []⟩,
    ⟨"PH_CTRL", 0x24900, 64, 0x20, 1, 0x4, [
      ⟨"RAIL", 0, 3, .rw, 0x0, false⟩,
      ⟨"ASSIGNED", 3, 1, .rw, 0x0, false⟩,
      ⟨"ORDER", 4, 6, .rw, 0x0, false⟩,
      ⟨"OOS", 16, 1, .rw, 0x0, false⟩]⟩,
    ⟨"PH_CAL", 0x24904, 64, 0x20, 1, 0x4, [
      ⟨"OFS", 0, 12, .rw, 0x0, false⟩,
      ⟨"GAIN", 16, 16, .rw, 0x780, false⟩]⟩,
    ⟨"PH_OCF", 0x24908, 64, 0x20, 1, 0x4, [
      ⟨"OCF", 0, 16, .rw, 0x0, false⟩,
      ⟨"OCF_N", 16, 4, .rw, 0x8, false⟩]⟩,
    ⟨"PH_I", 0x2490C, 64, 0x20, 1, 0x4, [
      ⟨"IAVG", 0, 16, .ro, 0x0, false⟩,
      ⟨"IPK", 16, 16, .ros, 0x0, false⟩]⟩,
    ⟨"PH_STAT", 0x24910, 64, 0x20, 1, 0x4, [
      ⟨"ACTIVE", 0, 1, .ro, 0x0, false⟩,
      ⟨"SHEDDING", 1, 1, .ro, 0x0, false⟩,
      ⟨"OC_NOW", 2, 1, .ro, 0x0, false⟩,
      ⟨"PFAULT", 8, 1, .rw1c, 0x0, false⟩,
      ⟨"IMB", 9, 1, .rw1c, 0x0, false⟩,
      ⟨"REFUSED", 10, 1, .rw1c, 0x0, false⟩]⟩,
    ⟨"PH_CNT_OC", 0x24914, 64, 0x20, 1, 0x4, [
      ⟨"COUNT", 0, 32, .ros, 0x0, false⟩]⟩,
    ⟨"", 0x24918, 64, 0x20, 2, 0x4, []⟩]

/-- Registers of 0x28000 to 0x2FFFF (R175). -/
def regsClocks : List RegDef := [
    ⟨"FSYN_CTRL", 0x28000, 16, 0x20, 1, 0x4, [
      ⟨"EN", 0, 1, .rw, 0x0, false⟩,
      ⟨"MODE", 1, 1, .rw, 0x0, false⟩]⟩,
    ⟨"FSYN_MAN", 0x28004, 16, 0x20, 1, 0x4, [
      ⟨"MAN", 0, 16, .rw, 0xC8, false⟩]⟩,
    ⟨"FSYN_GLIDE", 0x28008, 16, 0x20, 1, 0x4, [
      ⟨"GUP", 0, 8, .rw, 0x20, false⟩,
      ⟨"GDN", 8, 8, .rw, 0x40, false⟩]⟩,
    ⟨"FSYN_FREQ", 0x2800C, 16, 0x20, 1, 0x4, [
      ⟨"CUR", 0, 16, .ro, 0x0, false⟩,
      ⟨"TGT", 16, 16, .ro, 0x0, false⟩]⟩,
    ⟨"FSYN_STAT", 0x28010, 16, 0x20, 1, 0x4, [
      ⟨"LOCK", 0, 1, .ro, 0x0, false⟩,
      ⟨"GLIDE", 1, 1, .ro, 0x0, false⟩,
      ⟨"HELD", 2, 1, .ro, 0x0, false⟩,
      ⟨"COAST", 3, 1, .ro, 0x0, false⟩,
      ⟨"FLOOR", 4, 1, .ro, 0x0, false⟩,
      ⟨"REF_LOST", 8, 1, .rw1c, 0x0, false⟩,
      ⟨"CLAMP", 9, 1, .rw1c, 0x0, false⟩,
      ⟨"REFUSED", 10, 1, .rw1c, 0x0, false⟩]⟩,
    ⟨"FSYN_CNT_COAST", 0x28014, 16, 0x20, 1, 0x4, [
      ⟨"COUNT", 0, 32, .ros, 0x0, false⟩]⟩,
    ⟨"", 0x28018, 16, 0x20, 2, 0x4, []⟩,
    ⟨"DRP_RGN_MUX", 0x28200, 16, 0x20, 1, 0x4, [
      ⟨"SEL", 0, 2, .rw, 0x2, false⟩,
      ⟨"ALT", 4, 4, .rw, 0x0, false⟩,
      ⟨"FB_SEL", 8, 2, .rw, 0x2, false⟩,
      ⟨"FB_SYN", 12, 4, .rw, 0x0, false⟩,
      ⟨"BUSY", 16, 1, .ro, 0x0, false⟩,
      ⟨"HANG", 17, 1, .rw1c, 0x0, false⟩,
      ⟨"REFUSED", 18, 1, .rw1c, 0x0, false⟩,
      ⟨"FORCE", 24, 1, .trig, 0x0, false⟩]⟩,
    ⟨"DRP_RGN_FMAX", 0x28204, 16, 0x20, 1, 0x4, [
      ⟨"FMAX", 0, 16, .rw, 0xC8, false⟩]⟩,
    ⟨"DRP_RGN_STR", 0x28208, 16, 0x20, 1, 0x4, [
      ⟨"DEPTH0", 0, 4, .rw, 0x4, false⟩,
      ⟨"DEPTH_MAX", 4, 4, .rw, 0x8, false⟩,
      ⟨"HOLD", 8, 8, .rw, 0x2, false⟩,
      ⟨"RLS", 16, 8, .rw, 0x5, false⟩,
      ⟨"EN", 24, 1, .rw, 0x1, false⟩]⟩,
    ⟨"DRP_RGN_STAT", 0x2820C, 16, 0x20, 1, 0x4, [
      ⟨"DEPTH", 0, 4, .ro, 0x0, false⟩,
      ⟨"OPEN", 4, 1, .ro, 0x0, false⟩,
      ⟨"STR_SMP", 5, 1, .ro, 0x0, false⟩,
      ⟨"PRESENT", 6, 1, .ro, 0x0, false⟩,
      ⟨"FIRST_DET", 8, 8, .ro, 0x0, false⟩]⟩,
    ⟨"DRP_RGN_EPI", 0x28210, 16, 0x20, 1, 0x4, [
      ⟨"COUNT", 0, 32, .ros, 0x0, false⟩]⟩,
    ⟨"DRP_RGN_STIME_LO", 0x28214, 16, 0x20, 1, 0x4, [
      ⟨"STIME", 0, 32, .ros, 0x0, false⟩]⟩,
    ⟨"DRP_RGN_STIME_HI", 0x28218, 16, 0x20, 1, 0x4, [
      ⟨"STIME", 0, 32, .ros, 0x0, false⟩]⟩,
    ⟨"", 0x2821C, 16, 0x20, 1, 0x4, []⟩,
    ⟨"DRP_DET_CFG", 0x28400, 256, 0x4, 1, 0x4, [
      ⟨"THR", 0, 6, .rw, 0x8, false⟩,
      ⟨"RAIL", 8, 3, .rw, 0x0, false⟩,
      ⟨"REGION", 12, 4, .rw, 0x0, false⟩,
      ⟨"EN", 16, 1, .rw, 0x0, false⟩,
      ⟨"CROSS", 17, 1, .ro, 0x0, false⟩]⟩,
    ⟨"DRP_DET_CNT", 0x28800, 256, 0x4, 1, 0x4, [
      ⟨"COUNT", 0, 32, .ros, 0x0, false⟩]⟩,
    ⟨"DRP_CFG", 0x28C00, 1, 0x4, 1, 0x4, [
      ⟨"AUTO_FORCE", 0, 1, .rw, 0x0, false⟩]⟩,
    ⟨"DRP_CTRL", 0x28C04, 1, 0x4, 1, 0x4, [
      ⟨"CLR", 0, 1, .trig, 0x0, false⟩]⟩,
    ⟨"DRP_CLKMON", 0x28C08, 1, 0x4, 1, 0x4, [
      ⟨"FSYN_PRESENT", 0, 16, .ro, 0x0, false⟩,
      ⟨"REF_PRESENT", 16, 1, .ro, 0x0, false⟩,
      ⟨"MARK_PRESENT", 17, 1, .ro, 0x0, false⟩]⟩,
    ⟨"DRP_OSC_TRIM", 0x28C0C, 1, 0x4, 1, 0x4, [
      ⟨"TRIM", 0, 7, .ro, 0x0, true⟩,
      ⟨"SRC", 8, 2, .rw, 0x3, false⟩,
      ⟨"TRIMMED", 12, 1, .ro, 0x0, false⟩,
      ⟨"USED_REF", 13, 1, .ro, 0x0, false⟩,
      ⟨"USED_MARK", 14, 1, .ro, 0x0, false⟩]⟩,
    ⟨"DRP_STATUS", 0x28C10, 1, 0x4, 1, 0x4, [
      ⟨"REFUSED", 0, 1, .rw1c, 0x0, false⟩]⟩,
    ⟨"", 0x28C14, 3, 0x4, 1, 0x4, []⟩]

/-- Registers of 0x30000 to 0x3FFFF (R233, R234, R235), part 1. -/
def regsSensingA : List RegDef := [
    ⟨"SNS_T_VAL", 0x30000, 384, 0x10, 1, 0x4, [
      ⟨"VAL", 0, 16, .ro, 0x0, false⟩,
      ⟨"STALE", 16, 1, .ro, 0x0, false⟩,
      ⟨"SUBST", 17, 1, .ro, 0x0, false⟩,
      ⟨"NA", 18, 1, .ro, 0x0, false⟩,
      ⟨"FAIL", 19, 1, .ro, 0x0, false⟩,
      ⟨"STALE_CNT", 20, 3, .ro, 0x0, false⟩,
      ⟨"RCNT", 24, 5, .ro, 0x0, false⟩,
      ⟨"BROKEN", 30, 1, .rw1c, 0x0, false⟩]⟩,
    ⟨"SNS_P_VAL", 0x31800, 128, 0x10, 1, 0x4, [
      ⟨"VAL", 0, 16, .ro, 0x0, false⟩,
      ⟨"STALE", 16, 1, .ro, 0x0, false⟩,
      ⟨"SUBST", 17, 1, .ro, 0x0, false⟩,
      ⟨"NA", 18, 1, .ro, 0x0, false⟩,
      ⟨"FAIL", 19, 1, .ro, 0x0, false⟩,
      ⟨"STALE_CNT", 20, 3, .ro, 0x0, false⟩,
      ⟨"RCNT", 24, 5, .ro, 0x0, false⟩,
      ⟨"BROKEN", 30, 1, .rw1c, 0x0, false⟩]⟩,
    ⟨"SNS_H_VAL", 0x32000, 16, 0x10, 1, 0x4, [
      ⟨"VAL", 0, 16, .ro, 0x0, false⟩,
      ⟨"STALE", 16, 1, .ro, 0x0, false⟩,
      ⟨"SUBST", 17, 1, .ro, 0x0, false⟩,
      ⟨"NA", 18, 1, .ro, 0x0, false⟩,
      ⟨"FAIL", 19, 1, .ro, 0x0, false⟩,
      ⟨"STALE_CNT", 20, 3, .ro, 0x0, false⟩,
      ⟨"RCNT", 24, 5, .ro, 0x0, false⟩,
      ⟨"BROKEN", 30, 1, .rw1c, 0x0, false⟩]⟩,
    ⟨"SNS_T_RAW", 0x30004, 384, 0x10, 1, 0x4, [
      ⟨"RAW", 0, 16, .ro, 0x0, false⟩,
      ⟨"RESID", 16, 16, .ro, 0x0, false⟩]⟩,
    ⟨"SNS_P_RAW", 0x31804, 128, 0x10, 1, 0x4, [
      ⟨"RAW", 0, 16, .ro, 0x0, false⟩,
      ⟨"RESID", 16, 16, .ro, 0x0, false⟩]⟩,
    ⟨"SNS_H_RAW", 0x32004, 16, 0x10, 1, 0x4, [
      ⟨"RAW", 0, 16, .ro, 0x0, false⟩,
      ⟨"RESID", 16, 16, .ro, 0x0, false⟩]⟩,
    ⟨"SNS_T_CFG", 0x30008, 384, 0x10, 1, 0x4, [
      ⟨"EN", 0, 1, .rw, 0x1, false⟩,
      ⟨"NOGRP", 1, 1, .rw, 0x1, false⟩,
      ⟨"GRP", 8, 8, .rw, 0x0, false⟩,
      ⟨"BAND", 16, 8, .rw, 0x14, false⟩,
      ⟨"NB_OFS", 24, 8, .rw, 0x0, false⟩]⟩,
    ⟨"SNS_P_CFG", 0x31808, 128, 0x10, 1, 0x4, [
      ⟨"EN", 0, 1, .rw, 0x1, false⟩,
      ⟨"NOGRP", 1, 1, .rw, 0x1, false⟩,
      ⟨"GRP_RAIL", 8, 3, .rw, 0x0, false⟩,
      ⟨"GRP_REGION", 12, 4, .rw, 0x0, false⟩,
      ⟨"BAND", 16, 8, .rw, 0x14, false⟩,
      ⟨"NB_OFS", 24, 8, .rw, 0x0, false⟩]⟩,
    ⟨"SNS_H_CFG", 0x32008, 16, 0x10, 1, 0x4, [
      ⟨"EN", 0, 1, .rw, 0x0, false⟩,
      ⟨"NOGRP", 1, 1, .rw, 0x1, false⟩,
      ⟨"GRP", 8, 8, .rw, 0x0, false⟩,
      ⟨"BAND", 16, 8, .rw, 0x14, false⟩,
      ⟨"NB_OFS", 24, 8, .rw, 0x0, false⟩]⟩,
    ⟨"SNS_T_NB", 0x3000C, 384, 0x10, 1, 0x4, [
      ⟨"NB0", 0, 9, .rw, 0x1FF, false⟩,
      ⟨"NB1", 9, 9, .rw, 0x1FF, false⟩,
      ⟨"NB2", 18, 9, .rw, 0x1FF, false⟩]⟩,
    ⟨"SNS_P_NB", 0x3180C, 128, 0x10, 1, 0x4, [
      ⟨"NB0", 0, 9, .rw, 0x1FF, false⟩,
      ⟨"NB1", 9, 9, .rw, 0x1FF, false⟩,
      ⟨"NB2", 18, 9, .rw, 0x1FF, false⟩]⟩,
    ⟨"SNS_HBM_WR", 0x3200C, 16, 0x10, 1, 0x4, [
      ⟨"TEMP", 0, 16, .rw, 0x0, false⟩,
      ⟨"TMO", 16, 16, .rw, 0x3E8, false⟩]⟩,
    ⟨"SNS_PH_STAT", 0x32100, 64, 0x8, 1, 0x4, [
      ⟨"STALE", 0, 1, .ro, 0x0, false⟩,
      ⟨"SUBST", 1, 1, .ro, 0x0, false⟩,
      ⟨"STALE_CNT", 2, 3, .ro, 0x0, false⟩,
      ⟨"RCNT", 8, 5, .ro, 0x0, false⟩,
      ⟨"BROKEN", 14, 1, .rw1c, 0x0, false⟩,
      ⟨"RESID", 16, 16, .ro, 0x0, false⟩]⟩,
    ⟨"SNS_PH_CFG", 0x32104, 64, 0x8, 1, 0x4, [
      ⟨"EN", 0, 1, .rw, 0x1, false⟩,
      ⟨"BAND", 16, 16, .rw, 0xA0, false⟩]⟩,
    ⟨"SNS_RS_STAT", 0x32300, 8, 0x10, 1, 0x4, [
      ⟨"RCNT", 8, 5, .ro, 0x0, false⟩,
      ⟨"BROKEN", 14, 1, .rw1c, 0x0, false⟩,
      ⟨"RESID", 16, 16, .ro, 0x0, false⟩]⟩,
    ⟨"SNS_RS_CFG", 0x32304, 8, 0x10, 1, 0x4, [
      ⟨"BAND", 8, 8, .rw, 0x14, false⟩,
      ⟨"RLL", 16, 16, .rw, 0x0, false⟩]⟩,
    ⟨"", 0x32308, 8, 0x10, 2, 0x4, []⟩,
    ⟨"SNS_DET_STAT", 0x32400, 256, 0x4, 1, 0x4, [
      ⟨"BROKEN", 0, 1, .rw1c, 0x0, false⟩]⟩,
    ⟨"SNS_ACT_STAT", 0x32800, 256, 0x4, 1, 0x4, [
      ⟨"STALE", 0, 1, .ro, 0x0, false⟩,
      ⟨"STALE_CNT", 1, 3, .ro, 0x0, false⟩,
      ⟨"RCNT", 4, 5, .ro, 0x0, false⟩,
      ⟨"BROKEN", 9, 1, .rw1c, 0x0, false⟩,
      ⟨"GVIOL", 10, 1, .rw1c, 0x0, false⟩]⟩,
    ⟨"SNS_CFG", 0x33000, 1, 0x4, 1, 0x4, [
      ⟨"CAL_EN", 0, 1, .rw, 0x1, false⟩,
      ⟨"ACT_BAND", 8, 8, .rw, 0x8, false⟩,
      ⟨"FB_TEMP", 16, 16, .rw, 0x1900, false⟩]⟩,
    ⟨"SNS_CAL", 0x33004, 1, 0x4, 1, 0x4, [
      ⟨"CAL_SW", 0, 8, .rw, 0x1, false⟩,
      ⟨"CAL_ADC", 16, 16, .rw, 0x3E8, false⟩]⟩,
    ⟨"SNS_PM", 0x33008, 1, 0x4, 1, 0x4, [
      ⟨"PM_FAIL", 0, 16, .rw, 0x4, false⟩]⟩,
    ⟨"SNS_CTRL", 0x3300C, 1, 0x4, 1, 0x4, [
      ⟨"CLR", 0, 1, .trig, 0x0, false⟩]⟩,
    ⟨"SNS_STATUS", 0x33010, 1, 0x4, 1, 0x4, [
      ⟨"REFUSED", 0, 1, .rw1c, 0x0, false⟩]⟩]

/-- Registers of 0x30000 to 0x3FFFF (R233, R234, R235), part 2. -/
def regsSensingB : List RegDef := [
    ⟨"SNS_CNT_STALE", 0x33014, 1, 0x4, 1, 0x4, [
      ⟨"COUNT", 0, 32, .ros, 0x0, false⟩]⟩,
    ⟨"SNS_CNT_BROKEN", 0x33018, 1, 0x4, 1, 0x4, [
      ⟨"COUNT", 0, 32, .ros, 0x0, false⟩]⟩,
    ⟨"SNS_CNT_PARITY", 0x3301C, 1, 0x4, 1, 0x4, [
      ⟨"COUNT", 0, 32, .ros, 0x0, false⟩]⟩,
    ⟨"MT_GUARD", 0x33100, 8, 0x20, 1, 0x4, [
      ⟨"GUARD", 0, 12, .ro, 0x0, true⟩,
      ⟨"FLOOR", 16, 12, .ro, 0x0, true⟩]⟩,
    ⟨"MT_CFG", 0x33104, 8, 0x20, 1, 0x4, [
      ⟨"EN", 0, 1, .rw, 0x0, false⟩,
      ⟨"GMAX", 16, 12, .rw, 0xC8, false⟩]⟩,
    ⟨"MT_THR", 0x33108, 8, 0x20, 1, 0x4, [
      ⟨"MT_LO", 0, 16, .rw, 0x10, false⟩,
      ⟨"MT_HI", 16, 16, .rw, 0x40, false⟩]⟩,
    ⟨"MT_PMMIN", 0x3310C, 8, 0x20, 1, 0x4, [
      ⟨"PMMIN", 0, 16, .ros, 0xFFFF, false⟩,
      ⟨"FAILSEEN", 16, 1, .ros, 0x0, false⟩]⟩,
    ⟨"MT_LAST_LO", 0x33110, 8, 0x20, 1, 0x4, [
      ⟨"LAST", 0, 32, .ro, 0x0, false⟩]⟩,
    ⟨"MT_LAST_HI", 0x33114, 8, 0x20, 1, 0x4, [
      ⟨"LAST", 0, 32, .ro, 0x0, false⟩]⟩,
    ⟨"MT_REQ", 0x33118, 8, 0x20, 1, 0x4, [
      ⟨"STEP", 0, 2, .trig, 0x0, false⟩,
      ⟨"HELD", 2, 1, .ro, 0x0, false⟩,
      ⟨"REFUSED", 3, 1, .rw1c, 0x0, false⟩]⟩,
    ⟨"MT_RESTORE", 0x3311C, 8, 0x20, 1, 0x4, [
      ⟨"GUARD", 0, 12, .rwo, 0x0, false⟩]⟩]

/-- Registers of 0x40000 to 0x47FFF (R259). -/
def regsAccounts : List RegDef := [
    ⟨"ACC_STAT", 0x40000, 256, 0x80, 1, 0x4, [
      ⟨"STATE", 0, 2, .ro, 0x0, false⟩,
      ⟨"CLASS", 2, 1, .ro, 0x0, false⟩,
      ⟨"POISON", 8, 1, .ros, 0x0, false⟩,
      ⟨"WRAP", 9, 1, .rw1c, 0x0, false⟩,
      ⟨"VAR_NEG", 10, 1, .rw1c, 0x0, false⟩,
      ⟨"UNATTR_SEEN", 11, 1, .rw1c, 0x0, false⟩,
      ⟨"HARBOUR", 12, 1, .ro, 0x0, false⟩,
      ⟨"STMT_REQ", 13, 1, .ro, 0x0, false⟩]⟩,
    ⟨"ACC_FLOOR", 0x40004, 256, 0x80, 1, 0x4, [
      ⟨"FLOOR_ACT", 0, 12, .ro, 0x0, false⟩,
      ⟨"FLOOR_PWR", 16, 16, .ro, 0x0, false⟩]⟩,
    ⟨"ACC_TAG", 0x40008, 256, 0x80, 4, 0x4, [
      ⟨"TAG", 0, 32, .ro, 0x0, false⟩]⟩,
    ⟨"ACC_TSTART", 0x40018, 256, 0x80, 1, 0x4, [
      ⟨"T", 0, 32, .ro, 0x0, false⟩]⟩,
    ⟨"ACC_TSTART_HI", 0x4001C, 256, 0x80, 1, 0x4, [
      ⟨"T", 0, 32, .ro, 0x0, false⟩]⟩,
    ⟨"ACC_TEND", 0x40020, 256, 0x80, 1, 0x4, [
      ⟨"T", 0, 32, .ro, 0x0, false⟩]⟩,
    ⟨"ACC_TEND_HI", 0x40024, 256, 0x80, 1, 0x4, [
      ⟨"T", 0, 32, .ro, 0x0, false⟩]⟩,
    ⟨"ACC_ENERGY", 0x40028, 256, 0x80, 1, 0x4, [
      ⟨"E", 0, 32, .ro, 0x0, false⟩]⟩,
    ⟨"ACC_ENERGY_HI", 0x4002C, 256, 0x80, 1, 0x4, [
      ⟨"E", 0, 32, .ro, 0x0, false⟩]⟩,
    ⟨"ACC_LEAK", 0x40030, 256, 0x80, 1, 0x4, [
      ⟨"E", 0, 32, .ro, 0x0, false⟩]⟩,
    ⟨"ACC_LEAK_HI", 0x40034, 256, 0x80, 1, 0x4, [
      ⟨"E", 0, 32, .ro, 0x0, false⟩]⟩,
    ⟨"ACC_SWITCH", 0x40038, 256, 0x80, 1, 0x4, [
      ⟨"COUNT", 0, 32, .ro, 0x0, false⟩]⟩,
    ⟨"ACC_WIN_N", 0x4003C, 256, 0x80, 1, 0x4, [
      ⟨"N", 0, 32, .ro, 0x0, false⟩]⟩,
    ⟨"ACC_WIN_MEAN", 0x40040, 256, 0x80, 1, 0x4, [
      ⟨"MEAN", 0, 32, .ro, 0x0, false⟩]⟩,
    ⟨"ACC_WIN_MEAN_HI", 0x40044, 256, 0x80, 1, 0x4, [
      ⟨"MEAN", 0, 32, .ro, 0x0, false⟩]⟩,
    ⟨"ACC_WIN_VAR", 0x40048, 256, 0x80, 1, 0x4, [
      ⟨"VAR", 0, 32, .ro, 0x0, false⟩]⟩,
    ⟨"ACC_WIN_VAR_HI", 0x4004C, 256, 0x80, 1, 0x4, [
      ⟨"VAR", 0, 32, .ro, 0x0, false⟩]⟩,
    ⟨"ACC_WIN_SUM", 0x40050, 256, 0x80, 1, 0x4, [
      ⟨"SUM", 0, 32, .ro, 0x0, false⟩]⟩,
    ⟨"ACC_WIN_SUM_HI", 0x40054, 256, 0x80, 1, 0x4, [
      ⟨"SUM", 0, 32, .ro, 0x0, false⟩]⟩,
    ⟨"ACC_STMT", 0x40058, 256, 0x80, 1, 0x4, [
      ⟨"SLOT", 0, 8, .ro, 0x0, false⟩,
      ⟨"QUEUED", 8, 1, .ro, 0x0, false⟩,
      ⟨"SIGNED", 9, 1, .ro, 0x0, false⟩]⟩,
    ⟨"", 0x4005C, 256, 0x80, 9, 0x4, []⟩]

/-- Registers of 0x48000 to 0x4FFFF (R258, R260), part 1. -/
def regsLedgerA : List RegDef := [
    ⟨"LDG_BERTH_E", 0x48000, 256, 0x8, 1, 0x4, [
      ⟨"E", 0, 32, .ro, 0x0, false⟩]⟩,
    ⟨"LDG_BERTH_E_HI", 0x48004, 256, 0x8, 1, 0x4, [
      ⟨"E", 0, 32, .ro, 0x0, false⟩]⟩,
    ⟨"LDG_RAIL_E", 0x48800, 8, 0x8, 1, 0x4, [
      ⟨"E", 0, 32, .ro, 0x0, false⟩]⟩,
    ⟨"LDG_RAIL_E_HI", 0x48804, 8, 0x8, 1, 0x4, [
      ⟨"E", 0, 32, .ro, 0x0, false⟩]⟩,
    ⟨"LDG_UNATTR_R", 0x48840, 1, 0x4, 1, 0x4, [
      ⟨"E", 0, 32, .ro, 0x0, false⟩]⟩,
    ⟨"LDG_UNATTR_R_HI", 0x48844, 1, 0x4, 1, 0x4, [
      ⟨"E", 0, 32, .ro, 0x0, false⟩]⟩,
    ⟨"LDG_UNATTR_A", 0x48848, 1, 0x4, 1, 0x4, [
      ⟨"E", 0, 32, .ro, 0x0, false⟩]⟩,
    ⟨"LDG_UNATTR_A_HI", 0x4884C, 1, 0x4, 1, 0x4, [
      ⟨"E", 0, 32, .ro, 0x0, false⟩]⟩,
    ⟨"LDG_CLOSED_E", 0x48850, 1, 0x4, 1, 0x4, [
      ⟨"E", 0, 32, .ro, 0x0, false⟩]⟩,
    ⟨"LDG_CLOSED_E_HI", 0x48854, 1, 0x4, 1, 0x4, [
      ⟨"E", 0, 32, .ro, 0x0, false⟩]⟩,
    ⟨"LDG_ACCT_TOTAL", 0x48858, 1, 0x4, 1, 0x4, [
      ⟨"E", 0, 32, .ro, 0x0, false⟩]⟩,
    ⟨"LDG_ACCT_TOTAL_HI", 0x4885C, 1, 0x4, 1, 0x4, [
      ⟨"E", 0, 32, .ro, 0x0, false⟩]⟩,
    ⟨"LDG_CTRL", 0x48860, 1, 0x4, 1, 0x4, [
      ⟨"FREEZE", 0, 1, .rw, 0x0, false⟩,
      ⟨"WIN_EN", 1, 1, .rw, 0x1, false⟩,
      ⟨"SG1_MODE", 2, 1, .rw, 0x0, false⟩]⟩,
    ⟨"LDG_WIN", 0x48864, 1, 0x4, 1, 0x4, [
      ⟨"LEN", 0, 24, .rw, 0xF4240, false⟩]⟩,
    ⟨"LDG_STATUS", 0x48868, 1, 0x4, 1, 0x4, [
      ⟨"CONS_ERR", 0, 1, .rw1c, 0x0, false⟩,
      ⟨"SHORT", 1, 1, .ro, 0x0, false⟩,
      ⟨"EPOCH_BAD", 2, 1, .ros, 0x0, false⟩,
      ⟨"REFUSED", 3, 1, .rw1c, 0x0, false⟩,
      ⟨"VAR_NEG", 4, 1, .rw1c, 0x0, false⟩]⟩,
    ⟨"LDG_WIN_IDX", 0x4886C, 1, 0x4, 1, 0x4, [
      ⟨"IDX", 0, 32, .ro, 0x0, false⟩]⟩,
    ⟨"LDG_WIN_START", 0x48870, 1, 0x4, 1, 0x4, [
      ⟨"START", 0, 32, .ro, 0x0, false⟩]⟩,
    ⟨"LDG_WIN_START_HI", 0x48874, 1, 0x4, 1, 0x4, [
      ⟨"START", 0, 16, .ro, 0x0, false⟩]⟩,
    ⟨"LDG_STMT", 0x48878, 1, 0x4, 1, 0x4, [
      ⟨"QUEUED", 0, 9, .ro, 0x0, false⟩,
      ⟨"UNSIGNED", 9, 9, .ro, 0x0, false⟩]⟩,
    ⟨"LDG_EPOCH", 0x4887C, 1, 0x4, 1, 0x4, [
      ⟨"EPOCH", 0, 32, .ro, 0x0, false⟩]⟩,
    ⟨"LDG_SW_HEAD", 0x48880, 1, 0x4, 1, 0x4, [
      ⟨"HEAD", 0, 10, .ro, 0x0, false⟩]⟩,
    ⟨"LDG_SW_OVF", 0x48884, 1, 0x4, 1, 0x4, [
      ⟨"COUNT", 0, 32, .ros, 0x0, false⟩]⟩,
    ⟨"LDG_WRAP_RAIL", 0x48888, 1, 0x4, 1, 0x4, [
      ⟨"WRAP", 0, 8, .rw1c, 0x0, false⟩,
      ⟨"WRAP_MISC", 8, 4, .rw1c, 0x0, false⟩]⟩,
    ⟨"LDG_UNATTR_CAUSE", 0x48890, 4, 0x4, 1, 0x4, [
      ⟨"COUNT", 0, 32, .ros, 0x0, false⟩]⟩]

/-- Registers of 0x48000 to 0x4FFFF (R258, R260), part 2. -/
def regsLedgerB : List RegDef := [
    ⟨"LDG_DIE_WIN_N", 0x488A0, 1, 0x4, 1, 0x4, [
      ⟨"N", 0, 32, .ro, 0x0, false⟩]⟩,
    ⟨"LDG_DIE_WIN_MEAN", 0x488A8, 1, 0x4, 1, 0x4, [
      ⟨"MEAN", 0, 32, .ro, 0x0, false⟩]⟩,
    ⟨"LDG_DIE_WIN_MEAN_HI", 0x488AC, 1, 0x4, 1, 0x4, [
      ⟨"MEAN", 0, 32, .ro, 0x0, false⟩]⟩,
    ⟨"LDG_DIE_WIN_VAR", 0x488B0, 1, 0x4, 1, 0x4, [
      ⟨"VAR", 0, 32, .ro, 0x0, false⟩]⟩,
    ⟨"LDG_DIE_WIN_VAR_HI", 0x488B4, 1, 0x4, 1, 0x4, [
      ⟨"VAR", 0, 32, .ro, 0x0, false⟩]⟩,
    ⟨"LDG_DIE_WIN_SUM", 0x488B8, 1, 0x4, 1, 0x4, [
      ⟨"SUM", 0, 32, .ro, 0x0, false⟩]⟩,
    ⟨"LDG_DIE_WIN_SUM_HI", 0x488BC, 1, 0x4, 1, 0x4, [
      ⟨"SUM", 0, 32, .ro, 0x0, false⟩]⟩,
    ⟨"LDG_WRAP_BERTH", 0x488C0, 8, 0x4, 1, 0x4, [
      ⟨"WRAP", 0, 32, .rw1c, 0x0, false⟩]⟩,
    ⟨"LDG_SWITCH", 0x4C000, 1024, 0x10, 4, 0x4, [
      ⟨"W", 0, 32, .ro, 0x0, false⟩]⟩]

/-- Registers of 0x50000 to 0x5FFFF (R331). -/
def regsFaults : List RegDef := [
    ⟨"FLT_STATUS", 0x50000, 10, 0x4, 1, 0x4, [
      ⟨"BITS", 0, 32, .rw1c, 0x0, false⟩]⟩,
    ⟨"FLT_CTRL", 0x50040, 1, 0x4, 1, 0x4, [
      ⟨"LOCK", 0, 1, .rwo, 0x0, false⟩,
      ⟨"REFUSED", 1, 1, .rw1c, 0x0, false⟩,
      ⟨"STOPPED", 2, 1, .ro, 0x0, false⟩,
      ⟨"TRIPPED", 3, 1, .ro, 0x0, false⟩,
      ⟨"THROTTLED", 4, 1, .ro, 0x0, false⟩,
      ⟨"CLR", 5, 1, .trig, 0x0, false⟩]⟩,
    ⟨"FLT_THROTTLE", 0x50044, 1, 0x4, 1, 0x4, [
      ⟨"LEVEL", 0, 12, .rwl, 0x800, false⟩]⟩,
    ⟨"FLT_REC", 0x50048, 1, 0x4, 1, 0x4, [
      ⟨"QUEUED", 0, 6, .ro, 0x0, false⟩]⟩,
    ⟨"FLT_REC_SEQ", 0x5004C, 1, 0x4, 1, 0x4, [
      ⟨"SEQ", 0, 32, .ro, 0x0, false⟩]⟩,
    ⟨"FLT_FRU_ID", 0x50050, 4, 0x4, 1, 0x4, [
      ⟨"ID", 0, 32, .rwl, 0x0, false⟩]⟩,
    ⟨"FLT_FRU_TEXT", 0x50060, 5, 0x4, 1, 0x4, [
      ⟨"TEXT", 0, 32, .rwl, 0x0, false⟩]⟩,
    ⟨"FLT_FRU_VALID", 0x50074, 1, 0x4, 1, 0x4, [
      ⟨"ID_VALID", 0, 1, .rwl, 0x0, false⟩,
      ⟨"TEXT_VALID", 1, 1, .rwl, 0x0, false⟩]⟩,
    ⟨"FLT_LOG_HEAD", 0x50078, 1, 0x4, 1, 0x4, [
      ⟨"HEAD", 0, 13, .ro, 0x0, false⟩]⟩,
    ⟨"FLT_LOG_OVF", 0x5007C, 1, 0x4, 1, 0x4, [
      ⟨"COUNT", 0, 32, .ros, 0x0, false⟩]⟩,
    ⟨"FLT_LOG_PAGE", 0x50080, 1, 0x4, 1, 0x4, [
      ⟨"PAGE", 0, 7, .rw, 0x0, false⟩]⟩,
    ⟨"FLT_SCRUB", 0x50084, 1, 0x4, 1, 0x4, [
      ⟨"PASS_MS", 0, 16, .rwl, 0x3E8, false⟩,
      ⟨"CE_THR", 16, 8, .rwl, 0x10, false⟩]⟩,
    ⟨"FLT_SCRUB_STAT", 0x50088, 1, 0x4, 1, 0x4, [
      ⟨"LATE", 0, 1, .rw1c, 0x0, false⟩]⟩,
    ⟨"FLT_CNT_DEFER", 0x5008C, 1, 0x4, 1, 0x4, [
      ⟨"COUNT", 0, 32, .ros, 0x0, false⟩]⟩,
    ⟨"FLT_SIL_CFG", 0x50090, 1, 0x4, 1, 0x4, [
      ⟨"SIL_THR", 0, 10, .rwl, 0x78, false⟩,
      ⟨"EN", 16, 1, .rwl, 0x1, false⟩]⟩,
    ⟨"FLT_SIL_MIN", 0x50094, 1, 0x4, 1, 0x4, [
      ⟨"SIL_MIN", 0, 32, .rwl, 0xF4240, false⟩]⟩,
    ⟨"FLT_REC_DROP", 0x50098, 1, 0x4, 1, 0x4, [
      ⟨"COUNT", 0, 32, .ros, 0x0, false⟩]⟩,
    ⟨"FLT_QUAR", 0x500A0, 8, 0x4, 1, 0x4, [
      ⟨"QUAR", 0, 32, .rw1c, 0x0, false⟩]⟩,
    ⟨"FLT_SUSPECT", 0x500C0, 8, 0x4, 1, 0x4, [
      ⟨"SUSPECT", 0, 32, .rw1c, 0x0, false⟩]⟩,
    ⟨"FLT_REACT", 0x50100, 40, 0x4, 1, 0x4, [
      ⟨"REACT_0", 0, 3, .rwl, 0x0, false⟩,
      ⟨"REACT_1", 4, 3, .rwl, 0x0, false⟩,
      ⟨"REACT_2", 8, 3, .rwl, 0x0, false⟩,
      ⟨"REACT_3", 12, 3, .rwl, 0x0, false⟩,
      ⟨"REACT_4", 16, 3, .rwl, 0x0, false⟩,
      ⟨"REACT_5", 20, 3, .rwl, 0x0, false⟩,
      ⟨"REACT_6", 24, 3, .rwl, 0x0, false⟩,
      ⟨"REACT_7", 28, 3, .rwl, 0x0, false⟩]⟩,
    ⟨"FLT_ECC_CE", 0x50200, 12, 0x4, 1, 0x4, [
      ⟨"COUNT", 0, 32, .ros, 0x0, false⟩]⟩,
    ⟨"FLT_SIL_CNT", 0x50400, 256, 0x4, 1, 0x4, [
      ⟨"CNT", 0, 7, .ro, 0x0, false⟩,
      ⟨"RATIO", 16, 16, .ro, 0x0, false⟩]⟩,
    ⟨"FLT_LOG", 0x58000, 512, 0x4, 1, 0x4, [
      ⟨"W", 0, 32, .ro, 0x0, false⟩]⟩]

/-- Registers of 0x60000 to 0x6FFFF (R391, R394, R395), part 1. -/
def regsTraceA : List RegDef := [
    ⟨"TRC_CTRL", 0x60000, 1, 0x4, 1, 0x4, [
      ⟨"CLR", 0, 1, .trig, 0x0, false⟩,
      ⟨"REFUSED", 1, 1, .rw1c, 0x0, false⟩]⟩,
    ⟨"TRC_CFG", 0x60010, 4, 0x10, 1, 0x4, [
      ⟨"EN", 0, 1, .rw, 0x0, false⟩,
      ⟨"MODE", 1, 1, .rw, 0x0, false⟩,
      ⟨"KIND", 2, 4, .rw, 0x1, false⟩,
      ⟨"DECIM", 6, 4, .rw, 0x0, false⟩,
      ⟨"FIRST", 10, 10, .rw, 0x0, false⟩,
      ⟨"COUNT", 20, 5, .rw, 0x1, false⟩]⟩,
    ⟨"TRC_STAT", 0x60014, 4, 0x10, 1, 0x4, [
      ⟨"LEVEL", 0, 13, .ro, 0x0, false⟩,
      ⟨"FULL", 13, 1, .ro, 0x0, false⟩]⟩,
    ⟨"TRC_LOST", 0x60018, 4, 0x10, 1, 0x4, [
      ⟨"COUNT", 0, 32, .ros, 0x0, false⟩]⟩,
    ⟨"TRC_WATCH_CFG", 0x60080, 1, 0x4, 1, 0x4, [
      ⟨"SLOT", 0, 10, .rw, 0x0, false⟩,
      ⟨"VAR", 10, 6, .rw, 0x18, false⟩,
      ⟨"ARM", 16, 1, .rw, 0x0, false⟩,
      ⟨"REL", 17, 1, .rw, 0x0, false⟩,
      ⟨"STREAM", 18, 1, .rw, 0x0, false⟩,
      ⟨"WBUF", 19, 2, .rw, 0x0, false⟩]⟩,
    ⟨"TRC_WATCH_SNUM", 0x60084, 1, 0x4, 1, 0x4, [
      ⟨"SNUM", 0, 32, .rw, 0x0, false⟩]⟩,
    ⟨"TRC_WATCH_STAT", 0x60088, 1, 0x4, 1, 0x4, [
      ⟨"DONE", 0, 1, .rw1c, 0x0, false⟩,
      ⟨"MISSED", 1, 1, .rw1c, 0x0, false⟩,
      ⟨"ABANDONED", 2, 1, .rw1c, 0x0, false⟩,
      ⟨"ARMED", 3, 1, .ro, 0x0, false⟩,
      ⟨"WRITTEN", 8, 8, .ro, 0x0, false⟩]⟩,
    ⟨"TRC_WATCH_HIT", 0x60090, 1, 0x4, 1, 0x4, [
      ⟨"IDX", 0, 32, .ro, 0x0, false⟩]⟩,
    ⟨"TRC_WATCH_HIT_HI", 0x60094, 1, 0x4, 1, 0x4, [
      ⟨"IDX", 0, 16, .ro, 0x0, false⟩]⟩,
    ⟨"TRC_WATCH_VAL", 0x60098, 1, 0x4, 1, 0x4, [
      ⟨"VAL", 0, 32, .ro, 0x0, false⟩]⟩,
    ⟨"TRC_WATCH_VAL_HI", 0x6009C, 1, 0x4, 1, 0x4, [
      ⟨"VAL", 0, 16, .ro, 0x0, false⟩]⟩,
    ⟨"TRC_CUT", 0x600C0, 1, 0x4, 1, 0x4, [
      ⟨"ID", 0, 8, .ro, 0x0, false⟩,
      ⟨"VALID", 8, 1, .rw1c, 0x0, false⟩,
      ⟨"OVERWRITTEN", 9, 1, .rw1c, 0x0, false⟩]⟩,
    ⟨"TRC_DUMP_W", 0x60100, 8, 0x8, 1, 0x4, [
      ⟨"W", 0, 32, .ro, 0x0, false⟩]⟩,
    ⟨"TRC_DUMP_W_HI", 0x60104, 8, 0x8, 1, 0x4, [
      ⟨"W", 0, 16, .ro, 0x0, false⟩]⟩,
    ⟨"TRC_DUMP_IN", 0x60140, 6, 0x4, 1, 0x4, [
      ⟨"W", 0, 32, .ro, 0x0, false⟩]⟩,
    ⟨"TRC_DUMP_S0IN", 0x60158, 1, 0x4, 1, 0x4, [
      ⟨"S0", 0, 32, .ro, 0x0, false⟩]⟩,
    ⟨"TRC_DUMP_S0IN_HI", 0x6015C, 1, 0x4, 1, 0x4, [
      ⟨"S0", 0, 16, .ro, 0x0, false⟩]⟩,
    ⟨"TRC_DUMP_OUT", 0x60160, 1, 0x4, 1, 0x4, [
      ⟨"OUT", 0, 32, .ro, 0x0, false⟩]⟩,
    ⟨"TRC_DUMP_S1", 0x60164, 1, 0x4, 1, 0x4, [
      ⟨"S1", 0, 32, .ro, 0x0, false⟩]⟩,
    ⟨"TRC_DUMP_S0", 0x60168, 1, 0x4, 1, 0x4, [
      ⟨"S0", 0, 32, .ro, 0x0, false⟩]⟩,
    ⟨"TRC_DUMP_S0_HI", 0x6016C, 1, 0x4, 1, 0x4, [
      ⟨"S0", 0, 16, .ro, 0x0, false⟩]⟩,
    ⟨"TRC_DRAIN", 0x61000, 4, 0x400, 256, 0x4, [
      ⟨"W", 0, 32, .ro, 0x0, false⟩]⟩,
    ⟨"TRC_CUT_LS", 0x64000, 1024, 0x10, 4, 0x4, [
      ⟨"W", 0, 32, .ro, 0x0, false⟩]⟩,
    ⟨"TRC_CUT_GATE", 0x68000, 256, 0x8, 2, 0x4, [
      ⟨"W", 0, 32, .ro, 0x0, false⟩]⟩]

/-- Registers of 0x60000 to 0x6FFFF (R391, R394, R395), part 2. -/
def regsTraceB : List RegDef := [
    ⟨"TRC_CUT_VCMD", 0x68800, 8, 0x4, 1, 0x4, [
      ⟨"W", 0, 32, .ro, 0x0, false⟩]⟩]

/-- Registers of 0x70000 to 0x7FFFF (R328). -/
def regsSg1 : List RegDef := [
    ⟨"SG1_CNT_OVERTEMP", 0x70000, 1, 0x4, 1, 0x4, [
      ⟨"COUNT", 0, 16, .ros, 0x0, false⟩]⟩,
    ⟨"SG1_CNT_OVERCURRENT", 0x70004, 1, 0x4, 1, 0x4, [
      ⟨"COUNT", 0, 16, .ros, 0x0, false⟩]⟩,
    ⟨"SG1_CNT_VRFAULT", 0x70008, 1, 0x4, 1, 0x4, [
      ⟨"COUNT", 0, 16, .ros, 0x0, false⟩]⟩,
    ⟨"SG1_CNT_SENSOR", 0x7000C, 1, 0x4, 1, 0x4, [
      ⟨"COUNT", 0, 16, .ros, 0x0, false⟩]⟩,
    ⟨"SG1_CNT_PARITY", 0x70010, 1, 0x4, 1, 0x4, [
      ⟨"COUNT", 0, 16, .ros, 0x0, false⟩]⟩,
    ⟨"SG1_CNT_ECC_CE", 0x70014, 1, 0x4, 1, 0x4, [
      ⟨"COUNT", 0, 16, .ros, 0x0, false⟩]⟩,
    ⟨"SG1_CNT_ECC_UE", 0x70018, 1, 0x4, 1, 0x4, [
      ⟨"COUNT", 0, 16, .ros, 0x0, false⟩]⟩,
    ⟨"SG1_CNT_CLOCK", 0x7001C, 1, 0x4, 1, 0x4, [
      ⟨"COUNT", 0, 16, .ros, 0x0, false⟩]⟩,
    ⟨"SG1_CNT_PARTITION", 0x70020, 1, 0x4, 1, 0x4, [
      ⟨"COUNT", 0, 16, .ros, 0x0, false⟩]⟩,
    ⟨"SG1_CNT_FW", 0x70024, 1, 0x4, 1, 0x4, [
      ⟨"COUNT", 0, 16, .ros, 0x0, false⟩]⟩,
    ⟨"SG1_CNT_OTHER", 0x70028, 1, 0x4, 1, 0x4, [
      ⟨"COUNT", 0, 16, .ros, 0x0, false⟩]⟩,
    ⟨"", 0x7002C, 16373, 0x4, 1, 0x4, []⟩]

/-- Registers of 0x80000 to 0x87FFF (R236). -/
def regsTables : List RegDef := [
    ⟨"TBL_HDR", 0x80000, 64, 0x200, 1, 0x4, [
      ⟨"NBP", 0, 6, .rw, 0x0, false⟩,
      ⟨"INC", 8, 1, .rw, 0x0, false⟩,
      ⟨"DEC", 9, 1, .rw, 0x0, false⟩,
      ⟨"NBP_ACT", 16, 6, .ro, 0x0, false⟩,
      ⟨"INC_ACT", 22, 1, .ro, 0x0, false⟩,
      ⟨"DEC_ACT", 23, 1, .ro, 0x0, false⟩,
      ⟨"VALID", 24, 1, .ro, 0x0, false⟩]⟩,
    ⟨"TBL_CTRL", 0x80004, 64, 0x200, 1, 0x4, [
      ⟨"LOAD", 0, 1, .trig, 0x0, false⟩,
      ⟨"REFUSED", 1, 1, .rw1c, 0x0, false⟩,
      ⟨"RSN", 2, 3, .ro, 0x0, false⟩]⟩,
    ⟨"TBL_CRC", 0x80008, 64, 0x200, 1, 0x4, [
      ⟨"CRC", 0, 32, .ro, 0x0, false⟩]⟩,
    ⟨"", 0x8000C, 64, 0x200, 1, 0x4, []⟩,
    ⟨"TBL_X", 0x80010, 64, 0x200, 33, 0x8, [
      ⟨"X", 0, 32, .rw, 0x0, false⟩]⟩,
    ⟨"TBL_Y", 0x80014, 64, 0x200, 33, 0x8, [
      ⟨"Y", 0, 32, .rw, 0x0, false⟩]⟩,
    ⟨"", 0x80118, 64, 0x200, 58, 0x4, []⟩]

/-- The tables that can hold an offset (R380); an offset outside every region is unmapped. -/
def regsAt (off : Nat) : List RegDef :=
  if 0x0 ≤ off ∧ off < 0x100 then regsGlobal
  else if 0x100 ≤ off ∧ off < 0x200 then regsPilots
  else if 0x300 ≤ off ∧ off < 0x400 then regsHawserA ++ regsHawserB
  else if 0x400 ≤ off ∧ off < 0x500 then regsEngine
  else if 0x500 ≤ off ∧ off < 0x800 then regsPower
  else if 0x800 ≤ off ∧ off < 0xC00 then regsLaws
  else if 0xC00 ≤ off ∧ off < 0xD00 then regsLimits
  else if 0xD00 ≤ off ∧ off < 0xE00 then regsBollards
  else if 0xE00 ≤ off ∧ off < 0x1000 then regsSluiceA ++ regsSluiceB
  else if 0x1000 ≤ off ∧ off < 0x4000 then regsCommands
  else if 0x4000 ≤ off ∧ off < 0x6000 then regsStamps
  else if 0x10000 ≤ off ∧ off < 0x20000 then regsSlots
  else if 0x20000 ≤ off ∧ off < 0x24000 then regsBerths
  else if 0x24000 ≤ off ∧ off < 0x28000 then regsRegulatorA ++ regsRegulatorB
  else if 0x28000 ≤ off ∧ off < 0x30000 then regsClocks
  else if 0x30000 ≤ off ∧ off < 0x40000 then regsSensingA ++ regsSensingB
  else if 0x40000 ≤ off ∧ off < 0x48000 then regsAccounts
  else if 0x48000 ≤ off ∧ off < 0x50000 then regsLedgerA ++ regsLedgerB
  else if 0x50000 ≤ off ∧ off < 0x60000 then regsFaults
  else if 0x60000 ≤ off ∧ off < 0x70000 then regsTraceA ++ regsTraceB
  else if 0x70000 ≤ off ∧ off < 0x80000 then regsSg1
  else if 0x80000 ≤ off ∧ off < 0x88000 then regsTables
  else []

/-- The indices of an offset inside a register array, or none where the offset is not one of its words. -/
def RegDef.index (d : RegDef) (off : Nat) : Option (Nat × Nat) :=
  if off < d.base then none
  else
    let i := (off - d.base) / d.s1
    let rest := (off - d.base) % d.s1
    if d.n2 ≤ 1 then
      if i < d.n1 ∧ rest = 0 then some (i, 0) else none
    else if d.n1 ≤ 1 then
      let j := (off - d.base) / d.s2
      if j < d.n2 ∧ (off - d.base) % d.s2 = 0 then some (0, j) else none
    else if i < d.n1 ∧ rest / d.s2 < d.n2 ∧ rest % d.s2 = 0 then some (i, rest / d.s2) else none

/-- The register at an offset with its indices; none for an unmapped offset (R380). -/
def findReg (off : Nat) : Option (RegDef × Nat × Nat) :=
  (regsAt off).findSome? fun d => (d.index off).map fun ij => (d, ij.1, ij.2)

/-- The field of a register definition by name. -/
def RegDef.field? (d : RegDef) (name : String) : Option FieldDef := d.fields.find? fun f => f.name == name

end Sys2Proof.Machine
end

