-- ==== Sys2Proof/Machine/Fields.lean ====
section
/-! DEFINITION. A name for every register word (`W`, its offset) and every field (`F`, its offset and bits) of the register map, with the index arguments of its array. -/

namespace Sys2Proof.Machine

/-- GOV_ID (R381). -/
def W.GOV_ID : Nat := 0x0

/-- GOV_STRAP (R381). -/
def W.GOV_STRAP : Nat := 0x4

/-- GOV_DEVID (R381). -/
def W.GOV_DEVID (i : Nat) : Nat := 0x8 + 0x4 * i

/-- GOV_TIME_LO (R381). -/
def W.GOV_TIME_LO : Nat := 0x18

/-- GOV_TIME_HI (R381). -/
def W.GOV_TIME_HI : Nat := 0x1C

/-- SAMPLE_IDX_LO (R381). -/
def W.SAMPLE_IDX_LO : Nat := 0x20

/-- SAMPLE_IDX_HI (R381). -/
def W.SAMPLE_IDX_HI : Nat := 0x24

/-- GOV_IRQ_SRC (R381). -/
def W.GOV_IRQ_SRC : Nat := 0x30

/-- GOV_IRQ_EN (R381). -/
def W.GOV_IRQ_EN : Nat := 0x34

/-- GOV_IRQ_MAP (R381). -/
def W.GOV_IRQ_MAP : Nat := 0x38

/-- GOV_IRQ_LINE (R381). -/
def W.GOV_IRQ_LINE : Nat := 0x3C

/-- GOV_LOCK (R381). -/
def W.GOV_LOCK : Nat := 0x40

/-- GOV_LOCK_STAT (R381). -/
def W.GOV_LOCK_STAT : Nat := 0x44

/-- GOV_BT_REF (R381). -/
def W.GOV_BT_REF : Nat := 0x48

/-- FWP_VER (R350). -/
def W.FWP_VER : Nat := 0x100

/-- FWP_VER_HI (R350). -/
def W.FWP_VER_HI : Nat := 0x104

/-- FWP_DIGEST (R350). -/
def W.FWP_DIGEST (i : Nat) : Nat := 0x108 + 0x4 * i

/-- FWP_SVN (R350). -/
def W.FWP_SVN : Nat := 0x138

/-- FWP_FEAT (R350). -/
def W.FWP_FEAT : Nat := 0x13C

/-- FWP_FEAT_HI (R350). -/
def W.FWP_FEAT_HI : Nat := 0x140

/-- SUP_STAT (R350). -/
def W.SUP_STAT : Nat := 0x144

/-- FWP_PSTATE (R350). -/
def W.FWP_PSTATE : Nat := 0x148

/-- FWP_WDT (R350). -/
def W.FWP_WDT : Nat := 0x14C

/-- FWP_RST_CNT (R350). -/
def W.FWP_RST_CNT (i : Nat) : Nat := 0x150 + 0x4 * i

/-- FWP_RST_LAST (R350). -/
def W.FWP_RST_LAST : Nat := 0x15C

/-- FWP_RST_REQ (R350). -/
def W.FWP_RST_REQ : Nat := 0x160

/-- FWP_UPD (R350). -/
def W.FWP_UPD : Nat := 0x164

/-- SUP_HB (R350). -/
def W.SUP_HB : Nat := 0x168

/-- SUP_HB_KICK (R350). -/
def W.SUP_HB_KICK : Nat := 0x16C

/-- SUP_SESSION (R350). -/
def W.SUP_SESSION : Nat := 0x170

/-- SUP_ANCHOR (R350). -/
def W.SUP_ANCHOR : Nat := 0x174

/-- SUP_JOURNAL (R350). -/
def W.SUP_JOURNAL (i : Nat) : Nat := 0x180 + 0x4 * i

/-- IDL_CFG (R289). -/
def W.IDL_CFG : Nat := 0x300

/-- IDL_STAT (R289). -/
def W.IDL_STAT : Nat := 0x304

/-- IDL_EVT (R289). -/
def W.IDL_EVT : Nat := 0x308

/-- IDL_CTRL (R289). -/
def W.IDL_CTRL : Nat := 0x30C

/-- IDL_FCTR (R289). -/
def W.IDL_FCTR : Nat := 0x310

/-- IDL_OFFSET (R289). -/
def W.IDL_OFFSET : Nat := 0x314

/-- IDL_RLAT (R289). -/
def W.IDL_RLAT : Nat := 0x318

/-- IDL_RATE (R289). -/
def W.IDL_RATE : Nat := 0x31C

/-- IDL_PROG_POS (R289). -/
def W.IDL_PROG_POS : Nat := 0x320

/-- IDL_PROG_STEP (R289). -/
def W.IDL_PROG_STEP : Nat := 0x324

/-- IDL_PROG_CFG (R289). -/
def W.IDL_PROG_CFG : Nat := 0x328

/-- IDL_TUG_CAP (R289). -/
def W.IDL_TUG_CAP : Nat := 0x32C

/-- IDL_TUG_LIM (R289). -/
def W.IDL_TUG_LIM : Nat := 0x330

/-- IDL_TUG_GAIN (R289). -/
def W.IDL_TUG_GAIN : Nat := 0x334

/-- IDL_TUG_THR (R289). -/
def W.IDL_TUG_THR : Nat := 0x338

/-- IDL_TUG_STAT (R289). -/
def W.IDL_TUG_STAT : Nat := 0x33C

/-- IDL_TUG_LAG (R289). -/
def W.IDL_TUG_LAG : Nat := 0x340

/-- IDL_STOP_REC (R289). -/
def W.IDL_STOP_REC : Nat := 0x344

/-- IDL_STOP_TRX (R289). -/
def W.IDL_STOP_TRX : Nat := 0x348

/-- IDL_STOP_TRX_HI (R289). -/
def W.IDL_STOP_TRX_HI : Nat := 0x34C

/-- IDL_STOP_CUT (R289). -/
def W.IDL_STOP_CUT : Nat := 0x350

/-- IDL_STOP_CUT_HI (R289). -/
def W.IDL_STOP_CUT_HI : Nat := 0x354

/-- IDL_NODE_FAULT (R289). -/
def W.IDL_NODE_FAULT : Nat := 0x358

/-- IDL_NODE_FAULT_HI (R289). -/
def W.IDL_NODE_FAULT_HI : Nat := 0x35C

/-- IDL_NODE_MISS (R289). -/
def W.IDL_NODE_MISS : Nat := 0x360

/-- IDL_NODE_MISS_HI (R289). -/
def W.IDL_NODE_MISS_HI : Nat := 0x364

/-- IDL_COLL_START (R289). -/
def W.IDL_COLL_START : Nat := 0x368

/-- IDL_COLL_START_HI (R289). -/
def W.IDL_COLL_START_HI : Nat := 0x36C

/-- IDL_COLL_N (R289). -/
def W.IDL_COLL_N : Nat := 0x370

/-- IDL_COLL_STAT (R289). -/
def W.IDL_COLL_STAT : Nat := 0x374

/-- IDL_COLL_CONTRIB (R289). -/
def W.IDL_COLL_CONTRIB : Nat := 0x378

/-- IDL_COLL_CONTRIB_HI (R289). -/
def W.IDL_COLL_CONTRIB_HI : Nat := 0x37C

/-- IDL_COLL_MEAN (R289). -/
def W.IDL_COLL_MEAN : Nat := 0x380

/-- IDL_COLL_MEAN_HI (R289). -/
def W.IDL_COLL_MEAN_HI : Nat := 0x384

/-- IDL_COLL_VAR (R289). -/
def W.IDL_COLL_VAR : Nat := 0x388

/-- IDL_COLL_VAR_HI (R289). -/
def W.IDL_COLL_VAR_HI : Nat := 0x38C

/-- IDL_COLL_SUM (R289). -/
def W.IDL_COLL_SUM : Nat := 0x390

/-- IDL_COLL_SUM_HI (R289). -/
def W.IDL_COLL_SUM_HI : Nat := 0x394

/-- IDL_CNT_CRC (R289). -/
def W.IDL_CNT_CRC : Nat := 0x398

/-- IDL_CNT_MISS (R289). -/
def W.IDL_CNT_MISS : Nat := 0x39C

/-- IDL_CNT_LINKDN (R289). -/
def W.IDL_CNT_LINKDN : Nat := 0x3A0

/-- IDL_STAMP_HEAD (R289). -/
def W.IDL_STAMP_HEAD : Nat := 0x3A4

/-- ENG_CFG (R96). -/
def W.ENG_CFG : Nat := 0x400

/-- ENG_STATUS (R96). -/
def W.ENG_STATUS : Nat := 0x404

/-- ENG_STEPS (R96). -/
def W.ENG_STEPS : Nat := 0x408

/-- ENG_PEAK (R96). -/
def W.ENG_PEAK : Nat := 0x40C

/-- ENG_OVR_SAMPLES (R96). -/
def W.ENG_OVR_SAMPLES : Nat := 0x410

/-- ENG_WIN_DIE (R96). -/
def W.ENG_WIN_DIE : Nat := 0x420

/-- ENG_WIN_RAIL (R96). -/
def W.ENG_WIN_RAIL (i : Nat) : Nat := 0x424 + 0x4 * i

/-- ENG_WIN_REGION (R96). -/
def W.ENG_WIN_REGION (i : Nat) : Nat := 0x444 + 0x4 * i

/-- PS_CTRL (R308). -/
def W.PS_CTRL : Nat := 0x500

/-- PS_STAT (R308). -/
def W.PS_STAT : Nat := 0x504

/-- PS_CFG (R308). -/
def W.PS_CFG : Nat := 0x508

/-- PS_IDLE (R308). -/
def W.PS_IDLE : Nat := 0x50C

/-- PS_WAKE_EN (R308). -/
def W.PS_WAKE_EN : Nat := 0x510

/-- PS_WAKE_STAT (R308). -/
def W.PS_WAKE_STAT : Nat := 0x514

/-- PS_WAKE_TIME_LO (R308). -/
def W.PS_WAKE_TIME_LO : Nat := 0x518

/-- PS_WAKE_TIME_HI (R308). -/
def W.PS_WAKE_TIME_HI : Nat := 0x51C

/-- PS_CNT_DONE (R308). -/
def W.PS_CNT_DONE : Nat := 0x520

/-- PS_CNT_ABORT (R308). -/
def W.PS_CNT_ABORT : Nat := 0x524

/-- PS_CNT_REFUSE (R308). -/
def W.PS_CNT_REFUSE : Nat := 0x528

/-- PS_CNT_HOLD (R308). -/
def W.PS_CNT_HOLD : Nat := 0x52C

/-- PS_CNT_WAKE (R308). -/
def W.PS_CNT_WAKE : Nat := 0x530

/-- PS_LOG_HEAD (R308). -/
def W.PS_LOG_HEAD : Nat := 0x534

/-- PS_ST_RGN (R309). -/
def W.PS_ST_RGN (i : Nat) : Nat := 0x600 + 0x40 * i

/-- PS_ST_TIME (R309). -/
def W.PS_ST_TIME (i : Nat) : Nat := 0x604 + 0x40 * i

/-- PS_ST_RAIL (R309). -/
def W.PS_ST_RAIL (i : Nat) (j : Nat) : Nat := 0x610 + 0x40 * i + 0x4 * j

/-- PS_ST_BIAS (R309). -/
def W.PS_ST_BIAS (i : Nat) (j : Nat) : Nat := 0x620 + 0x40 * i + 0x4 * j

/-- PS_REFUSE (R310). -/
def W.PS_REFUSE (i : Nat) (j : Nat) : Nat := 0x700 + 0x20 * i + 0x4 * j

/-- LAW_W0 (R102). -/
def W.LAW_W0 (i : Nat) : Nat := 0x800 + 0x10 * i

/-- LAW_W1 (R102). -/
def W.LAW_W1 (i : Nat) : Nat := 0x804 + 0x10 * i

/-- LAW_W2 (R102). -/
def W.LAW_W2 (i : Nat) : Nat := 0x808 + 0x10 * i

/-- LAW_W3 (R102). -/
def W.LAW_W3 (i : Nat) : Nat := 0x80C + 0x10 * i

/-- LIM_CFG (R128). -/
def W.LIM_CFG : Nat := 0xC00

/-- LIM_SLOTS (R128). -/
def W.LIM_SLOTS : Nat := 0xC04

/-- LIM_PCAP (R128). -/
def W.LIM_PCAP : Nat := 0xC08

/-- LIM_EXC (R128). -/
def W.LIM_EXC : Nat := 0xC0C

/-- LIM_EXC_STAT (R128). -/
def W.LIM_EXC_STAT : Nat := 0xC10

/-- LIM_TSD_THR (R128). -/
def W.LIM_TSD_THR : Nat := 0xC14

/-- LIM_TSD_STEP (R128). -/
def W.LIM_TSD_STEP : Nat := 0xC18

/-- LIM_TSD_STAT (R128). -/
def W.LIM_TSD_STAT : Nat := 0xC1C

/-- LIM_PCAP_MIN (R128). -/
def W.LIM_PCAP_MIN : Nat := 0xC20

/-- LIM_BE (R128). -/
def W.LIM_BE : Nat := 0xC24

/-- LIM_LC_BUDGET (R128). -/
def W.LIM_LC_BUDGET : Nat := 0xC28

/-- LIM_STEADY_ACT (R128). -/
def W.LIM_STEADY_ACT : Nat := 0xC2C

/-- LIM_FSTEADY (R128). -/
def W.LIM_FSTEADY (i : Nat) : Nat := 0xC30 + 0x4 * i

/-- LIM_STEADY_STAT (R128). -/
def W.LIM_STEADY_STAT : Nat := 0xC50

/-- LIM_STEADY_WIN (R128). -/
def W.LIM_STEADY_WIN : Nat := 0xC54

/-- LIM_STATUS (R128). -/
def W.LIM_STATUS : Nat := 0xC58

/-- LIM_HARBOUR (R128). -/
def W.LIM_HARBOUR : Nat := 0xC60

/-- HLIM_VCORE (R120). -/
def W.HLIM_VCORE : Nat := 0xD00

/-- HLIM_OC (R120). -/
def W.HLIM_OC : Nat := 0xD04

/-- HLIM_FSYN (R120). -/
def W.HLIM_FSYN (i : Nat) : Nat := 0xD08 + 0x4 * i

/-- HLIM_TSOFT (R120). -/
def W.HLIM_TSOFT : Nat := 0xD48

/-- HLIM_CTRL (R120). -/
def W.HLIM_CTRL : Nat := 0xD4C

/-- HLIM_ACT_CNT (R120). -/
def W.HLIM_ACT_CNT : Nat := 0xD50

/-- FCU_CLS_ENTRY (R146). -/
def W.FCU_CLS_ENTRY (i : Nat) : Nat := 0xF00 + 0x10 * i

/-- FCU_CLS_CFG (R146). -/
def W.FCU_CLS_CFG (i : Nat) : Nat := 0xF04 + 0x10 * i

/-- FCU_CLS_RISE (R146). -/
def W.FCU_CLS_RISE (i : Nat) : Nat := 0xF08 + 0x10 * i

/-- FCU_CLS_RSEL (R146). -/
def W.FCU_CLS_RSEL (i : Nat) : Nat := 0xF0C + 0x10 * i

/-- ASL_CFG (R150). -/
def W.ASL_CFG : Nat := 0xE00

/-- ASL_STATUS (R150). -/
def W.ASL_STATUS : Nat := 0xE04

/-- FCU_CFG (R150). -/
def W.FCU_CFG : Nat := 0xE10

/-- FCU_CONF_MAX (R150). -/
def W.FCU_CONF_MAX : Nat := 0xE14

/-- FCU_CTRL (R150). -/
def W.FCU_CTRL : Nat := 0xE18

/-- FCU_LIVE (R150). -/
def W.FCU_LIVE : Nat := 0xE1C

/-- FCU_HINT_STAT (R150). -/
def W.FCU_HINT_STAT : Nat := 0xE20

/-- FCU_STATUS (R150). -/
def W.FCU_STATUS : Nat := 0xE24

/-- FCU_LAST_REF (R150). -/
def W.FCU_LAST_REF : Nat := 0xE28

/-- FCU_CNT_ACCEPT (R150). -/
def W.FCU_CNT_ACCEPT : Nat := 0xE40

/-- FCU_CNT_CONFIRM (R150). -/
def W.FCU_CNT_CONFIRM : Nat := 0xE44

/-- FCU_CNT_RETRACT (R150). -/
def W.FCU_CNT_RETRACT : Nat := 0xE48

/-- FCU_CNT_RELEASE (R150). -/
def W.FCU_CNT_RELEASE : Nat := 0xE4C

/-- FCU_CNT_EXPIRE (R150). -/
def W.FCU_CNT_EXPIRE : Nat := 0xE50

/-- FCU_CNT_CONFEND (R150). -/
def W.FCU_CNT_CONFEND : Nat := 0xE54

/-- FCU_CNT_PURGE (R150). -/
def W.FCU_CNT_PURGE : Nat := 0xE58

/-- FCU_CNT_REF_FULL (R150). -/
def W.FCU_CNT_REF_FULL : Nat := 0xE5C

/-- FCU_CNT_REF_BAD (R150). -/
def W.FCU_CNT_REF_BAD : Nat := 0xE60

/-- FCU_CNT_ORPHAN (R150). -/
def W.FCU_CNT_ORPHAN : Nat := 0xE64

/-- FCU_CNT_DUP (R150). -/
def W.FCU_CNT_DUP : Nat := 0xE68

/-- FCU_CNT_BADWORD (R150). -/
def W.FCU_CNT_BADWORD : Nat := 0xE6C

/-- FCU_CNT_HINT (R150). -/
def W.FCU_CNT_HINT : Nat := 0xE70

/-- FCU_RAIL_FC (R150). -/
def W.FCU_RAIL_FC (i : Nat) : Nat := 0xE80 + 0x4 * i

/-- CMD_REQ (R373). -/
def W.CMD_REQ (i : Nat) (j : Nat) : Nat := 0x1000 + 0x200 * i + 0x4 * j

/-- CMD_RPL (R373). -/
def W.CMD_RPL (i : Nat) (j : Nat) : Nat := 0x1100 + 0x200 * i + 0x4 * j

/-- CMD_STAT (R373). -/
def W.CMD_STAT (i : Nat) : Nat := 0x3000 + 0x10 * i

/-- CMD_CTRL (R373). -/
def W.CMD_CTRL (i : Nat) : Nat := 0x3004 + 0x10 * i

/-- CMD_CNT_CRC (R373). -/
def W.CMD_CNT_CRC (i : Nat) : Nat := 0x3008 + 0x10 * i

/-- CMD_CNT_TAKEN (R373). -/
def W.CMD_CNT_TAKEN (i : Nat) : Nat := 0x300C + 0x10 * i

/-- CMD_CFG (R373). -/
def W.CMD_CFG : Nat := 0x3100

/-- CMD_SUMMARY (R373). -/
def W.CMD_SUMMARY : Nat := 0x3104

/-- CMD_IRQ_EN (R373). -/
def W.CMD_IRQ_EN : Nat := 0x3108

/-- FENCE_STATE (R373). -/
def W.FENCE_STATE (i : Nat) : Nat := 0x3800 + 0x4 * i

/-- IDL_STAMP (R290). -/
def W.IDL_STAMP (i : Nat) (j : Nat) : Nat := 0x4000 + 0x10 * i + 0x4 * j

/-- LS_CTRL (R85). -/
def W.LS_CTRL (i : Nat) : Nat := 0x10000 + 0x40 * i

/-- LS_FB (R85). -/
def W.LS_FB (i : Nat) : Nat := 0x10004 + 0x40 * i

/-- LS_SP (R85). -/
def W.LS_SP (i : Nat) : Nat := 0x10008 + 0x40 * i

/-- LS_FBSCALE (R85). -/
def W.LS_FBSCALE (i : Nat) : Nat := 0x1000C + 0x40 * i

/-- LS_P0 (R85). -/
def W.LS_P0 (i : Nat) : Nat := 0x10010 + 0x40 * i

/-- LS_P1 (R85). -/
def W.LS_P1 (i : Nat) : Nat := 0x10014 + 0x40 * i

/-- LS_P2 (R85). -/
def W.LS_P2 (i : Nat) : Nat := 0x10018 + 0x40 * i

/-- LS_P3 (R85). -/
def W.LS_P3 (i : Nat) : Nat := 0x1001C + 0x40 * i

/-- LS_ULO (R85). -/
def W.LS_ULO (i : Nat) : Nat := 0x10020 + 0x40 * i

/-- LS_UHI (R85). -/
def W.LS_UHI (i : Nat) : Nat := 0x10024 + 0x40 * i

/-- LS_OUT (R85). -/
def W.LS_OUT (i : Nat) : Nat := 0x10028 + 0x40 * i

/-- LS_S1 (R85). -/
def W.LS_S1 (i : Nat) : Nat := 0x1002C + 0x40 * i

/-- LS_S0_LO (R85). -/
def W.LS_S0_LO (i : Nat) : Nat := 0x10030 + 0x40 * i

/-- LS_S0_HI (R85). -/
def W.LS_S0_HI (i : Nat) : Nat := 0x10034 + 0x40 * i

/-- LS_OVR_CNT (R85). -/
def W.LS_OVR_CNT (i : Nat) : Nat := 0x10038 + 0x40 * i

/-- LS_STAT (R85). -/
def W.LS_STAT (i : Nat) : Nat := 0x1003C + 0x40 * i

/-- BT_CFG (R383). -/
def W.BT_CFG (i : Nat) : Nat := 0x20000 + 0x40 * i

/-- BT_PEAK_CNT (R383). -/
def W.BT_PEAK_CNT (i : Nat) : Nat := 0x20004 + 0x40 * i

/-- BT_WIN (R383). -/
def W.BT_WIN (i : Nat) : Nat := 0x20008 + 0x40 * i

/-- BT_ACT (R383). -/
def W.BT_ACT (i : Nat) : Nat := 0x2000C + 0x40 * i

/-- BT_SLOPE (R383). -/
def W.BT_SLOPE (i : Nat) : Nat := 0x20010 + 0x40 * i

/-- BT_OPEN (R383). -/
def W.BT_OPEN (i : Nat) : Nat := 0x20014 + 0x40 * i

/-- BT_GATE (R383). -/
def W.BT_GATE (i : Nat) : Nat := 0x20018 + 0x40 * i

/-- BT_FCU (R383). -/
def W.BT_FCU (i : Nat) : Nat := 0x2001C + 0x40 * i

/-- BT_IPEAK (R383). -/
def W.BT_IPEAK (i : Nat) : Nat := 0x20020 + 0x40 * i

/-- BT_MODEL (R383). -/
def W.BT_MODEL (i : Nat) : Nat := 0x20024 + 0x40 * i

/-- BT_NAME0 (R383). -/
def W.BT_NAME0 (i : Nat) : Nat := 0x20028 + 0x40 * i

/-- BT_NAME1 (R383). -/
def W.BT_NAME1 (i : Nat) : Nat := 0x2002C + 0x40 * i

/-- BT_ACCT (R383). -/
def W.BT_ACCT (i : Nat) : Nat := 0x20030 + 0x40 * i

/-- BT_POWER (R383). -/
def W.BT_POWER (i : Nat) : Nat := 0x20034 + 0x40 * i

/-- BT_CEIL (R383). -/
def W.BT_CEIL (i : Nat) : Nat := 0x20038 + 0x40 * i

/-- REG_TB (R206). -/
def W.REG_TB : Nat := 0x24000

/-- REG_SYNC (R206). -/
def W.REG_SYNC : Nat := 0x24004

/-- REG_TB_STAT (R206). -/
def W.REG_TB_STAT : Nat := 0x24008

/-- REG_SYNC_CNT (R206). -/
def W.REG_SYNC_CNT : Nat := 0x2400C

/-- REG_VIN_GAIN (R206). -/
def W.REG_VIN_GAIN : Nat := 0x24010

/-- REG_VIN_OFS (R206). -/
def W.REG_VIN_OFS : Nat := 0x24014

/-- REG_VIN_CFG (R206). -/
def W.REG_VIN_CFG : Nat := 0x24018

/-- REG_VIN (R206). -/
def W.REG_VIN : Nat := 0x2401C

/-- REG_PIN (R206). -/
def W.REG_PIN : Nat := 0x24020

/-- REG_CTRL (R206). -/
def W.REG_CTRL : Nat := 0x24024

/-- RAIL_CTRL (R207). -/
def W.RAIL_CTRL (i : Nat) : Nat := 0x24100 + 0x100 * i

/-- RAIL_STATE (R207). -/
def W.RAIL_STATE (i : Nat) : Nat := 0x24104 + 0x100 * i

/-- RAIL_FLAGS (R207). -/
def W.RAIL_FLAGS (i : Nat) : Nat := 0x24108 + 0x100 * i

/-- RAIL_SEL (R207). -/
def W.RAIL_SEL (i : Nat) : Nat := 0x2410C + 0x100 * i

/-- RAIL_ENTRY (R207). -/
def W.RAIL_ENTRY (i : Nat) (j : Nat) : Nat := 0x24110 + 0x100 * i + 0x4 * j

/-- RAIL_SLEW (R207). -/
def W.RAIL_SLEW (i : Nat) : Nat := 0x24130 + 0x100 * i

/-- RAIL_RAMP (R207). -/
def W.RAIL_RAMP (i : Nat) : Nat := 0x24134 + 0x100 * i

/-- RAIL_DLY (R207). -/
def W.RAIL_DLY (i : Nat) : Nat := 0x24138 + 0x100 * i

/-- RAIL_STOP (R207). -/
def W.RAIL_STOP (i : Nat) : Nat := 0x2413C + 0x100 * i

/-- RAIL_WIN (R207). -/
def W.RAIL_WIN (i : Nat) : Nat := 0x24140 + 0x100 * i

/-- RAIL_B (R207). -/
def W.RAIL_B (i : Nat) (j : Nat) : Nat := 0x24144 + 0x100 * i + 0x4 * j

/-- RAIL_C1 (R207). -/
def W.RAIL_C1 (i : Nat) : Nat := 0x24154 + 0x100 * i

/-- RAIL_C2 (R207). -/
def W.RAIL_C2 (i : Nat) : Nat := 0x24158 + 0x100 * i

/-- RAIL_VC_LO (R207). -/
def W.RAIL_VC_LO (i : Nat) : Nat := 0x2415C + 0x100 * i

/-- RAIL_VC_HI (R207). -/
def W.RAIL_VC_HI (i : Nat) : Nat := 0x24160 + 0x100 * i

/-- RAIL_DUTY (R207). -/
def W.RAIL_DUTY (i : Nat) : Nat := 0x24164 + 0x100 * i

/-- RAIL_SHED (R207). -/
def W.RAIL_SHED (i : Nat) : Nat := 0x24168 + 0x100 * i

/-- RAIL_IPH (R207). -/
def W.RAIL_IPH (i : Nat) : Nat := 0x2416C + 0x100 * i

/-- RAIL_OL (R207). -/
def W.RAIL_OL (i : Nat) : Nat := 0x24170 + 0x100 * i

/-- RAIL_KVIN (R207). -/
def W.RAIL_KVIN (i : Nat) : Nat := 0x24174 + 0x100 * i

/-- RAIL_TELE (R207). -/
def W.RAIL_TELE (i : Nat) : Nat := 0x24178 + 0x100 * i

/-- RAIL_POUT (R207). -/
def W.RAIL_POUT (i : Nat) : Nat := 0x2417C + 0x100 * i

/-- RAIL_VCMD (R207). -/
def W.RAIL_VCMD (i : Nat) : Nat := 0x24180 + 0x100 * i

/-- RAIL_CNT_SHED (R207). -/
def W.RAIL_CNT_SHED (i : Nat) : Nat := 0x24184 + 0x100 * i

/-- RAIL_CNT_ABORT (R207). -/
def W.RAIL_CNT_ABORT (i : Nat) : Nat := 0x24188 + 0x100 * i

/-- RAIL_CNT_OL (R207). -/
def W.RAIL_CNT_OL (i : Nat) : Nat := 0x2418C + 0x100 * i

/-- PH_CTRL (R208). -/
def W.PH_CTRL (i : Nat) : Nat := 0x24900 + 0x20 * i

/-- PH_CAL (R208). -/
def W.PH_CAL (i : Nat) : Nat := 0x24904 + 0x20 * i

/-- PH_OCF (R208). -/
def W.PH_OCF (i : Nat) : Nat := 0x24908 + 0x20 * i

/-- PH_I (R208). -/
def W.PH_I (i : Nat) : Nat := 0x2490C + 0x20 * i

/-- PH_STAT (R208). -/
def W.PH_STAT (i : Nat) : Nat := 0x24910 + 0x20 * i

/-- PH_CNT_OC (R208). -/
def W.PH_CNT_OC (i : Nat) : Nat := 0x24914 + 0x20 * i

/-- FSYN_CTRL (R175). -/
def W.FSYN_CTRL (i : Nat) : Nat := 0x28000 + 0x20 * i

/-- FSYN_MAN (R175). -/
def W.FSYN_MAN (i : Nat) : Nat := 0x28004 + 0x20 * i

/-- FSYN_GLIDE (R175). -/
def W.FSYN_GLIDE (i : Nat) : Nat := 0x28008 + 0x20 * i

/-- FSYN_FREQ (R175). -/
def W.FSYN_FREQ (i : Nat) : Nat := 0x2800C + 0x20 * i

/-- FSYN_STAT (R175). -/
def W.FSYN_STAT (i : Nat) : Nat := 0x28010 + 0x20 * i

/-- FSYN_CNT_COAST (R175). -/
def W.FSYN_CNT_COAST (i : Nat) : Nat := 0x28014 + 0x20 * i

/-- DRP_RGN_MUX (R175). -/
def W.DRP_RGN_MUX (i : Nat) : Nat := 0x28200 + 0x20 * i

/-- DRP_RGN_FMAX (R175). -/
def W.DRP_RGN_FMAX (i : Nat) : Nat := 0x28204 + 0x20 * i

/-- DRP_RGN_STR (R175). -/
def W.DRP_RGN_STR (i : Nat) : Nat := 0x28208 + 0x20 * i

/-- DRP_RGN_STAT (R175). -/
def W.DRP_RGN_STAT (i : Nat) : Nat := 0x2820C + 0x20 * i

/-- DRP_RGN_EPI (R175). -/
def W.DRP_RGN_EPI (i : Nat) : Nat := 0x28210 + 0x20 * i

/-- DRP_RGN_STIME_LO (R175). -/
def W.DRP_RGN_STIME_LO (i : Nat) : Nat := 0x28214 + 0x20 * i

/-- DRP_RGN_STIME_HI (R175). -/
def W.DRP_RGN_STIME_HI (i : Nat) : Nat := 0x28218 + 0x20 * i

/-- DRP_DET_CFG (R175). -/
def W.DRP_DET_CFG (i : Nat) : Nat := 0x28400 + 0x4 * i

/-- DRP_DET_CNT (R175). -/
def W.DRP_DET_CNT (i : Nat) : Nat := 0x28800 + 0x4 * i

/-- DRP_CFG (R175). -/
def W.DRP_CFG : Nat := 0x28C00

/-- DRP_CTRL (R175). -/
def W.DRP_CTRL : Nat := 0x28C04

/-- DRP_CLKMON (R175). -/
def W.DRP_CLKMON : Nat := 0x28C08

/-- DRP_OSC_TRIM (R175). -/
def W.DRP_OSC_TRIM : Nat := 0x28C0C

/-- DRP_STATUS (R175). -/
def W.DRP_STATUS : Nat := 0x28C10

/-- SNS_T_VAL (R233). -/
def W.SNS_T_VAL (i : Nat) : Nat := 0x30000 + 0x10 * i

/-- SNS_P_VAL (R233). -/
def W.SNS_P_VAL (i : Nat) : Nat := 0x31800 + 0x10 * i

/-- SNS_H_VAL (R233). -/
def W.SNS_H_VAL (i : Nat) : Nat := 0x32000 + 0x10 * i

/-- SNS_T_RAW (R233). -/
def W.SNS_T_RAW (i : Nat) : Nat := 0x30004 + 0x10 * i

/-- SNS_P_RAW (R233). -/
def W.SNS_P_RAW (i : Nat) : Nat := 0x31804 + 0x10 * i

/-- SNS_H_RAW (R233). -/
def W.SNS_H_RAW (i : Nat) : Nat := 0x32004 + 0x10 * i

/-- SNS_T_CFG (R233). -/
def W.SNS_T_CFG (i : Nat) : Nat := 0x30008 + 0x10 * i

/-- SNS_P_CFG (R233). -/
def W.SNS_P_CFG (i : Nat) : Nat := 0x31808 + 0x10 * i

/-- SNS_H_CFG (R233). -/
def W.SNS_H_CFG (i : Nat) : Nat := 0x32008 + 0x10 * i

/-- SNS_T_NB (R233). -/
def W.SNS_T_NB (i : Nat) : Nat := 0x3000C + 0x10 * i

/-- SNS_P_NB (R233). -/
def W.SNS_P_NB (i : Nat) : Nat := 0x3180C + 0x10 * i

/-- SNS_HBM_WR (R233). -/
def W.SNS_HBM_WR (i : Nat) : Nat := 0x3200C + 0x10 * i

/-- SNS_PH_STAT (R234). -/
def W.SNS_PH_STAT (i : Nat) : Nat := 0x32100 + 0x8 * i

/-- SNS_PH_CFG (R234). -/
def W.SNS_PH_CFG (i : Nat) : Nat := 0x32104 + 0x8 * i

/-- SNS_RS_STAT (R234). -/
def W.SNS_RS_STAT (i : Nat) : Nat := 0x32300 + 0x10 * i

/-- SNS_RS_CFG (R234). -/
def W.SNS_RS_CFG (i : Nat) : Nat := 0x32304 + 0x10 * i

/-- SNS_DET_STAT (R234). -/
def W.SNS_DET_STAT (i : Nat) : Nat := 0x32400 + 0x4 * i

/-- SNS_ACT_STAT (R234). -/
def W.SNS_ACT_STAT (i : Nat) : Nat := 0x32800 + 0x4 * i

/-- SNS_CFG (R234). -/
def W.SNS_CFG : Nat := 0x33000

/-- SNS_CAL (R234). -/
def W.SNS_CAL : Nat := 0x33004

/-- SNS_PM (R234). -/
def W.SNS_PM : Nat := 0x33008

/-- SNS_CTRL (R234). -/
def W.SNS_CTRL : Nat := 0x3300C

/-- SNS_STATUS (R234). -/
def W.SNS_STATUS : Nat := 0x33010

/-- SNS_CNT_STALE (R234). -/
def W.SNS_CNT_STALE : Nat := 0x33014

/-- SNS_CNT_BROKEN (R234). -/
def W.SNS_CNT_BROKEN : Nat := 0x33018

/-- SNS_CNT_PARITY (R234). -/
def W.SNS_CNT_PARITY : Nat := 0x3301C

/-- MT_GUARD (R235). -/
def W.MT_GUARD (i : Nat) : Nat := 0x33100 + 0x20 * i

/-- MT_CFG (R235). -/
def W.MT_CFG (i : Nat) : Nat := 0x33104 + 0x20 * i

/-- MT_THR (R235). -/
def W.MT_THR (i : Nat) : Nat := 0x33108 + 0x20 * i

/-- MT_PMMIN (R235). -/
def W.MT_PMMIN (i : Nat) : Nat := 0x3310C + 0x20 * i

/-- MT_LAST_LO (R235). -/
def W.MT_LAST_LO (i : Nat) : Nat := 0x33110 + 0x20 * i

/-- MT_LAST_HI (R235). -/
def W.MT_LAST_HI (i : Nat) : Nat := 0x33114 + 0x20 * i

/-- MT_REQ (R235). -/
def W.MT_REQ (i : Nat) : Nat := 0x33118 + 0x20 * i

/-- MT_RESTORE (R235). -/
def W.MT_RESTORE (i : Nat) : Nat := 0x3311C + 0x20 * i

/-- ACC_STAT (R259). -/
def W.ACC_STAT (i : Nat) : Nat := 0x40000 + 0x80 * i

/-- ACC_FLOOR (R259). -/
def W.ACC_FLOOR (i : Nat) : Nat := 0x40004 + 0x80 * i

/-- ACC_TAG (R259). -/
def W.ACC_TAG (i : Nat) (j : Nat) : Nat := 0x40008 + 0x80 * i + 0x4 * j

/-- ACC_TSTART (R259). -/
def W.ACC_TSTART (i : Nat) : Nat := 0x40018 + 0x80 * i

/-- ACC_TSTART_HI (R259). -/
def W.ACC_TSTART_HI (i : Nat) : Nat := 0x4001C + 0x80 * i

/-- ACC_TEND (R259). -/
def W.ACC_TEND (i : Nat) : Nat := 0x40020 + 0x80 * i

/-- ACC_TEND_HI (R259). -/
def W.ACC_TEND_HI (i : Nat) : Nat := 0x40024 + 0x80 * i

/-- ACC_ENERGY (R259). -/
def W.ACC_ENERGY (i : Nat) : Nat := 0x40028 + 0x80 * i

/-- ACC_ENERGY_HI (R259). -/
def W.ACC_ENERGY_HI (i : Nat) : Nat := 0x4002C + 0x80 * i

/-- ACC_LEAK (R259). -/
def W.ACC_LEAK (i : Nat) : Nat := 0x40030 + 0x80 * i

/-- ACC_LEAK_HI (R259). -/
def W.ACC_LEAK_HI (i : Nat) : Nat := 0x40034 + 0x80 * i

/-- ACC_SWITCH (R259). -/
def W.ACC_SWITCH (i : Nat) : Nat := 0x40038 + 0x80 * i

/-- ACC_WIN_N (R259). -/
def W.ACC_WIN_N (i : Nat) : Nat := 0x4003C + 0x80 * i

/-- ACC_WIN_MEAN (R259). -/
def W.ACC_WIN_MEAN (i : Nat) : Nat := 0x40040 + 0x80 * i

/-- ACC_WIN_MEAN_HI (R259). -/
def W.ACC_WIN_MEAN_HI (i : Nat) : Nat := 0x40044 + 0x80 * i

/-- ACC_WIN_VAR (R259). -/
def W.ACC_WIN_VAR (i : Nat) : Nat := 0x40048 + 0x80 * i

/-- ACC_WIN_VAR_HI (R259). -/
def W.ACC_WIN_VAR_HI (i : Nat) : Nat := 0x4004C + 0x80 * i

/-- ACC_WIN_SUM (R259). -/
def W.ACC_WIN_SUM (i : Nat) : Nat := 0x40050 + 0x80 * i

/-- ACC_WIN_SUM_HI (R259). -/
def W.ACC_WIN_SUM_HI (i : Nat) : Nat := 0x40054 + 0x80 * i

/-- ACC_STMT (R259). -/
def W.ACC_STMT (i : Nat) : Nat := 0x40058 + 0x80 * i

/-- LDG_BERTH_E (R258). -/
def W.LDG_BERTH_E (i : Nat) : Nat := 0x48000 + 0x8 * i

/-- LDG_BERTH_E_HI (R258). -/
def W.LDG_BERTH_E_HI (i : Nat) : Nat := 0x48004 + 0x8 * i

/-- LDG_RAIL_E (R258). -/
def W.LDG_RAIL_E (i : Nat) : Nat := 0x48800 + 0x8 * i

/-- LDG_RAIL_E_HI (R258). -/
def W.LDG_RAIL_E_HI (i : Nat) : Nat := 0x48804 + 0x8 * i

/-- LDG_UNATTR_R (R258). -/
def W.LDG_UNATTR_R : Nat := 0x48840

/-- LDG_UNATTR_R_HI (R258). -/
def W.LDG_UNATTR_R_HI : Nat := 0x48844

/-- LDG_UNATTR_A (R258). -/
def W.LDG_UNATTR_A : Nat := 0x48848

/-- LDG_UNATTR_A_HI (R258). -/
def W.LDG_UNATTR_A_HI : Nat := 0x4884C

/-- LDG_CLOSED_E (R258). -/
def W.LDG_CLOSED_E : Nat := 0x48850

/-- LDG_CLOSED_E_HI (R258). -/
def W.LDG_CLOSED_E_HI : Nat := 0x48854

/-- LDG_ACCT_TOTAL (R258). -/
def W.LDG_ACCT_TOTAL : Nat := 0x48858

/-- LDG_ACCT_TOTAL_HI (R258). -/
def W.LDG_ACCT_TOTAL_HI : Nat := 0x4885C

/-- LDG_CTRL (R258). -/
def W.LDG_CTRL : Nat := 0x48860

/-- LDG_WIN (R258). -/
def W.LDG_WIN : Nat := 0x48864

/-- LDG_STATUS (R258). -/
def W.LDG_STATUS : Nat := 0x48868

/-- LDG_WIN_IDX (R258). -/
def W.LDG_WIN_IDX : Nat := 0x4886C

/-- LDG_WIN_START (R258). -/
def W.LDG_WIN_START : Nat := 0x48870

/-- LDG_WIN_START_HI (R258). -/
def W.LDG_WIN_START_HI : Nat := 0x48874

/-- LDG_STMT (R258). -/
def W.LDG_STMT : Nat := 0x48878

/-- LDG_EPOCH (R258). -/
def W.LDG_EPOCH : Nat := 0x4887C

/-- LDG_SW_HEAD (R258). -/
def W.LDG_SW_HEAD : Nat := 0x48880

/-- LDG_SW_OVF (R258). -/
def W.LDG_SW_OVF : Nat := 0x48884

/-- LDG_WRAP_RAIL (R258). -/
def W.LDG_WRAP_RAIL : Nat := 0x48888

/-- LDG_UNATTR_CAUSE (R258). -/
def W.LDG_UNATTR_CAUSE (i : Nat) : Nat := 0x48890 + 0x4 * i

/-- LDG_DIE_WIN_N (R258). -/
def W.LDG_DIE_WIN_N : Nat := 0x488A0

/-- LDG_DIE_WIN_MEAN (R258). -/
def W.LDG_DIE_WIN_MEAN : Nat := 0x488A8

/-- LDG_DIE_WIN_MEAN_HI (R258). -/
def W.LDG_DIE_WIN_MEAN_HI : Nat := 0x488AC

/-- LDG_DIE_WIN_VAR (R258). -/
def W.LDG_DIE_WIN_VAR : Nat := 0x488B0

/-- LDG_DIE_WIN_VAR_HI (R258). -/
def W.LDG_DIE_WIN_VAR_HI : Nat := 0x488B4

/-- LDG_DIE_WIN_SUM (R258). -/
def W.LDG_DIE_WIN_SUM : Nat := 0x488B8

/-- LDG_DIE_WIN_SUM_HI (R258). -/
def W.LDG_DIE_WIN_SUM_HI : Nat := 0x488BC

/-- LDG_WRAP_BERTH (R258). -/
def W.LDG_WRAP_BERTH (i : Nat) : Nat := 0x488C0 + 0x4 * i

/-- LDG_SWITCH (R260). -/
def W.LDG_SWITCH (i : Nat) (j : Nat) : Nat := 0x4C000 + 0x10 * i + 0x4 * j

/-- FLT_STATUS (R331). -/
def W.FLT_STATUS (i : Nat) : Nat := 0x50000 + 0x4 * i

/-- FLT_CTRL (R331). -/
def W.FLT_CTRL : Nat := 0x50040

/-- FLT_THROTTLE (R331). -/
def W.FLT_THROTTLE : Nat := 0x50044

/-- FLT_REC (R331). -/
def W.FLT_REC : Nat := 0x50048

/-- FLT_REC_SEQ (R331). -/
def W.FLT_REC_SEQ : Nat := 0x5004C

/-- FLT_FRU_ID (R331). -/
def W.FLT_FRU_ID (i : Nat) : Nat := 0x50050 + 0x4 * i

/-- FLT_FRU_TEXT (R331). -/
def W.FLT_FRU_TEXT (i : Nat) : Nat := 0x50060 + 0x4 * i

/-- FLT_FRU_VALID (R331). -/
def W.FLT_FRU_VALID : Nat := 0x50074

/-- FLT_LOG_HEAD (R331). -/
def W.FLT_LOG_HEAD : Nat := 0x50078

/-- FLT_LOG_OVF (R331). -/
def W.FLT_LOG_OVF : Nat := 0x5007C

/-- FLT_LOG_PAGE (R331). -/
def W.FLT_LOG_PAGE : Nat := 0x50080

/-- FLT_SCRUB (R331). -/
def W.FLT_SCRUB : Nat := 0x50084

/-- FLT_SCRUB_STAT (R331). -/
def W.FLT_SCRUB_STAT : Nat := 0x50088

/-- FLT_CNT_DEFER (R331). -/
def W.FLT_CNT_DEFER : Nat := 0x5008C

/-- FLT_SIL_CFG (R331). -/
def W.FLT_SIL_CFG : Nat := 0x50090

/-- FLT_SIL_MIN (R331). -/
def W.FLT_SIL_MIN : Nat := 0x50094

/-- FLT_REC_DROP (R331). -/
def W.FLT_REC_DROP : Nat := 0x50098

/-- FLT_QUAR (R331). -/
def W.FLT_QUAR (i : Nat) : Nat := 0x500A0 + 0x4 * i

/-- FLT_SUSPECT (R331). -/
def W.FLT_SUSPECT (i : Nat) : Nat := 0x500C0 + 0x4 * i

/-- FLT_REACT (R331). -/
def W.FLT_REACT (i : Nat) : Nat := 0x50100 + 0x4 * i

/-- FLT_ECC_CE (R331). -/
def W.FLT_ECC_CE (i : Nat) : Nat := 0x50200 + 0x4 * i

/-- FLT_SIL_CNT (R331). -/
def W.FLT_SIL_CNT (i : Nat) : Nat := 0x50400 + 0x4 * i

/-- FLT_LOG (R331). -/
def W.FLT_LOG (i : Nat) : Nat := 0x58000 + 0x4 * i

/-- TRC_CTRL (R395). -/
def W.TRC_CTRL : Nat := 0x60000

/-- TRC_CFG (R395). -/
def W.TRC_CFG (i : Nat) : Nat := 0x60010 + 0x10 * i

/-- TRC_STAT (R395). -/
def W.TRC_STAT (i : Nat) : Nat := 0x60014 + 0x10 * i

/-- TRC_LOST (R395). -/
def W.TRC_LOST (i : Nat) : Nat := 0x60018 + 0x10 * i

/-- TRC_WATCH_CFG (R395). -/
def W.TRC_WATCH_CFG : Nat := 0x60080

/-- TRC_WATCH_SNUM (R395). -/
def W.TRC_WATCH_SNUM : Nat := 0x60084

/-- TRC_WATCH_STAT (R395). -/
def W.TRC_WATCH_STAT : Nat := 0x60088

/-- TRC_WATCH_HIT (R395). -/
def W.TRC_WATCH_HIT : Nat := 0x60090

/-- TRC_WATCH_HIT_HI (R395). -/
def W.TRC_WATCH_HIT_HI : Nat := 0x60094

/-- TRC_WATCH_VAL (R395). -/
def W.TRC_WATCH_VAL : Nat := 0x60098

/-- TRC_WATCH_VAL_HI (R395). -/
def W.TRC_WATCH_VAL_HI : Nat := 0x6009C

/-- TRC_CUT (R395). -/
def W.TRC_CUT : Nat := 0x600C0

/-- TRC_DUMP_W (R395). -/
def W.TRC_DUMP_W (i : Nat) : Nat := 0x60100 + 0x8 * i

/-- TRC_DUMP_W_HI (R395). -/
def W.TRC_DUMP_W_HI (i : Nat) : Nat := 0x60104 + 0x8 * i

/-- TRC_DUMP_IN (R395). -/
def W.TRC_DUMP_IN (i : Nat) : Nat := 0x60140 + 0x4 * i

/-- TRC_DUMP_S0IN (R395). -/
def W.TRC_DUMP_S0IN : Nat := 0x60158

/-- TRC_DUMP_S0IN_HI (R395). -/
def W.TRC_DUMP_S0IN_HI : Nat := 0x6015C

/-- TRC_DUMP_OUT (R395). -/
def W.TRC_DUMP_OUT : Nat := 0x60160

/-- TRC_DUMP_S1 (R395). -/
def W.TRC_DUMP_S1 : Nat := 0x60164

/-- TRC_DUMP_S0 (R395). -/
def W.TRC_DUMP_S0 : Nat := 0x60168

/-- TRC_DUMP_S0_HI (R395). -/
def W.TRC_DUMP_S0_HI : Nat := 0x6016C

/-- TRC_DRAIN (R391). -/
def W.TRC_DRAIN (i : Nat) (j : Nat) : Nat := 0x61000 + 0x400 * i + 0x4 * j

/-- TRC_CUT_LS (R394). -/
def W.TRC_CUT_LS (i : Nat) (j : Nat) : Nat := 0x64000 + 0x10 * i + 0x4 * j

/-- TRC_CUT_GATE (R394). -/
def W.TRC_CUT_GATE (i : Nat) (j : Nat) : Nat := 0x68000 + 0x8 * i + 0x4 * j

/-- TRC_CUT_VCMD (R394). -/
def W.TRC_CUT_VCMD (i : Nat) : Nat := 0x68800 + 0x4 * i

/-- SG1_CNT_OVERTEMP (R328). -/
def W.SG1_CNT_OVERTEMP : Nat := 0x70000

/-- SG1_CNT_OVERCURRENT (R328). -/
def W.SG1_CNT_OVERCURRENT : Nat := 0x70004

/-- SG1_CNT_VRFAULT (R328). -/
def W.SG1_CNT_VRFAULT : Nat := 0x70008

/-- SG1_CNT_SENSOR (R328). -/
def W.SG1_CNT_SENSOR : Nat := 0x7000C

/-- SG1_CNT_PARITY (R328). -/
def W.SG1_CNT_PARITY : Nat := 0x70010

/-- SG1_CNT_ECC_CE (R328). -/
def W.SG1_CNT_ECC_CE : Nat := 0x70014

/-- SG1_CNT_ECC_UE (R328). -/
def W.SG1_CNT_ECC_UE : Nat := 0x70018

/-- SG1_CNT_CLOCK (R328). -/
def W.SG1_CNT_CLOCK : Nat := 0x7001C

/-- SG1_CNT_PARTITION (R328). -/
def W.SG1_CNT_PARTITION : Nat := 0x70020

/-- SG1_CNT_FW (R328). -/
def W.SG1_CNT_FW : Nat := 0x70024

/-- SG1_CNT_OTHER (R328). -/
def W.SG1_CNT_OTHER : Nat := 0x70028

/-- TBL_HDR (R236). -/
def W.TBL_HDR (i : Nat) : Nat := 0x80000 + 0x200 * i

/-- TBL_CTRL (R236). -/
def W.TBL_CTRL (i : Nat) : Nat := 0x80004 + 0x200 * i

/-- TBL_CRC (R236). -/
def W.TBL_CRC (i : Nat) : Nat := 0x80008 + 0x200 * i

/-- TBL_X (R236). -/
def W.TBL_X (i : Nat) (j : Nat) : Nat := 0x80010 + 0x200 * i + 0x8 * j

/-- TBL_Y (R236). -/
def W.TBL_Y (i : Nat) (j : Nat) : Nat := 0x80014 + 0x200 * i + 0x8 * j

/-- SG-1 counter i (R328). -/
def W.SG1_CNT (i : Nat) : Nat := 0x70000 + 4 * i

/-- GOV_ID.PART (R381). -/
def F.GOV_ID_PART : Fld := ⟨0x0, 0, 16⟩

/-- GOV_ID.MAJOR (R381). -/
def F.GOV_ID_MAJOR : Fld := ⟨0x0, 16, 8⟩

/-- GOV_ID.MINOR (R381). -/
def F.GOV_ID_MINOR : Fld := ⟨0x0, 24, 8⟩

/-- GOV_STRAP.VSEL_EN (R381). -/
def F.GOV_STRAP_VSEL_EN : Fld := ⟨0x4, 0, 1⟩

/-- GOV_STRAP.VSEL (R381). -/
def F.GOV_STRAP_VSEL : Fld := ⟨0x4, 4, 4⟩

/-- GOV_STRAP.DBG_CLOSED (R381). -/
def F.GOV_STRAP_DBG_CLOSED : Fld := ⟨0x4, 8, 1⟩

/-- GOV_DEVID.ID (R381). -/
def F.GOV_DEVID_ID (i : Nat) : Fld := ⟨0x8 + 0x4 * i, 0, 32⟩

/-- GOV_TIME_LO.T (R381). -/
def F.GOV_TIME_LO_T : Fld := ⟨0x18, 0, 32⟩

/-- GOV_TIME_HI.T (R381). -/
def F.GOV_TIME_HI_T : Fld := ⟨0x1C, 0, 32⟩

/-- SAMPLE_IDX_LO.IDX (R381). -/
def F.SAMPLE_IDX_LO_IDX : Fld := ⟨0x20, 0, 32⟩

/-- SAMPLE_IDX_HI.IDX (R381). -/
def F.SAMPLE_IDX_HI_IDX : Fld := ⟨0x24, 0, 16⟩

/-- GOV_IRQ_SRC.CMD (R381). -/
def F.GOV_IRQ_SRC_CMD : Fld := ⟨0x30, 0, 1⟩

/-- GOV_IRQ_SRC.FLT (R381). -/
def F.GOV_IRQ_SRC_FLT : Fld := ⟨0x30, 1, 1⟩

/-- GOV_IRQ_SRC.WIN (R381). -/
def F.GOV_IRQ_SRC_WIN : Fld := ⟨0x30, 2, 1⟩

/-- GOV_IRQ_SRC.STEADY (R381). -/
def F.GOV_IRQ_SRC_STEADY : Fld := ⟨0x30, 3, 1⟩

/-- GOV_IRQ_SRC.PS (R381). -/
def F.GOV_IRQ_SRC_PS : Fld := ⟨0x30, 4, 1⟩

/-- GOV_IRQ_SRC.IDL (R381). -/
def F.GOV_IRQ_SRC_IDL : Fld := ⟨0x30, 5, 1⟩

/-- GOV_IRQ_SRC.HARBOUR (R381). -/
def F.GOV_IRQ_SRC_HARBOUR : Fld := ⟨0x30, 6, 1⟩

/-- GOV_IRQ_EN.EN (R381). -/
def F.GOV_IRQ_EN_EN : Fld := ⟨0x34, 0, 7⟩

/-- GOV_IRQ_MAP.LINE of index i (R381). -/
def F.GOV_IRQ_MAP_LINE (i : Nat) : Fld := ⟨0x38, 2 * i, 2⟩

/-- GOV_IRQ_LINE.LINE (R381). -/
def F.GOV_IRQ_LINE_LINE : Fld := ⟨0x3C, 0, 4⟩

/-- GOV_LOCK.BT (R381). -/
def F.GOV_LOCK_BT : Fld := ⟨0x40, 0, 1⟩

/-- GOV_LOCK_STAT.BT (R381). -/
def F.GOV_LOCK_STAT_BT : Fld := ⟨0x44, 0, 1⟩

/-- GOV_LOCK_STAT.HLIM (R381). -/
def F.GOV_LOCK_STAT_HLIM : Fld := ⟨0x44, 1, 1⟩

/-- GOV_LOCK_STAT.HARBOUR (R381). -/
def F.GOV_LOCK_STAT_HARBOUR : Fld := ⟨0x44, 2, 1⟩

/-- GOV_LOCK_STAT.FLT (R381). -/
def F.GOV_LOCK_STAT_FLT : Fld := ⟨0x44, 3, 1⟩

/-- GOV_LOCK_STAT.WDT (R381). -/
def F.GOV_LOCK_STAT_WDT : Fld := ⟨0x44, 4, 1⟩

/-- GOV_LOCK_STAT.LOCKED_WR (R381). -/
def F.GOV_LOCK_STAT_LOCKED_WR : Fld := ⟨0x44, 16, 1⟩

/-- GOV_BT_REF.REFUSED (R381). -/
def F.GOV_BT_REF_REFUSED : Fld := ⟨0x48, 0, 1⟩

/-- GOV_BT_REF.BERTH (R381). -/
def F.GOV_BT_REF_BERTH : Fld := ⟨0x48, 8, 8⟩

/-- GOV_BT_REF.RSN (R381). -/
def F.GOV_BT_REF_RSN : Fld := ⟨0x48, 16, 2⟩

/-- FWP_VER.FW_VER (R350). -/
def F.FWP_VER_FW_VER : Fld := ⟨0x100, 0, 32⟩

/-- FWP_VER_HI.FW_VER (R350). -/
def F.FWP_VER_HI_FW_VER : Fld := ⟨0x104, 0, 32⟩

/-- FWP_DIGEST.DIGEST (R350). -/
def F.FWP_DIGEST_DIGEST (i : Nat) : Fld := ⟨0x108 + 0x4 * i, 0, 32⟩

/-- FWP_SVN.IMG_SVN (R350). -/
def F.FWP_SVN_IMG_SVN : Fld := ⟨0x138, 0, 16⟩

/-- FWP_SVN.FUSE_SVN (R350). -/
def F.FWP_SVN_FUSE_SVN : Fld := ⟨0x138, 16, 16⟩

/-- FWP_FEAT.FEAT (R350). -/
def F.FWP_FEAT_FEAT : Fld := ⟨0x13C, 0, 32⟩

/-- FWP_FEAT_HI.FEAT (R350). -/
def F.FWP_FEAT_HI_FEAT : Fld := ⟨0x140, 0, 32⟩

/-- SUP_STAT.MODE (R350). -/
def F.SUP_STAT_MODE : Fld := ⟨0x144, 0, 2⟩

/-- SUP_STAT.HARBOUR (R350). -/
def F.SUP_STAT_HARBOUR : Fld := ⟨0x144, 2, 1⟩

/-- SUP_STAT.SESSION (R350). -/
def F.SUP_STAT_SESSION : Fld := ⟨0x144, 3, 1⟩

/-- SUP_STAT.HB_LAPSE (R350). -/
def F.SUP_STAT_HB_LAPSE : Fld := ⟨0x144, 4, 1⟩

/-- SUP_STAT.REFUSED (R350). -/
def F.SUP_STAT_REFUSED : Fld := ⟨0x144, 5, 1⟩

/-- FWP_PSTATE.STATE of index i (R350). -/
def F.FWP_PSTATE_STATE (i : Nat) : Fld := ⟨0x148, 3 * i, 3⟩

/-- FWP_WDT.TMO_A (R350). -/
def F.FWP_WDT_TMO_A : Fld := ⟨0x14C, 0, 8⟩

/-- FWP_WDT.TMO_B (R350). -/
def F.FWP_WDT_TMO_B : Fld := ⟨0x14C, 8, 8⟩

/-- FWP_WDT.TMO_C (R350). -/
def F.FWP_WDT_TMO_C : Fld := ⟨0x14C, 16, 8⟩

/-- FWP_WDT.LOCK (R350). -/
def F.FWP_WDT_LOCK : Fld := ⟨0x14C, 31, 1⟩

/-- FWP_RST_CNT.COUNT (R350). -/
def F.FWP_RST_CNT_COUNT (i : Nat) : Fld := ⟨0x150 + 0x4 * i, 0, 32⟩

/-- FWP_RST_LAST.PILOT (R350). -/
def F.FWP_RST_LAST_PILOT : Fld := ⟨0x15C, 0, 2⟩

/-- FWP_RST_LAST.CAUSE (R350). -/
def F.FWP_RST_LAST_CAUSE : Fld := ⟨0x15C, 8, 8⟩

/-- FWP_RST_REQ.REQ (R350). -/
def F.FWP_RST_REQ_REQ : Fld := ⟨0x160, 0, 3⟩

/-- FWP_UPD.USTATE (R350). -/
def F.FWP_UPD_USTATE : Fld := ⟨0x164, 0, 3⟩

/-- FWP_UPD.FAIL_RSN (R350). -/
def F.FWP_UPD_FAIL_RSN : Fld := ⟨0x164, 4, 4⟩

/-- SUP_HB.HB_TMO (R350). -/
def F.SUP_HB_HB_TMO : Fld := ⟨0x168, 0, 16⟩

/-- SUP_SESSION.ID (R350). -/
def F.SUP_SESSION_ID : Fld := ⟨0x170, 0, 16⟩

/-- SUP_ANCHOR.CAUSE (R350). -/
def F.SUP_ANCHOR_CAUSE : Fld := ⟨0x174, 0, 4⟩

/-- SUP_JOURNAL.SEQ (R350). -/
def F.SUP_JOURNAL_SEQ (i : Nat) : Fld := ⟨0x180 + 0x4 * i, 0, 16⟩

/-- SUP_JOURNAL.VALID (R350). -/
def F.SUP_JOURNAL_VALID (i : Nat) : Fld := ⟨0x180 + 0x4 * i, 16, 1⟩

/-- SUP_JOURNAL.RESULT (R350). -/
def F.SUP_JOURNAL_RESULT (i : Nat) : Fld := ⟨0x180 + 0x4 * i, 24, 8⟩

/-- IDL_CFG.UP_EN (R289). -/
def F.IDL_CFG_UP_EN : Fld := ⟨0x300, 0, 1⟩

/-- IDL_CFG.DN_EN (R289). -/
def F.IDL_CFG_DN_EN : Fld := ⟨0x300, 1, 1⟩

/-- IDL_CFG.EN (R289). -/
def F.IDL_CFG_EN : Fld := ⟨0x300, 2, 1⟩

/-- IDL_CFG.ROOT (R289). -/
def F.IDL_CFG_ROOT : Fld := ⟨0x300, 3, 1⟩

/-- IDL_CFG.TUG_EN (R289). -/
def F.IDL_CFG_TUG_EN : Fld := ⟨0x300, 4, 1⟩

/-- IDL_CFG.COLL_EN (R289). -/
def F.IDL_CFG_COLL_EN : Fld := ⟨0x300, 5, 1⟩

/-- IDL_CFG.STAMP_DIV (R289). -/
def F.IDL_CFG_STAMP_DIV : Fld := ⟨0x300, 8, 4⟩

/-- IDL_STAT.UP_LINK (R289). -/
def F.IDL_STAT_UP_LINK : Fld := ⟨0x304, 0, 2⟩

/-- IDL_STAT.DN_LINK (R289). -/
def F.IDL_STAT_DN_LINK : Fld := ⟨0x304, 2, 2⟩

/-- IDL_STAT.MODE (R289). -/
def F.IDL_STAT_MODE : Fld := ⟨0x304, 4, 2⟩

/-- IDL_STAT.ENUM_DONE (R289). -/
def F.IDL_STAT_ENUM_DONE : Fld := ⟨0x304, 6, 1⟩

/-- IDL_STAT.LOCKED (R289). -/
def F.IDL_STAT_LOCKED : Fld := ⟨0x304, 7, 1⟩

/-- IDL_STAT.RING_SLOW (R289). -/
def F.IDL_STAT_RING_SLOW : Fld := ⟨0x304, 8, 1⟩

/-- IDL_STAT.ALIGN_PEND (R289). -/
def F.IDL_STAT_ALIGN_PEND : Fld := ⟨0x304, 9, 1⟩

/-- IDL_STAT.NODE (R289). -/
def F.IDL_STAT_NODE : Fld := ⟨0x304, 16, 6⟩

/-- IDL_STAT.NODES (R289). -/
def F.IDL_STAT_NODES : Fld := ⟨0x304, 22, 7⟩

/-- IDL_EVT.REFUSED (R289). -/
def F.IDL_EVT_REFUSED : Fld := ⟨0x308, 0, 1⟩

/-- IDL_EVT.ENUM_ERR (R289). -/
def F.IDL_EVT_ENUM_ERR : Fld := ⟨0x308, 1, 1⟩

/-- IDL_EVT.STEPPED (R289). -/
def F.IDL_EVT_STEPPED : Fld := ⟨0x308, 2, 1⟩

/-- IDL_EVT.LOCK_LOST (R289). -/
def F.IDL_EVT_LOCK_LOST : Fld := ⟨0x308, 3, 1⟩

/-- IDL_EVT.LINK_DOWN (R289). -/
def F.IDL_EVT_LINK_DOWN : Fld := ⟨0x308, 4, 1⟩

/-- IDL_EVT.NODE_EVENT (R289). -/
def F.IDL_EVT_NODE_EVENT : Fld := ⟨0x308, 5, 1⟩

/-- IDL_CTRL.ENUM (R289). -/
def F.IDL_CTRL_ENUM : Fld := ⟨0x30C, 0, 1⟩

/-- IDL_CTRL.WAKE (R289). -/
def F.IDL_CTRL_WAKE : Fld := ⟨0x30C, 1, 1⟩

/-- IDL_CTRL.CLR (R289). -/
def F.IDL_CTRL_CLR : Fld := ⟨0x30C, 2, 1⟩

/-- IDL_CTRL.STOP (R289). -/
def F.IDL_CTRL_STOP : Fld := ⟨0x30C, 3, 1⟩

/-- IDL_CTRL.STOP_ACT (R289). -/
def F.IDL_CTRL_STOP_ACT : Fld := ⟨0x30C, 4, 2⟩

/-- IDL_FCTR.FCTR (R289). -/
def F.IDL_FCTR_FCTR : Fld := ⟨0x310, 0, 32⟩

/-- IDL_OFFSET.OFFSET (R289). -/
def F.IDL_OFFSET_OFFSET : Fld := ⟨0x314, 0, 32⟩

/-- IDL_RLAT.RLAT (R289). -/
def F.IDL_RLAT_RLAT : Fld := ⟨0x318, 0, 16⟩

/-- IDL_RLAT.FLIGHT (R289). -/
def F.IDL_RLAT_FLIGHT : Fld := ⟨0x318, 16, 16⟩

/-- IDL_RATE.RATE (R289). -/
def F.IDL_RATE_RATE : Fld := ⟨0x31C, 0, 16⟩

/-- IDL_PROG_POS.PROG (R289). -/
def F.IDL_PROG_POS_PROG : Fld := ⟨0x320, 0, 16⟩

/-- IDL_PROG_POS.JOB (R289). -/
def F.IDL_PROG_POS_JOB : Fld := ⟨0x320, 16, 16⟩

/-- IDL_PROG_STEP.STEP (R289). -/
def F.IDL_PROG_STEP_STEP : Fld := ⟨0x324, 0, 32⟩

/-- IDL_PROG_CFG.PROG_TMO (R289). -/
def F.IDL_PROG_CFG_PROG_TMO : Fld := ⟨0x328, 0, 16⟩

/-- IDL_TUG_CAP.BASE (R289). -/
def F.IDL_TUG_CAP_BASE : Fld := ⟨0x32C, 0, 16⟩

/-- IDL_TUG_CAP.PEXC_T (R289). -/
def F.IDL_TUG_CAP_PEXC_T : Fld := ⟨0x32C, 16, 16⟩

/-- IDL_TUG_LIM.FLOOR (R289). -/
def F.IDL_TUG_LIM_FLOOR : Fld := ⟨0x330, 0, 16⟩

/-- IDL_TUG_LIM.CEIL (R289). -/
def F.IDL_TUG_LIM_CEIL : Fld := ⟨0x330, 16, 16⟩

/-- IDL_TUG_GAIN.TUG_GAIN (R289). -/
def F.IDL_TUG_GAIN_TUG_GAIN : Fld := ⟨0x334, 0, 16⟩

/-- IDL_TUG_GAIN.PACE_GAIN (R289). -/
def F.IDL_TUG_GAIN_PACE_GAIN : Fld := ⟨0x334, 16, 16⟩

/-- IDL_TUG_THR.LAG_THR (R289). -/
def F.IDL_TUG_THR_LAG_THR : Fld := ⟨0x338, 0, 8⟩

/-- IDL_TUG_THR.LIM_MARGIN (R289). -/
def F.IDL_TUG_THR_LIM_MARGIN : Fld := ⟨0x338, 16, 16⟩

/-- IDL_TUG_STAT.APPLIED (R289). -/
def F.IDL_TUG_STAT_APPLIED : Fld := ⟨0x33C, 0, 16⟩

/-- IDL_TUG_STAT.CRIT (R289). -/
def F.IDL_TUG_STAT_CRIT : Fld := ⟨0x33C, 16, 6⟩

/-- IDL_TUG_STAT.CRIT_VALID (R289). -/
def F.IDL_TUG_STAT_CRIT_VALID : Fld := ⟨0x33C, 22, 1⟩

/-- IDL_TUG_STAT.PACED (R289). -/
def F.IDL_TUG_STAT_PACED : Fld := ⟨0x33C, 23, 1⟩

/-- IDL_TUG_STAT.DONOR (R289). -/
def F.IDL_TUG_STAT_DONOR : Fld := ⟨0x33C, 24, 1⟩

/-- IDL_TUG_STAT.RECEIVER (R289). -/
def F.IDL_TUG_STAT_RECEIVER : Fld := ⟨0x33C, 25, 1⟩

/-- IDL_TUG_STAT.FROZEN (R289). -/
def F.IDL_TUG_STAT_FROZEN : Fld := ⟨0x33C, 26, 1⟩

/-- IDL_TUG_STAT.LIMITED (R289). -/
def F.IDL_TUG_STAT_LIMITED : Fld := ⟨0x33C, 27, 1⟩

/-- IDL_TUG_LAG.LAG (R289). -/
def F.IDL_TUG_LAG_LAG : Fld := ⟨0x340, 0, 16⟩

/-- IDL_TUG_LAG.PACED_BY (R289). -/
def F.IDL_TUG_LAG_PACED_BY : Fld := ⟨0x340, 16, 6⟩

/-- IDL_STOP_REC.ID (R289). -/
def F.IDL_STOP_REC_ID : Fld := ⟨0x344, 0, 8⟩

/-- IDL_STOP_REC.ACTION (R289). -/
def F.IDL_STOP_REC_ACTION : Fld := ⟨0x344, 8, 2⟩

/-- IDL_STOP_REC.ORIGIN (R289). -/
def F.IDL_STOP_REC_ORIGIN : Fld := ⟨0x344, 10, 6⟩

/-- IDL_STOP_REC.VALID (R289). -/
def F.IDL_STOP_REC_VALID : Fld := ⟨0x344, 16, 1⟩

/-- IDL_STOP_REC.HELD (R289). -/
def F.IDL_STOP_REC_HELD : Fld := ⟨0x344, 17, 1⟩

/-- IDL_STOP_TRX.T (R289). -/
def F.IDL_STOP_TRX_T : Fld := ⟨0x348, 0, 32⟩

/-- IDL_STOP_TRX_HI.T (R289). -/
def F.IDL_STOP_TRX_HI_T : Fld := ⟨0x34C, 0, 32⟩

/-- IDL_STOP_CUT.IDX (R289). -/
def F.IDL_STOP_CUT_IDX : Fld := ⟨0x350, 0, 32⟩

/-- IDL_STOP_CUT_HI.IDX (R289). -/
def F.IDL_STOP_CUT_HI_IDX : Fld := ⟨0x354, 0, 16⟩

/-- IDL_NODE_FAULT.MAP (R289). -/
def F.IDL_NODE_FAULT_MAP : Fld := ⟨0x358, 0, 32⟩

/-- IDL_NODE_FAULT_HI.MAP (R289). -/
def F.IDL_NODE_FAULT_HI_MAP : Fld := ⟨0x35C, 0, 32⟩

/-- IDL_NODE_MISS.MAP (R289). -/
def F.IDL_NODE_MISS_MAP : Fld := ⟨0x360, 0, 32⟩

/-- IDL_NODE_MISS_HI.MAP (R289). -/
def F.IDL_NODE_MISS_HI_MAP : Fld := ⟨0x364, 0, 32⟩

/-- IDL_COLL_START.START (R289). -/
def F.IDL_COLL_START_START : Fld := ⟨0x368, 0, 32⟩

/-- IDL_COLL_START_HI.START (R289). -/
def F.IDL_COLL_START_HI_START : Fld := ⟨0x36C, 0, 16⟩

/-- IDL_COLL_N.N (R289). -/
def F.IDL_COLL_N_N : Fld := ⟨0x370, 0, 32⟩

/-- IDL_COLL_STAT.VALID (R289). -/
def F.IDL_COLL_STAT_VALID : Fld := ⟨0x374, 0, 1⟩

/-- IDL_COLL_STAT.SKIPPED (R289). -/
def F.IDL_COLL_STAT_SKIPPED : Fld := ⟨0x374, 1, 1⟩

/-- IDL_COLL_STAT.SAT (R289). -/
def F.IDL_COLL_STAT_SAT : Fld := ⟨0x374, 2, 1⟩

/-- IDL_COLL_CONTRIB.MAP (R289). -/
def F.IDL_COLL_CONTRIB_MAP : Fld := ⟨0x378, 0, 32⟩

/-- IDL_COLL_CONTRIB_HI.MAP (R289). -/
def F.IDL_COLL_CONTRIB_HI_MAP : Fld := ⟨0x37C, 0, 32⟩

/-- IDL_COLL_MEAN.MEAN (R289). -/
def F.IDL_COLL_MEAN_MEAN : Fld := ⟨0x380, 0, 32⟩

/-- IDL_COLL_MEAN_HI.MEAN (R289). -/
def F.IDL_COLL_MEAN_HI_MEAN : Fld := ⟨0x384, 0, 32⟩

/-- IDL_COLL_VAR.VAR (R289). -/
def F.IDL_COLL_VAR_VAR : Fld := ⟨0x388, 0, 32⟩

/-- IDL_COLL_VAR_HI.VAR (R289). -/
def F.IDL_COLL_VAR_HI_VAR : Fld := ⟨0x38C, 0, 32⟩

/-- IDL_COLL_SUM.SUM (R289). -/
def F.IDL_COLL_SUM_SUM : Fld := ⟨0x390, 0, 32⟩

/-- IDL_COLL_SUM_HI.SUM (R289). -/
def F.IDL_COLL_SUM_HI_SUM : Fld := ⟨0x394, 0, 32⟩

/-- IDL_CNT_CRC.COUNT (R289). -/
def F.IDL_CNT_CRC_COUNT : Fld := ⟨0x398, 0, 32⟩

/-- IDL_CNT_MISS.COUNT (R289). -/
def F.IDL_CNT_MISS_COUNT : Fld := ⟨0x39C, 0, 32⟩

/-- IDL_CNT_LINKDN.COUNT (R289). -/
def F.IDL_CNT_LINKDN_COUNT : Fld := ⟨0x3A0, 0, 32⟩

/-- IDL_STAMP_HEAD.HEAD (R289). -/
def F.IDL_STAMP_HEAD_HEAD : Fld := ⟨0x3A4, 0, 9⟩

/-- ENG_CFG.PERIOD (R96). -/
def F.ENG_CFG_PERIOD : Fld := ⟨0x400, 0, 4⟩

/-- ENG_CFG.PER_ACT (R96). -/
def F.ENG_CFG_PER_ACT : Fld := ⟨0x400, 4, 4⟩

/-- ENG_CFG.PER_PEND (R96). -/
def F.ENG_CFG_PER_PEND : Fld := ⟨0x400, 8, 1⟩

/-- ENG_STATUS.CAP_REF (R96). -/
def F.ENG_STATUS_CAP_REF : Fld := ⟨0x404, 0, 1⟩

/-- ENG_STATUS.LAW_REF (R96). -/
def F.ENG_STATUS_LAW_REF : Fld := ⟨0x404, 1, 1⟩

/-- ENG_STATUS.PARAM_REF (R96). -/
def F.ENG_STATUS_PARAM_REF : Fld := ⟨0x404, 2, 1⟩

/-- ENG_STATUS.OVR (R96). -/
def F.ENG_STATUS_OVR : Fld := ⟨0x404, 3, 1⟩

/-- ENG_STATUS.PEAK_VALID (R96). -/
def F.ENG_STATUS_PEAK_VALID : Fld := ⟨0x404, 4, 1⟩

/-- ENG_STATUS.REF_SLOT (R96). -/
def F.ENG_STATUS_REF_SLOT : Fld := ⟨0x404, 16, 10⟩

/-- ENG_STEPS.USED (R96). -/
def F.ENG_STEPS_USED : Fld := ⟨0x408, 0, 16⟩

/-- ENG_STEPS.LIMIT (R96). -/
def F.ENG_STEPS_LIMIT : Fld := ⟨0x408, 16, 16⟩

/-- ENG_PEAK.MIN_IDLE (R96). -/
def F.ENG_PEAK_MIN_IDLE : Fld := ⟨0x40C, 0, 16⟩

/-- ENG_PEAK.TBL_MAX (R96). -/
def F.ENG_PEAK_TBL_MAX : Fld := ⟨0x40C, 16, 16⟩

/-- ENG_OVR_SAMPLES.COUNT (R96). -/
def F.ENG_OVR_SAMPLES_COUNT : Fld := ⟨0x410, 0, 32⟩

/-- PS_CTRL.TARGET (R308). -/
def F.PS_CTRL_TARGET : Fld := ⟨0x500, 0, 3⟩

/-- PS_CTRL.START (R308). -/
def F.PS_CTRL_START : Fld := ⟨0x500, 4, 1⟩

/-- PS_CTRL.CANCEL (R308). -/
def F.PS_CTRL_CANCEL : Fld := ⟨0x500, 5, 1⟩

/-- PS_CTRL.CLR (R308). -/
def F.PS_CTRL_CLR : Fld := ⟨0x500, 6, 1⟩

/-- PS_STAT.STATE (R308). -/
def F.PS_STAT_STATE : Fld := ⟨0x504, 0, 3⟩

/-- PS_STAT.TO (R308). -/
def F.PS_STAT_TO : Fld := ⟨0x504, 3, 3⟩

/-- PS_STAT.BUSY (R308). -/
def F.PS_STAT_BUSY : Fld := ⟨0x504, 6, 1⟩

/-- PS_STAT.REFUSED (R308). -/
def F.PS_STAT_REFUSED : Fld := ⟨0x504, 7, 1⟩

/-- PS_STAT.PHASE (R308). -/
def F.PS_STAT_PHASE : Fld := ⟨0x504, 8, 3⟩

/-- PS_STAT.HELD (R308). -/
def F.PS_STAT_HELD : Fld := ⟨0x504, 11, 1⟩

/-- PS_STAT.RESULT (R308). -/
def F.PS_STAT_RESULT : Fld := ⟨0x504, 12, 2⟩

/-- PS_STAT.ATTEMPT (R308). -/
def F.PS_STAT_ATTEMPT : Fld := ⟨0x504, 16, 16⟩

/-- PS_CFG.T_HOLD (R308). -/
def F.PS_CFG_T_HOLD : Fld := ⟨0x508, 0, 10⟩

/-- PS_CFG.IDLE_AUTO (R308). -/
def F.PS_CFG_IDLE_AUTO : Fld := ⟨0x508, 16, 1⟩

/-- PS_CFG.HWS_FWD (R308). -/
def F.PS_CFG_HWS_FWD : Fld := ⟨0x508, 17, 1⟩

/-- PS_IDLE.IDLE_ACT (R308). -/
def F.PS_IDLE_IDLE_ACT : Fld := ⟨0x50C, 0, 12⟩

/-- PS_IDLE.IDLE_SMP (R308). -/
def F.PS_IDLE_IDLE_SMP : Fld := ⟨0x50C, 16, 16⟩

/-- PS_WAKE_EN.EN (R308). -/
def F.PS_WAKE_EN_EN : Fld := ⟨0x510, 0, 6⟩

/-- PS_WAKE_STAT.LATCH (R308). -/
def F.PS_WAKE_STAT_LATCH : Fld := ⟨0x514, 0, 6⟩

/-- PS_WAKE_STAT.CAUSE (R308). -/
def F.PS_WAKE_STAT_CAUSE : Fld := ⟨0x514, 8, 6⟩

/-- PS_WAKE_STAT.REPLAYED (R308). -/
def F.PS_WAKE_STAT_REPLAYED : Fld := ⟨0x514, 16, 1⟩

/-- PS_WAKE_STAT.OFF_WAKE (R308). -/
def F.PS_WAKE_STAT_OFF_WAKE : Fld := ⟨0x514, 17, 1⟩

/-- PS_WAKE_STAT.EXIT_FAULT (R308). -/
def F.PS_WAKE_STAT_EXIT_FAULT : Fld := ⟨0x514, 18, 1⟩

/-- PS_WAKE_TIME_LO.T (R308). -/
def F.PS_WAKE_TIME_LO_T : Fld := ⟨0x518, 0, 32⟩

/-- PS_WAKE_TIME_HI.T (R308). -/
def F.PS_WAKE_TIME_HI_T : Fld := ⟨0x51C, 0, 32⟩

/-- PS_CNT_DONE.COUNT (R308). -/
def F.PS_CNT_DONE_COUNT : Fld := ⟨0x520, 0, 32⟩

/-- PS_CNT_ABORT.COUNT (R308). -/
def F.PS_CNT_ABORT_COUNT : Fld := ⟨0x524, 0, 32⟩

/-- PS_CNT_REFUSE.COUNT (R308). -/
def F.PS_CNT_REFUSE_COUNT : Fld := ⟨0x528, 0, 32⟩

/-- PS_CNT_HOLD.COUNT (R308). -/
def F.PS_CNT_HOLD_COUNT : Fld := ⟨0x52C, 0, 32⟩

/-- PS_CNT_WAKE.COUNT (R308). -/
def F.PS_CNT_WAKE_COUNT : Fld := ⟨0x530, 0, 32⟩

/-- PS_LOG_HEAD.HEAD (R308). -/
def F.PS_LOG_HEAD_HEAD : Fld := ⟨0x534, 0, 3⟩

/-- PS_ST_RGN.OFFMASK (R309). -/
def F.PS_ST_RGN_OFFMASK (i : Nat) : Fld := ⟨0x600 + 0x40 * i, 0, 16⟩

/-- PS_ST_TIME.BIAS_SETTLE (R309). -/
def F.PS_ST_TIME_BIAS_SETTLE (i : Nat) : Fld := ⟨0x604 + 0x40 * i, 0, 8⟩

/-- PS_ST_RAIL.ENTRY, second index counts fields (R309). -/
def F.PS_ST_RAIL_ENTRY (i : Nat) (j : Nat) : Fld := ⟨0x610 + 0x40 * i + 4 * (j / 2), 0 + 16 * (j % 2), 4⟩

/-- PS_ST_RAIL.NPH, second index counts fields (R309). -/
def F.PS_ST_RAIL_NPH (i : Nat) (j : Nat) : Fld := ⟨0x610 + 0x40 * i + 4 * (j / 2), 4 + 16 * (j % 2), 7⟩

/-- PS_ST_RAIL.EN, second index counts fields (R309). -/
def F.PS_ST_RAIL_EN (i : Nat) (j : Nat) : Fld := ⟨0x610 + 0x40 * i + 4 * (j / 2), 11 + 16 * (j % 2), 1⟩

/-- PS_ST_BIAS.BB_N, second index counts fields (R309). -/
def F.PS_ST_BIAS_BB_N (i : Nat) (j : Nat) : Fld := ⟨0x620 + 0x40 * i + 4 * (j / 2), 0 + 16 * (j % 2), 5⟩

/-- PS_ST_BIAS.BB_P, second index counts fields (R309). -/
def F.PS_ST_BIAS_BB_P (i : Nat) (j : Nat) : Fld := ⟨0x620 + 0x40 * i + 4 * (j / 2), 5 + 16 * (j % 2), 5⟩

/-- PS_ST_BIAS.SA, second index counts fields (R309). -/
def F.PS_ST_BIAS_SA (i : Nat) (j : Nat) : Fld := ⟨0x620 + 0x40 * i + 4 * (j / 2), 10 + 16 * (j % 2), 4⟩

/-- LAW_W0.START (R102). -/
def F.LAW_W0_START (i : Nat) : Fld := ⟨0x800 + 0x10 * i, 0, 12⟩

/-- LAW_W0.LEN (R102). -/
def F.LAW_W0_LEN (i : Nat) : Fld := ⟨0x800 + 0x10 * i, 12, 8⟩

/-- LAW_W0.STEPS (R102). -/
def F.LAW_W0_STEPS (i : Nat) : Fld := ⟨0x800 + 0x10 * i, 20, 4⟩

/-- LAW_W0.ROM (R102). -/
def F.LAW_W0_ROM (i : Nat) : Fld := ⟨0x800 + 0x10 * i, 24, 1⟩

/-- LAW_W0.VALID (R102). -/
def F.LAW_W0_VALID (i : Nat) : Fld := ⟨0x800 + 0x10 * i, 25, 1⟩

/-- LAW_W1.CRC (R102). -/
def F.LAW_W1_CRC (i : Nat) : Fld := ⟨0x804 + 0x10 * i, 0, 32⟩

/-- LAW_W2.USE (R102). -/
def F.LAW_W2_USE (i : Nat) : Fld := ⟨0x808 + 0x10 * i, 0, 16⟩

/-- LIM_CFG.PCAP_EN (R128). -/
def F.LIM_CFG_PCAP_EN : Fld := ⟨0xC00, 0, 1⟩

/-- LIM_CFG.EXC_EN (R128). -/
def F.LIM_CFG_EXC_EN : Fld := ⟨0xC00, 1, 1⟩

/-- LIM_CFG.TSD_EN (R128). -/
def F.LIM_CFG_TSD_EN : Fld := ⟨0xC00, 2, 1⟩

/-- LIM_CFG.BE_EN (R128). -/
def F.LIM_CFG_BE_EN : Fld := ⟨0xC00, 3, 1⟩

/-- LIM_CFG.FLOOR_EN (R128). -/
def F.LIM_CFG_FLOOR_EN : Fld := ⟨0xC00, 4, 1⟩

/-- LIM_CFG.STEADY (R128). -/
def F.LIM_CFG_STEADY : Fld := ⟨0xC00, 5, 1⟩

/-- LIM_SLOTS.PCAP_SLOT (R128). -/
def F.LIM_SLOTS_PCAP_SLOT : Fld := ⟨0xC04, 0, 10⟩

/-- LIM_SLOTS.BE_SLOT (R128). -/
def F.LIM_SLOTS_BE_SLOT : Fld := ⟨0xC04, 16, 10⟩

/-- LIM_PCAP.PCAP (R128). -/
def F.LIM_PCAP_PCAP : Fld := ⟨0xC08, 0, 16⟩

/-- LIM_PCAP.PEXC (R128). -/
def F.LIM_PCAP_PEXC : Fld := ⟨0xC08, 16, 16⟩

/-- LIM_EXC.EXC_MAX (R128). -/
def F.LIM_EXC_EXC_MAX : Fld := ⟨0xC0C, 0, 12⟩

/-- LIM_EXC.RECHG (R128). -/
def F.LIM_EXC_RECHG : Fld := ⟨0xC0C, 16, 8⟩

/-- LIM_EXC_STAT.CREDIT (R128). -/
def F.LIM_EXC_STAT_CREDIT : Fld := ⟨0xC10, 0, 14⟩

/-- LIM_EXC_STAT.GRANTED (R128). -/
def F.LIM_EXC_STAT_GRANTED : Fld := ⟨0xC10, 16, 1⟩

/-- LIM_EXC_STAT.SPENT (R128). -/
def F.LIM_EXC_STAT_SPENT : Fld := ⟨0xC10, 17, 1⟩

/-- LIM_TSD_THR.T_SD (R128). -/
def F.LIM_TSD_THR_T_SD : Fld := ⟨0xC14, 0, 16⟩

/-- LIM_TSD_THR.T_HYS (R128). -/
def F.LIM_TSD_THR_T_HYS : Fld := ⟨0xC14, 16, 16⟩

/-- LIM_TSD_STEP.STEP (R128). -/
def F.LIM_TSD_STEP_STEP : Fld := ⟨0xC18, 0, 16⟩

/-- LIM_TSD_STEP.KMAX (R128). -/
def F.LIM_TSD_STEP_KMAX : Fld := ⟨0xC18, 16, 8⟩

/-- LIM_TSD_STAT.K (R128). -/
def F.LIM_TSD_STAT_K : Fld := ⟨0xC1C, 0, 8⟩

/-- LIM_PCAP_MIN.PCAP_MIN (R128). -/
def F.LIM_PCAP_MIN_PCAP_MIN : Fld := ⟨0xC20, 0, 16⟩

/-- LIM_BE.BE_MARGIN (R128). -/
def F.LIM_BE_BE_MARGIN : Fld := ⟨0xC24, 0, 16⟩

/-- LIM_LC_BUDGET.BUDGET (R128). -/
def F.LIM_LC_BUDGET_BUDGET : Fld := ⟨0xC28, 0, 16⟩

/-- LIM_STEADY_ACT.STEADY_ACT (R128). -/
def F.LIM_STEADY_ACT_STEADY_ACT : Fld := ⟨0xC2C, 0, 12⟩

/-- LIM_FSTEADY.FSTEADY, the index counts fields (R128). -/
def F.LIM_FSTEADY_FSTEADY (i : Nat) : Fld := ⟨0xC30 + 4 * (i / 2), 0 + 16 * (i % 2), 16⟩

/-- LIM_STEADY_STAT.ACTIVE (R128). -/
def F.LIM_STEADY_STAT_ACTIVE : Fld := ⟨0xC50, 0, 1⟩

/-- LIM_STEADY_STAT.BROKEN (R128). -/
def F.LIM_STEADY_STAT_BROKEN : Fld := ⟨0xC50, 1, 1⟩

/-- LIM_STATUS.REFUSED (R128). -/
def F.LIM_STATUS_REFUSED : Fld := ⟨0xC58, 0, 1⟩

/-- LIM_HARBOUR.HP_PCAP (R128). -/
def F.LIM_HARBOUR_HP_PCAP : Fld := ⟨0xC60, 0, 16⟩

/-- LIM_HARBOUR.HP_EXC (R128). -/
def F.LIM_HARBOUR_HP_EXC : Fld := ⟨0xC60, 16, 1⟩

/-- LIM_HARBOUR.HP_STEADY (R128). -/
def F.LIM_HARBOUR_HP_STEADY : Fld := ⟨0xC60, 17, 1⟩

/-- LIM_HARBOUR.HP_FLOORS (R128). -/
def F.LIM_HARBOUR_HP_FLOORS : Fld := ⟨0xC60, 18, 1⟩

/-- LIM_HARBOUR.LOCK (R128). -/
def F.LIM_HARBOUR_LOCK : Fld := ⟨0xC60, 31, 1⟩

/-- HLIM_VCORE.FUSE (R120). -/
def F.HLIM_VCORE_FUSE : Fld := ⟨0xD00, 0, 12⟩

/-- HLIM_VCORE.MAX (R120). -/
def F.HLIM_VCORE_MAX : Fld := ⟨0xD00, 16, 12⟩

/-- HLIM_OC.FUSE (R120). -/
def F.HLIM_OC_FUSE : Fld := ⟨0xD04, 0, 16⟩

/-- HLIM_OC.MAX (R120). -/
def F.HLIM_OC_MAX : Fld := ⟨0xD04, 16, 16⟩

/-- HLIM_FSYN.FUSE (R120). -/
def F.HLIM_FSYN_FUSE (i : Nat) : Fld := ⟨0xD08 + 0x4 * i, 0, 16⟩

/-- HLIM_FSYN.MAX (R120). -/
def F.HLIM_FSYN_MAX (i : Nat) : Fld := ⟨0xD08 + 0x4 * i, 16, 16⟩

/-- HLIM_TSOFT.TSOFT (R120). -/
def F.HLIM_TSOFT_TSOFT : Fld := ⟨0xD48, 0, 16⟩

/-- HLIM_CTRL.LOCK (R120). -/
def F.HLIM_CTRL_LOCK : Fld := ⟨0xD4C, 0, 1⟩

/-- HLIM_CTRL.REFUSED (R120). -/
def F.HLIM_CTRL_REFUSED : Fld := ⟨0xD4C, 1, 1⟩

/-- HLIM_ACT_CNT.COUNT (R120). -/
def F.HLIM_ACT_CNT_COUNT : Fld := ⟨0xD50, 0, 32⟩

/-- FCU_CLS_ENTRY.ENTRY of class i, rail j (R146). -/
def F.FCU_CLS_ENTRY (i : Nat) (j : Nat) : Fld := ⟨0xF00 + 0x10 * i, 4 * j, 4⟩

/-- FCU_CLS_CFG.RAILMASK (R146). -/
def F.FCU_CLS_CFG_RAILMASK (i : Nat) : Fld := ⟨0xF04 + 0x10 * i, 0, 8⟩

/-- FCU_CLS_CFG.PRE (R146). -/
def F.FCU_CLS_CFG_PRE (i : Nat) : Fld := ⟨0xF04 + 0x10 * i, 8, 8⟩

/-- FCU_CLS_RISE.RISE0 (R146). -/
def F.FCU_CLS_RISE_RISE0 (i : Nat) : Fld := ⟨0xF08 + 0x10 * i, 0, 16⟩

/-- FCU_CLS_RISE.RISE1 (R146). -/
def F.FCU_CLS_RISE_RISE1 (i : Nat) : Fld := ⟨0xF08 + 0x10 * i, 16, 16⟩

/-- FCU_CLS_RSEL.RSEL0 (R146). -/
def F.FCU_CLS_RSEL_RSEL0 (i : Nat) : Fld := ⟨0xF0C + 0x10 * i, 0, 3⟩

/-- FCU_CLS_RSEL.RSEL1 (R146). -/
def F.FCU_CLS_RSEL_RSEL1 (i : Nat) : Fld := ⟨0xF0C + 0x10 * i, 4, 3⟩

/-- ASL_CFG.PRESS (R150). -/
def F.ASL_CFG_PRESS : Fld := ⟨0xE00, 0, 12⟩

/-- ASL_STATUS.REFUSED (R150). -/
def F.ASL_STATUS_REFUSED : Fld := ⟨0xE04, 0, 1⟩

/-- FCU_CFG.HORIZON (R150). -/
def F.FCU_CFG_HORIZON : Fld := ⟨0xE10, 0, 8⟩

/-- FCU_CFG.LEAD (R150). -/
def F.FCU_CFG_LEAD : Fld := ⟨0xE10, 8, 8⟩

/-- FCU_CFG.IN_EN (R150). -/
def F.FCU_CFG_IN_EN : Fld := ⟨0xE10, 16, 4⟩

/-- FCU_CFG.OPEN_EN (R150). -/
def F.FCU_CFG_OPEN_EN : Fld := ⟨0xE10, 20, 1⟩

/-- FCU_CONF_MAX.CONF_MAX (R150). -/
def F.FCU_CONF_MAX_CONF_MAX : Fld := ⟨0xE14, 0, 16⟩

/-- FCU_CTRL.CLR (R150). -/
def F.FCU_CTRL_CLR : Fld := ⟨0xE18, 0, 1⟩

/-- FCU_LIVE.LIVE (R150). -/
def F.FCU_LIVE_LIVE : Fld := ⟨0xE1C, 0, 16⟩

/-- FCU_LIVE.LIVE_PEAK (R150). -/
def F.FCU_LIVE_LIVE_PEAK : Fld := ⟨0xE1C, 16, 16⟩

/-- FCU_HINT_STAT.ACTIVE (R150). -/
def F.FCU_HINT_STAT_ACTIVE : Fld := ⟨0xE20, 0, 16⟩

/-- FCU_HINT_STAT.HELD (R150). -/
def F.FCU_HINT_STAT_HELD : Fld := ⟨0xE20, 16, 16⟩

/-- FCU_STATUS.REFUSED (R150). -/
def F.FCU_STATUS_REFUSED : Fld := ⟨0xE24, 0, 1⟩

/-- FCU_STATUS.REASON (R150). -/
def F.FCU_STATUS_REASON : Fld := ⟨0xE24, 1, 3⟩

/-- FCU_STATUS.INPUT (R150). -/
def F.FCU_STATUS_INPUT : Fld := ⟨0xE24, 4, 2⟩

/-- FCU_LAST_REF.BERTH (R150). -/
def F.FCU_LAST_REF_BERTH : Fld := ⟨0xE28, 0, 8⟩

/-- FCU_LAST_REF.ACCT (R150). -/
def F.FCU_LAST_REF_ACCT : Fld := ⟨0xE28, 8, 8⟩

/-- FCU_LAST_REF.IGID (R150). -/
def F.FCU_LAST_REF_IGID : Fld := ⟨0xE28, 16, 16⟩

/-- FCU_CNT_ACCEPT.COUNT (R150). -/
def F.FCU_CNT_ACCEPT_COUNT : Fld := ⟨0xE40, 0, 32⟩

/-- FCU_CNT_CONFIRM.COUNT (R150). -/
def F.FCU_CNT_CONFIRM_COUNT : Fld := ⟨0xE44, 0, 32⟩

/-- FCU_CNT_RETRACT.COUNT (R150). -/
def F.FCU_CNT_RETRACT_COUNT : Fld := ⟨0xE48, 0, 32⟩

/-- FCU_CNT_RELEASE.COUNT (R150). -/
def F.FCU_CNT_RELEASE_COUNT : Fld := ⟨0xE4C, 0, 32⟩

/-- FCU_CNT_EXPIRE.COUNT (R150). -/
def F.FCU_CNT_EXPIRE_COUNT : Fld := ⟨0xE50, 0, 32⟩

/-- FCU_CNT_CONFEND.COUNT (R150). -/
def F.FCU_CNT_CONFEND_COUNT : Fld := ⟨0xE54, 0, 32⟩

/-- FCU_CNT_PURGE.COUNT (R150). -/
def F.FCU_CNT_PURGE_COUNT : Fld := ⟨0xE58, 0, 32⟩

/-- FCU_CNT_REF_FULL.COUNT (R150). -/
def F.FCU_CNT_REF_FULL_COUNT : Fld := ⟨0xE5C, 0, 32⟩

/-- FCU_CNT_REF_BAD.COUNT (R150). -/
def F.FCU_CNT_REF_BAD_COUNT : Fld := ⟨0xE60, 0, 32⟩

/-- FCU_CNT_ORPHAN.COUNT (R150). -/
def F.FCU_CNT_ORPHAN_COUNT : Fld := ⟨0xE64, 0, 32⟩

/-- FCU_CNT_DUP.COUNT (R150). -/
def F.FCU_CNT_DUP_COUNT : Fld := ⟨0xE68, 0, 32⟩

/-- FCU_CNT_BADWORD.COUNT (R150). -/
def F.FCU_CNT_BADWORD_COUNT : Fld := ⟨0xE6C, 0, 32⟩

/-- FCU_CNT_HINT.COUNT (R150). -/
def F.FCU_CNT_HINT_COUNT : Fld := ⟨0xE70, 0, 32⟩

/-- FCU_RAIL_FC.RISE (R150). -/
def F.FCU_RAIL_FC_RISE (i : Nat) : Fld := ⟨0xE80 + 0x4 * i, 0, 16⟩

/-- FCU_RAIL_FC.ENTRY (R150). -/
def F.FCU_RAIL_FC_ENTRY (i : Nat) : Fld := ⟨0xE80 + 0x4 * i, 16, 4⟩

/-- FCU_RAIL_FC.ENTRY_VALID (R150). -/
def F.FCU_RAIL_FC_ENTRY_VALID (i : Nat) : Fld := ⟨0xE80 + 0x4 * i, 20, 1⟩

/-- FCU_RAIL_FC.READY (R150). -/
def F.FCU_RAIL_FC_READY (i : Nat) : Fld := ⟨0xE80 + 0x4 * i, 21, 1⟩

/-- CMD_REQ.WORD (R373). -/
def F.CMD_REQ_WORD (i : Nat) (j : Nat) : Fld := ⟨0x1000 + 0x200 * i + 0x4 * j, 0, 32⟩

/-- CMD_RPL.WORD (R373). -/
def F.CMD_RPL_WORD (i : Nat) (j : Nat) : Fld := ⟨0x1100 + 0x200 * i + 0x4 * j, 0, 32⟩

/-- CMD_STAT.TAKEN (R373). -/
def F.CMD_STAT_TAKEN (i : Nat) : Fld := ⟨0x3000 + 0x10 * i, 0, 1⟩

/-- CMD_STAT.WAIT (R373). -/
def F.CMD_STAT_WAIT (i : Nat) : Fld := ⟨0x3000 + 0x10 * i, 1, 1⟩

/-- CMD_STAT.RDY (R373). -/
def F.CMD_STAT_RDY (i : Nat) : Fld := ⟨0x3000 + 0x10 * i, 2, 1⟩

/-- CMD_STAT.DUP (R373). -/
def F.CMD_STAT_DUP (i : Nat) : Fld := ⟨0x3000 + 0x10 * i, 3, 1⟩

/-- CMD_STAT.OVR (R373). -/
def F.CMD_STAT_OVR (i : Nat) : Fld := ⟨0x3000 + 0x10 * i, 4, 1⟩

/-- CMD_STAT.CRC_FAIL (R373). -/
def F.CMD_STAT_CRC_FAIL (i : Nat) : Fld := ⟨0x3000 + 0x10 * i, 5, 1⟩

/-- CMD_STAT.STARTED (R373). -/
def F.CMD_STAT_STARTED (i : Nat) : Fld := ⟨0x3000 + 0x10 * i, 6, 1⟩

/-- CMD_STAT.LAST_SEQ (R373). -/
def F.CMD_STAT_LAST_SEQ (i : Nat) : Fld := ⟨0x3000 + 0x10 * i, 16, 16⟩

/-- CMD_CTRL.ABORT (R373). -/
def F.CMD_CTRL_ABORT (i : Nat) : Fld := ⟨0x3004 + 0x10 * i, 0, 1⟩

/-- CMD_CTRL.CLEAR (R373). -/
def F.CMD_CTRL_CLEAR (i : Nat) : Fld := ⟨0x3004 + 0x10 * i, 1, 1⟩

/-- CMD_CNT_CRC.COUNT (R373). -/
def F.CMD_CNT_CRC_COUNT (i : Nat) : Fld := ⟨0x3008 + 0x10 * i, 0, 32⟩

/-- CMD_CNT_TAKEN.COUNT (R373). -/
def F.CMD_CNT_TAKEN_COUNT (i : Nat) : Fld := ⟨0x300C + 0x10 * i, 0, 32⟩

/-- CMD_CFG.WAIT_TMO (R373). -/
def F.CMD_CFG_WAIT_TMO : Fld := ⟨0x3100, 0, 16⟩

/-- CMD_CFG.CLR (R373). -/
def F.CMD_CFG_CLR : Fld := ⟨0x3100, 16, 1⟩

/-- CMD_SUMMARY.RDY (R373). -/
def F.CMD_SUMMARY_RDY : Fld := ⟨0x3104, 0, 16⟩

/-- CMD_SUMMARY.TAKEN (R373). -/
def F.CMD_SUMMARY_TAKEN : Fld := ⟨0x3104, 16, 16⟩

/-- CMD_IRQ_EN.EN (R373). -/
def F.CMD_IRQ_EN_EN : Fld := ⟨0x3108, 0, 16⟩

/-- FENCE_STATE.SIG (R373). -/
def F.FENCE_STATE_SIG (i : Nat) : Fld := ⟨0x3800 + 0x4 * i, 0, 32⟩

/-- LS_CTRL.EN (R85). -/
def F.LS_CTRL_EN (i : Nat) : Fld := ⟨0x10000 + 0x40 * i, 0, 1⟩

/-- LS_CTRL.DEST (R85). -/
def F.LS_CTRL_DEST (i : Nat) : Fld := ⟨0x10000 + 0x40 * i, 1, 3⟩

/-- LS_CTRL.LAW (R85). -/
def F.LS_CTRL_LAW (i : Nat) : Fld := ⟨0x10000 + 0x40 * i, 4, 6⟩

/-- LS_CTRL.TARGET (R85). -/
def F.LS_CTRL_TARGET (i : Nat) : Fld := ⟨0x10000 + 0x40 * i, 16, 8⟩

/-- LS_CTRL.KIND (R85). -/
def F.LS_CTRL_KIND (i : Nat) : Fld := ⟨0x10000 + 0x40 * i, 24, 8⟩

/-- LS_FB.FB_PRI (R85). -/
def F.LS_FB_FB_PRI (i : Nat) : Fld := ⟨0x10004 + 0x40 * i, 0, 16⟩

/-- LS_FB.FB_SEC (R85). -/
def F.LS_FB_FB_SEC (i : Nat) : Fld := ⟨0x10004 + 0x40 * i, 16, 16⟩

/-- LS_SP.SP (R85). -/
def F.LS_SP_SP (i : Nat) : Fld := ⟨0x10008 + 0x40 * i, 0, 32⟩

/-- LS_FBSCALE.FBSCALE (R85). -/
def F.LS_FBSCALE_FBSCALE (i : Nat) : Fld := ⟨0x1000C + 0x40 * i, 0, 32⟩

/-- LS_P0.P0 (R85). -/
def F.LS_P0_P0 (i : Nat) : Fld := ⟨0x10010 + 0x40 * i, 0, 32⟩

/-- LS_P1.P1 (R85). -/
def F.LS_P1_P1 (i : Nat) : Fld := ⟨0x10014 + 0x40 * i, 0, 32⟩

/-- LS_P2.P2 (R85). -/
def F.LS_P2_P2 (i : Nat) : Fld := ⟨0x10018 + 0x40 * i, 0, 32⟩

/-- LS_P3.P3 (R85). -/
def F.LS_P3_P3 (i : Nat) : Fld := ⟨0x1001C + 0x40 * i, 0, 32⟩

/-- LS_ULO.ULO (R85). -/
def F.LS_ULO_ULO (i : Nat) : Fld := ⟨0x10020 + 0x40 * i, 0, 32⟩

/-- LS_UHI.UHI (R85). -/
def F.LS_UHI_UHI (i : Nat) : Fld := ⟨0x10024 + 0x40 * i, 0, 32⟩

/-- LS_OUT.OUT (R85). -/
def F.LS_OUT_OUT (i : Nat) : Fld := ⟨0x10028 + 0x40 * i, 0, 32⟩

/-- LS_S1.S1 (R85). -/
def F.LS_S1_S1 (i : Nat) : Fld := ⟨0x1002C + 0x40 * i, 0, 32⟩

/-- LS_S0_LO.S0 (R85). -/
def F.LS_S0_LO_S0 (i : Nat) : Fld := ⟨0x10030 + 0x40 * i, 0, 32⟩

/-- LS_S0_HI.S0 (R85). -/
def F.LS_S0_HI_S0 (i : Nat) : Fld := ⟨0x10034 + 0x40 * i, 0, 16⟩

/-- LS_OVR_CNT.OVR_CNT (R85). -/
def F.LS_OVR_CNT_OVR_CNT (i : Nat) : Fld := ⟨0x10038 + 0x40 * i, 0, 32⟩

/-- LS_STAT.WON (R85). -/
def F.LS_STAT_WON (i : Nat) : Fld := ⟨0x1003C + 0x40 * i, 0, 1⟩

/-- LS_STAT.SATO (R85). -/
def F.LS_STAT_SATO (i : Nat) : Fld := ⟨0x1003C + 0x40 * i, 1, 1⟩

/-- LS_STAT.SATA (R85). -/
def F.LS_STAT_SATA (i : Nat) : Fld := ⟨0x1003C + 0x40 * i, 2, 1⟩

/-- LS_STAT.LOST (R85). -/
def F.LS_STAT_LOST (i : Nat) : Fld := ⟨0x1003C + 0x40 * i, 3, 1⟩

/-- LS_STAT.STALE_IN (R85). -/
def F.LS_STAT_STALE_IN (i : Nat) : Fld := ⟨0x1003C + 0x40 * i, 4, 1⟩

/-- LS_STAT.OVR (R85). -/
def F.LS_STAT_OVR (i : Nat) : Fld := ⟨0x1003C + 0x40 * i, 8, 1⟩

/-- LS_STAT.SAT (R85). -/
def F.LS_STAT_SAT (i : Nat) : Fld := ⟨0x1003C + 0x40 * i, 9, 1⟩

/-- LS_STAT.REFUSED (R85). -/
def F.LS_STAT_REFUSED (i : Nat) : Fld := ⟨0x1003C + 0x40 * i, 10, 1⟩

/-- BT_CFG.PRESENT (R383). -/
def F.BT_CFG_PRESENT (i : Nat) : Fld := ⟨0x20000 + 0x40 * i, 0, 1⟩

/-- BT_CFG.RAIL (R383). -/
def F.BT_CFG_RAIL (i : Nat) : Fld := ⟨0x20000 + 0x40 * i, 1, 3⟩

/-- BT_CFG.REGION (R383). -/
def F.BT_CFG_REGION (i : Nat) : Fld := ⟨0x20000 + 0x40 * i, 4, 4⟩

/-- BT_CFG.RETIRING (R383). -/
def F.BT_CFG_RETIRING (i : Nat) : Fld := ⟨0x20000 + 0x40 * i, 8, 1⟩

/-- BT_PEAK_CNT.PEAK_CNT (R383). -/
def F.BT_PEAK_CNT_PEAK_CNT (i : Nat) : Fld := ⟨0x20004 + 0x40 * i, 0, 16⟩

/-- BT_ACT.ACT (R383). -/
def F.BT_ACT_ACT (i : Nat) : Fld := ⟨0x2000C + 0x40 * i, 0, 12⟩

/-- BT_ACT.GAVG (R383). -/
def F.BT_ACT_GAVG (i : Nat) : Fld := ⟨0x2000C + 0x40 * i, 16, 12⟩

/-- BT_SLOPE.UP (R383). -/
def F.BT_SLOPE_UP (i : Nat) : Fld := ⟨0x20010 + 0x40 * i, 0, 12⟩

/-- BT_SLOPE.DN (R383). -/
def F.BT_SLOPE_DN (i : Nat) : Fld := ⟨0x20010 + 0x40 * i, 16, 12⟩

/-- BT_OPEN.UP_OPEN (R383). -/
def F.BT_OPEN_UP_OPEN (i : Nat) : Fld := ⟨0x20014 + 0x40 * i, 0, 12⟩

/-- BT_OPEN.HEAD (R383). -/
def F.BT_OPEN_HEAD (i : Nat) : Fld := ⟨0x20014 + 0x40 * i, 16, 12⟩

/-- BT_GATE.GATE (R383). -/
def F.BT_GATE_GATE (i : Nat) : Fld := ⟨0x20018 + 0x40 * i, 0, 12⟩

/-- BT_GATE.TARGET (R383). -/
def F.BT_GATE_TARGET (i : Nat) : Fld := ⟨0x20018 + 0x40 * i, 16, 12⟩

/-- BT_GATE.STARTED (R383). -/
def F.BT_GATE_STARTED (i : Nat) : Fld := ⟨0x20018 + 0x40 * i, 28, 1⟩

/-- BT_GATE.OPENSLOPE (R383). -/
def F.BT_GATE_OPENSLOPE (i : Nat) : Fld := ⟨0x20018 + 0x40 * i, 29, 1⟩

/-- BT_FCU.RSUM (R383). -/
def F.BT_FCU_RSUM (i : Nat) : Fld := ⟨0x2001C + 0x40 * i, 0, 12⟩

/-- BT_FCU.RCNT (R383). -/
def F.BT_FCU_RCNT (i : Nat) : Fld := ⟨0x2001C + 0x40 * i, 16, 16⟩

/-- BT_IPEAK.IPEAK (R383). -/
def F.BT_IPEAK_IPEAK (i : Nat) : Fld := ⟨0x20020 + 0x40 * i, 0, 16⟩

/-- BT_MODEL.CEFF_TBL (R383). -/
def F.BT_MODEL_CEFF_TBL (i : Nat) : Fld := ⟨0x20024 + 0x40 * i, 0, 6⟩

/-- BT_MODEL.LEAKV_TBL (R383). -/
def F.BT_MODEL_LEAKV_TBL (i : Nat) : Fld := ⟨0x20024 + 0x40 * i, 8, 6⟩

/-- BT_MODEL.LEAKT_TBL (R383). -/
def F.BT_MODEL_LEAKT_TBL (i : Nat) : Fld := ⟨0x20024 + 0x40 * i, 16, 6⟩

/-- BT_MODEL.MODEL_EN (R383). -/
def F.BT_MODEL_MODEL_EN (i : Nat) : Fld := ⟨0x20024 + 0x40 * i, 24, 1⟩

/-- BT_NAME0.NAME (R383). -/
def F.BT_NAME0_NAME (i : Nat) : Fld := ⟨0x20028 + 0x40 * i, 0, 32⟩

/-- BT_NAME1.NAME (R383). -/
def F.BT_NAME1_NAME (i : Nat) : Fld := ⟨0x2002C + 0x40 * i, 0, 32⟩

/-- BT_ACCT.ACCT (R383). -/
def F.BT_ACCT_ACCT (i : Nat) : Fld := ⟨0x20030 + 0x40 * i, 0, 8⟩

/-- BT_ACCT.CLS (R383). -/
def F.BT_ACCT_CLS (i : Nat) : Fld := ⟨0x20030 + 0x40 * i, 8, 1⟩

/-- BT_ACCT.QUAR (R383). -/
def F.BT_ACCT_QUAR (i : Nat) : Fld := ⟨0x20030 + 0x40 * i, 9, 1⟩

/-- BT_ACCT.VIOL (R383). -/
def F.BT_ACCT_VIOL (i : Nat) : Fld := ⟨0x20030 + 0x40 * i, 10, 1⟩

/-- BT_POWER.PW (R383). -/
def F.BT_POWER_PW (i : Nat) : Fld := ⟨0x20034 + 0x40 * i, 0, 16⟩

/-- BT_POWER.PL (R383). -/
def F.BT_POWER_PL (i : Nat) : Fld := ⟨0x20034 + 0x40 * i, 16, 16⟩

/-- BT_CEIL.CEIL (R383). -/
def F.BT_CEIL_CEIL (i : Nat) : Fld := ⟨0x20038 + 0x40 * i, 0, 12⟩

/-- BT_CEIL.FLOOR (R383). -/
def F.BT_CEIL_FLOOR (i : Nat) : Fld := ⟨0x20038 + 0x40 * i, 16, 12⟩

/-- REG_TB.FSW_KHZ (R206). -/
def F.REG_TB_FSW_KHZ : Fld := ⟨0x24000, 0, 12⟩

/-- REG_SYNC.SYNC_EN (R206). -/
def F.REG_SYNC_SYNC_EN : Fld := ⟨0x24004, 0, 1⟩

/-- REG_SYNC.SYNC_PH (R206). -/
def F.REG_SYNC_SYNC_PH : Fld := ⟨0x24004, 8, 8⟩

/-- REG_TB_STAT.PER_EFF (R206). -/
def F.REG_TB_STAT_PER_EFF : Fld := ⟨0x24008, 0, 18⟩

/-- REG_TB_STAT.SYNC_VALID (R206). -/
def F.REG_TB_STAT_SYNC_VALID : Fld := ⟨0x24008, 24, 1⟩

/-- REG_TB_STAT.SYNC_LOCK (R206). -/
def F.REG_TB_STAT_SYNC_LOCK : Fld := ⟨0x24008, 25, 1⟩

/-- REG_TB_STAT.SYNC_LOST (R206). -/
def F.REG_TB_STAT_SYNC_LOST : Fld := ⟨0x24008, 26, 1⟩

/-- REG_TB_STAT.REFUSED (R206). -/
def F.REG_TB_STAT_REFUSED : Fld := ⟨0x24008, 27, 1⟩

/-- REG_SYNC_CNT.COUNT (R206). -/
def F.REG_SYNC_CNT_COUNT : Fld := ⟨0x2400C, 0, 32⟩

/-- REG_VIN_GAIN.VIN_GAIN (R206). -/
def F.REG_VIN_GAIN_VIN_GAIN : Fld := ⟨0x24010, 0, 32⟩

/-- REG_VIN_OFS.VIN_OFS (R206). -/
def F.REG_VIN_OFS_VIN_OFS : Fld := ⟨0x24014, 0, 32⟩

/-- REG_VIN_CFG.FF_EN (R206). -/
def F.REG_VIN_CFG_FF_EN : Fld := ⟨0x24018, 0, 1⟩

/-- REG_VIN_CFG.VIN_NOM (R206). -/
def F.REG_VIN_CFG_VIN_NOM : Fld := ⟨0x24018, 16, 16⟩

/-- REG_VIN.VIN (R206). -/
def F.REG_VIN_VIN : Fld := ⟨0x2401C, 0, 32⟩

/-- REG_PIN.PIN (R206). -/
def F.REG_PIN_PIN : Fld := ⟨0x24020, 0, 16⟩

/-- REG_PIN.PFIXED (R206). -/
def F.REG_PIN_PFIXED : Fld := ⟨0x24020, 16, 16⟩

/-- REG_CTRL.CLR (R206). -/
def F.REG_CTRL_CLR : Fld := ⟨0x24024, 0, 1⟩

/-- RAIL_CTRL.EN (R207). -/
def F.RAIL_CTRL_EN (i : Nat) : Fld := ⟨0x24100 + 0x100 * i, 0, 1⟩

/-- RAIL_CTRL.RDIV (R207). -/
def F.RAIL_CTRL_RDIV (i : Nat) : Fld := ⟨0x24100 + 0x100 * i, 1, 2⟩

/-- RAIL_CTRL.RPH (R207). -/
def F.RAIL_CTRL_RPH (i : Nat) : Fld := ⟨0x24100 + 0x100 * i, 8, 8⟩

/-- RAIL_CTRL.VF_TBL (R207). -/
def F.RAIL_CTRL_VF_TBL (i : Nat) : Fld := ⟨0x24100 + 0x100 * i, 16, 6⟩

/-- RAIL_CTRL.EFF_TBL (R207). -/
def F.RAIL_CTRL_EFF_TBL (i : Nat) : Fld := ⟨0x24100 + 0x100 * i, 22, 6⟩

/-- RAIL_CTRL.COMMIT (R207). -/
def F.RAIL_CTRL_COMMIT (i : Nat) : Fld := ⟨0x24100 + 0x100 * i, 31, 1⟩

/-- RAIL_STATE.STATE (R207). -/
def F.RAIL_STATE_STATE (i : Nat) : Fld := ⟨0x24104 + 0x100 * i, 0, 3⟩

/-- RAIL_STATE.FSTOP (R207). -/
def F.RAIL_STATE_FSTOP (i : Nat) : Fld := ⟨0x24104 + 0x100 * i, 3, 1⟩

/-- RAIL_STATE.PEND (R207). -/
def F.RAIL_STATE_PEND (i : Nat) : Fld := ⟨0x24104 + 0x100 * i, 4, 1⟩

/-- RAIL_STATE.REACHED (R207). -/
def F.RAIL_STATE_REACHED (i : Nat) : Fld := ⟨0x24104 + 0x100 * i, 5, 1⟩

/-- RAIL_STATE.INWIN (R207). -/
def F.RAIL_STATE_INWIN (i : Nat) : Fld := ⟨0x24104 + 0x100 * i, 6, 1⟩

/-- RAIL_STATE.TGT_ENTRY (R207). -/
def F.RAIL_STATE_TGT_ENTRY (i : Nat) : Fld := ⟨0x24104 + 0x100 * i, 8, 4⟩

/-- RAIL_STATE.RCH_ENTRY (R207). -/
def F.RAIL_STATE_RCH_ENTRY (i : Nat) : Fld := ⟨0x24104 + 0x100 * i, 12, 4⟩

/-- RAIL_STATE.N_ACT (R207). -/
def F.RAIL_STATE_N_ACT (i : Nat) : Fld := ⟨0x24104 + 0x100 * i, 16, 7⟩

/-- RAIL_STATE.N_REQ (R207). -/
def F.RAIL_STATE_N_REQ (i : Nat) : Fld := ⟨0x24104 + 0x100 * i, 24, 7⟩

/-- RAIL_FLAGS.NEED_HI (R207). -/
def F.RAIL_FLAGS_NEED_HI (i : Nat) : Fld := ⟨0x24108 + 0x100 * i, 0, 1⟩

/-- RAIL_FLAGS.OL (R207). -/
def F.RAIL_FLAGS_OL (i : Nat) : Fld := ⟨0x24108 + 0x100 * i, 1, 1⟩

/-- RAIL_FLAGS.READY (R207). -/
def F.RAIL_FLAGS_READY (i : Nat) : Fld := ⟨0x24108 + 0x100 * i, 2, 1⟩

/-- RAIL_FLAGS.OL_SEEN (R207). -/
def F.RAIL_FLAGS_OL_SEEN (i : Nat) : Fld := ⟨0x24108 + 0x100 * i, 8, 1⟩

/-- RAIL_FLAGS.WIN_LOST (R207). -/
def F.RAIL_FLAGS_WIN_LOST (i : Nat) : Fld := ⟨0x24108 + 0x100 * i, 9, 1⟩

/-- RAIL_FLAGS.REFUSED (R207). -/
def F.RAIL_FLAGS_REFUSED (i : Nat) : Fld := ⟨0x24108 + 0x100 * i, 10, 1⟩

/-- RAIL_SEL.ENTRY_MAX (R207). -/
def F.RAIL_SEL_ENTRY_MAX (i : Nat) : Fld := ⟨0x2410C + 0x100 * i, 0, 4⟩

/-- RAIL_SEL.OL_ENTRY (R207). -/
def F.RAIL_SEL_OL_ENTRY (i : Nat) : Fld := ⟨0x2410C + 0x100 * i, 4, 4⟩

/-- RAIL_SEL.FORCE_ENTRY (R207). -/
def F.RAIL_SEL_FORCE_ENTRY (i : Nat) : Fld := ⟨0x2410C + 0x100 * i, 8, 4⟩

/-- RAIL_SEL.FORCE_EN (R207). -/
def F.RAIL_SEL_FORCE_EN (i : Nat) : Fld := ⟨0x2410C + 0x100 * i, 12, 1⟩

/-- RAIL_ENTRY.ENTRY, second index counts fields (R207). -/
def F.RAIL_ENTRY_ENTRY (i : Nat) (j : Nat) : Fld := ⟨0x24110 + 0x100 * i + 4 * (j / 2), 0 + 16 * (j % 2), 12⟩

/-- RAIL_SLEW.SLEW_UP (R207). -/
def F.RAIL_SLEW_SLEW_UP (i : Nat) : Fld := ⟨0x24130 + 0x100 * i, 0, 12⟩

/-- RAIL_SLEW.SLEW_DN (R207). -/
def F.RAIL_SLEW_SLEW_DN (i : Nat) : Fld := ⟨0x24130 + 0x100 * i, 16, 12⟩

/-- RAIL_RAMP.ON_RAMP (R207). -/
def F.RAIL_RAMP_ON_RAMP (i : Nat) : Fld := ⟨0x24134 + 0x100 * i, 0, 12⟩

/-- RAIL_RAMP.OFF_RAMP (R207). -/
def F.RAIL_RAMP_OFF_RAMP (i : Nat) : Fld := ⟨0x24134 + 0x100 * i, 16, 12⟩

/-- RAIL_DLY.ON_DLY (R207). -/
def F.RAIL_DLY_ON_DLY (i : Nat) : Fld := ⟨0x24138 + 0x100 * i, 0, 16⟩

/-- RAIL_DLY.OFF_DLY (R207). -/
def F.RAIL_DLY_OFF_DLY (i : Nat) : Fld := ⟨0x24138 + 0x100 * i, 16, 16⟩

/-- RAIL_STOP.STOP_MV (R207). -/
def F.RAIL_STOP_STOP_MV (i : Nat) : Fld := ⟨0x2413C + 0x100 * i, 0, 12⟩

/-- RAIL_STOP.T_DIS (R207). -/
def F.RAIL_STOP_T_DIS (i : Nat) : Fld := ⟨0x2413C + 0x100 * i, 16, 16⟩

/-- RAIL_WIN.UV_WIN (R207). -/
def F.RAIL_WIN_UV_WIN (i : Nat) : Fld := ⟨0x24140 + 0x100 * i, 0, 8⟩

/-- RAIL_WIN.OV_WIN (R207). -/
def F.RAIL_WIN_OV_WIN (i : Nat) : Fld := ⟨0x24140 + 0x100 * i, 8, 8⟩

/-- RAIL_WIN.PG_DLY (R207). -/
def F.RAIL_WIN_PG_DLY (i : Nat) : Fld := ⟨0x24140 + 0x100 * i, 16, 16⟩

/-- RAIL_B.B (R207). -/
def F.RAIL_B_B (i : Nat) (j : Nat) : Fld := ⟨0x24144 + 0x100 * i + 0x4 * j, 0, 32⟩

/-- RAIL_C1.C1 (R207). -/
def F.RAIL_C1_C1 (i : Nat) : Fld := ⟨0x24154 + 0x100 * i, 0, 32⟩

/-- RAIL_C2.C2 (R207). -/
def F.RAIL_C2_C2 (i : Nat) : Fld := ⟨0x24158 + 0x100 * i, 0, 32⟩

/-- RAIL_VC_LO.VC_LO (R207). -/
def F.RAIL_VC_LO_VC_LO (i : Nat) : Fld := ⟨0x2415C + 0x100 * i, 0, 32⟩

/-- RAIL_VC_HI.VC_HI (R207). -/
def F.RAIL_VC_HI_VC_HI (i : Nat) : Fld := ⟨0x24160 + 0x100 * i, 0, 32⟩

/-- RAIL_DUTY.DMAX (R207). -/
def F.RAIL_DUTY_DMAX (i : Nat) : Fld := ⟨0x24164 + 0x100 * i, 0, 16⟩

/-- RAIL_DUTY.TON_MIN (R207). -/
def F.RAIL_DUTY_TON_MIN (i : Nat) : Fld := ⟨0x24164 + 0x100 * i, 16, 16⟩

/-- RAIL_SHED.NPH_MIN (R207). -/
def F.RAIL_SHED_NPH_MIN (i : Nat) : Fld := ⟨0x24168 + 0x100 * i, 0, 7⟩

/-- RAIL_SHED.SHED_EN (R207). -/
def F.RAIL_SHED_SHED_EN (i : Nat) : Fld := ⟨0x24168 + 0x100 * i, 7, 1⟩

/-- RAIL_SHED.NPH_READY (R207). -/
def F.RAIL_SHED_NPH_READY (i : Nat) : Fld := ⟨0x24168 + 0x100 * i, 8, 7⟩

/-- RAIL_SHED.UTIL (R207). -/
def F.RAIL_SHED_UTIL (i : Nat) : Fld := ⟨0x24168 + 0x100 * i, 16, 8⟩

/-- RAIL_SHED.SHED_HOLD (R207). -/
def F.RAIL_SHED_SHED_HOLD (i : Nat) : Fld := ⟨0x24168 + 0x100 * i, 24, 8⟩

/-- RAIL_IPH.IPH_CAP (R207). -/
def F.RAIL_IPH_IPH_CAP (i : Nat) : Fld := ⟨0x2416C + 0x100 * i, 0, 16⟩

/-- RAIL_IPH.IMB_THR (R207). -/
def F.RAIL_IPH_IMB_THR (i : Nat) : Fld := ⟨0x2416C + 0x100 * i, 16, 16⟩

/-- RAIL_OL.ILIM_SLOW (R207). -/
def F.RAIL_OL_ILIM_SLOW (i : Nat) : Fld := ⟨0x24170 + 0x100 * i, 0, 16⟩

/-- RAIL_OL.OL_WIN (R207). -/
def F.RAIL_OL_OL_WIN (i : Nat) : Fld := ⟨0x24170 + 0x100 * i, 16, 7⟩

/-- RAIL_KVIN.KVIN (R207). -/
def F.RAIL_KVIN_KVIN (i : Nat) : Fld := ⟨0x24174 + 0x100 * i, 0, 32⟩

/-- RAIL_TELE.VOUT (R207). -/
def F.RAIL_TELE_VOUT (i : Nat) : Fld := ⟨0x24178 + 0x100 * i, 0, 12⟩

/-- RAIL_TELE.IOUT (R207). -/
def F.RAIL_TELE_IOUT (i : Nat) : Fld := ⟨0x24178 + 0x100 * i, 16, 16⟩

/-- RAIL_POUT.POUT (R207). -/
def F.RAIL_POUT_POUT (i : Nat) : Fld := ⟨0x2417C + 0x100 * i, 0, 16⟩

/-- RAIL_POUT.IOL_MEAN (R207). -/
def F.RAIL_POUT_IOL_MEAN (i : Nat) : Fld := ⟨0x2417C + 0x100 * i, 16, 16⟩

/-- RAIL_VCMD.VCMD (R207). -/
def F.RAIL_VCMD_VCMD (i : Nat) : Fld := ⟨0x24180 + 0x100 * i, 0, 32⟩

/-- RAIL_CNT_SHED.COUNT (R207). -/
def F.RAIL_CNT_SHED_COUNT (i : Nat) : Fld := ⟨0x24184 + 0x100 * i, 0, 32⟩

/-- RAIL_CNT_ABORT.COUNT (R207). -/
def F.RAIL_CNT_ABORT_COUNT (i : Nat) : Fld := ⟨0x24188 + 0x100 * i, 0, 32⟩

/-- RAIL_CNT_OL.COUNT (R207). -/
def F.RAIL_CNT_OL_COUNT (i : Nat) : Fld := ⟨0x2418C + 0x100 * i, 0, 32⟩

/-- PH_CTRL.RAIL (R208). -/
def F.PH_CTRL_RAIL (i : Nat) : Fld := ⟨0x24900 + 0x20 * i, 0, 3⟩

/-- PH_CTRL.ASSIGNED (R208). -/
def F.PH_CTRL_ASSIGNED (i : Nat) : Fld := ⟨0x24900 + 0x20 * i, 3, 1⟩

/-- PH_CTRL.ORDER (R208). -/
def F.PH_CTRL_ORDER (i : Nat) : Fld := ⟨0x24900 + 0x20 * i, 4, 6⟩

/-- PH_CTRL.OOS (R208). -/
def F.PH_CTRL_OOS (i : Nat) : Fld := ⟨0x24900 + 0x20 * i, 16, 1⟩

/-- PH_CAL.OFS (R208). -/
def F.PH_CAL_OFS (i : Nat) : Fld := ⟨0x24904 + 0x20 * i, 0, 12⟩

/-- PH_CAL.GAIN (R208). -/
def F.PH_CAL_GAIN (i : Nat) : Fld := ⟨0x24904 + 0x20 * i, 16, 16⟩

/-- PH_OCF.OCF (R208). -/
def F.PH_OCF_OCF (i : Nat) : Fld := ⟨0x24908 + 0x20 * i, 0, 16⟩

/-- PH_OCF.OCF_N (R208). -/
def F.PH_OCF_OCF_N (i : Nat) : Fld := ⟨0x24908 + 0x20 * i, 16, 4⟩

/-- PH_I.IAVG (R208). -/
def F.PH_I_IAVG (i : Nat) : Fld := ⟨0x2490C + 0x20 * i, 0, 16⟩

/-- PH_I.IPK (R208). -/
def F.PH_I_IPK (i : Nat) : Fld := ⟨0x2490C + 0x20 * i, 16, 16⟩

/-- PH_STAT.ACTIVE (R208). -/
def F.PH_STAT_ACTIVE (i : Nat) : Fld := ⟨0x24910 + 0x20 * i, 0, 1⟩

/-- PH_STAT.SHEDDING (R208). -/
def F.PH_STAT_SHEDDING (i : Nat) : Fld := ⟨0x24910 + 0x20 * i, 1, 1⟩

/-- PH_STAT.OC_NOW (R208). -/
def F.PH_STAT_OC_NOW (i : Nat) : Fld := ⟨0x24910 + 0x20 * i, 2, 1⟩

/-- PH_STAT.PFAULT (R208). -/
def F.PH_STAT_PFAULT (i : Nat) : Fld := ⟨0x24910 + 0x20 * i, 8, 1⟩

/-- PH_STAT.IMB (R208). -/
def F.PH_STAT_IMB (i : Nat) : Fld := ⟨0x24910 + 0x20 * i, 9, 1⟩

/-- PH_STAT.REFUSED (R208). -/
def F.PH_STAT_REFUSED (i : Nat) : Fld := ⟨0x24910 + 0x20 * i, 10, 1⟩

/-- PH_CNT_OC.COUNT (R208). -/
def F.PH_CNT_OC_COUNT (i : Nat) : Fld := ⟨0x24914 + 0x20 * i, 0, 32⟩

/-- FSYN_CTRL.EN (R175). -/
def F.FSYN_CTRL_EN (i : Nat) : Fld := ⟨0x28000 + 0x20 * i, 0, 1⟩

/-- FSYN_CTRL.MODE (R175). -/
def F.FSYN_CTRL_MODE (i : Nat) : Fld := ⟨0x28000 + 0x20 * i, 1, 1⟩

/-- FSYN_MAN.MAN (R175). -/
def F.FSYN_MAN_MAN (i : Nat) : Fld := ⟨0x28004 + 0x20 * i, 0, 16⟩

/-- FSYN_GLIDE.GUP (R175). -/
def F.FSYN_GLIDE_GUP (i : Nat) : Fld := ⟨0x28008 + 0x20 * i, 0, 8⟩

/-- FSYN_GLIDE.GDN (R175). -/
def F.FSYN_GLIDE_GDN (i : Nat) : Fld := ⟨0x28008 + 0x20 * i, 8, 8⟩

/-- FSYN_FREQ.CUR (R175). -/
def F.FSYN_FREQ_CUR (i : Nat) : Fld := ⟨0x2800C + 0x20 * i, 0, 16⟩

/-- FSYN_FREQ.TGT (R175). -/
def F.FSYN_FREQ_TGT (i : Nat) : Fld := ⟨0x2800C + 0x20 * i, 16, 16⟩

/-- FSYN_STAT.LOCK (R175). -/
def F.FSYN_STAT_LOCK (i : Nat) : Fld := ⟨0x28010 + 0x20 * i, 0, 1⟩

/-- FSYN_STAT.GLIDE (R175). -/
def F.FSYN_STAT_GLIDE (i : Nat) : Fld := ⟨0x28010 + 0x20 * i, 1, 1⟩

/-- FSYN_STAT.HELD (R175). -/
def F.FSYN_STAT_HELD (i : Nat) : Fld := ⟨0x28010 + 0x20 * i, 2, 1⟩

/-- FSYN_STAT.COAST (R175). -/
def F.FSYN_STAT_COAST (i : Nat) : Fld := ⟨0x28010 + 0x20 * i, 3, 1⟩

/-- FSYN_STAT.FLOOR (R175). -/
def F.FSYN_STAT_FLOOR (i : Nat) : Fld := ⟨0x28010 + 0x20 * i, 4, 1⟩

/-- FSYN_STAT.REF_LOST (R175). -/
def F.FSYN_STAT_REF_LOST (i : Nat) : Fld := ⟨0x28010 + 0x20 * i, 8, 1⟩

/-- FSYN_STAT.CLAMP (R175). -/
def F.FSYN_STAT_CLAMP (i : Nat) : Fld := ⟨0x28010 + 0x20 * i, 9, 1⟩

/-- FSYN_STAT.REFUSED (R175). -/
def F.FSYN_STAT_REFUSED (i : Nat) : Fld := ⟨0x28010 + 0x20 * i, 10, 1⟩

/-- FSYN_CNT_COAST.COUNT (R175). -/
def F.FSYN_CNT_COAST_COUNT (i : Nat) : Fld := ⟨0x28014 + 0x20 * i, 0, 32⟩

/-- DRP_RGN_MUX.SEL (R175). -/
def F.DRP_RGN_MUX_SEL (i : Nat) : Fld := ⟨0x28200 + 0x20 * i, 0, 2⟩

/-- DRP_RGN_MUX.ALT (R175). -/
def F.DRP_RGN_MUX_ALT (i : Nat) : Fld := ⟨0x28200 + 0x20 * i, 4, 4⟩

/-- DRP_RGN_MUX.FB_SEL (R175). -/
def F.DRP_RGN_MUX_FB_SEL (i : Nat) : Fld := ⟨0x28200 + 0x20 * i, 8, 2⟩

/-- DRP_RGN_MUX.FB_SYN (R175). -/
def F.DRP_RGN_MUX_FB_SYN (i : Nat) : Fld := ⟨0x28200 + 0x20 * i, 12, 4⟩

/-- DRP_RGN_MUX.BUSY (R175). -/
def F.DRP_RGN_MUX_BUSY (i : Nat) : Fld := ⟨0x28200 + 0x20 * i, 16, 1⟩

/-- DRP_RGN_MUX.HANG (R175). -/
def F.DRP_RGN_MUX_HANG (i : Nat) : Fld := ⟨0x28200 + 0x20 * i, 17, 1⟩

/-- DRP_RGN_MUX.REFUSED (R175). -/
def F.DRP_RGN_MUX_REFUSED (i : Nat) : Fld := ⟨0x28200 + 0x20 * i, 18, 1⟩

/-- DRP_RGN_MUX.FORCE (R175). -/
def F.DRP_RGN_MUX_FORCE (i : Nat) : Fld := ⟨0x28200 + 0x20 * i, 24, 1⟩

/-- DRP_RGN_FMAX.FMAX (R175). -/
def F.DRP_RGN_FMAX_FMAX (i : Nat) : Fld := ⟨0x28204 + 0x20 * i, 0, 16⟩

/-- DRP_RGN_STR.DEPTH0 (R175). -/
def F.DRP_RGN_STR_DEPTH0 (i : Nat) : Fld := ⟨0x28208 + 0x20 * i, 0, 4⟩

/-- DRP_RGN_STR.DEPTH_MAX (R175). -/
def F.DRP_RGN_STR_DEPTH_MAX (i : Nat) : Fld := ⟨0x28208 + 0x20 * i, 4, 4⟩

/-- DRP_RGN_STR.HOLD (R175). -/
def F.DRP_RGN_STR_HOLD (i : Nat) : Fld := ⟨0x28208 + 0x20 * i, 8, 8⟩

/-- DRP_RGN_STR.RLS (R175). -/
def F.DRP_RGN_STR_RLS (i : Nat) : Fld := ⟨0x28208 + 0x20 * i, 16, 8⟩

/-- DRP_RGN_STR.EN (R175). -/
def F.DRP_RGN_STR_EN (i : Nat) : Fld := ⟨0x28208 + 0x20 * i, 24, 1⟩

/-- DRP_RGN_STAT.DEPTH (R175). -/
def F.DRP_RGN_STAT_DEPTH (i : Nat) : Fld := ⟨0x2820C + 0x20 * i, 0, 4⟩

/-- DRP_RGN_STAT.OPEN (R175). -/
def F.DRP_RGN_STAT_OPEN (i : Nat) : Fld := ⟨0x2820C + 0x20 * i, 4, 1⟩

/-- DRP_RGN_STAT.STR_SMP (R175). -/
def F.DRP_RGN_STAT_STR_SMP (i : Nat) : Fld := ⟨0x2820C + 0x20 * i, 5, 1⟩

/-- DRP_RGN_STAT.PRESENT (R175). -/
def F.DRP_RGN_STAT_PRESENT (i : Nat) : Fld := ⟨0x2820C + 0x20 * i, 6, 1⟩

/-- DRP_RGN_STAT.FIRST_DET (R175). -/
def F.DRP_RGN_STAT_FIRST_DET (i : Nat) : Fld := ⟨0x2820C + 0x20 * i, 8, 8⟩

/-- DRP_RGN_EPI.COUNT (R175). -/
def F.DRP_RGN_EPI_COUNT (i : Nat) : Fld := ⟨0x28210 + 0x20 * i, 0, 32⟩

/-- DRP_RGN_STIME_LO.STIME (R175). -/
def F.DRP_RGN_STIME_LO_STIME (i : Nat) : Fld := ⟨0x28214 + 0x20 * i, 0, 32⟩

/-- DRP_RGN_STIME_HI.STIME (R175). -/
def F.DRP_RGN_STIME_HI_STIME (i : Nat) : Fld := ⟨0x28218 + 0x20 * i, 0, 32⟩

/-- DRP_DET_CFG.THR (R175). -/
def F.DRP_DET_CFG_THR (i : Nat) : Fld := ⟨0x28400 + 0x4 * i, 0, 6⟩

/-- DRP_DET_CFG.RAIL (R175). -/
def F.DRP_DET_CFG_RAIL (i : Nat) : Fld := ⟨0x28400 + 0x4 * i, 8, 3⟩

/-- DRP_DET_CFG.REGION (R175). -/
def F.DRP_DET_CFG_REGION (i : Nat) : Fld := ⟨0x28400 + 0x4 * i, 12, 4⟩

/-- DRP_DET_CFG.EN (R175). -/
def F.DRP_DET_CFG_EN (i : Nat) : Fld := ⟨0x28400 + 0x4 * i, 16, 1⟩

/-- DRP_DET_CFG.CROSS (R175). -/
def F.DRP_DET_CFG_CROSS (i : Nat) : Fld := ⟨0x28400 + 0x4 * i, 17, 1⟩

/-- DRP_DET_CNT.COUNT (R175). -/
def F.DRP_DET_CNT_COUNT (i : Nat) : Fld := ⟨0x28800 + 0x4 * i, 0, 32⟩

/-- DRP_CFG.AUTO_FORCE (R175). -/
def F.DRP_CFG_AUTO_FORCE : Fld := ⟨0x28C00, 0, 1⟩

/-- DRP_CTRL.CLR (R175). -/
def F.DRP_CTRL_CLR : Fld := ⟨0x28C04, 0, 1⟩

/-- DRP_CLKMON.FSYN_PRESENT (R175). -/
def F.DRP_CLKMON_FSYN_PRESENT : Fld := ⟨0x28C08, 0, 16⟩

/-- DRP_CLKMON.REF_PRESENT (R175). -/
def F.DRP_CLKMON_REF_PRESENT : Fld := ⟨0x28C08, 16, 1⟩

/-- DRP_CLKMON.MARK_PRESENT (R175). -/
def F.DRP_CLKMON_MARK_PRESENT : Fld := ⟨0x28C08, 17, 1⟩

/-- DRP_OSC_TRIM.TRIM (R175). -/
def F.DRP_OSC_TRIM_TRIM : Fld := ⟨0x28C0C, 0, 7⟩

/-- DRP_OSC_TRIM.SRC (R175). -/
def F.DRP_OSC_TRIM_SRC : Fld := ⟨0x28C0C, 8, 2⟩

/-- DRP_OSC_TRIM.TRIMMED (R175). -/
def F.DRP_OSC_TRIM_TRIMMED : Fld := ⟨0x28C0C, 12, 1⟩

/-- DRP_OSC_TRIM.USED_REF (R175). -/
def F.DRP_OSC_TRIM_USED_REF : Fld := ⟨0x28C0C, 13, 1⟩

/-- DRP_OSC_TRIM.USED_MARK (R175). -/
def F.DRP_OSC_TRIM_USED_MARK : Fld := ⟨0x28C0C, 14, 1⟩

/-- DRP_STATUS.REFUSED (R175). -/
def F.DRP_STATUS_REFUSED : Fld := ⟨0x28C10, 0, 1⟩

/-- SNS_T_VAL.VAL (R233). -/
def F.SNS_T_VAL_VAL (i : Nat) : Fld := ⟨0x30000 + 0x10 * i, 0, 16⟩

/-- SNS_T_VAL.STALE (R233). -/
def F.SNS_T_VAL_STALE (i : Nat) : Fld := ⟨0x30000 + 0x10 * i, 16, 1⟩

/-- SNS_T_VAL.SUBST (R233). -/
def F.SNS_T_VAL_SUBST (i : Nat) : Fld := ⟨0x30000 + 0x10 * i, 17, 1⟩

/-- SNS_T_VAL.NA (R233). -/
def F.SNS_T_VAL_NA (i : Nat) : Fld := ⟨0x30000 + 0x10 * i, 18, 1⟩

/-- SNS_T_VAL.FAIL (R233). -/
def F.SNS_T_VAL_FAIL (i : Nat) : Fld := ⟨0x30000 + 0x10 * i, 19, 1⟩

/-- SNS_T_VAL.STALE_CNT (R233). -/
def F.SNS_T_VAL_STALE_CNT (i : Nat) : Fld := ⟨0x30000 + 0x10 * i, 20, 3⟩

/-- SNS_T_VAL.RCNT (R233). -/
def F.SNS_T_VAL_RCNT (i : Nat) : Fld := ⟨0x30000 + 0x10 * i, 24, 5⟩

/-- SNS_T_VAL.BROKEN (R233). -/
def F.SNS_T_VAL_BROKEN (i : Nat) : Fld := ⟨0x30000 + 0x10 * i, 30, 1⟩

/-- SNS_P_VAL.VAL (R233). -/
def F.SNS_P_VAL_VAL (i : Nat) : Fld := ⟨0x31800 + 0x10 * i, 0, 16⟩

/-- SNS_P_VAL.STALE (R233). -/
def F.SNS_P_VAL_STALE (i : Nat) : Fld := ⟨0x31800 + 0x10 * i, 16, 1⟩

/-- SNS_P_VAL.SUBST (R233). -/
def F.SNS_P_VAL_SUBST (i : Nat) : Fld := ⟨0x31800 + 0x10 * i, 17, 1⟩

/-- SNS_P_VAL.NA (R233). -/
def F.SNS_P_VAL_NA (i : Nat) : Fld := ⟨0x31800 + 0x10 * i, 18, 1⟩

/-- SNS_P_VAL.FAIL (R233). -/
def F.SNS_P_VAL_FAIL (i : Nat) : Fld := ⟨0x31800 + 0x10 * i, 19, 1⟩

/-- SNS_P_VAL.STALE_CNT (R233). -/
def F.SNS_P_VAL_STALE_CNT (i : Nat) : Fld := ⟨0x31800 + 0x10 * i, 20, 3⟩

/-- SNS_P_VAL.RCNT (R233). -/
def F.SNS_P_VAL_RCNT (i : Nat) : Fld := ⟨0x31800 + 0x10 * i, 24, 5⟩

/-- SNS_P_VAL.BROKEN (R233). -/
def F.SNS_P_VAL_BROKEN (i : Nat) : Fld := ⟨0x31800 + 0x10 * i, 30, 1⟩

/-- SNS_H_VAL.VAL (R233). -/
def F.SNS_H_VAL_VAL (i : Nat) : Fld := ⟨0x32000 + 0x10 * i, 0, 16⟩

/-- SNS_H_VAL.STALE (R233). -/
def F.SNS_H_VAL_STALE (i : Nat) : Fld := ⟨0x32000 + 0x10 * i, 16, 1⟩

/-- SNS_H_VAL.SUBST (R233). -/
def F.SNS_H_VAL_SUBST (i : Nat) : Fld := ⟨0x32000 + 0x10 * i, 17, 1⟩

/-- SNS_H_VAL.NA (R233). -/
def F.SNS_H_VAL_NA (i : Nat) : Fld := ⟨0x32000 + 0x10 * i, 18, 1⟩

/-- SNS_H_VAL.FAIL (R233). -/
def F.SNS_H_VAL_FAIL (i : Nat) : Fld := ⟨0x32000 + 0x10 * i, 19, 1⟩

/-- SNS_H_VAL.STALE_CNT (R233). -/
def F.SNS_H_VAL_STALE_CNT (i : Nat) : Fld := ⟨0x32000 + 0x10 * i, 20, 3⟩

/-- SNS_H_VAL.RCNT (R233). -/
def F.SNS_H_VAL_RCNT (i : Nat) : Fld := ⟨0x32000 + 0x10 * i, 24, 5⟩

/-- SNS_H_VAL.BROKEN (R233). -/
def F.SNS_H_VAL_BROKEN (i : Nat) : Fld := ⟨0x32000 + 0x10 * i, 30, 1⟩

/-- SNS_T_RAW.RAW (R233). -/
def F.SNS_T_RAW_RAW (i : Nat) : Fld := ⟨0x30004 + 0x10 * i, 0, 16⟩

/-- SNS_T_RAW.RESID (R233). -/
def F.SNS_T_RAW_RESID (i : Nat) : Fld := ⟨0x30004 + 0x10 * i, 16, 16⟩

/-- SNS_P_RAW.RAW (R233). -/
def F.SNS_P_RAW_RAW (i : Nat) : Fld := ⟨0x31804 + 0x10 * i, 0, 16⟩

/-- SNS_P_RAW.RESID (R233). -/
def F.SNS_P_RAW_RESID (i : Nat) : Fld := ⟨0x31804 + 0x10 * i, 16, 16⟩

/-- SNS_H_RAW.RAW (R233). -/
def F.SNS_H_RAW_RAW (i : Nat) : Fld := ⟨0x32004 + 0x10 * i, 0, 16⟩

/-- SNS_H_RAW.RESID (R233). -/
def F.SNS_H_RAW_RESID (i : Nat) : Fld := ⟨0x32004 + 0x10 * i, 16, 16⟩

/-- SNS_T_CFG.EN (R233). -/
def F.SNS_T_CFG_EN (i : Nat) : Fld := ⟨0x30008 + 0x10 * i, 0, 1⟩

/-- SNS_T_CFG.NOGRP (R233). -/
def F.SNS_T_CFG_NOGRP (i : Nat) : Fld := ⟨0x30008 + 0x10 * i, 1, 1⟩

/-- SNS_T_CFG.GRP (R233). -/
def F.SNS_T_CFG_GRP (i : Nat) : Fld := ⟨0x30008 + 0x10 * i, 8, 8⟩

/-- SNS_T_CFG.BAND (R233). -/
def F.SNS_T_CFG_BAND (i : Nat) : Fld := ⟨0x30008 + 0x10 * i, 16, 8⟩

/-- SNS_T_CFG.NB_OFS (R233). -/
def F.SNS_T_CFG_NB_OFS (i : Nat) : Fld := ⟨0x30008 + 0x10 * i, 24, 8⟩

/-- SNS_P_CFG.EN (R233). -/
def F.SNS_P_CFG_EN (i : Nat) : Fld := ⟨0x31808 + 0x10 * i, 0, 1⟩

/-- SNS_P_CFG.NOGRP (R233). -/
def F.SNS_P_CFG_NOGRP (i : Nat) : Fld := ⟨0x31808 + 0x10 * i, 1, 1⟩

/-- SNS_P_CFG.GRP: the rail (R233). -/
def F.SNS_P_CFG_RAIL (i : Nat) : Fld := ⟨0x31808 + 0x10 * i, 8, 3⟩

/-- SNS_P_CFG.GRP: the region (R233). -/
def F.SNS_P_CFG_RGN (i : Nat) : Fld := ⟨0x31808 + 0x10 * i, 12, 4⟩

/-- SNS_P_CFG.BAND (R233). -/
def F.SNS_P_CFG_BAND (i : Nat) : Fld := ⟨0x31808 + 0x10 * i, 16, 8⟩

/-- SNS_P_CFG.NB_OFS (R233). -/
def F.SNS_P_CFG_NB_OFS (i : Nat) : Fld := ⟨0x31808 + 0x10 * i, 24, 8⟩

/-- SNS_H_CFG.EN (R233). -/
def F.SNS_H_CFG_EN (i : Nat) : Fld := ⟨0x32008 + 0x10 * i, 0, 1⟩

/-- SNS_H_CFG.NOGRP (R233). -/
def F.SNS_H_CFG_NOGRP (i : Nat) : Fld := ⟨0x32008 + 0x10 * i, 1, 1⟩

/-- SNS_H_CFG.GRP (R233). -/
def F.SNS_H_CFG_GRP (i : Nat) : Fld := ⟨0x32008 + 0x10 * i, 8, 8⟩

/-- SNS_H_CFG.BAND (R233). -/
def F.SNS_H_CFG_BAND (i : Nat) : Fld := ⟨0x32008 + 0x10 * i, 16, 8⟩

/-- SNS_H_CFG.NB_OFS (R233). -/
def F.SNS_H_CFG_NB_OFS (i : Nat) : Fld := ⟨0x32008 + 0x10 * i, 24, 8⟩

/-- SNS_T_NB.NB0 (R233). -/
def F.SNS_T_NB_NB0 (i : Nat) : Fld := ⟨0x3000C + 0x10 * i, 0, 9⟩

/-- SNS_T_NB.NB1 (R233). -/
def F.SNS_T_NB_NB1 (i : Nat) : Fld := ⟨0x3000C + 0x10 * i, 9, 9⟩

/-- SNS_T_NB.NB2 (R233). -/
def F.SNS_T_NB_NB2 (i : Nat) : Fld := ⟨0x3000C + 0x10 * i, 18, 9⟩

/-- SNS_P_NB.NB0 (R233). -/
def F.SNS_P_NB_NB0 (i : Nat) : Fld := ⟨0x3180C + 0x10 * i, 0, 9⟩

/-- SNS_P_NB.NB1 (R233). -/
def F.SNS_P_NB_NB1 (i : Nat) : Fld := ⟨0x3180C + 0x10 * i, 9, 9⟩

/-- SNS_P_NB.NB2 (R233). -/
def F.SNS_P_NB_NB2 (i : Nat) : Fld := ⟨0x3180C + 0x10 * i, 18, 9⟩

/-- SNS_HBM_WR.TEMP (R233). -/
def F.SNS_HBM_WR_TEMP (i : Nat) : Fld := ⟨0x3200C + 0x10 * i, 0, 16⟩

/-- SNS_HBM_WR.TMO (R233). -/
def F.SNS_HBM_WR_TMO (i : Nat) : Fld := ⟨0x3200C + 0x10 * i, 16, 16⟩

/-- SNS_PH_STAT.STALE (R234). -/
def F.SNS_PH_STAT_STALE (i : Nat) : Fld := ⟨0x32100 + 0x8 * i, 0, 1⟩

/-- SNS_PH_STAT.SUBST (R234). -/
def F.SNS_PH_STAT_SUBST (i : Nat) : Fld := ⟨0x32100 + 0x8 * i, 1, 1⟩

/-- SNS_PH_STAT.STALE_CNT (R234). -/
def F.SNS_PH_STAT_STALE_CNT (i : Nat) : Fld := ⟨0x32100 + 0x8 * i, 2, 3⟩

/-- SNS_PH_STAT.RCNT (R234). -/
def F.SNS_PH_STAT_RCNT (i : Nat) : Fld := ⟨0x32100 + 0x8 * i, 8, 5⟩

/-- SNS_PH_STAT.BROKEN (R234). -/
def F.SNS_PH_STAT_BROKEN (i : Nat) : Fld := ⟨0x32100 + 0x8 * i, 14, 1⟩

/-- SNS_PH_STAT.RESID (R234). -/
def F.SNS_PH_STAT_RESID (i : Nat) : Fld := ⟨0x32100 + 0x8 * i, 16, 16⟩

/-- SNS_PH_CFG.EN (R234). -/
def F.SNS_PH_CFG_EN (i : Nat) : Fld := ⟨0x32104 + 0x8 * i, 0, 1⟩

/-- SNS_PH_CFG.BAND (R234). -/
def F.SNS_PH_CFG_BAND (i : Nat) : Fld := ⟨0x32104 + 0x8 * i, 16, 16⟩

/-- SNS_RS_STAT.RCNT (R234). -/
def F.SNS_RS_STAT_RCNT (i : Nat) : Fld := ⟨0x32300 + 0x10 * i, 8, 5⟩

/-- SNS_RS_STAT.BROKEN (R234). -/
def F.SNS_RS_STAT_BROKEN (i : Nat) : Fld := ⟨0x32300 + 0x10 * i, 14, 1⟩

/-- SNS_RS_STAT.RESID (R234). -/
def F.SNS_RS_STAT_RESID (i : Nat) : Fld := ⟨0x32300 + 0x10 * i, 16, 16⟩

/-- SNS_RS_CFG.BAND (R234). -/
def F.SNS_RS_CFG_BAND (i : Nat) : Fld := ⟨0x32304 + 0x10 * i, 8, 8⟩

/-- SNS_RS_CFG.RLL (R234). -/
def F.SNS_RS_CFG_RLL (i : Nat) : Fld := ⟨0x32304 + 0x10 * i, 16, 16⟩

/-- SNS_DET_STAT.BROKEN (R234). -/
def F.SNS_DET_STAT_BROKEN (i : Nat) : Fld := ⟨0x32400 + 0x4 * i, 0, 1⟩

/-- SNS_ACT_STAT.STALE (R234). -/
def F.SNS_ACT_STAT_STALE (i : Nat) : Fld := ⟨0x32800 + 0x4 * i, 0, 1⟩

/-- SNS_ACT_STAT.STALE_CNT (R234). -/
def F.SNS_ACT_STAT_STALE_CNT (i : Nat) : Fld := ⟨0x32800 + 0x4 * i, 1, 3⟩

/-- SNS_ACT_STAT.RCNT (R234). -/
def F.SNS_ACT_STAT_RCNT (i : Nat) : Fld := ⟨0x32800 + 0x4 * i, 4, 5⟩

/-- SNS_ACT_STAT.BROKEN (R234). -/
def F.SNS_ACT_STAT_BROKEN (i : Nat) : Fld := ⟨0x32800 + 0x4 * i, 9, 1⟩

/-- SNS_ACT_STAT.GVIOL (R234). -/
def F.SNS_ACT_STAT_GVIOL (i : Nat) : Fld := ⟨0x32800 + 0x4 * i, 10, 1⟩

/-- SNS_CFG.CAL_EN (R234). -/
def F.SNS_CFG_CAL_EN : Fld := ⟨0x33000, 0, 1⟩

/-- SNS_CFG.ACT_BAND (R234). -/
def F.SNS_CFG_ACT_BAND : Fld := ⟨0x33000, 8, 8⟩

/-- SNS_CFG.FB_TEMP (R234). -/
def F.SNS_CFG_FB_TEMP : Fld := ⟨0x33000, 16, 16⟩

/-- SNS_CAL.CAL_SW (R234). -/
def F.SNS_CAL_CAL_SW : Fld := ⟨0x33004, 0, 8⟩

/-- SNS_CAL.CAL_ADC (R234). -/
def F.SNS_CAL_CAL_ADC : Fld := ⟨0x33004, 16, 16⟩

/-- SNS_PM.PM_FAIL (R234). -/
def F.SNS_PM_PM_FAIL : Fld := ⟨0x33008, 0, 16⟩

/-- SNS_CTRL.CLR (R234). -/
def F.SNS_CTRL_CLR : Fld := ⟨0x3300C, 0, 1⟩

/-- SNS_STATUS.REFUSED (R234). -/
def F.SNS_STATUS_REFUSED : Fld := ⟨0x33010, 0, 1⟩

/-- SNS_CNT_STALE.COUNT (R234). -/
def F.SNS_CNT_STALE_COUNT : Fld := ⟨0x33014, 0, 32⟩

/-- SNS_CNT_BROKEN.COUNT (R234). -/
def F.SNS_CNT_BROKEN_COUNT : Fld := ⟨0x33018, 0, 32⟩

/-- SNS_CNT_PARITY.COUNT (R234). -/
def F.SNS_CNT_PARITY_COUNT : Fld := ⟨0x3301C, 0, 32⟩

/-- MT_GUARD.GUARD (R235). -/
def F.MT_GUARD_GUARD (i : Nat) : Fld := ⟨0x33100 + 0x20 * i, 0, 12⟩

/-- MT_GUARD.FLOOR (R235). -/
def F.MT_GUARD_FLOOR (i : Nat) : Fld := ⟨0x33100 + 0x20 * i, 16, 12⟩

/-- MT_CFG.EN (R235). -/
def F.MT_CFG_EN (i : Nat) : Fld := ⟨0x33104 + 0x20 * i, 0, 1⟩

/-- MT_CFG.GMAX (R235). -/
def F.MT_CFG_GMAX (i : Nat) : Fld := ⟨0x33104 + 0x20 * i, 16, 12⟩

/-- MT_THR.MT_LO (R235). -/
def F.MT_THR_MT_LO (i : Nat) : Fld := ⟨0x33108 + 0x20 * i, 0, 16⟩

/-- MT_THR.MT_HI (R235). -/
def F.MT_THR_MT_HI (i : Nat) : Fld := ⟨0x33108 + 0x20 * i, 16, 16⟩

/-- MT_PMMIN.PMMIN (R235). -/
def F.MT_PMMIN_PMMIN (i : Nat) : Fld := ⟨0x3310C + 0x20 * i, 0, 16⟩

/-- MT_PMMIN.FAILSEEN (R235). -/
def F.MT_PMMIN_FAILSEEN (i : Nat) : Fld := ⟨0x3310C + 0x20 * i, 16, 1⟩

/-- MT_LAST_LO.LAST (R235). -/
def F.MT_LAST_LO_LAST (i : Nat) : Fld := ⟨0x33110 + 0x20 * i, 0, 32⟩

/-- MT_LAST_HI.LAST (R235). -/
def F.MT_LAST_HI_LAST (i : Nat) : Fld := ⟨0x33114 + 0x20 * i, 0, 32⟩

/-- MT_REQ.STEP (R235). -/
def F.MT_REQ_STEP (i : Nat) : Fld := ⟨0x33118 + 0x20 * i, 0, 2⟩

/-- MT_REQ.HELD (R235). -/
def F.MT_REQ_HELD (i : Nat) : Fld := ⟨0x33118 + 0x20 * i, 2, 1⟩

/-- MT_REQ.REFUSED (R235). -/
def F.MT_REQ_REFUSED (i : Nat) : Fld := ⟨0x33118 + 0x20 * i, 3, 1⟩

/-- MT_RESTORE.GUARD (R235). -/
def F.MT_RESTORE_GUARD (i : Nat) : Fld := ⟨0x3311C + 0x20 * i, 0, 12⟩

/-- ACC_STAT.STATE (R259). -/
def F.ACC_STAT_STATE (i : Nat) : Fld := ⟨0x40000 + 0x80 * i, 0, 2⟩

/-- ACC_STAT.CLASS (R259). -/
def F.ACC_STAT_CLASS (i : Nat) : Fld := ⟨0x40000 + 0x80 * i, 2, 1⟩

/-- ACC_STAT.POISON (R259). -/
def F.ACC_STAT_POISON (i : Nat) : Fld := ⟨0x40000 + 0x80 * i, 8, 1⟩

/-- ACC_STAT.WRAP (R259). -/
def F.ACC_STAT_WRAP (i : Nat) : Fld := ⟨0x40000 + 0x80 * i, 9, 1⟩

/-- ACC_STAT.VAR_NEG (R259). -/
def F.ACC_STAT_VAR_NEG (i : Nat) : Fld := ⟨0x40000 + 0x80 * i, 10, 1⟩

/-- ACC_STAT.UNATTR_SEEN (R259). -/
def F.ACC_STAT_UNATTR_SEEN (i : Nat) : Fld := ⟨0x40000 + 0x80 * i, 11, 1⟩

/-- ACC_STAT.HARBOUR (R259). -/
def F.ACC_STAT_HARBOUR (i : Nat) : Fld := ⟨0x40000 + 0x80 * i, 12, 1⟩

/-- ACC_STAT.STMT_REQ (R259). -/
def F.ACC_STAT_STMT_REQ (i : Nat) : Fld := ⟨0x40000 + 0x80 * i, 13, 1⟩

/-- ACC_FLOOR.FLOOR_ACT (R259). -/
def F.ACC_FLOOR_FLOOR_ACT (i : Nat) : Fld := ⟨0x40004 + 0x80 * i, 0, 12⟩

/-- ACC_FLOOR.FLOOR_PWR (R259). -/
def F.ACC_FLOOR_FLOOR_PWR (i : Nat) : Fld := ⟨0x40004 + 0x80 * i, 16, 16⟩

/-- ACC_TAG.TAG (R259). -/
def F.ACC_TAG_TAG (i : Nat) (j : Nat) : Fld := ⟨0x40008 + 0x80 * i + 0x4 * j, 0, 32⟩

/-- ACC_TSTART.T (R259). -/
def F.ACC_TSTART_T (i : Nat) : Fld := ⟨0x40018 + 0x80 * i, 0, 32⟩

/-- ACC_TSTART_HI.T (R259). -/
def F.ACC_TSTART_HI_T (i : Nat) : Fld := ⟨0x4001C + 0x80 * i, 0, 32⟩

/-- ACC_TEND.T (R259). -/
def F.ACC_TEND_T (i : Nat) : Fld := ⟨0x40020 + 0x80 * i, 0, 32⟩

/-- ACC_TEND_HI.T (R259). -/
def F.ACC_TEND_HI_T (i : Nat) : Fld := ⟨0x40024 + 0x80 * i, 0, 32⟩

/-- ACC_ENERGY.E (R259). -/
def F.ACC_ENERGY_E (i : Nat) : Fld := ⟨0x40028 + 0x80 * i, 0, 32⟩

/-- ACC_ENERGY_HI.E (R259). -/
def F.ACC_ENERGY_HI_E (i : Nat) : Fld := ⟨0x4002C + 0x80 * i, 0, 32⟩

/-- ACC_LEAK.E (R259). -/
def F.ACC_LEAK_E (i : Nat) : Fld := ⟨0x40030 + 0x80 * i, 0, 32⟩

/-- ACC_LEAK_HI.E (R259). -/
def F.ACC_LEAK_HI_E (i : Nat) : Fld := ⟨0x40034 + 0x80 * i, 0, 32⟩

/-- ACC_SWITCH.COUNT (R259). -/
def F.ACC_SWITCH_COUNT (i : Nat) : Fld := ⟨0x40038 + 0x80 * i, 0, 32⟩

/-- ACC_WIN_N.N (R259). -/
def F.ACC_WIN_N_N (i : Nat) : Fld := ⟨0x4003C + 0x80 * i, 0, 32⟩

/-- ACC_WIN_MEAN.MEAN (R259). -/
def F.ACC_WIN_MEAN_MEAN (i : Nat) : Fld := ⟨0x40040 + 0x80 * i, 0, 32⟩

/-- ACC_WIN_MEAN_HI.MEAN (R259). -/
def F.ACC_WIN_MEAN_HI_MEAN (i : Nat) : Fld := ⟨0x40044 + 0x80 * i, 0, 32⟩

/-- ACC_WIN_VAR.VAR (R259). -/
def F.ACC_WIN_VAR_VAR (i : Nat) : Fld := ⟨0x40048 + 0x80 * i, 0, 32⟩

/-- ACC_WIN_VAR_HI.VAR (R259). -/
def F.ACC_WIN_VAR_HI_VAR (i : Nat) : Fld := ⟨0x4004C + 0x80 * i, 0, 32⟩

/-- ACC_WIN_SUM.SUM (R259). -/
def F.ACC_WIN_SUM_SUM (i : Nat) : Fld := ⟨0x40050 + 0x80 * i, 0, 32⟩

/-- ACC_WIN_SUM_HI.SUM (R259). -/
def F.ACC_WIN_SUM_HI_SUM (i : Nat) : Fld := ⟨0x40054 + 0x80 * i, 0, 32⟩

/-- ACC_STMT.SLOT (R259). -/
def F.ACC_STMT_SLOT (i : Nat) : Fld := ⟨0x40058 + 0x80 * i, 0, 8⟩

/-- ACC_STMT.QUEUED (R259). -/
def F.ACC_STMT_QUEUED (i : Nat) : Fld := ⟨0x40058 + 0x80 * i, 8, 1⟩

/-- ACC_STMT.SIGNED (R259). -/
def F.ACC_STMT_SIGNED (i : Nat) : Fld := ⟨0x40058 + 0x80 * i, 9, 1⟩

/-- LDG_BERTH_E.E (R258). -/
def F.LDG_BERTH_E_E (i : Nat) : Fld := ⟨0x48000 + 0x8 * i, 0, 32⟩

/-- LDG_BERTH_E_HI.E (R258). -/
def F.LDG_BERTH_E_HI_E (i : Nat) : Fld := ⟨0x48004 + 0x8 * i, 0, 32⟩

/-- LDG_RAIL_E.E (R258). -/
def F.LDG_RAIL_E_E (i : Nat) : Fld := ⟨0x48800 + 0x8 * i, 0, 32⟩

/-- LDG_RAIL_E_HI.E (R258). -/
def F.LDG_RAIL_E_HI_E (i : Nat) : Fld := ⟨0x48804 + 0x8 * i, 0, 32⟩

/-- LDG_UNATTR_R.E (R258). -/
def F.LDG_UNATTR_R_E : Fld := ⟨0x48840, 0, 32⟩

/-- LDG_UNATTR_R_HI.E (R258). -/
def F.LDG_UNATTR_R_HI_E : Fld := ⟨0x48844, 0, 32⟩

/-- LDG_UNATTR_A.E (R258). -/
def F.LDG_UNATTR_A_E : Fld := ⟨0x48848, 0, 32⟩

/-- LDG_UNATTR_A_HI.E (R258). -/
def F.LDG_UNATTR_A_HI_E : Fld := ⟨0x4884C, 0, 32⟩

/-- LDG_CLOSED_E.E (R258). -/
def F.LDG_CLOSED_E_E : Fld := ⟨0x48850, 0, 32⟩

/-- LDG_CLOSED_E_HI.E (R258). -/
def F.LDG_CLOSED_E_HI_E : Fld := ⟨0x48854, 0, 32⟩

/-- LDG_ACCT_TOTAL.E (R258). -/
def F.LDG_ACCT_TOTAL_E : Fld := ⟨0x48858, 0, 32⟩

/-- LDG_ACCT_TOTAL_HI.E (R258). -/
def F.LDG_ACCT_TOTAL_HI_E : Fld := ⟨0x4885C, 0, 32⟩

/-- LDG_CTRL.FREEZE (R258). -/
def F.LDG_CTRL_FREEZE : Fld := ⟨0x48860, 0, 1⟩

/-- LDG_CTRL.WIN_EN (R258). -/
def F.LDG_CTRL_WIN_EN : Fld := ⟨0x48860, 1, 1⟩

/-- LDG_CTRL.SG1_MODE (R258). -/
def F.LDG_CTRL_SG1_MODE : Fld := ⟨0x48860, 2, 1⟩

/-- LDG_WIN.LEN (R258). -/
def F.LDG_WIN_LEN : Fld := ⟨0x48864, 0, 24⟩

/-- LDG_STATUS.CONS_ERR (R258). -/
def F.LDG_STATUS_CONS_ERR : Fld := ⟨0x48868, 0, 1⟩

/-- LDG_STATUS.SHORT (R258). -/
def F.LDG_STATUS_SHORT : Fld := ⟨0x48868, 1, 1⟩

/-- LDG_STATUS.EPOCH_BAD (R258). -/
def F.LDG_STATUS_EPOCH_BAD : Fld := ⟨0x48868, 2, 1⟩

/-- LDG_STATUS.REFUSED (R258). -/
def F.LDG_STATUS_REFUSED : Fld := ⟨0x48868, 3, 1⟩

/-- LDG_STATUS.VAR_NEG (R258). -/
def F.LDG_STATUS_VAR_NEG : Fld := ⟨0x48868, 4, 1⟩

/-- LDG_WIN_IDX.IDX (R258). -/
def F.LDG_WIN_IDX_IDX : Fld := ⟨0x4886C, 0, 32⟩

/-- LDG_WIN_START.START (R258). -/
def F.LDG_WIN_START_START : Fld := ⟨0x48870, 0, 32⟩

/-- LDG_WIN_START_HI.START (R258). -/
def F.LDG_WIN_START_HI_START : Fld := ⟨0x48874, 0, 16⟩

/-- LDG_STMT.QUEUED (R258). -/
def F.LDG_STMT_QUEUED : Fld := ⟨0x48878, 0, 9⟩

/-- LDG_STMT.UNSIGNED (R258). -/
def F.LDG_STMT_UNSIGNED : Fld := ⟨0x48878, 9, 9⟩

/-- LDG_EPOCH.EPOCH (R258). -/
def F.LDG_EPOCH_EPOCH : Fld := ⟨0x4887C, 0, 32⟩

/-- LDG_SW_HEAD.HEAD (R258). -/
def F.LDG_SW_HEAD_HEAD : Fld := ⟨0x48880, 0, 10⟩

/-- LDG_SW_OVF.COUNT (R258). -/
def F.LDG_SW_OVF_COUNT : Fld := ⟨0x48884, 0, 32⟩

/-- LDG_WRAP_RAIL.WRAP (R258). -/
def F.LDG_WRAP_RAIL_WRAP : Fld := ⟨0x48888, 0, 8⟩

/-- LDG_WRAP_RAIL.WRAP_MISC (R258). -/
def F.LDG_WRAP_RAIL_WRAP_MISC : Fld := ⟨0x48888, 8, 4⟩

/-- LDG_UNATTR_CAUSE.COUNT (R258). -/
def F.LDG_UNATTR_CAUSE_COUNT (i : Nat) : Fld := ⟨0x48890 + 0x4 * i, 0, 32⟩

/-- LDG_DIE_WIN_N.N (R258). -/
def F.LDG_DIE_WIN_N_N : Fld := ⟨0x488A0, 0, 32⟩

/-- LDG_DIE_WIN_MEAN.MEAN (R258). -/
def F.LDG_DIE_WIN_MEAN_MEAN : Fld := ⟨0x488A8, 0, 32⟩

/-- LDG_DIE_WIN_MEAN_HI.MEAN (R258). -/
def F.LDG_DIE_WIN_MEAN_HI_MEAN : Fld := ⟨0x488AC, 0, 32⟩

/-- LDG_DIE_WIN_VAR.VAR (R258). -/
def F.LDG_DIE_WIN_VAR_VAR : Fld := ⟨0x488B0, 0, 32⟩

/-- LDG_DIE_WIN_VAR_HI.VAR (R258). -/
def F.LDG_DIE_WIN_VAR_HI_VAR : Fld := ⟨0x488B4, 0, 32⟩

/-- LDG_DIE_WIN_SUM.SUM (R258). -/
def F.LDG_DIE_WIN_SUM_SUM : Fld := ⟨0x488B8, 0, 32⟩

/-- LDG_DIE_WIN_SUM_HI.SUM (R258). -/
def F.LDG_DIE_WIN_SUM_HI_SUM : Fld := ⟨0x488BC, 0, 32⟩

/-- LDG_WRAP_BERTH.WRAP (R258). -/
def F.LDG_WRAP_BERTH_WRAP (i : Nat) : Fld := ⟨0x488C0 + 0x4 * i, 0, 32⟩

/-- FLT_STATUS.BITS (R331). -/
def F.FLT_STATUS_BITS (i : Nat) : Fld := ⟨0x50000 + 0x4 * i, 0, 32⟩

/-- FLT_CTRL.LOCK (R331). -/
def F.FLT_CTRL_LOCK : Fld := ⟨0x50040, 0, 1⟩

/-- FLT_CTRL.REFUSED (R331). -/
def F.FLT_CTRL_REFUSED : Fld := ⟨0x50040, 1, 1⟩

/-- FLT_CTRL.STOPPED (R331). -/
def F.FLT_CTRL_STOPPED : Fld := ⟨0x50040, 2, 1⟩

/-- FLT_CTRL.TRIPPED (R331). -/
def F.FLT_CTRL_TRIPPED : Fld := ⟨0x50040, 3, 1⟩

/-- FLT_CTRL.THROTTLED (R331). -/
def F.FLT_CTRL_THROTTLED : Fld := ⟨0x50040, 4, 1⟩

/-- FLT_CTRL.CLR (R331). -/
def F.FLT_CTRL_CLR : Fld := ⟨0x50040, 5, 1⟩

/-- FLT_THROTTLE.LEVEL (R331). -/
def F.FLT_THROTTLE_LEVEL : Fld := ⟨0x50044, 0, 12⟩

/-- FLT_REC.QUEUED (R331). -/
def F.FLT_REC_QUEUED : Fld := ⟨0x50048, 0, 6⟩

/-- FLT_REC_SEQ.SEQ (R331). -/
def F.FLT_REC_SEQ_SEQ : Fld := ⟨0x5004C, 0, 32⟩

/-- FLT_FRU_ID.ID (R331). -/
def F.FLT_FRU_ID_ID (i : Nat) : Fld := ⟨0x50050 + 0x4 * i, 0, 32⟩

/-- FLT_FRU_TEXT.TEXT (R331). -/
def F.FLT_FRU_TEXT_TEXT (i : Nat) : Fld := ⟨0x50060 + 0x4 * i, 0, 32⟩

/-- FLT_FRU_VALID.ID_VALID (R331). -/
def F.FLT_FRU_VALID_ID_VALID : Fld := ⟨0x50074, 0, 1⟩

/-- FLT_FRU_VALID.TEXT_VALID (R331). -/
def F.FLT_FRU_VALID_TEXT_VALID : Fld := ⟨0x50074, 1, 1⟩

/-- FLT_LOG_HEAD.HEAD (R331). -/
def F.FLT_LOG_HEAD_HEAD : Fld := ⟨0x50078, 0, 13⟩

/-- FLT_LOG_OVF.COUNT (R331). -/
def F.FLT_LOG_OVF_COUNT : Fld := ⟨0x5007C, 0, 32⟩

/-- FLT_LOG_PAGE.PAGE (R331). -/
def F.FLT_LOG_PAGE_PAGE : Fld := ⟨0x50080, 0, 7⟩

/-- FLT_SCRUB.PASS_MS (R331). -/
def F.FLT_SCRUB_PASS_MS : Fld := ⟨0x50084, 0, 16⟩

/-- FLT_SCRUB.CE_THR (R331). -/
def F.FLT_SCRUB_CE_THR : Fld := ⟨0x50084, 16, 8⟩

/-- FLT_SCRUB_STAT.LATE (R331). -/
def F.FLT_SCRUB_STAT_LATE : Fld := ⟨0x50088, 0, 1⟩

/-- FLT_CNT_DEFER.COUNT (R331). -/
def F.FLT_CNT_DEFER_COUNT : Fld := ⟨0x5008C, 0, 32⟩

/-- FLT_SIL_CFG.SIL_THR (R331). -/
def F.FLT_SIL_CFG_SIL_THR : Fld := ⟨0x50090, 0, 10⟩

/-- FLT_SIL_CFG.EN (R331). -/
def F.FLT_SIL_CFG_EN : Fld := ⟨0x50090, 16, 1⟩

/-- FLT_SIL_MIN.SIL_MIN (R331). -/
def F.FLT_SIL_MIN_SIL_MIN : Fld := ⟨0x50094, 0, 32⟩

/-- FLT_REC_DROP.COUNT (R331). -/
def F.FLT_REC_DROP_COUNT : Fld := ⟨0x50098, 0, 32⟩

/-- FLT_QUAR.QUAR (R331). -/
def F.FLT_QUAR_QUAR (i : Nat) : Fld := ⟨0x500A0 + 0x4 * i, 0, 32⟩

/-- FLT_SUSPECT.SUSPECT (R331). -/
def F.FLT_SUSPECT_SUSPECT (i : Nat) : Fld := ⟨0x500C0 + 0x4 * i, 0, 32⟩

/-- The reaction code of source i (R331). -/
def F.FLT_REACT (i : Nat) : Fld := ⟨0x50100 + 4 * (i / 8), 4 * (i % 8), 3⟩

/-- FLT_ECC_CE.COUNT (R331). -/
def F.FLT_ECC_CE_COUNT (i : Nat) : Fld := ⟨0x50200 + 0x4 * i, 0, 32⟩

/-- FLT_SIL_CNT.CNT (R331). -/
def F.FLT_SIL_CNT_CNT (i : Nat) : Fld := ⟨0x50400 + 0x4 * i, 0, 7⟩

/-- FLT_SIL_CNT.RATIO (R331). -/
def F.FLT_SIL_CNT_RATIO (i : Nat) : Fld := ⟨0x50400 + 0x4 * i, 16, 16⟩

/-- TRC_CTRL.CLR (R395). -/
def F.TRC_CTRL_CLR : Fld := ⟨0x60000, 0, 1⟩

/-- TRC_CTRL.REFUSED (R395). -/
def F.TRC_CTRL_REFUSED : Fld := ⟨0x60000, 1, 1⟩

/-- TRC_CFG.EN (R395). -/
def F.TRC_CFG_EN (i : Nat) : Fld := ⟨0x60010 + 0x10 * i, 0, 1⟩

/-- TRC_CFG.MODE (R395). -/
def F.TRC_CFG_MODE (i : Nat) : Fld := ⟨0x60010 + 0x10 * i, 1, 1⟩

/-- TRC_CFG.KIND (R395). -/
def F.TRC_CFG_KIND (i : Nat) : Fld := ⟨0x60010 + 0x10 * i, 2, 4⟩

/-- TRC_CFG.DECIM (R395). -/
def F.TRC_CFG_DECIM (i : Nat) : Fld := ⟨0x60010 + 0x10 * i, 6, 4⟩

/-- TRC_CFG.FIRST (R395). -/
def F.TRC_CFG_FIRST (i : Nat) : Fld := ⟨0x60010 + 0x10 * i, 10, 10⟩

/-- TRC_CFG.COUNT (R395). -/
def F.TRC_CFG_COUNT (i : Nat) : Fld := ⟨0x60010 + 0x10 * i, 20, 5⟩

/-- TRC_STAT.LEVEL (R395). -/
def F.TRC_STAT_LEVEL (i : Nat) : Fld := ⟨0x60014 + 0x10 * i, 0, 13⟩

/-- TRC_STAT.FULL (R395). -/
def F.TRC_STAT_FULL (i : Nat) : Fld := ⟨0x60014 + 0x10 * i, 13, 1⟩

/-- TRC_LOST.COUNT (R395). -/
def F.TRC_LOST_COUNT (i : Nat) : Fld := ⟨0x60018 + 0x10 * i, 0, 32⟩

/-- TRC_WATCH_CFG.SLOT (R395). -/
def F.TRC_WATCH_CFG_SLOT : Fld := ⟨0x60080, 0, 10⟩

/-- TRC_WATCH_CFG.VAR (R395). -/
def F.TRC_WATCH_CFG_VAR : Fld := ⟨0x60080, 10, 6⟩

/-- TRC_WATCH_CFG.ARM (R395). -/
def F.TRC_WATCH_CFG_ARM : Fld := ⟨0x60080, 16, 1⟩

/-- TRC_WATCH_CFG.REL (R395). -/
def F.TRC_WATCH_CFG_REL : Fld := ⟨0x60080, 17, 1⟩

/-- TRC_WATCH_CFG.STREAM (R395). -/
def F.TRC_WATCH_CFG_STREAM : Fld := ⟨0x60080, 18, 1⟩

/-- TRC_WATCH_CFG.WBUF (R395). -/
def F.TRC_WATCH_CFG_WBUF : Fld := ⟨0x60080, 19, 2⟩

/-- TRC_WATCH_SNUM.SNUM (R395). -/
def F.TRC_WATCH_SNUM_SNUM : Fld := ⟨0x60084, 0, 32⟩

/-- TRC_WATCH_STAT.DONE (R395). -/
def F.TRC_WATCH_STAT_DONE : Fld := ⟨0x60088, 0, 1⟩

/-- TRC_WATCH_STAT.MISSED (R395). -/
def F.TRC_WATCH_STAT_MISSED : Fld := ⟨0x60088, 1, 1⟩

/-- TRC_WATCH_STAT.ABANDONED (R395). -/
def F.TRC_WATCH_STAT_ABANDONED : Fld := ⟨0x60088, 2, 1⟩

/-- TRC_WATCH_STAT.ARMED (R395). -/
def F.TRC_WATCH_STAT_ARMED : Fld := ⟨0x60088, 3, 1⟩

/-- TRC_WATCH_STAT.WRITTEN (R395). -/
def F.TRC_WATCH_STAT_WRITTEN : Fld := ⟨0x60088, 8, 8⟩

/-- TRC_WATCH_HIT.IDX (R395). -/
def F.TRC_WATCH_HIT_IDX : Fld := ⟨0x60090, 0, 32⟩

/-- TRC_WATCH_HIT_HI.IDX (R395). -/
def F.TRC_WATCH_HIT_HI_IDX : Fld := ⟨0x60094, 0, 16⟩

/-- TRC_WATCH_VAL.VAL (R395). -/
def F.TRC_WATCH_VAL_VAL : Fld := ⟨0x60098, 0, 32⟩

/-- TRC_WATCH_VAL_HI.VAL (R395). -/
def F.TRC_WATCH_VAL_HI_VAL : Fld := ⟨0x6009C, 0, 16⟩

/-- TRC_CUT.ID (R395). -/
def F.TRC_CUT_ID : Fld := ⟨0x600C0, 0, 8⟩

/-- TRC_CUT.VALID (R395). -/
def F.TRC_CUT_VALID : Fld := ⟨0x600C0, 8, 1⟩

/-- TRC_CUT.OVERWRITTEN (R395). -/
def F.TRC_CUT_OVERWRITTEN : Fld := ⟨0x600C0, 9, 1⟩

/-- TRC_DUMP_S0IN.S0 (R395). -/
def F.TRC_DUMP_S0IN_S0 : Fld := ⟨0x60158, 0, 32⟩

/-- TRC_DUMP_S0IN_HI.S0 (R395). -/
def F.TRC_DUMP_S0IN_HI_S0 : Fld := ⟨0x6015C, 0, 16⟩

/-- TRC_DUMP_OUT.OUT (R395). -/
def F.TRC_DUMP_OUT_OUT : Fld := ⟨0x60160, 0, 32⟩

/-- TRC_DUMP_S1.S1 (R395). -/
def F.TRC_DUMP_S1_S1 : Fld := ⟨0x60164, 0, 32⟩

/-- TRC_DUMP_S0.S0 (R395). -/
def F.TRC_DUMP_S0_S0 : Fld := ⟨0x60168, 0, 32⟩

/-- TRC_DUMP_S0_HI.S0 (R395). -/
def F.TRC_DUMP_S0_HI_S0 : Fld := ⟨0x6016C, 0, 16⟩

/-- SG1_CNT_OVERTEMP.COUNT (R328). -/
def F.SG1_CNT_OVERTEMP_COUNT : Fld := ⟨0x70000, 0, 16⟩

/-- SG1_CNT_OVERCURRENT.COUNT (R328). -/
def F.SG1_CNT_OVERCURRENT_COUNT : Fld := ⟨0x70004, 0, 16⟩

/-- SG1_CNT_VRFAULT.COUNT (R328). -/
def F.SG1_CNT_VRFAULT_COUNT : Fld := ⟨0x70008, 0, 16⟩

/-- SG1_CNT_SENSOR.COUNT (R328). -/
def F.SG1_CNT_SENSOR_COUNT : Fld := ⟨0x7000C, 0, 16⟩

/-- SG1_CNT_PARITY.COUNT (R328). -/
def F.SG1_CNT_PARITY_COUNT : Fld := ⟨0x70010, 0, 16⟩

/-- SG1_CNT_ECC_CE.COUNT (R328). -/
def F.SG1_CNT_ECC_CE_COUNT : Fld := ⟨0x70014, 0, 16⟩

/-- SG1_CNT_ECC_UE.COUNT (R328). -/
def F.SG1_CNT_ECC_UE_COUNT : Fld := ⟨0x70018, 0, 16⟩

/-- SG1_CNT_CLOCK.COUNT (R328). -/
def F.SG1_CNT_CLOCK_COUNT : Fld := ⟨0x7001C, 0, 16⟩

/-- SG1_CNT_PARTITION.COUNT (R328). -/
def F.SG1_CNT_PARTITION_COUNT : Fld := ⟨0x70020, 0, 16⟩

/-- SG1_CNT_FW.COUNT (R328). -/
def F.SG1_CNT_FW_COUNT : Fld := ⟨0x70024, 0, 16⟩

/-- SG1_CNT_OTHER.COUNT (R328). -/
def F.SG1_CNT_OTHER_COUNT : Fld := ⟨0x70028, 0, 16⟩

/-- TBL_HDR.NBP (R236). -/
def F.TBL_HDR_NBP (i : Nat) : Fld := ⟨0x80000 + 0x200 * i, 0, 6⟩

/-- TBL_HDR.INC (R236). -/
def F.TBL_HDR_INC (i : Nat) : Fld := ⟨0x80000 + 0x200 * i, 8, 1⟩

/-- TBL_HDR.DEC (R236). -/
def F.TBL_HDR_DEC (i : Nat) : Fld := ⟨0x80000 + 0x200 * i, 9, 1⟩

/-- TBL_HDR.NBP_ACT (R236). -/
def F.TBL_HDR_NBP_ACT (i : Nat) : Fld := ⟨0x80000 + 0x200 * i, 16, 6⟩

/-- TBL_HDR.INC_ACT (R236). -/
def F.TBL_HDR_INC_ACT (i : Nat) : Fld := ⟨0x80000 + 0x200 * i, 22, 1⟩

/-- TBL_HDR.DEC_ACT (R236). -/
def F.TBL_HDR_DEC_ACT (i : Nat) : Fld := ⟨0x80000 + 0x200 * i, 23, 1⟩

/-- TBL_HDR.VALID (R236). -/
def F.TBL_HDR_VALID (i : Nat) : Fld := ⟨0x80000 + 0x200 * i, 24, 1⟩

/-- TBL_CTRL.LOAD (R236). -/
def F.TBL_CTRL_LOAD (i : Nat) : Fld := ⟨0x80004 + 0x200 * i, 0, 1⟩

/-- TBL_CTRL.REFUSED (R236). -/
def F.TBL_CTRL_REFUSED (i : Nat) : Fld := ⟨0x80004 + 0x200 * i, 1, 1⟩

/-- TBL_CTRL.RSN (R236). -/
def F.TBL_CTRL_RSN (i : Nat) : Fld := ⟨0x80004 + 0x200 * i, 2, 3⟩

/-- TBL_CRC.CRC (R236). -/
def F.TBL_CRC_CRC (i : Nat) : Fld := ⟨0x80008 + 0x200 * i, 0, 32⟩

/-- TBL_X.X (R236). -/
def F.TBL_X_X (i : Nat) (j : Nat) : Fld := ⟨0x80010 + 0x200 * i + 0x8 * j, 0, 32⟩

/-- TBL_Y.Y (R236). -/
def F.TBL_Y_Y (i : Nat) (j : Nat) : Fld := ⟨0x80014 + 0x200 * i + 0x8 * j, 0, 32⟩

/-- Bit n of the FLT_STATUS words (R331). -/
def F.FLT_STATUS_bit (n : Nat) : Fld := ⟨0x50000 + 4 * (n / 32), n % 32, 1⟩

/-- Bit n of the FLT_QUAR words (R331). -/
def F.FLT_QUAR_bit (n : Nat) : Fld := ⟨0x500A0 + 4 * (n / 32), n % 32, 1⟩

/-- Bit n of the FLT_SUSPECT words (R331). -/
def F.FLT_SUSPECT_bit (n : Nat) : Fld := ⟨0x500C0 + 4 * (n / 32), n % 32, 1⟩

/-- Bit n of the LDG_WRAP_BERTH words (R258). -/
def F.LDG_WRAP_BERTH_bit (n : Nat) : Fld := ⟨0x488C0 + 4 * (n / 32), n % 32, 1⟩

/-- Bit n of the FENCE_STATE words (R373). -/
def F.FENCE_STATE_bit (n : Nat) : Fld := ⟨0x3800 + 4 * (n / 32), n % 32, 1⟩

/-- Bit n of the IDL_NODE_FAULT words (R289). -/
def F.IDL_NODE_FAULT_bit (n : Nat) : Fld := ⟨0x358 + 4 * (n / 32), n % 32, 1⟩

/-- Bit n of the IDL_NODE_MISS words (R289). -/
def F.IDL_NODE_MISS_bit (n : Nat) : Fld := ⟨0x360 + 4 * (n / 32), n % 32, 1⟩

/-- Bit n of the IDL_COLL_CONTRIB words (R289). -/
def F.IDL_COLL_CONTRIB_bit (n : Nat) : Fld := ⟨0x378 + 4 * (n / 32), n % 32, 1⟩

end Sys2Proof.Machine
end

