-- ==== Sys2Proof/Machine/State.lean ====
section
/-! DEFINITION. The state of the block as plain data: the register window, what the chapters keep beside it, what no reset clears, and the queue of waiting commands; the reasons a step can stop; and the state right after reset. -/

namespace Sys2Proof.Machine

/-- The reasons a command stops with a fault. There is none: every command of the table has an effect the spec describes, and a command that finds nothing to do leaves the state as it is. -/
inductive Fault where
  deriving DecidableEq, Repr

/-- The reasons a command is refused by the model. -/
inductive Refusal where
  /-- Raised by `exec` for a command that has no meaning yet; safe, because nothing is claimed of it. -/
  | notModelled (mnemonic : String)
  deriving DecidableEq, Repr

/-! ### Faults (chapter 12) -/

/-- A raise that awaits the next fault resolution (R314): its source, detail, whether it came from R322, its time, the reaction code it met and the 320 collector bits after it. -/
structure Raise where
  src    : Nat
  detail : Nat
  silent : Bool
  time   : Nat
  react  : Nat
  status : Nat
  deriving DecidableEq, Repr

/-- One section of the fault-record queue (R325, R326). -/
structure Section where
  src     : Nat
  react   : Nat
  flags   : Nat
  detail  : Nat
  time    : Nat
  node    : Nat
  pstate  : Nat
  svn     : Nat
  seq     : Nat
  status  : Nat
  fwVer   : Nat
  corrupt : Bool
  deriving DecidableEq, Repr

/-- What waits with the BMC (R64, R325): a Common Platform Error Record with its Record ID, severity, Platform ID, FRU fields where valid, and vendor section; or the event data of the power-state notice. -/
inductive Event where
  | cper (recordId severity : Nat) (platform : List Byte) (fruId fruText : Option (List Byte)) (vendor : List Byte)
  | notice (data : List Byte)
  deriving DecidableEq, Repr

/-- What the fault chapter keeps beside its registers: raises not yet resolved, the record queue (oldest first), the event log by record number, how many records were ever written, the overflow mark for the next section, the time at which the present scrub pass began (in SLEEP and DEEP, how long it had run), and the event sent and not yet accepted. -/
structure FaultSt where
  pending   : List Raise := []
  queue     : List Section := []
  log       : Tab (List Nat) := []
  written   : Nat := 0
  overflow  : Bool := false
  passStart : Nat := 0
  event     : Option Event := none
  deriving DecidableEq, Repr

/-! ### Pilots, firmware and commands (chapters 13 and 14) -/

/-- What the header of the image in flash gives (R334), as recorded in always-on registers at step 5 of R337. -/
structure Image where
  fwVer  : Nat := 0
  svn    : Nat := 0
  feat   : Nat := 0
  digest : Nat := 0
  secDig : List Nat := []
  deriving DecidableEq, Repr

/-- Pilots and supervision beside their registers: the recorded image and, during an update, the one verified in flash; the pilot now being reloaded and those that wait their turn; the pilots the rolling restart of R343 has still to restart; the length an update or reflash announced and the bytes written; the session's features and whether its major version matches; the time of the last heartbeat, and whether the heartbeat is supervised. -/
structure FirmSt where
  image     : Image := {}
  next      : Image := {}
  cur       : Option Nat := none
  waiting   : List Nat := []
  rolling   : List Nat := []
  imgLen    : Nat := 0
  written   : Nat := 0
  feat      : Nat := 0
  major     : Bool := false
  lastKick  : Nat := 0
  watched   : Bool := false
  deriving DecidableEq, Repr

/-- How far a taken request has come (R354, R361, R371): waiting on its fence, ready for its pilot, begun by it, or committed with its reply still to come. -/
inductive ReqPhase where
  | waiting
  | ready
  | begun
  | serving
  deriving DecidableEq, Repr

/-- A taken request: its words, its phase, the time of the take, and whether a session-open or a restart has since condemned it (the status to answer). -/
structure Req where
  words : List Nat
  phase : ReqPhase
  taken : Nat
  doom  : Option Nat
  deriving DecidableEq, Repr

/-- The events that fire deferred fence signals (R370). -/
inductive SigEvent where
  | railReached (r : Nat)
  | psDone
  | stopCut
  | acctOpen (a : Nat)
  | acctClose (a : Nat)
  | tblActive (k : Nat)
  deriving DecidableEq, Repr

/-- A law or table that a channel has received in part (R366): whether it is a law, the object's number, the header words that every packet must repeat, and the words received. -/
structure LoadBuf where
  isLaw : Bool
  index : Nat
  head  : List Nat
  words : List Nat
  deriving DecidableEq, Repr

/-- The command channels beside their registers: taken requests by channel, the channels started since the session opened, armed deferred signals, the load buffers by channel, and the channels whose first packets of the session are new (R358). -/
structure CmdSt where
  reqs  : List (Nat × Req) := []
  armed : List (SigEvent × Nat) := []
  bufs  : List (Nat × LoadBuf) := []
  fresh : List Nat := []
  deriving DecidableEq, Repr

/-! ### Power states (chapter 11) -/

/-- One berth's part in the handshake: the code on its own PS_REQ, its pin levels, whether PS_ACK was ever low since reset, whether both answers were seen low since PS_REQ changed, whether it held, and its answer (none, accepted, or refused with a reason). -/
structure BerthAns where
  req    : Nat := 0
  ack    : Bool := true
  nak    : Bool := false
  hold   : Bool := false
  rsn    : Nat := 0
  wasLow : Bool := false
  sawLow : Bool := false
  held   : Bool := false
  skip   : Bool := false
  answer : Option (Option Nat) := none
  deriving DecidableEq, Repr

/-- The power-state sequencer beside its registers: the code last driven on PS_REQ and when; the berths' answers; the state-table block latched at the commit; the step reached (0 none; 1 asking; 2 committed; 3 targets at 0x000; 4 regions at OFF; 5 bias and rails settling; 9 reverting; 10 waiting for the PLL; 11 bias and rails returning; 12 voltages and bias reached (R301 step 4); 13 berths acknowledging RUN; 14 regions switching back from REFCLK) and the time of it; when the bias has settled, and whether it has; the regions stopped, those moved to REFCLK, the synthesizers stopped, and the SEL and ALT of each region before; RET and the bias codes presented; the count of R293; the channel whose power-state command awaits its reply; whether refusals brought about the last abort; the sources that started the present exit, and whether the rails still await the targets of its step 2; the levels at which SLEEP and DEEP hold GOV_IRQ; whether LINK_ACT, a hint or a reservation was up in the sample in progress (R293); writes that the always-on domain has deferred; and the OFF-ready notice (its time, WAKE_PENDING and when it was last sent). -/
structure PowerSt where
  psReq     : Nat := 0
  reqAt     : Nat := 0
  ans       : Tab BerthAns := []
  block     : List Nat := []
  step      : Nat := 0
  stepAt    : Nat := 0
  settleAt  : Nat := 0
  settled   : Bool := false
  stopped   : Nat := 0
  movedRef  : Nat := 0
  synWas    : Nat := 0
  saved     : Tab Nat := []
  ret       : Bool := false
  codes     : Tab Nat := []
  idle      : Nat := 0
  cmdChan   : Option (Fin 16) := none
  refused   : Bool := false
  started   : Nat := 0
  await     : Bool := false
  irqHeld   : Nat := 0
  restless  : Bool := false
  forWrites : List (Nat × Word × Bool) := []
  notice    : Option (Nat × Bool × Option Nat) := none
  deriving DecidableEq, Repr

/-! ### Management port (chapter 2) -/

/-- The management port (R57, R58, R63): whether it is an I3C target and its dynamic address, its endpoint ID, the terminus ID, the event receiver, the answer to the last request (from its completion code on; none where none is given), and the thresholds of sensor 0x0040 as boot fixed them. -/
structure MgmtSt where
  i3c      : Bool := false
  dynAddr  : Nat := 0
  eid      : Nat := 0
  tid      : Nat := 0
  receiver : Option Nat := none
  answer   : Option (List Byte) := none
  limits   : List Int := []
  deriving DecidableEq, Repr

/-! ### Control engine (chapter 3) -/

/-- The inputs of one execution of a law, at the start of the sample (R98). -/
structure LawIn where
  y     : Int
  z     : Int
  sp    : Int
  p0    : Int
  p1    : Int
  p2    : Int
  p3    : Int
  ulo   : Int
  uhi   : Int
  s0    : Int
  s1    : Int
  uprev : Int
  cprev : Int
  lost  : Bool
  deriving DecidableEq, Repr

/-- The results of one loop for the sample in progress (R83, R101): its slot and law, its inputs and whether one was a stale substitute, its output, its new states where a store wrote them, whether it saturated at its limits or in its arithmetic, how many TBL micro-instructions and steps it ran, and the working registers and comparison flags it left. -/
structure LoopRes where
  slot  : Nat
  law   : Nat
  inp   : LawIn
  stale : Bool
  out   : Int
  s0    : Option Int
  s1    : Option Int
  sato  : Bool
  sata  : Bool
  tbls  : Nat
  steps : Nat
  w     : List Int
  wrote : Nat
  lt    : Bool
  eq    : Bool
  gt    : Bool
  satf  : Bool
  deriving DecidableEq, Repr

/-- What one slot of the sample in progress is to arbitration: its destination, target and KIND as they were at step 1 (R25). -/
structure SlotShape where
  slot   : Nat
  dest   : Nat
  target : Nat
  kind   : Nat
  deriving DecidableEq, Repr

/-- The control engine beside its registers: the micro-program store by address, the laws and the slot words whose memory word is uncorrectable (R320), slots whose context store is lost for the sample in progress, the feedbacks latched at step 1 for the loops that step 3 has still to run (slot, primary value and whether it is a substitute, secondary likewise), the results of the sample in progress, whether an enabled slot runs a law of several steps, its enabled slots, the slots that show WON, whether its loops have run, the ceilings of the last arbitration by berth, rail, region and die with the berths each rail covered (R93), and the regulator steps run since the last tick. -/
structure EngSt where
  prog     : Tab (BitVec 64) := []
  badLaw   : List Nat := []
  badWord  : List (Nat × Nat) := []
  lostCtx  : List Nat := []
  feeds    : List (Nat × (Int × Bool) × (Int × Bool)) := []
  ran      : Bool := false
  multi    : Bool := false
  inProg   : List LoopRes := []
  shapes   : List SlotShape := []
  won      : List Nat := []
  berthF   : Tab Nat := []
  covered  : List (Nat × Nat) := []
  railF    : Tab Nat := []
  regionF  : Tab Nat := []
  dieF     : Nat := 0x10000
  regSteps : Nat := 0
  deriving DecidableEq, Repr

/-! ### Limit block (chapter 4) -/

/-- The limit block beside its registers: the excursion bucket of R108 (the remainder of its recharge), whether PCAP_EN was in force at the last tick, the setpoints supplied in the last sample (R109), whether the harbour policy is applied (R127), and whether a written STEADY awaits its sample (R121), and the quiesce ceiling in force, in activity LSB (R284). -/
structure LimSt where
  rc      : Nat := 0
  capped  : Bool := false
  pcapSp  : Int := 0
  beSp    : Int := 0
  harbour : Bool := false
  steadyReq : Bool := false
  quiesce : Option Nat := none
  deriving DecidableEq, Repr

/-! ### Sluice and forecast unit (chapter 5) -/

/-- The states of a live reservation (R141). -/
inductive ResState where
  | pending
  | opened
  | confirmed
  deriving DecidableEq, Repr

/-- One live entry of the reservation table (R140): its key, activity, start and deadline in base ticks, state, and, once confirmed, the time at which its lifetime ends. -/
structure Entry where
  berth    : Nat
  acct     : Nat
  igid     : Nat
  act      : Nat
  start    : Nat
  deadline : Nat
  st       : ResState
  confEnd  : Nat
  deriving DecidableEq, Repr

/-- A phase hint a class holds (R145): when it becomes active and when it ends, none until a CANCEL. -/
structure PhaseHint where
  cls  : Nat
  upAt : Nat
  till : Option Nat
  deriving DecidableEq, Repr

/-- What the snapshot of a sample holds of one berth (R132, R147): whether it has a started entry, the sums of the activities of its started entries and of its entries within lead, and its GATE at the snapshot cycle. -/
structure Snap where
  berth   : Nat
  started : Bool
  rs      : Nat
  rl      : Nat
  gate    : Nat
  deriving DecidableEq, Repr

/-- The steps of an ended sample that follow its last tick (R23): the time of that tick, the index of the sample and the period code it ran with, the slots whose lane operands and the destinations (level, number) whose arbitration met a parity error, the reservation entries that do so at the snapshot, the words that were active in the sample and have since been replaced, the trace configuration of the sample and, by sensor number, what its KIND 5 records hold (R390), the steps done (0 none, 1 step 4, 2 step 5 with the snapshot, 3 step 6), the executions of the sample and the slots abandoned at step 4, and what the snapshot holds: the classes with an active hint, and the berths. -/
structure LateSt where
  tick    : Nat
  idx     : Nat
  code    : Nat
  lanes   : List Nat
  dests   : List (Nat × Nat)
  entries : List BadEntry
  old     : Tab Word
  cfg     : List Nat
  sensed  : List (Nat × Nat × Nat)
  stage   : Nat := 0
  ran     : List LoopRes := []
  gone    : List Nat := []
  classes : List Nat := []
  snaps   : List Snap := []
  deriving DecidableEq, Repr

/-- Sluice and forecast unit beside their registers: the live entries, the four hint FIFOs (data and parity, oldest first), the input served last, the hints held, the time of the last sluice tick, and the sums and counts of GATE over the present sample from which gavg is taken, the targets of the sample before, the GATE output stage of each berth (R37), and the steps of the last ended sample that are still to come. -/
structure FcuSt where
  table   : List Entry := []
  fifos   : List (List (BitVec 64 × BitVec 8)) := [[], [], [], []]
  turn    : Nat := 3
  hints   : List PhaseHint := []
  tickAt  : Option Nat := none
  ticks   : Nat := 0
  gateSum : Tab Nat := []
  prevTgt : Tab Nat := []
  gateOut : Tab Nat := []
  late    : Option LateSt := none
  deriving DecidableEq, Repr

/-! ### Breakwater, synthesizers and clock switching (chapter 6) -/

/-- A clock source: a synthesizer, REFCLK, or OFF. -/
inductive Source where
  | syn (s : Nat)
  | ref
  | off
  deriving DecidableEq, Repr

/-- One region's episode and switch: the depth's greatest value, when the episode opened and the depth last changed, whether an armed detector of the region crossed when last judged and when crossing last ended, whether the depth is falling; how far the skip frame has come, in thousandths of a phase (R155); the source whose clock reaches the output and, while BUSY, when the switch began; since when the region has no clock; when the output was seen absent or the switch hung; the STR_SMP bits of the present, the last and the sample before it. -/
structure RegionSt where
  maxDepth : Nat := 0
  openAt   : Nat := 0
  changeAt : Nat := 0
  crossed  : Bool := false
  endAt    : Nat := 0
  falling  : Bool := false
  frame    : Nat := 0
  out      : Source := .ref
  swAt     : Nat := 0
  stopAt   : Option Nat := none
  goneAt   : Option Nat := none
  strNow   : Bool := false
  strLast  : Bool := false
  strPrev  : Bool := false
  deriving DecidableEq, Repr

/-- One synthesizer beside its registers: the direction of its present glide (none, up, down), how much of it the glide rate has allowed beyond the steps taken, in kHz, whether upward glides are blocked until a sample tick (R162), and the request last clamped to MAX. -/
structure SynSt where
  dir     : Nat := 0
  credit  : Nat := 0
  blocked : Bool := false
  clamped : Nat := 0
  deriving DecidableEq, Repr

/-- Clocks beside their registers: the regions, the synthesizers, since when each detector crosses, the windows in a row of 64 edges or more by monitored clock (0 REFCLK, 1 + s synthesizers, 32 + g region outputs), the frame marks received on UP since the last trim window, when the last came and whether it followed the one before at 10 µs, since when REFCLK is present, when its present loss was raised, and whether REFCLK stands still as far as the governor has seen. -/
structure ClkSt where
  regions  : Tab RegionSt := []
  syns     : Tab SynSt := []
  crossing : Tab (Option Nat) := []
  counts   : Tab Nat := []
  marks    : Nat := 0
  markAt   : Option Nat := none
  markNear : Bool := false
  refSince : Nat := 0
  refLost  : Option Nat := none
  refGone  : Bool := false
  deriving DecidableEq, Repr

/-! ### Regulator controller (chapter 7) -/

/-- One rail beside its registers: the active coefficients (B0 to B3, C1, C2, VC_LO, VC_HI) and a pending commit; the compensator states and the last command; the feed-forward's ticks per mV, the input voltage of its last step in Q16.16 mV, the on-time in force and the one computed; the instant in PWM ticks at which its next period begins, and the timebase periods of the present rail period (R179); when the present STATE began and since when the rail is ON inside its window, and whether it counts as good; conversions in a row inside and outside the window; the latest sense code; the detector reference held (R152); overload bins and the present one; samples in a row that allow a shed; the entry held by steady mode; a stop ordered by the power-state sequencer; and whether the hold compensator runs. -/
structure RailSt where
  coef    : List Int := [0, 0, 0, 0, 0, 0, 0, 0]
  commit  : Bool := false
  e1      : Int := 0
  e2      : Int := 0
  e3      : Int := 0
  w1      : Int := 0
  w2      : Int := 0
  u1      : Int := 0
  kff     : Int := 0
  ffVin   : Int := 0
  onTime  : Nat := 0
  nextOn  : Nat := 0
  startAt : Option Nat := none
  tbCount : Nat := 0
  stateAt : Nat := 0
  goodAt  : Option Nat := none
  good    : Bool := false
  inCnt   : Nat := 0
  outCnt  : Nat := 0
  sense   : Nat := 0
  detRef  : Option Int := none
  bins    : List (Nat × Nat) := []
  binSum  : Nat := 0
  binN    : Nat := 0
  shedOk  : Nat := 0
  steady  : Option Nat := none
  psStop  : Bool := false
  hold    : Bool := false
  deriving DecidableEq, Repr

/-- One phase beside its registers: its latest live conversion, the value last latched fresh, whether the most recent conversion was a calibration and when it came; the sum and number of the sample's conversions; periods in a row in which the fast limit acted and whether it acts in this one; how far a shed has come (none, awaiting its period, held low); whether a raised phase awaits its first period; a pending OOS; samples in a row of imbalance; whether PWM carries a pulse in the present period; and the instants in PWM ticks at which its next period begins (R179) and at which the present pulse rises and falls. -/
structure PhaseSt where
  cur     : Nat := 0
  fresh   : Nat := 0
  cal     : Bool := false
  convAt  : Option Nat := none
  sum     : Nat := 0
  n       : Nat := 0
  ocRun   : Nat := 0
  ocNow   : Bool := false
  shed    : Nat := 0
  raised  : Bool := false
  oosPend : Bool := false
  imb     : Nat := 0
  pulse   : Bool := false
  startAt : Option Nat := none
  riseAt  : Nat := 0
  fallAt  : Nat := 0
  deriving DecidableEq, Repr

/-- The regulator controller: rails, phases, SYNC_IN acquisition (valid edges in a row, the measured period in PWM ticks, whether acquired, periods in a row within 64 ticks, the phase correction applied to the present period, when the last valid edge came), the instant of timebase phase 0 in PWM ticks, and whether the maximum-VCORE clamp is engaged. -/
structure RegSt where
  rails   : Tab RailSt := []
  phases  : Tab PhaseSt := []
  edges   : Nat := 0
  measured : Nat := 0
  acquired : Bool := false
  inPhase : Nat := 0
  shift   : Int := 0
  edgeAt  : Nat := 0
  zeroAt  : Option Nat := none
  clamp   : Bool := false
  deriving DecidableEq, Repr

/-! ### Sensors and tide tables (chapter 8) -/

/-- What a berth's activity reading keeps: the count latched by the last sample if it serves as a reference, the last fresh activity, the FCST request in force, and the count difference of the present sample if it is valid. -/
structure ActSt where
  ref   : Option Nat := none
  fresh : Nat := 0
  fcst  : Nat := 0
  delta : Option Nat := none
  deriving DecidableEq, Repr

/-- A tide table that awaits the next sample (R226): its breakpoints and its declared monotonicity. -/
structure TableLoad where
  pts : List (Int × Int)
  inc : Bool
  dec : Bool
  deriving DecidableEq, Repr

/-- A berth's model power (R225): total and leakage in 1/16 W, and the dynamic term in Q16.16 W. -/
structure ModelPower where
  berth : Nat
  pw    : Nat
  pl    : Nat
  pd    : Int
  deriving DecidableEq, Repr

/-- A sweep published and not yet latched (R210): when, whether it is judged (SLEEP suspends plausibility, R232), and the sensors converted in it with their values. -/
structure SweepSt where
  time   : Nat
  judged : Bool
  vals   : List (Nat × Int)
  deriving DecidableEq, Repr

/-- Sensing beside its registers: the thermal and path-monitor sweeps published and not yet latched and how many were made since reset, the time from which each HBM stack's timeout counts, the berths' activity readings, the active copies of the tide tables and the copies that await the next sample, the guards that await R23 step 6 and how many sample ticks they have seen, the trim steps held by steady mode, the sensors that memory errors hold broken, parity failures in a row of each remote-sense pair, its last fresh value, what the last latch presents of it (value, and whether it is a substitute), the words that reads still show as they stood at the last step 2 (R216), the rails whose guard has taken a step since reset and those whose guard was restored, and the powers the model unit publishes at the next tick. -/
structure SnsSt where
  tSweeps : List SweepSt := []
  pSweeps : List SweepSt := []
  tCount  : Nat := 0
  pCount  : Nat := 0
  hbmAt   : Tab Nat := []
  act     : Tab ActSt := []
  active  : Tab (List (Int × Int)) := []
  load    : List (Nat × TableLoad) := []
  guard   : List (Nat × Nat × Nat) := []
  heldStep : Tab Nat := []
  stuck   : List Nat := []
  rsStale : Tab Nat := []
  rsFresh : Tab Nat := []
  rsLatch : List (Nat × Int × Bool) := []
  shadow  : Tab Word := []
  stepped : List Nat := []
  restored : List Nat := []
  power   : List ModelPower := []
  deriving DecidableEq, Repr

/-! ### Ledger (chapter 9) -/

/-- A binary32 value as an integer times a power of two (R250). -/
structure Flt where
  m : Int := 0
  e : Int := 0
  deriving DecidableEq, Repr

/-- The running statistics of a window (R249, R250): samples, the first one, the sums of differences and of their squares, and the two binary32 sums. -/
structure WinAcc where
  n  : Nat := 0
  x0 : Int := 0
  s  : Int := 0
  q  : Nat := 0
  f1 : Flt := {}
  f2 : Flt := {}
  deriving DecidableEq, Repr

/-- A berth's captures in the present sample, oldest first (the outgoing account, the binary count and the time), whether one broke R41, and when the last toggle came. -/
structure BerthTog where
  caps   : List (Nat × Nat × Nat) := []
  viol   : Bool := false
  lastAt : Option Nat := none
  deriving DecidableEq, Repr

/-- An accepted account-open (R244) with its channel; `due` is the tick at which it takes effect once that tick has come. -/
structure OpenReq where
  acct : Nat
  cls  : Nat
  fact : Nat
  fpwr : Nat
  tag  : List Nat
  chan : Fin 16
  due  : Option Nat
  deriving DecidableEq, Repr

/-- An accepted account-close (R245) with its channel; `due` is the close tick once it has come. -/
structure CloseReq where
  acct : Nat
  stmt : Bool
  chan : Fin 16
  due  : Option Nat
  deriving DecidableEq, Repr

/-- One queued statement (R251, R254): its slot, its place in the order, its account, whether the account block still shows it, its bytes 0x00 to 0x8F, its signature, and whether it was found uncorrectable before or after signing (R321). -/
structure Stmt where
  slot   : Nat
  order  : Nat
  acct   : Nat
  shown  : Bool
  body   : List Byte
  sig    : Option (Nat × Nat)
  bad    : Bool
  lost   : Bool
  deriving DecidableEq, Repr

/-- The ledger beside its registers: the rail accumulators in 1/64 nJ; whether the engine stopped since the last commit; the tick at which the sample in progress began, its period code where a period change came before its close, the berths present in it with their rails, those of the latency-critical class at its tick with their accounts (R124), and the same of the sample before it; the toggles; opens and closes accepted and not yet in effect; the window in progress (start, the tick at which it was last judged, whether WIN_EN was cleared since, the die's and the accounts' sums); the switch ring and the records ever written; the statements, the next sequence in the epoch and whether the epoch was advanced in this boot; the words as the last commit left them and those that FREEZE holds; the open accounts whose energy wrapped and those on whose berths energy went unattributed (R251); and the silent-fault sums by berth, the STEP in force, whether a new one is published, and whether a job step awaits its evaluation (R322). -/
structure LedSt where
  acc     : Tab Nat := []
  stopped : Bool := false
  tickAt  : Option Nat := none
  oldCode : Option Nat := none
  owned   : List (Nat × Nat) := []
  lcAt    : List (Nat × Nat) := []
  lcWas   : List (Nat × Nat) := []
  toggles : Tab BerthTog := []
  opens   : List OpenReq := []
  closes  : List CloseReq := []
  winOn   : Bool := false
  winFrom : Nat := 0
  winSeen : Nat := 0
  winCut  : Bool := false
  die     : WinAcc := {}
  accs    : Tab WinAcc := []
  ring    : Tab (List Nat) := []
  written : Nat := 0
  stmts   : List Stmt := []
  order   : Nat := 0
  seq     : Nat := 0
  epochUp : Bool := false
  commit  : Tab Word := []
  frozen  : Option (Tab Word) := none
  wrapped : List Nat := []
  unattr  : List Nat := []
  silE    : Tab Nat := []
  silM    : Tab Nat := []
  step    : Nat := 0
  stepNew : Bool := false
  stepDue : Bool := false
  deriving DecidableEq, Repr

/-! ### Hawser link (chapter 10) -/

/-- One port of the link: consecutive frames with a valid header, the time of the last valid header (or of the training), the frame periods missed since, whether the last frame was turned at a break, the running block to pass on in the next frame received here, and the frame last presented on its transmitter. -/
structure PortSt where
  run    : Nat := 0
  hdrAt  : Nat := 0
  missed : Nat := 0
  turned : Bool := false
  block  : Option Block := none
  sent   : Option Frame := none
  deriving DecidableEq, Repr

/-- The Hawser unit beside its registers: the ports (0 UP, 1 DN); the root's frame counter, its enumeration (0 none, 1 requested, 2 on the ring) with the frame that carries it, a node's index from an enumeration not yet known to have succeeded with the frame it came in, and when the root last sent; the slots by the frame they were published in, newest first, with the last slot seen of each node and the frames in a row it was missing; the event times of the last frames (frame, EVENT of R290, time); flight times measured of each port's link, newest first; frames in a row inside and outside 50 ns; when a root frame last came; whether the first comparison is made, and a step that awaits its base tick; events already told (node, missing); the published progress with its time; the round that awaits pilot C, the last target and cap, and whether pilot C owns LIM_PCAP; package power summed over the frame period, HLIM_ACT_CNT at its start, whether the step-down acted in it, whether LIMITED shows, and whether the node lacks a complete round; a stop not yet placed in a slot and those that await their cut (ID, ACTION, receipt); the last closed die window with its SHORT, and whether it is new; the result block; and when the last wake pattern began, with the map of its ports. -/
structure HwsSt where
  ports   : Tab PortSt := []
  fctr    : Nat := 0
  enum    : Nat := 0
  enumAt  : Nat := 0
  hopNode : Option (Nat × Nat) := none
  sentAt  : Option Nat := none
  hist    : List (Nat × List Slot) := []
  known   : Tab (Option Slot) := []
  absent  : Tab Nat := []
  times   : List (Nat × Nat × Nat) := []
  flights : Tab (List Int) := []
  near    : Nat := 0
  far     : Nat := 0
  rootAt  : Nat := 0
  compared : Bool := false
  step    : Option Int := none
  told    : List (Nat × Bool) := []
  prog    : Nat × Nat × Nat := (0, 0, 0)
  progAt  : Option Nat := none
  round   : Option Nat := none
  tgt     : Nat := 0x7080
  cap     : Nat := 0x7080
  tugging : Bool := false
  powSum  : Nat := 0
  powN    : Nat := 0
  actAt   : Nat := 0
  kSeen   : Bool := false
  limited : Bool := false
  frozen  : Bool := true
  stopReq : Option (Nat × Nat) := none
  cuts    : List (Nat × Nat × Nat) := []
  win     : Option (Block × Bool) := none
  newWin  : Bool := false
  result  : Option Block := none
  waking  : Option (Nat × Nat) := none
  deriving DecidableEq, Repr

/-! ### Trace, watch and TAP (chapter 16) -/

/-- One trace buffer: its undrained records, oldest first, the next word to drain of the oldest, and whether records were lost before the next one. -/
structure TraceBuf where
  recs : List (List Nat) := []
  word : Nat := 0
  lost : Bool := false
  deriving DecidableEq, Repr

/-- What the watch took at its sample (R392, R393): the sample's index, the slot, whether it was disabled or its execution abandoned, the execution, and the committed S0, S1 and OUT. -/
structure WatchHit where
  idx       : Nat
  slot      : Nat
  missed    : Bool
  abandoned : Bool
  res       : Option LoopRes
  s0        : Int
  s1        : Int
  out       : Int
  deriving DecidableEq, Repr

/-- The trace unit beside its registers: the buffers; the configuration words of the sample in progress (R399); whether a relative watch awaits the first sample after its write, the sample number the watch names, whether it streams now, and a capture not yet shown in the registers. -/
structure TrcSt where
  bufs   : Tab TraceBuf := []
  cfg    : List Nat := []
  relNew : Bool := false
  target : Option Nat := none
  stream : Bool := false
  hit    : Option WatchHit := none
  deriving DecidableEq, Repr

/-- The TAP (R396 to R398): the instruction, the data register as captured, the boundary register and whether it drives the off-die ports, factory test mode, the sensors whose latch parity is inverted for the next sample, the berths whose GATE_P is inverted until the next sluice tick, and the SRAM words (memory and address) with one inverted bit each. -/
structure TapSt where
  ir      : Nat := 0x1F
  dr      : Nat := 0
  bound   : Nat := 0
  extest  : Bool := false
  factory : Bool := false
  sensors : List Nat := []
  gateP   : List Nat := []
  upsets  : List (Nat × Nat) := []
  deriving DecidableEq, Repr

/-! ### The whole block -/

/-- The anchor fuse block's words for one rail (R345). -/
structure AnchorRail where
  enable  : Bool := false
  nph     : Nat := 0
  b       : List Nat := []
  c1      : Nat := 0
  c2      : Nat := 0
  vcLo    : Nat := 0
  vcHi    : Nat := 0
  duty    : Nat := 0
  onDly   : Nat := 0
  onRamp  : Nat := 0
  slew    : Nat := 0
  win     : Nat := 0
  deriving DecidableEq, Repr

/-- The fuses: the fused bits of register words by offset, the image-key hash, the anchor fuse block, the management fuse block, the key store and the manufacturer identity of R396. A fuse not programmed reads 0 (R420). -/
structure Fuses where
  words     : Tab Word := []
  keyHash   : Nat := 0
  anchorFsw : Nat := 0
  anchor    : List AnchorRail := []
  pen       : Nat := 0
  busAddr   : Nat := 0x62
  devKey    : Nat := 0
  cert      : List Byte := []
  mfr       : Nat := 0
  deriving DecidableEq, Repr

/-- Input pin levels that a later rule reads: they outlast a reset. -/
structure PinSt where
  linkAct : Bool := false
  vsel    : Nat := 0
  pwrbrk  : Bool := true
  deriving DecidableEq, Repr

/-- The governor: its fuses, the register window (a word not listed holds its reset value), the words that are still active while a later write waits (R25, R206), the upper words of R9, GOV_TIME, the reset conditions (RST_N low, a brown-out, the always-on supply absent) and the PLL, the answer of the last port access, and what each chapter keeps beside its registers. `free` counts the values taken that the spec leaves open; it is the model's own field. -/
structure Gov where
  fuses  : Fuses := {}
  regs   : Tab Word := []
  held   : Tab Word := []
  pairs  : Tab Word := []
  now    : Nat := 0
  rst    : Bool := false
  brown  : Bool := false
  dark   : Bool := false
  pll    : Bool := false
  pins   : PinSt := {}
  resp   : Nat := 0
  rdata  : Word := 0
  free   : Nat := 0
  flt    : FaultSt := {}
  firm   : FirmSt := {}
  cmd    : CmdSt := {}
  pwr    : PowerSt := {}
  mgmt   : MgmtSt := {}
  eng    : EngSt := {}
  lim    : LimSt := {}
  fcu    : FcuSt := {}
  clk    : ClkSt := {}
  reg    : RegSt := {}
  sns    : SnsSt := {}
  led    : LedSt := {}
  hws    : HwsSt := {}
  trc    : TrcSt := {}
  tap    : TapSt := {}
  deriving DecidableEq, Repr

/-- The flash device's SFDP tables where they parse (R65 to R67): its size in bytes, the read instructions it advertises (1-1-1, 1-1-4 and 1-4-4), the instruction of its 4 KiB erase, its page size, and the advertised times of an erase and of a program. -/
structure FlashDev where
  size    : Nat
  read111 : Byte
  read114 : Option Byte
  read144 : Option Byte
  erase4k : Byte
  page    : Nat
  eraseNs : Nat
  progNs  : Nat
  deriving DecidableEq, Repr

/-- What no reset of the governor clears: the security-version fuses (R336), the latched thermal trip (R72), the latch of WAKE_N on the standby supply (R306), the flash device's bytes (R333) and its epoch record (R253), and its SFDP tables, none where they do not parse (R65, R66). -/
structure Persist where
  svn   : Nat := 0
  trip  : Bool := false
  wakeN : Bool := false
  flash : Tab Byte := []
  epoch : Nat := 0
  dev   : Option FlashDev := none
  deriving DecidableEq, Repr

/-- The state of the block: the governor, what outlives its resets, and the queue of waiting commands, first in first out. -/
structure State where
  gov     : Gov := {}
  keep    : Persist := {}
  pending : List Instr := []
  deriving DecidableEq, Repr

/-- The block right after RST_N is released for the first time: every field at its reset value, an unprogrammed part's fuses reading 0, the flash erased, GOV_TIME 0 and the PLL starting (R337, R386, R403). -/
def State.reset : State := {}

end Sys2Proof.Machine
end

