-- ==== Sys2Proof/Machine/Ops.lean ====
section
/-! DEFINITION. The shared operations: reset values and reads and writes of register words and fields, active values of shadowed writes, time, the conditions of the block, raises and their resolution, the event log and the fault-record queue, interrupts and fences. -/

namespace Sys2Proof.Machine

/-! ### Reset values (R386) -/

/-- The ROM's micro-instructions: law 0 is the listing of the worked example without its micro-instructions 2 to 4; law 1 carries out R90 line by line in eleven (DEDUCED). -/
def romCode : List (BitVec 64) :=
  [0x0814400000000000, 0x0C96000000000000, 0x1118022000000000, 0x05A8680000000000, 0x1586800000000000, 0x0986080000000000, 0x0A1E080000000000, 0x1986200000000000, 0x1D04207000000000, 0x0682100000000000, 0x1E8A7A0000000000, 0x4004000000000000, 0x440A000000000000] ++
  [0x0814400000000000, 0x0C98900000000000, 0x0880080000000000, 0x0C96080000000000, 0x111A882000000000, 0x0584700000000000, 0x1D867A0000000000, 0x0A06700000000000, 0x4008000000000000, 0x4000000100000000, 0x4406000000000000]

/-- The CRC-32C over a law's micro-instructions, least significant byte first. -/
def lawCrc (code : List (BitVec 64)) : Nat := crc32c (code.flatMap fun m => leBytes 8 m.toNat)

/-- The reaction a source has at reset (R312). -/
def resetReaction (src : Nat) : Nat :=
  if src < 256 ∨ src = 263 then 3
  else if src = 262 ∨ src = 269 ∨ src = 271 ∨ src = 272 ∨ src = 275 ∨ src = 277 ∨ src = 289 then 2
  else if src = 297 then 4
  else if src < 298 then 1
  else 0

/-- The PH_CTRL word of phase p at reset: its rail, ASSIGNED and ORDER (R176). -/
def resetPhase (p : Nat) : Nat :=
  if p < 40 then 8 + 16 * p
  else if p < 52 then 1 + 8 + 16 * (p - 40)
  else if p < 58 then 2 + 8 + 16 * (p - 52)
  else if p < 60 then 3 + 8 + 16 * (p - 58)
  else 0

/-- The bits that the fuses give a register word. -/
def Fuses.word (z : Fuses) (off : Nat) : Nat := (Tab.get (fun _ => 0#32) z.words off).toNat

/-- Reset words that the table's plain Reset column does not give: bollard maxima equal to their fuses (R118), phases (R176), fast limits (R208), law directory words of the two ROM laws (R102), OFFMASK (R309) and reactions (R312). -/
def specialReset (z : Fuses) (off : Nat) : Option Nat :=
  if off = 0xD00 then some (z.word off % 2 ^ 12 + z.word off % 2 ^ 12 * 2 ^ 16)
  else if 0xD04 ≤ off ∧ off ≤ 0xD44 then some (z.word off % 2 ^ 16 + z.word off % 2 ^ 16 * 2 ^ 16)
  else if off = 0x800 then some 0x0310D000
  else if off = 0x804 then some (lawCrc (romCode.take 13))
  else if off = 0x810 then some 0x0310B00D
  else if off = 0x814 then some (Config.romCrc 1).toNat
  else if off = 0x680 ∨ off = 0x6C0 then some 0xFFFF
  else if 0x24900 ≤ off ∧ off < 0x25100 ∧ off % 0x20 = 0 then some (resetPhase ((off - 0x24900) / 0x20))
  else if 0x24900 ≤ off ∧ off < 0x25100 ∧ off % 0x20 = 8 then some (z.word 0xD04 % 2 ^ 16 + 0x80000)
  else if 0x50100 ≤ off ∧ off < 0x501A0 then
    some ((List.range 8).foldl (fun a k => a + resetReaction ((off - 0x50100) / 4 * 8 + k) * 16 ^ k) 0)
  else none

/-- The word a field list gives at reset: each field's Reset column, or its fuse bits where it is fused. -/
def resetFields (z : Fuses) (off : Nat) (fs : List FieldDef) : Nat :=
  fs.foldl (fun a f => a + (if f.fused then z.word off / 2 ^ f.lo % 2 ^ f.w else f.reset % 2 ^ f.w) * 2 ^ f.lo) 0

/-- The reset value of the word at an offset; 0 where nothing is mapped. -/
def resetWord (z : Fuses) (off : Nat) : Word :=
  match specialReset z off with
  | some v => BitVec.ofNat 32 v
  | none =>
    match findReg off with
    | some (d, _, _) => BitVec.ofNat 32 (resetFields z off d.fields)
    | none => 0

/-! ### What the chapters keep -/

/-- Replace what a chapter keeps beside the register window, or the count of free values. -/
def Gov.withFlt (g : Gov) (x : FaultSt) : Gov := { g with flt := x }
def Gov.withFirm (g : Gov) (x : FirmSt) : Gov := { g with firm := x }
def Gov.withCmd (g : Gov) (x : CmdSt) : Gov := { g with cmd := x }
def Gov.withPwr (g : Gov) (x : PowerSt) : Gov := { g with pwr := x }
def Gov.withMgmt (g : Gov) (x : MgmtSt) : Gov := { g with mgmt := x }
def Gov.withEng (g : Gov) (x : EngSt) : Gov := { g with eng := x }
def Gov.withLim (g : Gov) (x : LimSt) : Gov := { g with lim := x }
def Gov.withFcu (g : Gov) (x : FcuSt) : Gov := { g with fcu := x }
def Gov.withClk (g : Gov) (x : ClkSt) : Gov := { g with clk := x }
def Gov.withReg (g : Gov) (x : RegSt) : Gov := { g with reg := x }
def Gov.withSns (g : Gov) (x : SnsSt) : Gov := { g with sns := x }
def Gov.withLed (g : Gov) (x : LedSt) : Gov := { g with led := x }
def Gov.withHws (g : Gov) (x : HwsSt) : Gov := { g with hws := x }
def Gov.withTrc (g : Gov) (x : TrcSt) : Gov := { g with trc := x }
def Gov.withTap (g : Gov) (x : TapSt) : Gov := { g with tap := x }
def Gov.withFree (g : Gov) (x : Nat) : Gov := { g with free := x }

/-- Replace the time, the lock of the PLL, the levels of the input pins, the words kept active or the upper words of R9. -/
def Gov.withNow (g : Gov) (x : Nat) : Gov := { g with now := x }
def Gov.withPll (g : Gov) (x : Bool) : Gov := { g with pll := x }
def Gov.withPins (g : Gov) (x : PinSt) : Gov := { g with pins := x }
def Gov.withHeld (g : Gov) (x : Tab Word) : Gov := { g with held := x }
def Gov.withPairs (g : Gov) (x : Tab Word) : Gov := { g with pairs := x }

/-! ### Words and fields -/

/-- The stored word at an offset. -/
def Gov.word (g : Gov) (off : Nat) : Word := Tab.get (resetWord g.fuses) g.regs off

/-- Store a word. -/
def Gov.setWord (g : Gov) (off : Nat) (w : Word) : Gov := { g with regs := Tab.put (resetWord g.fuses) g.regs off w }

/-- The value of a field. -/
def Gov.get (g : Gov) (f : Fld) : Nat := field (g.word f.off) f.lo f.w

/-- The truth of a field: not zero. -/
def Gov.flag (g : Gov) (f : Fld) : Bool := g.get f != 0

/-- Store a value in a field, leaving the other bits of its word. -/
def Gov.set (g : Gov) (f : Fld) (v : Nat) : Gov := g.setWord f.off (insertField (g.word f.off) f.lo f.w v)

/-- Set a flag. -/
def Gov.mark (g : Gov) (f : Fld) : Gov := g.set f 1

/-- Change a field by a function. -/
def Gov.upd (g : Gov) (f : Fld) (h : Nat → Nat) : Gov := g.set f (h (g.get f))

/-- Add to a saturating counter. -/
def Gov.inc (g : Gov) (f : Fld) (n : Nat := 1) : Gov := g.set f (usat f.w (g.get f + n))

/-- A 64-bit quantity at two consecutive words (R9). -/
def Gov.get64 (g : Gov) (off : Nat) : Nat := (g.word off).toNat + (g.word (off + 4)).toNat * 2 ^ 32

/-- Store a 64-bit quantity at two consecutive words. -/
def Gov.set64 (g : Gov) (off v : Nat) : Gov := (g.setWord off (BitVec.ofNat 32 v)).setWord (off + 4) (BitVec.ofNat 32 (v / 2 ^ 32))

/-- The word in force at an offset: the one still active while a later write waits (R25, R206), else the stored one. -/
def Gov.actWord (g : Gov) (off : Nat) : Word := Tab.get (fun o => g.word o) g.held off

/-- The value of a field in force. -/
def Gov.act (g : Gov) (f : Fld) : Nat := field (g.actWord f.off) f.lo f.w

/-- The truth of a field in force. -/
def Gov.actFlag (g : Gov) (f : Fld) : Bool := g.act f != 0

/-- Keep the present word at an offset active until the next activation, unless an earlier one is already kept. -/
def Gov.hold (g : Gov) (off : Nat) : Gov :=
  if g.held.any fun p => p.1 == off then g else g.withHeld (Tab.ins off (g.word off) g.held)

/-- Let the written words at the offsets a test picks become active. -/
def Gov.activate (g : Gov) (pick : Nat → Bool) : Gov := g.withHeld (g.held.filter fun p => !pick p.1)

/-- Apply a change for each element of a list, in order. -/
def Gov.each {α : Type} (g : Gov) (xs : List α) (f : Gov → α → Gov) : Gov := xs.foldl f g

/-- A value the spec leaves open: the next one of the free sequence, and the state that has consumed it. -/
def Gov.draw (g : Gov) : Nat × Gov := (g.free, g.withFree (g.free + 1))

/-! ### Time (R15) -/

/-- SAMPLE_IDX: the 250 ns base ticks of GOV_TIME, 48 bits. -/
def Gov.idx (g : Gov) : Nat := g.now / 250 % 2 ^ 48

/-- Move to an instant inside the present base tick, never backward. -/
def Gov.adv (g : Gov) (t : Fin 250) : Gov := { g with now := max g.now (g.now / 250 * 250 + t.val) }

/-- The sample period in base ticks of a period code (R78). -/
def periodTicks (code : Nat) : Nat := 2 ^ min code 6

/-- The sample period in force, in base ticks. -/
def Gov.ticks (g : Gov) : Nat := periodTicks (g.get F.ENG_CFG_PER_ACT)

/-- The sample period in force, in ns. -/
def Gov.period (g : Gov) : Nat := 250 * g.ticks

/-! ### Conditions of the block -/

/-- Power states (R44). -/
def stRun : Nat := 0
def stIdle : Nat := 1
def stSleep : Nat := 2
def stDeep : Nat := 3
def stOff : Nat := 4

/-- The present power state. -/
def Gov.state (g : Gov) : Nat := g.get F.PS_STAT_STATE

/-- The governor is powered and out of reset (R77, R404). -/
def Gov.powered (g : Gov) : Bool := !g.rst && !g.brown && !g.dark

/-- The governor is powered and out of reset, and the die is not in OFF. -/
def Gov.up (g : Gov) : Bool := g.powered && g.state != stOff

/-- The die is in SLEEP or DEEP, where the engine and the pilots are stopped (R32). -/
def Gov.asleep (g : Gov) : Bool := g.state == stSleep || g.state == stDeep

/-- The engine runs: the PLL is locked (R32, R34). -/
def Gov.engine (g : Gov) : Bool := g.up && g.pll

/-- SUP_STAT.MODE (R350): boot, running, anchor. -/
def Gov.booting (g : Gov) : Bool := g.get F.SUP_STAT_MODE == 0
def Gov.running (g : Gov) : Bool := g.get F.SUP_STAT_MODE == 1
def Gov.anchored (g : Gov) : Bool := g.get F.SUP_STAT_MODE == 2

/-- Pilot k runs (R350). -/
def Gov.pilotUp (g : Gov) (k : Nat) : Bool := g.get (F.FWP_PSTATE_STATE k) == 2

/-- Pilot k is restarting or HELD (R340). -/
def Gov.pilotRestarts (g : Gov) (k : Nat) : Bool := g.get (F.FWP_PSTATE_STATE k) == 3 || g.get (F.FWP_PSTATE_STATE k) == 4

/-- Board mode: VSEL_EN latched high (R71). -/
def Gov.boardMode (g : Gov) : Bool := g.flag F.GOV_STRAP_VSEL_EN

/-- The berth is present (R4, R384): PRESENT in force, or still retiring. -/
def Gov.present (g : Gov) (b : Nat) : Bool := g.actFlag (F.BT_CFG_PRESENT b) || g.flag (F.BT_CFG_RETIRING b)

/-- The present berths, in order. -/
def Gov.berths (g : Gov) : List Nat := (List.range 256).filter g.present

/-- The berth is quarantined (R313). -/
def Gov.quar (g : Gov) (b : Nat) : Bool := g.flag (F.FLT_QUAR_bit b)

/-- The Hawser node number, 0xFF on a single die (R326). -/
def Gov.node (g : Gov) : Nat := if g.flag F.IDL_CFG_EN then g.get F.IDL_STAT_NODE else 0xFF

/-! ### The event log (R323, R324) -/

/-- Put one event-log record in its place: TIME, TYPE with SEQ, and up to five payload words. -/
def Gov.logPut (g : Gov) (time type : Nat) (payload : List Nat) : Gov :=
  let n := g.flt.written
  let rec_ := [time % 2 ^ 32, time / 2 ^ 32 % 2 ^ 32, type + n % 2 ^ 16 * 2 ^ 16] ++ (payload ++ [0, 0, 0, 0, 0]).take 5
  g.withFlt { g.flt with log := Tab.put (fun _ => []) g.flt.log (n % 8192) rec_, written := n + 1 }

/-- Write one event-log record. A full log overwrites the oldest record and counts it. -/
def Gov.log (g : Gov) (time type : Nat) (payload : List Nat) : Gov :=
  let n := g.flt.written
  let g := (g.logPut time type payload).set F.FLT_LOG_HEAD_HEAD ((n + 1) % 8192)
  if 8192 ≤ n then g.inc F.FLT_LOG_OVF_COUNT else g

/-! ### Raises (R311 to R316, R325, R328) -/

/-- The SG-1 counter that counts a source (R328). -/
def sg1Counter (src : Nat) : Option Nat :=
  if src < 256 ∨ src = 263 ∨ src = 294 then some 8
  else if src = 277 then some 0
  else if src = 278 then some 1
  else if 269 ≤ src ∧ src ≤ 273 then some 2
  else if 260 ≤ src ∧ src ≤ 262 then some 3
  else if (257 ≤ src ∧ src ≤ 259) ∨ (264 ≤ src ∧ src ≤ 266) ∨ src = 274 then some 4
  else if src = 284 then some 5
  else if 285 ≤ src ∧ src ≤ 293 then some 6
  else if src = 275 ∨ src = 276 ∨ src = 297 then some 7
  else if (281 ≤ src ∧ src ≤ 283) ∨ src = 295 ∨ src = 296 then some 9
  else if src = 256 ∨ src = 267 ∨ src = 268 ∨ src = 279 ∨ src = 280 then some 10
  else none

/-- The 320 collector bits as one number (R311). -/
def Gov.collector (g : Gov) : Nat := (List.range 10).foldl (fun a k => a + (g.word (W.FLT_STATUS k)).toNat * 2 ^ (32 * k)) 0

/-- The reaction code of a source (R312); in anchor mode the one at reset (R330, R345). -/
def Gov.reaction (g : Gov) (src : Nat) : Nat := if g.anchored then resetReaction src else g.get (F.FLT_REACT src)

/-- The sources whose bits are set, in order. -/
def Gov.setSources (g : Gov) : List Nat := (List.range 320).filter fun s => g.flag (F.FLT_STATUS_bit s)

/-- Some set bit has a reaction (R315). -/
def Gov.anyReact (g : Gov) (code : Nat) : Bool := g.setSources.any fun s => g.reaction s == code

/-- The berth a raise carries under R312: its own for a berth source, DETAIL[7:0] for a source marked berth. -/
def raiseBerth (src detail : Nat) : Option Nat :=
  if src < 256 then some src
  else if src = 259 ∨ src = 263 ∨ src = 280 ∨ src = 294 then some (detail % 256)
  else none

/-- Put a section in the fault-record queue (R325): it takes the next sequence number; a full queue drops it and marks the next one. -/
def Gov.queueRecord (g : Gov) (r : Raise) : Gov :=
  let seq := (g.word W.FLT_REC_SEQ).toNat
  let g := g.setWord W.FLT_REC_SEQ (BitVec.ofNat 32 (seq + 1))
  if 32 ≤ g.flt.queue.length then
    (g.inc F.FLT_REC_DROP_COUNT).withFlt { g.flt with overflow := true }
  else
    let flags := b2n g.flt.overflow + 4 * b2n g.anchored + 8 * g.get F.SUP_STAT_HARBOUR + 16 * g.get F.FLT_CTRL_TRIPPED
    let sec : Section := { src := r.src, react := r.react, flags := flags, detail := r.detail, time := r.time, node := g.node, pstate := g.state, svn := g.get F.FWP_SVN_IMG_SVN, seq := seq, status := r.status, fwVer := g.get64 W.FWP_VER, corrupt := false }
    let g := g.withFlt { g.flt with queue := g.flt.queue ++ [sec], overflow := false }
    g.set F.FLT_REC_QUEUED g.flt.queue.length

/-- The event-log record and the fault record of a raise, for every reaction from LOG upward (R313). -/
def Gov.recordRaise (g : Gov) (r : Raise) : Gov :=
  if r.react = 0 then g
  else
    let w3 := r.src + r.react * 2 ^ 9 + (if r.silent then 0xD000 else 0)
    (g.log r.time 1 [w3, r.detail, r.time / 250 % 2 ^ 32]).queueRecord r

/-! ### The reservation table (R141, R144) -/

/-- The table has 40,960 entries (R140). -/
def resCapacity : Nat := 40960

/-- Put a new list of live entries in place: LIVE, LIVE_PEAK and every berth's RCNT follow it (R150, R136). -/
def Gov.setTable (g : Gov) (t : List Entry) : Gov :=
  let touched := (g.fcu.table.map (·.berth) ++ t.map (·.berth)).eraseDups
  let g := g.withFcu { g.fcu with table := t }
  let g := (g.set F.FCU_LIVE_LIVE t.length).upd F.FCU_LIVE_LIVE_PEAK (max t.length)
  g.each touched fun g b => g.set (F.BT_FCU_RCNT b) (t.countP fun e => e.berth == b)

/-- Free the entries a test picks and count them as purges (R144). -/
def Gov.purge (g : Gov) (pick : Entry → Bool) : Gov :=
  let n := g.fcu.table.countP pick
  if n = 0 then g else (g.setTable (g.fcu.table.filter fun e => !pick e)).inc F.FCU_CNT_PURGE_COUNT n

/-- Purge a berth's entries (quarantine, absence). -/
def Gov.purgeBerth (g : Gov) (b : Nat) : Gov := g.purge fun e => e.berth == b

/-- Purge an account's entries (close). -/
def Gov.purgeAcct (g : Gov) (a : Nat) : Gov := g.purge fun e => e.acct == a

/-- Purge everything and cancel every hint (entry to SLEEP or DEEP). -/
def Gov.purgeAll (g : Gov) : Gov :=
  let g := g.purge fun _ => true
  ((g.withFcu { g.fcu with hints := [] }).set F.FCU_HINT_STAT_ACTIVE 0).set F.FCU_HINT_STAT_HELD 0

/-- The reactions QUARANTINE and TRIP of a raise (R313, R315): a trip clears every rail's EN, and the fault stops begin at the next rail period starts. STOP and THROTTLE are levels. -/
def Gov.reactRaise (g : Gov) (r : Raise) : Gov :=
  match r.react with
  | 3 =>
    match raiseBerth r.src r.detail with
    | some b => (g.mark (F.FLT_QUAR_bit b)).purgeBerth b
    | none => g
  | 5 => (g.mark F.FLT_CTRL_TRIPPED).each (List.range 8) fun g k => if g.flag (F.RAIL_CTRL_EN k) then (g.hold (W.RAIL_CTRL k)).set (F.RAIL_CTRL_EN k) 0 else g
  | _ => g

/-- The levels of R315: the throttle and the die stop follow the set bits; a trip holds the stop. -/
def Gov.levels (g : Gov) : Gov :=
  let g := g.set F.FLT_CTRL_THROTTLED (b2n (g.anyReact 2))
  g.set F.FLT_CTRL_STOPPED (b2n (g.anyReact 4 || g.flag F.FLT_CTRL_TRIPPED))

/-- Fault resolution (R314): every raise since the last one, in source order (R330), then the levels. -/
def Gov.resolve (g : Gov) : Gov :=
  let rs := sortBy (·.src) g.flt.pending
  let g := g.withFlt { g.flt with pending := [] }
  (g.each rs fun g r => (g.recordRaise r).reactRaise r).levels

/-- The SG-1 counter of a source counts (R328). -/
def Gov.countRaise (g : Gov) (src : Nat) : Gov :=
  match sg1Counter src with
  | some k => g.set ⟨W.SG1_CNT k, 0, 16⟩ (usat 16 (field (g.word (W.SG1_CNT k)) 0 16 + 1))
  | none => g

/-- Set a source's collector bit and let the raise await its resolution (R311, R314). -/
def Gov.enlist (g : Gov) (src detail : Nat) (silent : Bool) : Gov :=
  let g := g.mark (F.FLT_STATUS_bit src)
  let r : Raise := { src := src, detail := detail % 2 ^ 32, silent := silent, time := g.now, react := g.reaction src, status := g.collector }
  g.withFlt { g.flt with pending := g.flt.pending ++ [r] }

/-- In SLEEP and DEEP the always-on domain resolves at once (R314). -/
def Gov.settle (g : Gov) : Gov := if g.asleep then g.resolve else g

/-- Raise a source (R311): the SG-1 counter counts it, and a clear bit is set and awaits its resolution. An absent berth contributes none. -/
def Gov.raise (g : Gov) (src detail : Nat) (silent : Bool := false) : Gov :=
  if src < 256 ∧ !g.present src then g
  else
    let g := g.countRaise src
    if g.flag (F.FLT_STATUS_bit src) then g else (g.enlist src detail silent).settle

/-! ### Interrupts (R53, R381, R382) -/

/-- GOV_IRQ_SRC as it reads: CMD and FLT follow their conditions, the others are latched. -/
def Gov.irqSrc (g : Gov) : Nat :=
  let cmd := (List.range 16).any fun n => g.flag (F.CMD_STAT_RDY n) && bit (g.get F.CMD_IRQ_EN_EN) n
  let flt := g.setSources.any fun s => g.reaction s != 0
  b2n cmd + 2 * b2n flt + (g.word W.GOV_IRQ_SRC).toNat / 4 % 32 * 4

/-- GOV_IRQ[n] follows its sources (R382). -/
def Gov.irqLevel (g : Gov) (n : Nat) : Bool :=
  (List.range 7).any fun e => bit g.irqSrc e && bit (g.get F.GOV_IRQ_EN_EN) e && g.get (F.GOV_IRQ_MAP_LINE e) == n

/-- The level of GOV_IRQ[n]; SLEEP and DEEP hold the levels they found (R77). -/
def Gov.irqLine (g : Gov) (n : Nat) : Bool := g.powered && (if g.asleep then bit g.pwr.irqHeld n else g.irqLevel n)

/-! ### Requests and the order of service (R353, R355, R361) -/

/-- Word i of a packet. -/
def pw (ws : List Nat) (i : Nat) : Nat := ws.getD i 0

def pkOpcode (ws : List Nat) : Nat := bits (pw ws 0) 24 8
def pkLen (ws : List Nat) : Nat := bits (pw ws 0) 16 8
def pkChannel (ws : List Nat) : Nat := bits (pw ws 0) 12 4
def pkFwait (ws : List Nat) : Bool := bit (pw ws 0) 8
def pkFsig (ws : List Nat) : Bool := bit (pw ws 0) 9
def pkNoReply (ws : List Nat) : Bool := bit (pw ws 0) 10
def pkUrgent (ws : List Nat) : Bool := bit (pw ws 0) 11
def pkSeq (ws : List Nat) : Nat := bits (pw ws 1) 16 16
def pkClass (ws : List Nat) : Nat := bits (pw ws 1) 12 4
def pkFence (ws : List Nat) : Nat := bits (pw ws 1) 0 12

/-- The pilot that owns a channel (R355): 0 A, 1 B, 2 C; channels 10 and 11 have none. -/
def channelPilot (n : Nat) : Option Nat :=
  if n = 0 ∨ (2 ≤ n ∧ n ≤ 5) then some 0
  else if n = 1 ∨ n = 6 ∨ n = 7 ∨ n = 12 ∨ n = 13 then some 1
  else if n = 8 ∨ n = 9 ∨ n = 14 ∨ n = 15 then some 2
  else none

/-- The place of a request in its pilot's order: URGENT first, then CLASS, then channel. -/
def reqRank (n : Nat) (r : Req) : Nat := (if pkUrgent r.words then 0 else 1) * 1000 + pkClass r.words * 100 + n

/-- Move a channel's request to a phase. -/
def Gov.setPhase (g : Gov) (n : Nat) (x : ReqPhase) : Gov :=
  g.withCmd { g.cmd with reqs := g.cmd.reqs.map fun (q : Nat × Req) => if q.1 = n then (q.1, { q.2 with phase := x }) else q }

/-- Each pilot that is free takes up the next of its ready requests (R361); one it has begun is never pre-empted. -/
def Gov.takeUp (g : Gov) : Gov :=
  if g.asleep then g
  else g.each [0, 1, 2] fun g k =>
    let mine := g.cmd.reqs.filter fun (p : Nat × Req) => channelPilot p.1 == some k
    if !g.pilotUp k || mine.any (fun p => p.2.phase == .begun) then g
    else
      match sortBy (fun (p : Nat × Req) => reqRank p.1 p.2) (mine.filter fun p => p.2.phase == .ready && p.2.doom.isNone) with
      | p :: _ => g.setPhase p.1 .begun
      | [] => g

/-! ### Fences (R369, R370) -/

/-- Signal a fence, one of 4,096 (R369). -/
def Gov.signal (g : Gov) (f : Nat) : Gov := g.mark (F.FENCE_STATE_bit (f % 4096))

/-- The channel's request became eligible: every request that waits on a signalled fence stops waiting (R371). -/
def Gov.wakeWaiters (g : Gov) : Gov :=
  (g.each g.cmd.reqs fun g p =>
    if p.2.phase = .waiting ∧ g.flag (F.FENCE_STATE_bit (pkFence p.2.words)) then (g.setPhase p.1 .ready).set (F.CMD_STAT_WAIT (p.1 % 16)) 0
    else g).takeUp

/-- Signal a fence and wake what waits on it. -/
def Gov.signalFence (g : Gov) (f : Nat) : Gov := (g.signal f).wakeWaiters

/-- Fire every deferred signal armed on an event (R370). -/
def Gov.fire (g : Gov) (e : SigEvent) : Gov :=
  let fs := (g.cmd.armed.filter fun p => p.1 == e).map (·.2)
  let g := g.withCmd { g.cmd with armed := g.cmd.armed.filter fun p => p.1 != e }
  g.each fs Gov.signalFence

/-! ### Answers of exec -/

/-- The next state in which only the governor changed. -/
def State.onGov (s : State) (f : Gov → Gov) : Host.Outcome State Fault Refusal := .next { s with gov := f s.gov }

/-- The next state in which the governor and what outlives its resets changed. -/
def State.onBoth (s : State) (f : Gov → Persist → Gov × Persist) : Host.Outcome State Fault Refusal :=
  .next { s with gov := (f s.gov s.keep).1, keep := (f s.gov s.keep).2 }

end Sys2Proof.Machine
end

