-- ==== Sys2Proof/Machine/FlashPort.lean ====
section
/-! DEFINITION. The flash port: the device's bytes, the instructions the governor drives to it, their limits, and the level of FL_CS_N (R65 to R67, R333). -/

namespace Sys2Proof.Machine

/-! ### The device's bytes -/

/-- The flash byte at an offset; an erased location reads 0xFF. -/
def flashByte (fl : Tab Byte) (off : Nat) : Byte := Tab.get (fun _ => 0xFF#8) fl off

/-- A run of flash bytes. -/
def flashBytes (fl : Tab Byte) (off n : Nat) : List Byte := (List.range n).map fun k => flashByte fl (off + k)

/-- A little-endian number in flash. -/
def flashLe (fl : Tab Byte) (off n : Nat) : Nat := ofLeBytes (flashBytes fl off n)

/-- A big-endian number in flash. -/
def flashBe (fl : Tab Byte) (off n : Nat) : Nat := ofBeBytes (flashBytes fl off n)

/-- Program bytes into flash. -/
def flashWrite (fl : Tab Byte) (off : Nat) (bs : List Byte) : Tab Byte :=
  (List.range bs.length).foldl (fun fl k => Tab.put (fun _ => 0xFF#8) fl (off + k) (bs.getD k 0)) fl

/-- Erase the 4 KiB sector that holds an offset. -/
def flashErase (fl : Tab Byte) (off : Nat) : Tab Byte := fl.filter fun p => p.1 / 4096 != off / 4096

/-! ### What the SFDP tables choose (R65 to R67) -/

/-- The read mode in lines of instruction, address and data, its instruction, and the FL_SCK limit in MHz: the fastest that the SFDP tables advertise, or 0x03 at 10 MHz where they do not parse. -/
def flashReadMode : Option FlashDev → (Nat × Nat × Nat) × Byte × Nat
  | none => ((1, 1, 1), 0x03, 10)
  | some d =>
    match d.read144, d.read114 with
    | some i, _ => ((1, 4, 4), i, 100)
    | none, some i => ((1, 1, 4), i, 100)
    | none, none => ((1, 1, 1), d.read111, 100)

/-- The bytes of the device that are used: the first 16 MiB where the SFDP tables do not parse. -/
def flashSpan : Option FlashDev → Nat
  | none => 2 ^ 24
  | some d => d.size

/-- The address bytes of a read: 4 above 16 MiB. -/
def flashAddrBytes (dev : Option FlashDev) : Nat := if flashSpan dev ≤ 2 ^ 24 then 3 else 4

/-- The erase instruction of 4 KiB. -/
def flashEraseInstr : Option FlashDev → Byte
  | none => 0x20
  | some d => d.erase4k

/-- The bytes of a program page. -/
def flashPage : Option FlashDev → Nat
  | none => 256
  | some d => max 1 d.page

/-- How long the busy bit of an erase or a program may stay set, in ns: ten times what the tables advertise, or 2 s. -/
def flashLimit (dev : Option FlashDev) (erase : Bool) : Nat :=
  match dev with
  | none => 2000000000
  | some d => 10 * if erase then d.eraseNs else d.progNs

/-! ### Traffic on the port -/

/-- One instruction that the governor drives: 0x5A at boot, a read, 0x06, a 4 KiB erase, 0x02, and 0x05 until bit 0 of the status register reads 0. Erase and program use 3-byte addresses over one line at 10 MHz. -/
inductive FlashOp where
  | sfdp
  | read (instr : Byte) (addrBytes off len : Nat)
  | writeEnable
  | erase (instr : Byte) (off : Nat)
  | program (off : Nat) (bytes : List Byte)
  | poll
  deriving DecidableEq, Repr

/-- The instruction byte. -/
def FlashOp.instr : FlashOp → Byte
  | .sfdp => 0x5A
  | .read i _ _ _ => i
  | .writeEnable => 0x06
  | .erase i _ => i
  | .program _ _ => 0x02
  | .poll => 0x05

/-- What an instruction does to the device's bytes. -/
def FlashOp.run (fl : Tab Byte) : FlashOp → Tab Byte
  | .erase _ off => flashErase fl off
  | .program off bs => flashWrite fl off bs
  | .sfdp | .read .. | .writeEnable | .poll => fl

/-- The read of a run of bytes. -/
def flashReadOp (dev : Option FlashDev) (off len : Nat) : FlashOp := .read (flashReadMode dev).2.1 (flashAddrBytes dev) off len

/-- Program a run of bytes, page by page. -/
def flashProgramOps (page : Nat) : Nat → Nat → List Byte → List FlashOp
  | 0, _, _ => []
  | n + 1, off, bs =>
    if bs.isEmpty then []
    else [.writeEnable, .program off (bs.take (page - off % page)), .poll] ++ flashProgramOps page n (off + (page - off % page)) (bs.drop (page - off % page))

/-- One block of an image: the sectors that begin inside it are erased first, the pages are programmed, and the block is read back (R67, R342). -/
def flashBlockOps (dev : Option FlashDev) (off : Nat) (bs : List Byte) : List FlashOp :=
  let starts := (List.range bs.length).filter fun k => (off + k) % 4096 == 0
  (starts.flatMap fun k => [.writeEnable, .erase (flashEraseInstr dev) (off + k), .poll]) ++ flashProgramOps (flashPage dev) bs.length off bs ++
    [flashReadOp dev off bs.length]

/-- The device's bytes after one block of an image. -/
def flashBlock (dev : Option FlashDev) (fl : Tab Byte) (off : Nat) (bs : List Byte) : Tab Byte := (flashBlockOps dev off bs).foldl FlashOp.run fl

/-- FL_CS_N is held high: in reset and in every state but RUN and IDLE (R66, R77). -/
def Gov.flashShut (g : Gov) : Bool := !(g.up && !g.asleep)

end Sys2Proof.Machine
end

