-- ==== Sys2Proof/Machine/Window.lean ====
section
/-! DEFINITION. How a register write acts on the fields of one word (R10, R12, R375, R376, R378, R385), before any group's own rule. -/

namespace Sys2Proof.Machine

/-- The outcome of a group's rule for one write: accepted, or refused with only the group's refusal flag set (R375). -/
structure Verdict where
  ok  : Bool
  gov : Gov
  deriving DecidableEq, Repr

/-- An accepted write. -/
def accept (g : Gov) : Verdict := ⟨true, g⟩

/-- A refused write. -/
def refuse (g : Gov) : Verdict := ⟨false, g⟩

/-- The lock that covers the word at an offset is set (R385). -/
def Gov.locked (g : Gov) (off : Nat) : Bool :=
  if 0xD00 ≤ off ∧ off < 0xE00 then g.flag F.HLIM_CTRL_LOCK
  else if 0xC60 = off then g.flag F.LIM_HARBOUR_LOCK
  else if 0x14C = off then g.flag F.FWP_WDT_LOCK
  else if 0x50000 ≤ off ∧ off < 0x58800 then g.flag F.FLT_CTRL_LOCK
  else if 0x20000 ≤ off ∧ off < 0x24000 then g.flag F.GOV_LOCK_BT
  else false

/-- The new bits of one field of a word: by its access code (R12). A one-bit RWO field is used up by the write that sets it. -/
def fieldWrite (isLocked : Bool) (old new : Word) (f : FieldDef) : Nat :=
  let o := field old f.lo f.w
  let n := field new f.lo f.w
  match f.acc with
  | .rw => n
  | .rw1c => o &&& (2 ^ f.w - 1 - n)
  | .rwo => if o = 0 then n else o
  | .rwl => if isLocked then o else n
  | .ro => o
  | .ros => o
  | .trig => 0

/-- The word after a write acted on each field by its access code; reserved bits stay 0 (R10). -/
def mergeWord (isLocked : Bool) (fs : List FieldDef) (old new : Word) : Word :=
  BitVec.ofNat 32 (fs.foldl (fun a f => a + fieldWrite isLocked old new f % 2 ^ f.w * 2 ^ f.lo) 0)

/-- The fields of the register at an offset. -/
def fieldsAt (off : Nat) : List FieldDef :=
  match findReg off with
  | some (d, _, _) => d.fields
  | none => []

/-- The word an offset would hold after a write. -/
def Gov.merged (g : Gov) (off : Nat) (w : Word) : Word := mergeWord (g.locked off) (fieldsAt off) (g.word off) w

/-- A write that acts at once. -/
def Gov.plain (g : Gov) (off : Nat) (w : Word) : Gov := g.setWord off (g.merged off w)

/-- A write whose settings become active later (R25, R206): the word in force is kept beside it. -/
def Gov.shadow (g : Gov) (off : Nat) (w : Word) : Gov := (g.hold off).plain off w

/-- A write to a locked RWL field is ignored and sets LOCKED_WR (R378). -/
def Gov.noteLocked (g : Gov) (off : Nat) : Gov :=
  if g.locked off && (fieldsAt off).any (fun f => f.acc == .rwl) then g.mark F.GOV_LOCK_STAT_LOCKED_WR else g

/-- Set counters to 0. -/
def Gov.clearAll (g : Gov) (fs : List Fld) : Gov := g.each fs fun g f => g.set f 0

/-- Set words to 0. -/
def Gov.zeroWords (g : Gov) (offs : List Nat) : Gov := g.each offs fun g o => g.setWord o 0

/-- A word has at least one field that a write can change (R365: a read-only word is refused there). -/
def writable (off : Nat) : Bool :=
  (fieldsAt off).any fun f => match f.acc with
    | .ro => false
    | .ros => false
    | .rw => true
    | .rw1c => true
    | .rwo => true
    | .rwl => true
    | .trig => true

/-! ### Sluice and forecast registers (R134, R136, R146, R150) -/

/-- The slope words would break R136: a zero slope, or UP_OPEN below UP. -/
def slopeBad (slope openw : Word) : Bool :=
  field slope 0 12 == 0 || field slope 16 12 == 0 || field openw 0 12 == 0 || decide (field openw 0 12 < field slope 0 12)

/-- The berth counts as present for a check against written values. -/
def Gov.presentWritten (g : Gov) (b : Nat) : Bool := g.flag (F.BT_CFG_PRESENT b) || g.present b

/-- A write to ASL_ or FCU_ words. No hint input is enabled in anchor mode (R345; log entry 111). -/
def Gov.writeSluice (g : Gov) (off : Nat) (w : Word) : Verdict :=
  if off = W.ASL_CFG then
    if (List.range 256).any fun b => g.presentWritten b && decide (g.get (F.BT_OPEN_HEAD b) ≤ field w 0 12) then refuse (g.mark F.ASL_STATUS_REFUSED)
    else accept (g.shadow off w)
  else if off = W.FCU_CFG then
    if (field w 0 8 ≠ g.get F.FCU_CFG_HORIZON ∧ g.fcu.table ≠ []) ∨ (g.anchored ∧ field w 16 4 ≠ 0) then refuse ((g.mark F.FCU_STATUS_REFUSED).set F.FCU_STATUS_REASON 0)
    else accept (g.shadow off w)
  else if off = W.FCU_CONF_MAX then
    if field w 0 16 = 0 then refuse ((g.mark F.FCU_STATUS_REFUSED).set F.FCU_STATUS_REASON 0) else accept (g.shadow off w)
  else if off = W.FCU_CTRL then
    accept (if bit w.toNat 0 then
      (g.zeroWords ((List.range 13).map fun k => W.FCU_CNT_ACCEPT + 4 * k)).set F.FCU_LIVE_LIVE_PEAK 0 else g)
  else if off = W.ASL_STATUS ∨ off = W.FCU_STATUS then accept (g.plain off w)
  else accept (g.shadow off w)

/-- A write to BT_SLOPE or BT_OPEN of berth b (R134, R136). -/
def Gov.writeSlope (g : Gov) (b off : Nat) (w : Word) : Verdict :=
  let slope := if off = W.BT_SLOPE b then w else g.word (W.BT_SLOPE b)
  let openw := if off = W.BT_OPEN b then w else g.word (W.BT_OPEN b)
  if slopeBad slope openw || (off == W.BT_OPEN b && g.presentWritten b && decide (field w 16 12 ≤ g.get F.ASL_CFG_PRESS)) then refuse (g.mark F.ASL_STATUS_REFUSED)
  else accept (g.shadow off w)

/-! ### The berth table (R383, R384) -/

/-- A refusal of a berth-configuration write (R383). -/
def Gov.refuseBerth (g : Gov) (b rsn : Nat) : Verdict :=
  refuse (((g.mark F.GOV_BT_REF_REFUSED).set F.GOV_BT_REF_BERTH b).set F.GOV_BT_REF_RSN rsn)

/-- A write to a word of berth b's entry. -/
def Gov.writeBerth (g : Gov) (b off : Nat) (w : Word) : Verdict :=
  let isPres := g.presentWritten b
  if off = W.BT_CFG b then
    if g.locked off then accept (g.noteLocked off)
    else
      let fixedMoved := decide (field w 1 7 ≠ field (g.word off) 1 7)
      let was := g.flag (F.BT_CFG_PRESENT b)
      let now := bit w.toNat 0
      if isPres && fixedMoved then g.refuseBerth b 2
      else if now && !was && (g.get (F.BT_PEAK_CNT_PEAK_CNT b) == 0 || slopeBad (g.word (W.BT_SLOPE b)) (g.word (W.BT_OPEN b)) || decide (g.get (F.BT_OPEN_HEAD b) ≤ g.get F.ASL_CFG_PRESS)) then g.refuseBerth b 1
      else if now != was && g.flag F.PS_STAT_BUSY then g.refuseBerth b 3
      else if was && !now then accept ((g.shadow off w).mark (F.BT_CFG_RETIRING b))
      else if now && !was then accept (if g.flag (F.BT_CFG_RETIRING b) then (g.plain off w).set (F.BT_CFG_RETIRING b) 0 else g.shadow off w)
      else accept (g.shadow off w)
  else if off = W.BT_PEAK_CNT b then
    if g.locked off then accept (g.noteLocked off)
    else if isPres && decide (field w 0 16 ≠ g.get (F.BT_PEAK_CNT_PEAK_CNT b)) then g.refuseBerth b 2
    else accept (g.shadow off w)
  else if off = W.BT_SLOPE b ∨ off = W.BT_OPEN b then g.writeSlope b off w
  else if off = W.BT_NAME0 b ∨ off = W.BT_NAME1 b then accept ((g.noteLocked off).shadow off w)
  else accept (g.shadow off w)

end Sys2Proof.Machine
end

