-- ==== Sys2Proof/Machine/Packets.lean ====
section
/-! DEFINITION. Command packets: their fields, the take and the checks the harbourmaster makes, the journal, replies, and the signal of a command's fence (R351 to R363, R370, R371). -/

namespace Sys2Proof.Machine

/-! ### Fields of a packet (R353) -/

/-- The parameters: words 2 to LEN - 2, without the signal-fence word where the packet both waits and signals. -/
def pkParams (ws : List Nat) : List Nat :=
  let n := pkLen ws - 3
  (ws.drop 2).take (if pkFwait ws && pkFsig ws then n - 1 else n)

/-- The fence to signal. -/
def pkSigFence (ws : List Nat) : Nat := if pkFwait ws then bits (pw ws (pkLen ws - 2)) 0 12 else pkFence ws

/-- Status codes (R363). -/
def stOk : Nat := 0x00
def stDeferred : Nat := 0x01
def stPilotRestarting : Nat := 0x20
def stAborted : Nat := 0x21
def stAbortedSession : Nat := 0x22
def stNotReady : Nat := 0x23
def stFenceTimeout : Nat := 0x24
def stMalformed : Nat := 0x40
def stBadOpcode : Nat := 0x41
def stBadChannel : Nat := 0x42
def stParam : Nat := 0x43
def stStaleSeq : Nat := 0x44
def stNoSession : Nat := 0x45
def stPrivilege : Nat := 0x46
def stResource : Nat := 0x60
def stState : Nat := 0x61
def stFeature : Nat := 0x62
def stVersion : Nat := 0x63
def stAnchor : Nat := 0x64
def stEntryAborted : Nat := 0x65
def stVerifyFailed : Nat := 0x66
def stPoisoned : Nat := 0x80

/-! ### Which opcodes a channel accepts (R355, R356) -/

/-- The opcode is in the table of R364. -/
def opcodeListed (op : Nat) : Bool :=
  decide (op ≤ 6) || (decide (0x10 ≤ op) && decide (op ≤ 0x16)) || (decide (0x20 ≤ op) && decide (op ≤ 0x22)) ||
  (decide (0x28 ≤ op) && decide (op ≤ 0x2A)) || (decide (0x30 ≤ op) && decide (op ≤ 0x32)) || op == 0x38 || op == 0x39 || op == 0x40 || op == 0x48 || op == 0x49

/-- The channel's row accepts the opcode. -/
def channelAccepts (n op : Nat) : Bool :=
  if n = 10 ∨ n = 11 then false
  else if op = 0x00 ∨ op = 0x49 then true
  else if op = 0x48 then decide (n < 12)
  else if n = 0 then op == 0x10 || op == 0x11
  else if n = 1 then decide (0x30 ≤ op) && decide (op ≤ 0x32)
  else if n = 2 then decide (op ≤ 6)
  else if n ≤ 5 then decide (0x10 ≤ op) && decide (op ≤ 0x16)
  else if n = 6 then decide (0x20 ≤ op) && decide (op ≤ 0x22)
  else if n = 7 then decide (0x28 ≤ op) && decide (op ≤ 0x2A)
  else if n = 8 then op == 0x38 || op == 0x39 || op == 0x11
  else if n = 9 then op == 0x40 || op == 0x11
  else if n ≤ 13 then op == 0x22 || op == 0x28 || op == 0x2A
  else op == 0x40

/-- Check 7 of R357: the status that refuses a listed opcode on a channel. -/
def check7 (n : Nat) (ws : List Nat) : Option Nat :=
  if 12 ≤ n ∧ (pkFsig ws || !channelAccepts n (pkOpcode ws)) then some stPrivilege
  else if !channelAccepts n (pkOpcode ws) then some stBadChannel
  else none

/-- The feature bits a packet needs (R344): laws, statements and closes that ask for one, collective telemetry, margin trim, fences. -/
def featureNeeds (ws : List Nat) : List Nat :=
  let op := pkOpcode ws
  (if op = 0x12 ∨ op = 0x13 then [0] else []) ++ (if (0x28 ≤ op ∧ op ≤ 0x2A) ∨ (op = 0x21 ∧ bit (pw ws 2) 8) then [1] else []) ++
  (if op = 0x40 ∧ pw ws 2 % 16 = 3 then [2] else []) ++
  (if op = 0x39 then [5] else []) ++ (if op = 0x48 ∨ op = 0x49 ∨ pkFwait ws ∨ pkFsig ws then [6] else [])

/-- Check 8 of R357. -/
def Gov.check8 (g : Gov) (ws : List Nat) : Option Nat :=
  if g.flag F.SUP_STAT_SESSION && (featureNeeds ws).any fun k => !bit g.firm.feat k then some stFeature else none

/-! ### Replies and the journal (R341, R353, R354, R359) -/

/-- The taken request of a channel. -/
def Gov.req (g : Gov) (n : Nat) : Option Req := (g.cmd.reqs.find? fun p => p.1 == n).map (·.2)

/-- Replace a channel's taken request. -/
def Gov.setReq (g : Gov) (n : Nat) (r : Option Req) : Gov :=
  let rest := g.cmd.reqs.filter fun (p : Nat × Req) => p.1 != n
  g.withCmd { g.cmd with reqs := match r with | some r => rest ++ [(n, r)] | none => rest }

/-- Free a request window: every word zero (R354). -/
def Gov.freeWindow (g : Gov) (n : Nat) : Gov := g.zeroWords ((List.range 64).map fun i => W.CMD_REQ n i)

/-- Write a list of words at consecutive offsets. -/
def Gov.writeWords (g : Gov) (off : Nat) (ws : List Nat) : Gov :=
  g.each (List.range ws.length) fun g i => g.setWord (off + 4 * i) (BitVec.ofNat 32 (pw ws i))

/-- The words of a reply: header with class and status, the request's word 1, parameters, trailer (R353). -/
def replyWords (n : Nat) (ws : List Nat) (status : Nat) (params : List Nat) : List Nat :=
  let body := [pkOpcode ws * 2 ^ 24 + (params.length + 3) * 2 ^ 16 + n * 2 ^ 12 + status / 32 * 2 ^ 8 + status, pw ws 1] ++ params
  body ++ [crcWords body]

/-- Post a reply, or free the window where NOREPLY suppresses a success (R354). The request is answered: TAKEN and WAIT clear. -/
def Gov.post (g : Gov) (n : Nat) (ws : List Nat) (status : Nat) (params : List Nat) : Gov :=
  let g := ((((g.setReq n none).takeUp).set (F.CMD_STAT_TAKEN n) 0).set (F.CMD_STAT_WAIT n) 0).set (F.CMD_STAT_DUP n) 0
  if pkNoReply ws && decide (status / 32 = 0) then g.freeWindow n
  else (g.writeWords (W.CMD_RPL n 0) (replyWords n ws status params)).mark (F.CMD_STAT_RDY n)

/-- Write a channel's journal word, for every status but those of class 1 (R359). -/
def Gov.journal (g : Gov) (n seq status : Nat) : Gov :=
  if status / 32 = 1 then g
  else
    ((g.set (F.SUP_JOURNAL_SEQ n) seq).mark (F.SUP_JOURNAL_VALID n)).set (F.SUP_JOURNAL_RESULT n) status

/-- The commit of a command: its journal word, and its fence, signalled at once or armed on the event its opcode names (R341, R370). -/
def Gov.commit (g : Gov) (n : Nat) (ws : List Nat) (status : Nat) (at_ : Option SigEvent) : Gov :=
  let g := g.journal n (pkSeq ws) status
  if pkFsig ws && decide (status / 32 = 0) then
    match at_ with
    | none => g.signalFence (pkSigFence ws)
    | some e => g.withCmd { g.cmd with armed := g.cmd.armed ++ [(e, pkSigFence ws)] }
  else g

/-- Commit and answer in one go. -/
def Gov.answer (g : Gov) (n : Nat) (ws : List Nat) (status : Nat) (params : List Nat) : Gov :=
  (g.commit n ws status none).post n ws status params

/-! ### The take (R351, R357) -/

/-- The window is busy: a request is taken, or its reply waits to be freed. -/
def Gov.windowBusy (g : Gov) (n : Nat) : Bool := g.flag (F.CMD_STAT_TAKEN n) || g.flag (F.CMD_STAT_RDY n)

/-- The words of a request window. -/
def Gov.window (g : Gov) (n : Nat) : List Nat := (List.range 64).map fun i => (g.word (W.CMD_REQ n i)).toNat

/-- How a sequence number stands to the journal (R358): a duplicate, new, or stale. The first packet taken on a channel after a session-open is new. -/
def Gov.seqNew (g : Gov) (n seq : Nat) : Option Bool :=
  let d := (seq + 2 ^ 16 - g.get (F.SUP_JOURNAL_SEQ n)) % 2 ^ 16
  if !g.flag (F.SUP_JOURNAL_VALID n) || g.cmd.fresh.contains n then some true
  else if d = 0 then some false
  else if d ≤ 32767 then some true
  else none

/-- A request that passed the harbourmaster's checks: it waits on its fence (R371) or is ready for its pilot. -/
def Gov.takeIn (g : Gov) (n : Nat) (ws : List Nat) : Gov :=
  let waits := pkFwait ws && (check7 n ws).isNone && (g.check8 ws).isNone && !g.flag (F.FENCE_STATE_bit (pkFence ws))
  let g := g.setReq n (some { words := ws, phase := if waits then .waiting else .ready, taken := g.now, doom := none })
  if waits then g.mark (F.CMD_STAT_WAIT n) else g.takeUp

/-- Checks 1 to 6 of R357 on a taken packet, and BAD_OPCODE, each answered at once. -/
def Gov.checkPacket (g : Gov) (n : Nat) (ws : List Nat) : Gov :=
  let op := pkOpcode ws
  if g.anchored then g.post n ws stAnchor []
  else
    match channelPilot n with
    | none => g.post n ws stBadChannel []
    | some k =>
      if bits (pw ws 0) 0 8 ≠ 0 ∨ pkChannel ws ≠ n ∨ 3 ≤ pkClass ws then g.post n ws stMalformed []
      else
        match g.seqNew n (pkSeq ws) with
        | none => g.post n ws stStaleSeq []
        | some false => (g.post n ws (g.get (F.SUP_JOURNAL_RESULT n)) []).mark (F.CMD_STAT_DUP n)
        | some true =>
          if g.pilotRestarts k then g.post n ws stPilotRestarting []
          else if !g.flag F.SUP_STAT_SESSION ∧ op ≠ 0 ∧ op ≠ 1 ∧ op ≠ 2 then g.post n ws stNoSession []
          else if n ≤ 1 ∧ g.flag F.SUP_STAT_SESSION ∧ !g.firm.major then g.post n ws stVersion []
          else if !opcodeListed op then g.answer n ws stBadOpcode []
          else g.takeIn n ws

/-- A write of word i of channel n's request window (R351, R354): ignored with OVR while the window is busy; a write to the trailer takes the packet where its check passes. -/
def Gov.writeRequest (g : Gov) (n i : Nat) (w : Word) : Gov :=
  if g.windowBusy n then g.mark (F.CMD_STAT_OVR n)
  else
    let g := g.setWord (W.CMD_REQ n i) w
    let ws := g.window n
    let len := pkLen ws
    if len ≠ i + 1 then g
    else if 3 ≤ len ∧ len ≤ 64 ∧ w.toNat = crcWords (ws.take (len - 1)) then
      let g := ((g.mark (F.CMD_STAT_TAKEN n)).set (F.CMD_STAT_LAST_SEQ n) (pkSeq ws)).inc (F.CMD_CNT_TAKEN_COUNT n)
      let g := g.checkPacket n (ws.take len)
      g.withCmd { g.cmd with fresh := g.cmd.fresh.filter (· != n) }
    else (g.mark (F.CMD_STAT_CRC_FAIL n)).inc (F.CMD_CNT_CRC_COUNT n)

/-! ### Service (R361) -/

/-- Channel n holds the request its pilot serves now. -/
def Gov.servedNow (g : Gov) (n : Nat) : Bool :=
  match g.req n, channelPilot n with
  | some r, some k => r.phase == .begun && g.pilotUp k && !g.asleep
  | _, _ => false

/-- End a fence wait with a status (R371). -/
def Gov.endWait (g : Gov) (n status : Nat) : Gov :=
  match g.req n with
  | some r => if r.phase = .waiting then g.answer n r.words status [] else g
  | none => g

end Sys2Proof.Machine
end

