-- ==== Sys2Proof/Machine/Flags.lean ====
section
/-! DEFINITION. The saturating operators of R88 with the flag each saturation sets, and the comparison flags and conditions of R100. -/

namespace Sys2Proof.Machine

/-- A value and whether it was changed by saturation. -/
structure Sat where
  val : Int
  sat : Bool
  deriving DecidableEq, Repr

/-- sat32 with its flag. -/
def sat32 (x : Int) : Sat := ⟨s32 x, s32 x != x⟩

/-- sat48 with its flag. -/
def sat48 (x : Int) : Sat := ⟨s48 x, s48 x != x⟩

/-- sat_mul of R88. -/
def satMul (a b : Int) : Sat := sat32 (asr (a * b) 16)

/-- sat_mac of R88. -/
def satMac (c a b : Int) : Sat := sat48 (c + asr (a * b) 16)

/-- sat_add and sat_sub of R88, the flag dropped. -/
def satAdd (a b : Int) : Int := s32 (a + b)
def satSub (a b : Int) : Int := s32 (a - b)

/-- clamp of R88: the upper bound wins where the bounds cross. -/
def clampI (x lo hi : Int) : Int := min (max x lo) hi

/-- The flags of a law's execution (R99, R100). -/
structure LawFlags where
  lt   : Bool := false
  eq   : Bool := false
  gt   : Bool := false
  satf : Bool := false
  deriving DecidableEq, Repr

/-- The flags after CMP. -/
def LawFlags.compare (f : LawFlags) (a b : Int) : LawFlags := { f with lt := decide (a < b), eq := decide (a = b), gt := decide (b < a) }

/-- Condition X of SEL (R100). -/
def LawFlags.cond (f : LawFlags) (x : Nat) (lost : Bool) : Bool :=
  if x = 0 then f.lt
  else if x = 1 then f.eq
  else if x = 2 then f.gt
  else if x = 3 then f.lt || f.eq
  else if x = 4 then f.gt || f.eq
  else if x = 5 then !f.eq
  else if x = 6 then lost
  else f.satf

end Sys2Proof.Machine
end

