-- ==== Sys2Proof/Machine/Operands.lean ====
section
/-! DEFINITION. The operand forms: tide-table lookups (R227, R228), clock sources (R166 to R168), synthesizers' glides (R161), feedback sources and their conversion to Q16.16 (R87), and the operand codes of micro-instructions (R98). -/

namespace Sys2Proof.Machine

/-! ### Signed fields -/

/-- The signed reading of a stored field. -/
def Gov.sget (g : Gov) (f : Fld) : Int := toSigned f.w (g.get f)

/-- The signed reading of a field in force. -/
def Gov.sact (g : Gov) (f : Fld) : Int := toSigned f.w (g.act f)

/-- Store a signed value in a field, saturated (R14). -/
def Gov.sset (g : Gov) (f : Fld) (v : Int) : Gov := g.set f (ofSigned f.w (ssat f.w v))

/-! ### Tide tables (R226, R227) -/

/-- The table's active copy is valid. -/
def Gov.tblValid (g : Gov) (k : Nat) : Bool := g.flag (F.TBL_HDR_VALID k)

/-- The segment of a table that holds an input, from the first breakpoint on. -/
def tblSeek : List (Int × Int) → Int → Int
  | [], _ => 0
  | [(_, y)], _ => y
  | (x0, y0) :: (x1, y1) :: rest, x =>
    if x ≤ x0 then y0
    else if x < x1 then y0 + Int.tdiv ((x - x0) * (y1 - y0)) (x1 - x0)
    else tblSeek ((x1, y1) :: rest) x

/-- tbl of R227: 0 with a saturation for an invalid table. -/
def Gov.tbl (g : Gov) (k : Nat) (x : Int) : Sat :=
  if g.tblValid k then ⟨tblSeek (Tab.get (fun _ => []) g.sns.active k) x, false⟩ else ⟨0, true⟩

/-- A rail's voltage-frequency table may be used: valid and declared INC (R228). -/
def Gov.vfOk (g : Gov) (r : Nat) : Bool :=
  let k := g.act (F.RAIL_CTRL_VF_TBL r)
  g.tblValid k && g.flag (F.TBL_HDR_INC_ACT k)

/-- VF(f) + GUARD of a rail at whole MHz, in 0.5 mV (R228). -/
def Gov.vneedAt (g : Gov) (r mhz : Nat) : Nat :=
  let y := (g.tbl (g.act (F.RAIL_CTRL_VF_TBL r)) ((mhz : Int) * 65536)).val
  usat 12 ((-(Int.fdiv (-y) 32768)).toNat + g.get (F.MT_GUARD_GUARD r))

/-- The greatest number of up to 12 bits above a base that a monotone test admits, by bits from the top. -/
def greatest (base bound : Nat) (ok : Nat → Bool) : Nat :=
  (List.range 16).foldl (fun x k => let y := x + 2 ^ (15 - k); if y ≤ bound && ok y then y else x) base

/-- ENTRY e of a rail, in 0.5 mV. -/
def Gov.entry (g : Gov) (r e : Nat) : Nat := g.act (F.RAIL_ENTRY_ENTRY r e)

/-- Entry e is available: not above HLIM_VCORE.MAX on RAIL0 (R186). -/
def Gov.entryOk (g : Gov) (r e : Nat) : Bool := r != 0 || decide (g.entry 0 e ≤ g.get F.HLIM_VCORE_MAX)

/-- The highest available entry; entry 0 where none is (R186). -/
def Gov.topEntry (g : Gov) (r : Nat) : Nat := (List.range 16).foldl (fun best e => if g.entryOk r e then e else best) 0

/-- An entry, or the highest available one where it is unavailable (R186). -/
def Gov.usable (g : Gov) (r e : Nat) : Nat := if g.entryOk r e then e else g.topEntry r

/-- fperm(e) of R228 for a rail and a bound in MHz. -/
def Gov.fperm (g : Gov) (r e fmax : Nat) : Nat :=
  if g.vfOk r then
    if fmax < 200 ∨ g.entry r e < g.vneedAt r 200 then 0
    else greatest 200 fmax fun f => decide (g.vneedAt r f ≤ g.entry r e)
  else if g.topEntry r ≤ e then fmax else 0

/-! ### Clock sources -/

/-- The source that SEL and ALT name for region g. -/
def sourceOf (region sel alt : Nat) : Source :=
  if sel = 0 then .syn region
  else if sel = 1 then .syn alt
  else if sel = 2 then .ref
  else .off

/-- The source a region selects. -/
def Gov.source (g : Gov) (rg : Nat) : Source := sourceOf rg (g.get (F.DRP_RGN_MUX_SEL rg)) (g.get (F.DRP_RGN_MUX_ALT rg))

/-- The regions whose multiplexers select a synthesizer. -/
def Gov.selecting (g : Gov) (s : Nat) : List Nat := (List.range 16).filter fun rg => g.source rg == .syn s

/-- The output frequency of a source in MHz: CUR of a synthesizer, 100 for REFCLK, 0 for OFF (R225). -/
def Gov.sourceMhz (g : Gov) : Source → Nat
  | .syn s => g.get (F.FSYN_FREQ_CUR s)
  | .ref => 100
  | .off => 0

/-- The target of a source in MHz (R188). -/
def Gov.sourceTarget (g : Gov) : Source → Nat
  | .syn s => g.get (F.FSYN_FREQ_TGT s)
  | .ref => 100
  | .off => 0

/-- A source is present under R166; OFF counts as a clock always in its low phase. -/
def Gov.sourcePresent (g : Gov) : Source → Bool
  | .syn s => bit (g.get F.DRP_CLKMON_FSYN_PRESENT) s
  | .ref => g.flag F.DRP_CLKMON_REF_PRESENT
  | .off => true

/-- A synthesizer runs: enabled in force, and not stopped by the power-state sequencer. -/
def Gov.synOn (g : Gov) (s : Nat) : Bool := g.actFlag (F.FSYN_CTRL_EN s) && !bit g.pwr.synWas s

/-- A source gives a clock: a synthesizer in lock or in coast, and REFCLK while no loss of it is seen. -/
def Gov.sourceRuns (g : Gov) : Source → Bool
  | .syn s => g.synOn s && (g.flag (F.FSYN_STAT_LOCK s) || g.flag (F.FSYN_STAT_COAST s))
  | .ref => !g.clk.refGone
  | .off => false

/-- A region's record. -/
def Gov.rgn (g : Gov) (k : Nat) : RegionSt := Tab.get (fun _ => {}) g.clk.regions k

/-- A source that is neither OFF nor stopped is connected or about to be (R158). -/
def Gov.regionRuns (g : Gov) (rg : Nat) : Bool := g.sourceRuns (g.source rg) && ((g.rgn rg).out == .off || g.sourceRuns (g.rgn rg).out)

/-- The region's output carries a clock: its source runs, and no switch is in progress (R38, R168). -/
def Gov.clocked (g : Gov) (rg : Nat) : Bool := !g.flag (F.DRP_RGN_MUX_BUSY rg) && g.sourceRuns (g.rgn rg).out

/-- The region and the rail that the berth table names in force. -/
def Gov.regionOf (g : Gov) (b : Nat) : Nat := g.act (F.BT_CFG_REGION b)
def Gov.railOf (g : Gov) (b : Nat) : Nat := g.act (F.BT_CFG_RAIL b)

/-- FMAX of a region in force. -/
def Gov.fmax (g : Gov) (rg : Nat) : Nat := g.act (F.DRP_RGN_FMAX_FMAX rg)

/-- The rail is enabled (RAIL_CTRL.EN in force). -/
def Gov.railOn (g : Gov) (r : Nat) : Bool := g.actFlag (F.RAIL_CTRL_EN r)

/-- f_allow of a synthesizer (R161, R228): the least fperm of the entries reached by the enabled rails that feed the selecting regions' berths; the least FMAX where none is enabled. -/
def Gov.fAllow (g : Gov) (s : Nat) : Nat :=
  let rgs := g.selecting s
  let bs := g.berths.filter fun b => rgs.contains (g.regionOf b)
  let pairs := (bs.map fun b => (g.railOf b, g.regionOf b)).filter fun p => g.railOn p.1
  let caps := if pairs.isEmpty then rgs.map g.fmax else pairs.map fun p => g.fperm p.1 (g.get (F.RAIL_STATE_RCH_ENTRY p.1)) (g.fmax p.2)
  caps.foldl min 0xFFFF

/-! ### Feedback sources (R87) -/

/-- A feedback value in Q16.16 and whether it is a fallback or stale substitute. -/
structure Feed where
  val   : Int
  stale : Bool
  deriving DecidableEq, Repr

/-- FB_TEMP, in 1/64 °C. -/
def Gov.fbTemp (g : Gov) : Int := g.sact F.SNS_CFG_FB_TEMP

/-- Thermal sensor n counts in a hottest value: enabled and not broken (R219, R224). -/
def Gov.tempCounts (g : Gov) (n : Nat) : Bool := g.actFlag (F.SNS_T_CFG_EN n) && !g.flag (F.SNS_T_VAL_BROKEN n)

/-- The sensors that name a berth. -/
def Gov.berthSensors (g : Gov) (b : Nat) : List Nat :=
  (List.range 384).filter fun n => g.tempCounts n && !g.actFlag (F.SNS_T_CFG_NOGRP n) && g.act (F.SNS_T_CFG_GRP n) == b

/-- The greatest of some temperatures, or a fallback where there is none. -/
def hottest (fb : Int) : List Int → Int
  | [] => fb
  | t :: ts => ts.foldl max t

/-- The hottest present sensor of a berth, in 1/64 °C; FB_TEMP where it has none (R219). The value counts as stale where a sensor of the berth is (DESIGN CHOICE: log entry 84). -/
def Gov.berthTemp (g : Gov) (b : Nat) : Feed :=
  let ns := g.berthSensors b
  ⟨hottest g.fbTemp (ns.map fun n => g.sget (F.SNS_T_VAL_VAL n)), ns.isEmpty || ns.any fun n => g.flag (F.SNS_T_VAL_STALE n)⟩

/-- A rail's model sense voltage, in 0.5 mV: vcmd less IOUT times RLL (R209). -/
def Gov.senseModel (g : Gov) (r : Nat) : Int :=
  asr (g.sget (F.RAIL_VCMD_VCMD r)) 15 - ((g.get (F.RAIL_TELE_IOUT r) * g.act (F.SNS_RS_CFG_RLL r) / 4000 : Nat) : Int)

/-- The phase is in use: PHEN high. -/
def Gov.phaseOn (g : Gov) (p : Nat) : Bool := g.flag (F.PH_STAT_ACTIVE p)

/-- A phase's record. -/
def Gov.ph (g : Gov) (p : Nat) : PhaseSt := Tab.get (fun _ => {}) g.reg.phases p

/-- The activity reading that loops see: gavg while the reading is broken (R222). -/
def Gov.actFeed (g : Gov) (b : Nat) : Feed := ⟨g.get (F.BT_ACT_ACT b), g.flag (F.SNS_ACT_STAT_STALE b) || g.flag (F.SNS_ACT_STAT_BROKEN b)⟩

/-- The source class and index are valid for a slot (R87). -/
def sourceValid (src : Nat) : Bool :=
  let c := src / 4096
  let i := src % 4096
  if c = 0 then i == 0
  else if c = 1 then decide (i < 384)
  else if c = 2 then decide (i < 16)
  else if c = 3 ∨ c = 9 ∨ c = 10 then decide (i < 256)
  else if c = 4 ∨ c = 5 ∨ c = 6 then decide (i < 8)
  else if c = 7 then decide (i < 2)
  else if c = 8 then decide (i < 64)
  else if c = 11 then decide (i < 128)
  else if c = 12 then decide (i < 1024)
  else if c = 13 then i == 0
  else false

/-- Package power in 1/16 W: the rails' sum, or the input estimate (R87). -/
def Gov.packagePower (g : Gov) (i : Nat) : Nat :=
  if i = 0 then usat 16 ((List.range 8).foldl (fun a r => a + g.get (F.RAIL_POUT_POUT r)) 0) else g.get F.REG_PIN_PIN

/-- The value of a feedback source in Q16.16, before FBSCALE, as R23 step 1 latches and step 2 substitutes it. The saturation of a path monitor's code above 0x7FFF is not a saturation of the law (DESIGN CHOICE: log entry 83). -/
def Gov.feed (g : Gov) (src : Nat) : Feed :=
  let c := src / 4096
  let i := src % 4096
  if c = 1 then ⟨g.sget (F.SNS_T_VAL_VAL i) * 1024, g.flag (F.SNS_T_VAL_STALE i) || g.flag (F.SNS_T_VAL_SUBST i)⟩
  else if c = 2 then if !g.actFlag (F.SNS_H_CFG_EN i) then ⟨g.fbTemp * 1024, true⟩ else ⟨g.sget (F.SNS_H_VAL_VAL i) * 1024, g.flag (F.SNS_H_VAL_STALE i) || g.flag (F.SNS_H_VAL_SUBST i)⟩
  else if c = 3 then ⟨(g.berthTemp i).val * 1024, (g.berthTemp i).stale⟩
  else if c = 4 then
    let x := ((g.sns.rsLatch.find? fun p => p.1 == i).map (·.2)).getD ((g.get (F.RAIL_TELE_VOUT i) : Int), false)
    ⟨s32 (x.1 * 32768), x.2⟩
  else if c = 5 then ⟨(g.get (F.RAIL_TELE_IOUT i) : Int) * 8192, false⟩
  else if c = 6 then ⟨(g.get (F.RAIL_POUT_POUT i) : Int) * 4096, false⟩
  else if c = 7 then ⟨(g.packagePower i : Int) * 4096, false⟩
  else if c = 8 then
    if !g.actFlag (F.SNS_PH_CFG_EN i) then ⟨0, true⟩
    else ⟨if g.phaseOn i then ((g.ph i).fresh : Int) * 8192 else 0, g.flag (F.SNS_PH_STAT_STALE i) || g.flag (F.SNS_PH_STAT_SUBST i)⟩
  else if c = 9 then ⟨(((g.actFeed i).val.toNat * 65536 / 4095 : Nat) : Int), (g.actFeed i).stale⟩
  else if c = 10 then ⟨(g.get (F.BT_POWER_PW i) : Int) * 4096, false⟩
  else if c = 11 then ⟨s32 ((g.get (F.SNS_P_VAL_VAL i) : Int) * 65536), g.flag (F.SNS_P_VAL_STALE i) || g.flag (F.SNS_P_VAL_SUBST i)⟩
  else if c = 12 then ⟨g.sget (F.LS_OUT_OUT i), false⟩
  else if c = 13 then ⟨if g.pins.pwrbrk then 0 else 0x10000, false⟩
  else ⟨0, false⟩

/-! ### Synthesizers' glides (R161, R162) -/

/-- A synthesizer's record, and its update. -/
def Gov.syn (g : Gov) (k : Nat) : SynSt := Tab.get (fun _ => {}) g.clk.syns k
def Gov.setSyn (g : Gov) (k : Nat) (f : SynSt → SynSt) : Gov := g.withClk { g.clk with syns := Tab.upd (fun _ => {}) g.clk.syns k f }

/-- Begin, keep or end a glide (R161, R164): up to the target and f_allow unless held, down to the target; in coast down to 200 MHz. A glide that begins does so at the present instant; HELD shows an upward glide that is held. -/
def Gov.reglide (g : Gov) (s : Nat) : Gov :=
  let cur := g.get (F.FSYN_FREQ_CUR s)
  let tgt := g.get (F.FSYN_FREQ_TGT s)
  let x := g.syn s
  let up := g.flag (F.FSYN_STAT_LOCK s) && decide (cur < tgt)
  let dir := if g.flag (F.FSYN_STAT_COAST s) then (if 200 < cur then 2 else 0)
    else if !g.flag (F.FSYN_STAT_LOCK s) then 0
    else if tgt < cur then 2
    else if up && !x.blocked && decide (cur < min tgt (g.fAllow s)) then 1
    else 0
  let g := if dir = x.dir then g
    else g.setSyn s fun x => { x with dir := dir, credit := 0 }
  (g.set (F.FSYN_STAT_GLIDE s) (b2n (dir ≠ 0))).set (F.FSYN_STAT_HELD s) (b2n (up && x.blocked))

/-- Glides meet a new f_allow. -/
def Gov.reglideAll (g : Gov) : Gov := g.each (List.range 16) fun g s => if g.synOn s then g.reglide s else g

/-! ### Operand codes (R98) -/

/-- The value an operand code names. -/
def LawIn.operand (i : LawIn) (w : List Int) (imm : Int) (code : Nat) : Int :=
  if code < 8 then w.getD code 0
  else if code = 0x08 then i.y
  else if code = 0x09 then i.z
  else if code = 0x0A then i.sp
  else if code = 0x0B then i.p0
  else if code = 0x0C then i.p1
  else if code = 0x0D then i.p2
  else if code = 0x0E then i.p3
  else if code = 0x0F then i.ulo
  else if code = 0x10 then i.uhi
  else if code = 0x11 then i.s0
  else if code = 0x12 then i.s1
  else if code = 0x13 then i.uprev
  else if code = 0x14 then i.cprev
  else if code = 0x15 then imm
  else if code = 0x17 then 0x10000
  else 0

end Sys2Proof.Machine
end

