-- ==== Sys2Proof/Machine/Regulator.lean ====
section
/-! DEFINITION. The regulator controller: timebase and SYNC_IN, compensation, setpoint entries and their selection, starting and stopping rails, current limits, phases in and out of service, measurements, and the regulator registers (chapter 7). -/

namespace Sys2Proof.Machine

/-! ### Rails and phases -/

/-- Rail states (R190). -/
def rOff : Nat := 0

def rOnDly : Nat := 1

def rRamp : Nat := 2

def rOn : Nat := 3

def rOffDly : Nat := 4

def rRampDn : Nat := 5

def rDisch : Nat := 6

/-- A rail's record, and its update. -/
def Gov.rail (g : Gov) (r : Nat) : RailSt := Tab.get (fun _ => {}) g.reg.rails r

def Gov.setRail (g : Gov) (r : Nat) (f : RailSt → RailSt) : Gov := g.withReg { g.reg with rails := Tab.upd (fun _ => {}) g.reg.rails r f }

/-- Update a phase's record. -/
def Gov.setPh (g : Gov) (p : Nat) (f : PhaseSt → PhaseSt) : Gov := g.withReg { g.reg with phases := Tab.upd (fun _ => {}) g.reg.phases p f }

/-- The present STATE of a rail. -/
def Gov.rstate (g : Gov) (r : Nat) : Nat := g.get (F.RAIL_STATE_STATE r)

/-- Enter a rail state now. -/
def Gov.enterState (g : Gov) (r st : Nat) : Gov := (g.set (F.RAIL_STATE_STATE r) st).setRail r fun x => { x with stateAt := g.now }

/-- A rail's assigned phases in ORDER. -/
def Gov.railPhases (g : Gov) (r : Nat) : List Nat :=
  sortBy (fun p => g.get (F.PH_CTRL_ORDER p)) ((List.range 64).filter fun p => g.flag (F.PH_CTRL_ASSIGNED p) && g.get (F.PH_CTRL_RAIL p) == r)

/-- The phases of a rail in service, and the active ones. -/
def Gov.inService (g : Gov) (r : Nat) : List Nat := (g.railPhases r).filter fun p => !g.flag (F.PH_CTRL_OOS p)

def Gov.activePhases (g : Gov) (r : Nat) : List Nat := (g.railPhases r).filter g.phaseOn

/-- The sum of the latest conversions of a rail's active phases. -/
def Gov.phaseSum (g : Gov) (r : Nat) : Nat := ((g.activePhases r).map fun p => (g.ph p).cur).foldl (· + ·) 0

/-- Publish IOUT and POUT (R202). -/
def Gov.refreshTele (g : Gov) (r : Nat) : Gov :=
  let g := g.set (F.RAIL_TELE_IOUT r) (usat 16 (g.phaseSum r))
  g.set (F.RAIL_POUT_POUT r) (usat 16 (g.get (F.RAIL_TELE_VOUT r) * g.get (F.RAIL_TELE_IOUT r) / 1000))

/-- Publish N_ACT and the sums that follow it. -/
def Gov.refreshAct (g : Gov) (r : Nat) : Gov := (g.set (F.RAIL_STATE_N_ACT r) (g.activePhases r).length).refreshTele r

/-- The number of active phases. -/
def Gov.nAct (g : Gov) (r : Nat) : Nat := g.get (F.RAIL_STATE_N_ACT r)

/-- A bollard action (R119): counted, logged, and raised as source 278 with payload word 3. -/
def Gov.bollard (g : Gov) (kind idx : Nat) : Gov :=
  ((g.inc F.HLIM_ACT_CNT_COUNT).log g.now 2 [kind + idx * 2 ^ 8]).raise 278 (kind + idx * 2 ^ 8)

/-! ### Phases in and out of use (R193, R194, R197 to R199) -/

/-- Raise PHEN of a phase: it counts as active at once and switches from its next period. -/
def Gov.raisePhase (g : Gov) (p : Nat) : Gov := (g.mark (F.PH_STAT_ACTIVE p)).setPh p fun x => { x with raised := true, shed := 0 }

/-- PWM and PHEN of a phase fall. -/
def Gov.dropPhase (g : Gov) (p : Nat) : Gov :=
  ((g.set (F.PH_STAT_ACTIVE p) 0).set (F.PH_STAT_SHEDDING p) 0).setPh p fun x => { x with raised := false, shed := 0, pulse := false, oosPend := false }

/-- Raise shed in-service phases, lowest ORDER first, until a number is active. An addition restarts the count toward a shed (R198). -/
def Gov.addPhases (g : Gov) (r n : Nat) : Gov :=
  let off := (g.inService r).filter fun p => !g.phaseOn p
  let new := off.take (n - g.nAct r)
  if new.isEmpty then g else ((g.each new Gov.raisePhase).refreshAct r).setRail r fun x => { x with shedOk := 0 }

/-- The phase of a rail that is being shed, if any. -/
def Gov.sheddingPhase (g : Gov) (r : Nat) : Option Nat := (g.railPhases r).find? fun p => g.flag (F.PH_STAT_SHEDDING p)

/-- Abort a shed (R199): the phase resumes switching at its next period with PHEN still high. -/
def Gov.abortShed (g : Gov) (r : Nat) : Gov :=
  match g.sheddingPhase r with
  | some p => (((g.set (F.PH_STAT_SHEDDING p) 0).setPh p fun x => { x with shed := 0 }).inc (F.RAIL_CNT_ABORT_COUNT r)).setRail r fun x => { x with shedOk := 0 }
  | none => g

/-- The end of a shed (R198 step 3). -/
def Gov.finishShed (g : Gov) (p : Nat) : Gov :=
  let r := g.get (F.PH_CTRL_RAIL p)
  (((g.dropPhase p).refreshAct r).inc (F.RAIL_CNT_SHED_COUNT r)).setRail r fun x => { x with shedOk := 0 }

/-- Capacity of one phase at its utilisation (R197). -/
def Gov.cap1 (g : Gov) (r : Nat) : Nat := g.act (F.RAIL_IPH_IPH_CAP r) * g.act (F.RAIL_SHED_UTIL r) / 256

/-- Phases that carry a load; where the capacity is 0 the spec gives no count. -/
def Gov.phasesFor (g : Gov) (r load : Nat) : Nat :=
  if g.cap1 r = 0 then Config.phasesAtZero load else (load + g.cap1 r - 1) / g.cap1 r

/-- Take a phase out of service for a fault (R194, R221). -/
def Gov.phaseFault (g : Gov) (p : Nat) : Gov :=
  let r := g.get (F.PH_CTRL_RAIL p)
  let g := (g.mark (F.PH_CTRL_OOS p)).mark (F.PH_STAT_PFAULT p)
  let g := if g.flag (F.PH_CTRL_ASSIGNED p) then (if (g.sheddingPhase r).isSome then g.abortShed r else g) else g
  let g := (g.dropPhase p).raise 270 p
  if g.flag (F.PH_CTRL_ASSIGNED p) then
    let g := g.refreshAct r
    let g := if g.rstate r = rOn then g.addPhases r (g.get (F.RAIL_STATE_N_REQ r)) else g
    if (g.inService r).length < g.act (F.RAIL_SHED_NPH_MIN r) then g.raise 271 r else g
  else g

/-! ### Timebase (R178 to R181) -/

/-- PER of R178 in PWM ticks. -/
def Gov.per (g : Gov) : Nat := 51200000 / g.act F.REG_TB_FSW_KHZ

/-- PER_EFF, and PER_r of a rail. -/
def Gov.perEff (g : Gov) : Nat := g.get F.REG_TB_STAT_PER_EFF

def Gov.perRail (g : Gov) (r : Nat) : Nat := g.perEff * (g.act (F.RAIL_CTRL_RDIV r) + 1)

/-- Move a number toward another by at most a bound. -/
def toward (x tgt bound : Nat) : Nat := if x ≤ tgt then min tgt (x + bound) else max tgt (x - bound)

/-- The nearer of two phase errors a period apart: a distance after a point as a signed error. -/
def wrapError (x per : Nat) : Int := if per = 0 then 0 else if 2 * (x % per) ≤ per then (x % per : Nat) else (x % per : Nat) - (per : Int)

/-- An instant of GOV_TIME in PWM ticks of 19.53125 ps (R178). -/
def pwmTicks (ns : Nat) : Nat := ns * 256 / 5

/-- At timebase phase 0 each rail counts its timebase periods; the rail's next period begins floor(RPH × PER_r / 256) ticks after the phase 0 that begins it (R179). -/
def Gov.scheduleRail (g : Gov) (r : Nat) : Gov :=
  let n := (g.rail r).tbCount + 1
  if n ≤ g.act (F.RAIL_CTRL_RDIV r) then g.setRail r fun x => { x with tbCount := n }
  else g.setRail r fun x => { x with tbCount := 0, startAt := some (pwmTicks g.now + g.act (F.RAIL_CTRL_RPH r) * g.perRail r / 256) }

/-- TIMEBASE_PHASE_ZERO: `since` is the time since the last SYNC_IN rising edge in PWM ticks. PER_EFF is recomputed and phase 0 moved under the 0.5 % bound, SYNC_LOCK is judged, and the rails' period starts are placed (R179 to R181). -/
def Gov.phaseZero (g : Gov) (since : Nat) : Gov :=
  let eff := g.perEff
  let bound := eff / 200
  let g := if g.actFlag F.REG_SYNC_SYNC_EN && g.reg.acquired then
    let err := wrapError (since + eff - g.act F.REG_SYNC_SYNC_PH * eff / 256 % (eff + 1)) eff
    let (i, g) := g.draw
    let share := Config.syncShare i % (bound + 1)
    let new := toward eff g.reg.measured share
    let left := bound - (if eff ≤ new then new - eff else eff - new)
    let inP := if err.natAbs ≤ 64 then g.reg.inPhase + 1 else 0
    let g := g.withReg { g.reg with shift := clampI (-err) (-(left : Int)) left, inPhase := inP }
    let g := g.set F.REG_TB_STAT_PER_EFF new
    g.set F.REG_TB_STAT_SYNC_LOCK (b2n (16 ≤ inP))
  else ((g.set F.REG_TB_STAT_PER_EFF (toward eff g.per bound)).set F.REG_TB_STAT_SYNC_LOCK 0).withReg { g.reg with shift := 0, inPhase := 0, acquired := g.reg.acquired && g.actFlag F.REG_SYNC_SYNC_EN, edges := if g.actFlag F.REG_SYNC_SYNC_EN then g.reg.edges else 0 }
  (g.withReg { g.reg with zeroAt := some (pwmTicks g.now) }).each (List.range 8) Gov.scheduleRail

/-- SYNC_OUT: high for floor(PER_EFF / 2) ticks from timebase phase 0 (R181). -/
def Gov.syncOut (g : Gov) : Bool :=
  match g.reg.zeroAt with
  | some z => decide (pwmTicks g.now < z + g.perEff / 2)
  | none => false

/-- SYNC_IN_EDGE with the period measured since the previous edge, while SYNC_EN is in force (R180, R206): 16 valid edges in a row acquire it. -/
def Gov.syncEdge (g : Gov) (period : Nat) : Gov :=
  let per := g.per
  let valid := decide (per * 9 ≤ period * 10) && decide (period * 10 ≤ per * 11) && decide (25600 ≤ period) && decide (period * 300 ≤ 51200000)
  if !g.actFlag F.REG_SYNC_SYNC_EN then g.withReg { g.reg with edges := 0, acquired := false }
  else
    let g := g.set F.REG_TB_STAT_SYNC_VALID (b2n valid)
    if valid then
      let n := g.reg.edges + 1
      g.withReg { g.reg with edges := n, measured := period, acquired := g.reg.acquired || decide (16 ≤ n), edgeAt := g.now }
    else g.withReg { g.reg with edges := 0 }

/-- An acquired SYNC_IN is lost (R181). -/
def Gov.syncLoss (g : Gov) : Gov :=
  let g := (((g.set F.REG_TB_STAT_SYNC_LOCK 0).mark F.REG_TB_STAT_SYNC_LOST).inc F.REG_SYNC_CNT_COUNT).raise 273 0
  g.withReg { g.reg with acquired := false, edges := 0, inPhase := 0 }

/-! ### Setpoints (R186 to R189) -/

/-- V[e] in Q16.16 mV. -/
def Gov.volts (g : Gov) (r e : Nat) : Int := (g.entry r e : Int) * 32768

/-- The commanded voltage. -/
def Gov.vcmd (g : Gov) (r : Nat) : Int := g.sget (F.RAIL_VCMD_VCMD r)

/-- The target entry. -/
def Gov.tgt (g : Gov) (r : Nat) : Nat := g.get (F.RAIL_STATE_TGT_ENTRY r)

/-- A new target (R189): REACHED clears. -/
def Gov.setTarget (g : Gov) (r e : Nat) : Gov :=
  if g.tgt r = e then g else (g.set (F.RAIL_STATE_TGT_ENTRY r) e).set (F.RAIL_STATE_REACHED r) 0

/-- e_max of R187. -/
def Gov.eMax (g : Gov) (r : Nat) : Nat :=
  let top := g.act (F.RAIL_SEL_ENTRY_MAX r)
  if g.flag (F.RAIL_FLAGS_OL r) then min top (g.act (F.RAIL_SEL_OL_ENTRY r)) else top

/-- Board or anchor mode: the entry is VSEL[3:0] (R187). -/
def Gov.byVsel (g : Gov) : Bool := g.boardMode || g.anchored

/-- The clock regions of the present berths on a rail. -/
def Gov.railRegions (g : Gov) (r : Nat) : List Nat :=
  (List.range 16).filter fun rg => g.berths.any fun b => g.railOf b == r && g.regionOf b == rg

/-- The voltage need of frequencies on a rail, in 0.5 mV: none where its table cannot be used. -/
def Gov.vneed (g : Gov) (r : Nat) (mhz : List Nat) : Option Nat :=
  if g.vfOk r then some ((mhz.map (g.vneedAt r)).foldl max 0) else none

/-- The lowest available entry at or above a need, none where there is none (R188). -/
def Gov.emin (g : Gov) (r need : Nat) : Option Nat := (List.range 16).find? fun e => g.entryOk r e && decide (need ≤ g.entry r e)

/-- Follow VSEL (R71, R187). -/
def Gov.followVsel (g : Gov) (r : Nat) : Gov := g.setTarget r (g.usable r (min g.pins.vsel (g.eMax r)))

/-- The governed selector of an enabled rail, with the frequencies its regions are to run at (R188). -/
def Gov.selectFor (g : Gov) (r : Nat) (mhz : List Nat) : Nat × Bool :=
  match g.vneed r mhz with
  | none => (g.topEntry r, true)
  | some need =>
    match g.emin r need with
    | some e => (e, false)
    | none => (g.topEntry r, true)

/-- The selector at R23 step 6 (R187, R188). -/
def Gov.selectEntry (g : Gov) (r : Nat) : Gov :=
  let rgs := g.railRegions r
  let sel := g.selectFor r (rgs.map fun rg => g.sourceTarget (g.source rg))
  let low := match g.vneed r (rgs.map fun rg => g.sourceTarget (g.source rg)) with
    | some need => decide (g.entry r (g.get (F.RAIL_STATE_RCH_ENTRY r)) < need)
    | none => false
  let g := g.set (F.RAIL_FLAGS_NEED_HI r) (b2n (sel.2 || low))
  if g.byVsel then g.followVsel r
  else
    let fc := if g.flag (F.FCU_RAIL_FC_ENTRY_VALID r) then max sel.1 (g.get (F.FCU_RAIL_FC_ENTRY r)) else sel.1
    let want := match (g.rail r).steady with
      | some e => e
      | none => if g.actFlag (F.RAIL_SEL_FORCE_EN r) then g.act (F.RAIL_SEL_FORCE_ENTRY r) else fc
    let want := g.usable r (min want (g.eMax r))
    if g.tgt r < want then g.setTarget r want
    else if want < g.tgt r then (if rgs.all fun rg => decide (g.sourceMhz (g.source rg) ≤ g.fperm r want (g.fmax rg)) then g.setTarget r want else g)
    else if g.flag (F.RAIL_STATE_REACHED r) ∧ g.actWord (W.RAIL_SEL r) = g.word (W.RAIL_SEL r) then g.fire (.railReached r)
    else g

/-- The step of R189 in Q16.16 mV for a slew at 0.125 mV per µs. -/
def Gov.slewStep (g : Gov) (r slew : Nat) : Int := ((slew * g.perRail r * 4 / 25 : Nat) : Int)

/-- Store vcmd. -/
def Gov.setVcmd (g : Gov) (r : Nat) (v : Int) : Gov := g.sset (F.RAIL_VCMD_VCMD r) v

/-- vcmd has come to V[tgt]: REACHED, RCH_ENTRY, and the fence that awaits it (R189, R370). -/
def Gov.reached (g : Gov) (r : Nat) : Gov :=
  let g := g.setRail r fun x => { x with detRef := none }
  if g.flag (F.RAIL_STATE_REACHED r) then g
  else ((g.mark (F.RAIL_STATE_REACHED r)).set (F.RAIL_STATE_RCH_ENTRY r) (g.tgt r)).reglideAll.fire (.railReached r)

/-- Move vcmd toward V[tgt] with given rising and falling slews; the detector reference stays behind a rise (R152). -/
def Gov.approach (g : Gov) (r up dn : Nat) : Gov :=
  let v := g.volts r (g.tgt r)
  let c := g.vcmd r
  if c < v then
    let g := g.setRail r fun x => { x with detRef := some (x.detRef.getD c) }
    let n := min v (c + g.slewStep r up)
    let g := g.setVcmd r n
    if n = v then g.reached r else g
  else if v < c then
    let n := max v (c - g.slewStep r dn)
    let g := (g.setVcmd r n).setRail r fun x => { x with detRef := none }
    if n = v then g.reached r else g
  else g.reached r

/-- The droop-detector reference of a rail (R152). -/
def Gov.detectorRef (g : Gov) (r : Nat) : Int := (g.rail r).detRef.getD (g.vcmd r)

/-! ### Starting and stopping (R190 to R192) -/

/-- The rail is to run: EN in force, and not stopped by the power-state sequencer. -/
def Gov.railWant (g : Gov) (r : Nat) : Bool := g.railOn r && !(g.rail r).psStop

/-- The on-time of R184. -/
def Gov.onTimeFor (g : Gov) (r : Nat) (vc kff : Int) : Nat :=
  let per := g.perRail r
  let tonMin := g.act (F.RAIL_DUTY_TON_MIN r)
  let t := asr ((satMac 0 vc (s32 kff)).val + 0x8000) 16
  let hi := asr ((per : Int) * (g.act (F.RAIL_DUTY_DMAX r) : Int)) 16
  if t < ((tonMin / 2 : Nat) : Int) then 0 else (clampI t tonMin hi).toNat

/-- The input voltage that the feed-forward step of R184 takes. -/
def Gov.ffVin (g : Gov) : Int :=
  if g.actFlag F.REG_VIN_CFG_FF_EN then max (g.sget F.REG_VIN_VIN) (6000 * 65536) else (g.act F.REG_VIN_CFG_VIN_NOM : Int) * 65536

/-- The feed-forward's ticks per mV (R184). The hold compensator runs without feed-forward: it keeps the input voltage of the rail's last feed-forward step, so that the handover moves no edge (R33). -/
def Gov.kffFor (g : Gov) (r : Nat) (hold : Bool) : Int :=
  let vin := if hold && decide (0 < (g.rail r).ffVin) then (g.rail r).ffVin else g.ffVin
  if vin ≤ 0 then 0x7FFFFFFF else s32 (Int.tdiv ((g.perRail r : Int) * 2 ^ 32) vin)

/-- Begin a ramp from a voltage with the compensator set to it (R190 step 2, R192). -/
def Gov.rampFrom (g : Gov) (r : Nat) (v : Int) : Gov :=
  let g := (g.each (g.inService r) fun g p => if g.phaseOn p then g else g.raisePhase p).refreshAct r
  let g := ((g.setVcmd r v).set (F.RAIL_STATE_REACHED r) 0).setRail r fun x => { x with u1 := v, e1 := 0, e2 := 0, e3 := 0, w1 := 0, w2 := 0, kff := g.kffFor r x.hold, ffVin := if x.hold then x.ffVin else g.ffVin, goodAt := none, good := false, detRef := none }
  g.enterState r rRamp

/-- The sensed output floored to 0.5 mV, in Q16.16 mV. -/
def Gov.sensed (g : Gov) (r : Nat) : Int := (g.get (F.RAIL_TELE_VOUT r) : Int) * 32768

/-- PWM and PHEN low on every phase; discharge (R191 step 3). -/
def Gov.discharge (g : Gov) (r : Nat) : Gov :=
  let g := (g.each (g.railPhases r) Gov.dropPhase).refreshAct r
  let g := (g.set (F.RAIL_STATE_INWIN r) 0).setRail r fun x => { x with inCnt := 0, outCnt := 0, goodAt := none, good := false, detRef := none }
  g.enterState r rDisch

/-- The rail is off: bins emptied, FSTOP clear (R191, R196). -/
def Gov.railOff (g : Gov) (r : Nat) : Gov :=
  let g := (g.each (g.railPhases r) Gov.dropPhase).refreshAct r
  let g := ((g.set (F.RAIL_STATE_FSTOP r) 0).set (F.RAIL_STATE_REACHED r) 0).set (F.RAIL_STATE_INWIN r) 0
  (g.setRail r fun x => { x with bins := [], binSum := 0, binN := 0, inCnt := 0, outCnt := 0, goodAt := none, good := false, detRef := none, shedOk := 0 }).enterState r rOff

/-- Begin a stop (R191): from ONDLY straight to OFF; the rail no longer counts as good once it ramps down. -/
def Gov.beginStop (g : Gov) (r : Nat) : Gov :=
  let st := g.rstate r
  let g := g.abortShed r
  if st = rOnDly then g.railOff r
  else if st = rRamp ∨ st = rOn then g.enterState r rOffDly
  else g

/-- A fault stop begins at step 2 of R191. -/
def Gov.beginFaultStop (g : Gov) (r : Nat) : Gov :=
  let st := g.rstate r
  if st = rOff then g
  else if st = rOnDly then g.railOff r
  else if st = rRampDn ∨ st = rDisch then g.mark (F.RAIL_STATE_FSTOP r)
  else (((g.abortShed r).mark (F.RAIL_STATE_FSTOP r)).setRail r fun x => { x with goodAt := none, good := false }).enterState r rRampDn

/-- Start a rail, or resolve a re-enable during a stop (R190, R192). -/
def Gov.beginStart (g : Gov) (r : Nat) : Gov :=
  let st := g.rstate r
  if g.flag (F.RAIL_STATE_FSTOP r) then g
  else if st = rOff then g.enterState r rOnDly
  else if st = rOffDly then g.enterState r rOn
  else if st = rRampDn then g.enterState r rRamp
  else if st = rDisch then g.rampFrom r (g.sensed r)
  else g

/-- The power-state sequencer, or anchor mode, enables a rail now. -/
def Gov.startRail (g : Gov) (r : Nat) : Gov := (g.setRail r fun x => { x with psStop := false }).beginStart r

/-- The power-state sequencer stops a rail. -/
def Gov.stopRail (g : Gov) (r : Nat) : Gov := (g.setRail r fun x => { x with psStop := true }).beginStop r

/-- Copy the coefficient shadow to the active store (R185). -/
def Gov.commitCoeffs (g : Gov) (r : Nat) : Gov :=
  let c := ([0, 1, 2, 3].map fun j => g.sget (F.RAIL_B_B r j)) ++ [g.sget (F.RAIL_C1_C1 r), g.sget (F.RAIL_C2_C2 r), g.sget (F.RAIL_VC_LO_VC_LO r), g.sget (F.RAIL_VC_HI_VC_HI r)]
  g.setRail r fun x => { x with coef := c, commit := false }

/-- The words of a rail's block that wait for its period start: all but RAIL_SEL. -/
def railHeldWord (r off : Nat) : Bool := 0x24100 + 0x100 * r ≤ off && decide (off < 0x24200 + 0x100 * r) && off != W.RAIL_SEL r

/-- The instant in PWM ticks of a scheduled event that a row reports at the present nanosecond: the scheduled one where it lies in it, else the row's. -/
def Gov.tickOf (g : Gov) (due : Option Nat) : Nat :=
  match due with
  | some d => if pwmTicks g.now ≤ d ∧ d < pwmTicks (g.now + 1) then d else pwmTicks g.now
  | none => pwmTicks g.now

/-- Phase p of rail r begins its period floor(ORDER_p × PER_r / N_r) ticks after the rail period that begins now (R179). -/
def Gov.schedulePhases (g : Gov) (r : Nat) : Gov :=
  let ps := g.railPhases r
  let from_ := g.tickOf (g.rail r).startAt
  g.each ps fun g p => g.setPh p fun x => { x with startAt := some (from_ + g.get (F.PH_CTRL_ORDER p) * g.perRail r / max 1 ps.length % max 1 (g.perRail r)) }

/-- RAIL_PERIOD_START (R185, R190 to R192, R206): written fields and a commit apply, the on-time computed is in force, and a pending enable, disable or trip takes effect. -/
def Gov.periodStart (g : Gov) (r : Nat) : Gov :=
  let old := g.volts r (g.tgt r)
  let phs := g.railPhases r
  let g := g.activate fun o => railHeldWord r o || (0x24000 ≤ o && decide (o < 0x24100)) || phs.any fun p => o == W.PH_CAL p || o == W.PH_OCF p
  let g := if g.volts r (g.tgt r) = old then g else g.set (F.RAIL_STATE_REACHED r) 0
  let g := if (g.rail r).commit then g.commitCoeffs r else g
  let g := (g.setRail r fun x => { x with onTime := x.nextOn }).schedulePhases r
  if g.flag F.FLT_CTRL_TRIPPED then g.beginFaultStop r
  else if g.railWant r then g.beginStart r
  else g.beginStop r

/-- The rail is marked enabled by the present power state's table (R73). -/
def Gov.railMarked (g : Gov) (r : Nat) : Bool :=
  let st := g.state
  g.railOn r && (st == stRun || st == stOff || g.flag (F.PS_ST_RAIL_EN st r))

/-- PGOOD (R73): low in reset, until boot completes (R337) and in OFF. -/
def Gov.pgood (g : Gov) : Bool := g.up && !g.booting && (List.range 8).all fun r => !g.railMarked r || (g.rail r).good

/-! ### Compensation (R182 to R184) -/

/-- Run the compensator on an error and answer the new record with the switch-node command (R183). -/
def compensate (x : RailSt) (e : Int) : RailSt × Int :=
  let k := fun (j : Nat) => x.coef.getD j 0
  let a := (satMac 0 (k 0) e).val
  let a := (satMac a (k 1) x.e1).val
  let a := (satMac a (k 2) x.e2).val
  let a := (satMac a (k 3) x.e3).val
  let a := (satMac a (k 4) x.w1).val
  let a := (satMac a (k 5) x.w2).val
  let w := s32 a
  let vc := clampI (satAdd x.u1 w) (k 6) (k 7)
  ({ x with w2 := x.w1, w1 := w, e3 := x.e2, e2 := x.e1, e1 := e, u1 := vc }, vc)

/-- The move of vcmd at the compensator request (R189, R190, R191). -/
def Gov.moveVcmd (g : Gov) (r : Nat) : Gov :=
  let st := g.rstate r
  if st = rOn then g.approach r (g.act (F.RAIL_SLEW_SLEW_UP r)) (g.act (F.RAIL_SLEW_SLEW_DN r))
  else if st = rRamp then
    let g := g.approach r (g.act (F.RAIL_RAMP_ON_RAMP r)) (g.act (F.RAIL_RAMP_ON_RAMP r))
    if g.flag (F.RAIL_STATE_REACHED r) ∧ g.vcmd r = g.volts r (g.tgt r) then
      (g.setRail r fun x => { x with goodAt := if g.flag (F.RAIL_STATE_INWIN r) then some g.now else none }).enterState r rOn
    else g
  else if st = rRampDn then
    if g.flag (F.RAIL_CTRL_EN r) ∧ !(g.rail r).psStop ∧ !g.flag (F.RAIL_STATE_FSTOP r) then g
    else
      let v := max 0 (g.vcmd r - g.slewStep r (g.act (F.RAIL_RAMP_OFF_RAMP r)))
      let g := ((g.setVcmd r v).set (F.RAIL_STATE_REACHED r) (b2n (g.flag (F.RAIL_STATE_REACHED r) && v == g.volts r (g.tgt r)))).setRail r fun x => { x with detRef := none }
      if v ≤ (g.act (F.RAIL_STOP_STOP_MV r) : Int) * 32768 then g.discharge r else g
  else g

/-- A regulator step that the engine runs counts toward ENG_STEPS (R96). -/
def Gov.countStep (g : Gov) : Gov := if g.engine && !g.asleep then g.withEng { g.eng with regSteps := g.eng.regSteps + 1 } else g

/-- COMPENSATOR_REQUEST on a running rail; with a parity error the previous on-time is repeated and the states kept (R317). -/
def Gov.compRequest (g : Gov) (r : Nat) (upset : Bool) : Gov :=
  if g.rstate r < rRamp ∨ rRampDn < g.rstate r then g
  else
    let g := g.moveVcmd r
    let g := g.countStep
    if upset then g.raise 274 r
    else if g.rstate r = rDisch then g
    else
      let x := g.rail r
      let vs := s32 ((x.sense : Int) * 8192)
      let e := if g.flag (F.SNS_RS_STAT_BROKEN r) then 0 else satSub (g.vcmd r) vs
      let (x, vc) := compensate x e
      g.setRail r fun _ => { x with nextOn := g.onTimeFor r vc (if x.hold then g.kffFor r true else x.kff) }

/-! ### Measurements (R202, R204, R213) -/

/-- The conversion slot that ends at the present instant is phase p's calibration slot (R213). -/
def Gov.calSlot (g : Gov) (p : Nat) : Bool :=
  let adc := g.act F.SNS_CAL_CAL_ADC
  let start := (g.now / 200 - 1) * 200
  g.actFlag F.SNS_CFG_CAL_EN && start % (1000 * adc) == 200 * (p % (5 * adc))

/-- A phase current from its code (R202). -/
def Gov.phaseCurrent (g : Gov) (p code : Nat) : Nat :=
  usatInt 16 (asr (((code : Int) - (g.act (F.PH_CAL_OFS p) : Int)) * (g.act (F.PH_CAL_GAIN p) : Int)) 12)

/-- One conversion of a phase: a calibration gives no value. -/
def Gov.convert (g : Gov) (p code : Nat) : Gov :=
  if g.calSlot p then g.setPh p fun x => { x with cal := true, convAt := some g.now }
  else
    let i := g.phaseCurrent p code
    (g.setPh p fun x => { x with cur := i, cal := false, convAt := some g.now, sum := x.sum + i, n := x.n + 1 }).upd (F.PH_I_IPK p) (max i)

/-- What the conversions mean to a rail in state ON: a shed may be aborted and phases added (R197, R199). -/
def Gov.conversionRule (g : Gov) (r : Nat) : Gov :=
  let g := g.refreshTele r
  if g.rstate r ≠ rOn ∨ (g.rail r).hold then g
  else
    let sum := g.phaseSum r
    let g := if (g.sheddingPhase r).isSome ∧ (g.nAct r - 1) * g.cap1 r < sum then g.abortShed r else g
    if g.nAct r * g.cap1 r < sum then g.addPhases r (min (g.inService r).length (g.phasesFor r sum)) else g

/-- INWIN as judged now: a rail in state ON that leaves its window sets WIN_LOST and raises source 272 (R204). -/
def Gov.windowIs (g : Gov) (r : Nat) (now : Bool) : Gov :=
  let was := g.flag (F.RAIL_STATE_INWIN r)
  let g := g.set (F.RAIL_STATE_INWIN r) (b2n now)
  if was && !now then
    let g := g.setRail r fun x => { x with goodAt := none, good := false }
    if g.rstate r = rOn then (g.mark (F.RAIL_FLAGS_WIN_LOST r)).raise 272 r else g
  else if now && !was then g.setRail r fun x => { x with goodAt := if g.rstate r = rOn then some g.now else none }
  else g

/-- The window count of R204 on a conversion code. -/
def Gov.windowCount (g : Gov) (r code : Nat) : Gov :=
  let v := (code : Int) * 8192
  let c := g.vcmd r
  let inside := decide (c - (g.act (F.RAIL_WIN_UV_WIN r) : Int) * 163840 ≤ v) && decide (v ≤ c + (g.act (F.RAIL_WIN_OV_WIN r) : Int) * 163840)
  let g := g.setRail r fun x => if inside then { x with inCnt := x.inCnt + 1, outCnt := 0 } else { x with inCnt := 0, outCnt := x.outCnt + 1 }
  g.windowIs r (!g.flag (F.SNS_RS_STAT_BROKEN r) && (if g.flag (F.RAIL_STATE_INWIN r) then decide ((g.rail r).outCnt < 8) else decide (8 ≤ (g.rail r).inCnt)))

/-- The input-power estimate of R23 step 1 (R203). -/
def Gov.inputPower (g : Gov) : Gov :=
  let vin := g.sget F.REG_VIN_VIN
  let nom := (g.act F.REG_VIN_CFG_VIN_NOM : Int) * 65536
  let one := fun (pin : Nat) (r : Nat) =>
    if !g.railOn r then pin
    else
      let n := g.nAct r
      let iph := if n = 0 then 0 else g.get (F.RAIL_TELE_IOUT r) * 8192 / n
      let ratio := satAdd (g.tbl (g.act (F.RAIL_CTRL_EFF_TBL r)) iph).val (Int.tdiv (satMul (g.sact (F.RAIL_KVIN_KVIN r)) (satSub vin nom)).val 1000)
      usatInt 16 ((pin : Int) + asr ((g.get (F.RAIL_POUT_POUT r) : Int) * ratio) 16)
  g.set F.REG_PIN_PIN (usat 16 ((List.range 8).foldl one 0 + g.act F.REG_PIN_PFIXED))

/-! ### Limits (R193 to R196) -/

/-- Each base tick adds a rail's current to its overload bin (R196). -/
def Gov.binTick (g : Gov) (r : Nat) : Gov :=
  if g.rstate r = rOff then g else g.setRail r fun x => { x with binSum := x.binSum + g.get (F.RAIL_TELE_IOUT r), binN := x.binN + 1 }

/-- OVERLOAD_BIN_END (R196). -/
def Gov.binEnd (g : Gov) (r : Nat) : Gov :=
  let x := g.rail r
  let bins := (x.bins ++ [(x.binSum, x.binN)]).drop ((x.bins.length + 1) - 16)
  let mean := usat 16 ((bins.map (·.1)).foldl (· + ·) 0 / max 1 ((bins.map (·.2)).foldl (· + ·) 0))
  let g := (g.setRail r fun x => { x with bins := bins, binSum := 0, binN := 0 }).set (F.RAIL_POUT_IOL_MEAN r) mean
  let lim := g.act (F.RAIL_OL_ILIM_SLOW r)
  if g.flag (F.RAIL_FLAGS_OL r) then (if mean * 16 ≤ lim * 15 then g.set (F.RAIL_FLAGS_OL r) 0 else g)
  else if lim < mean then (((g.mark (F.RAIL_FLAGS_OL r)).mark (F.RAIL_FLAGS_OL_SEEN r)).inc (F.RAIL_CNT_OL_COUNT r)).raise 271 r
  else g

/-! ### Phase periods (R179, R193, R197, R198) -/

/-- PHASE_PERIOD_START: a fast-limit hold ends, a pending OOS or a raised phase takes effect, a shed holds PWM low and then drops PHEN, else PWM rises. -/
def Gov.phasePeriod (g : Gov) (p : Nat) : Gov :=
  let r := g.get (F.PH_CTRL_RAIL p)
  let x := g.ph p
  let g := (g.setPh p fun x => { x with ocNow := false, ocRun := if x.ocNow then x.ocRun else 0, raised := false }).set (F.PH_STAT_OC_NOW p) 0
  if x.oosPend then
    let g := if g.flag (F.PH_STAT_SHEDDING p) then g.abortShed r else g
    (g.dropPhase p).refreshAct r
  else if x.shed = 1 then g.setPh p fun x => { x with shed := 2, pulse := false }
  else if x.shed = 2 then g.finishShed p
  else
    let rise := g.tickOf x.startAt
    g.setPh p fun y => { y with pulse := g.phaseOn p && !(r == 0 && g.reg.clamp) && decide (0 < (g.rail r).onTime), riseAt := rise, fallAt := rise + (g.rail r).onTime }

/-- PWM of a phase: high from the start of its period for its on-time, unless a limit has forced it low (R179, R184, R193, R195). -/
def Gov.pwm (g : Gov) (p : Nat) : Bool := (g.ph p).pulse && decide ((g.ph p).riseAt < pwmTicks (g.now + 1)) && decide (pwmTicks g.now < (g.ph p).fallAt)

/-! ### The regulator's part of a sample (R197, R198, R200, R201) -/

/-- Publish IAVG of every phase (R201); a sample without a live conversion leaves it. -/
def Gov.phaseMeans (g : Gov) : Gov :=
  g.each (List.range 64) fun g p =>
    let x := g.ph p
    if x.n = 0 then g else (g.set (F.PH_I_IAVG p) (x.sum / x.n)).setPh p fun x => { x with sum := 0, n := 0 }

/-- Judge a rail's imbalance (R201). -/
def Gov.imbalance (g : Gov) (r : Nat) : Gov :=
  let acts := g.activePhases r
  let mean := (acts.map fun p => g.get (F.PH_I_IAVG p)).foldl (· + ·) 0 / max 1 acts.length
  g.each (g.railPhases r) fun g p =>
    if g.phaseOn p ∧ mean + g.act (F.RAIL_IPH_IMB_THR r) < g.get (F.PH_I_IAVG p) then
      let g := g.setPh p fun x => { x with imb := min 64 (x.imb + 1) }
      if 64 ≤ (g.ph p).imb then g.mark (F.PH_STAT_IMB p) else g
    else g.setPh p fun x => { x with imb := 0 }

/-- n_req of R197. -/
def Gov.nReq (g : Gov) (r : Nat) : Nat :=
  let load := ((g.activePhases r).map fun p => g.get (F.PH_I_IAVG p)).foldl (· + ·) 0 + g.get (F.FCU_RAIL_FC_RISE r)
  min (g.inService r).length (max (g.act (F.RAIL_SHED_NPH_MIN r)) (g.phasesFor r load))

/-- Begin to shed the active phase of highest ORDER (R198 step 1). -/
def Gov.beginShed (g : Gov) (r : Nat) : Gov :=
  match (g.activePhases r).getLast? with
  | some p => ((g.mark (F.PH_STAT_SHEDDING p)).setPh p fun x => { x with shed := 1 }).setRail r fun x => { x with shedOk := 0 }
  | none => g

/-- Phase counts of an enabled rail in state ON at R23 step 6. -/
def Gov.phaseCounts (g : Gov) (r : Nat) : Gov :=
  if !g.railOn r ∨ g.rstate r ≠ rOn then g
  else
    let n := g.nReq r
    let g := g.set (F.RAIL_STATE_N_REQ r) n
    let g := g.addPhases r (if g.actFlag (F.RAIL_SHED_SHED_EN r) then n else (g.inService r).length)
    if (g.sheddingPhase r).isSome then g
    else if g.actFlag (F.RAIL_SHED_SHED_EN r) && g.pgood && !g.flag F.LIM_STEADY_STAT_ACTIVE && decide (n + 1 ≤ g.nAct r) then
      let g := g.setRail r fun x => { x with shedOk := x.shedOk + 1 }
      if g.act (F.RAIL_SHED_SHED_HOLD r) ≤ (g.rail r).shedOk then g.beginShed r else g
    else g.setRail r fun x => { x with shedOk := 0 }

/-- READY of a rail (R200). -/
def Gov.railReady (g : Gov) (r : Nat) : Bool :=
  g.rstate r == rOn && decide (max (g.get (F.RAIL_STATE_N_REQ r)) (g.act (F.RAIL_SHED_NPH_READY r)) ≤ g.nAct r) && (g.sheddingPhase r).isNone &&
    (g.byVsel || !g.flag (F.FCU_RAIL_FC_ENTRY_VALID r) || decide (min (g.get (F.FCU_RAIL_FC_ENTRY r)) (g.eMax r) ≤ g.get (F.RAIL_STATE_RCH_ENTRY r)))

/-! ### Registers (R176 to R178, R185 to R187, R206 to R208) -/

/-- The phases of a rail as written meet R177, with the coefficients of the active store. -/
def Gov.railFit (g : Gov) (r : Nat) : Bool :=
  let ps := g.railPhases r
  let n := (g.inService r).length
  let nmin := g.get (F.RAIL_SHED_NPH_MIN r)
  let rdy := g.get (F.RAIL_SHED_NPH_READY r)
  (ps.map fun p => g.get (F.PH_CTRL_ORDER p)) == List.range ps.length && decide (nmin ≤ n) && decide (nmin ≤ rdy) && decide (rdy ≤ n)

/-- The switching-frequency and pulse conditions of R177 and R178 for a written RDIV and a timebase period: the one in force, or the one a written FSW_KHZ asks for. -/
def Gov.rateFit (g : Gov) (r per : Nat) : Bool :=
  let perR := per * (g.get (F.RAIL_CTRL_RDIV r) + 1)
  decide (300 * perR ≤ 51200000) && decide (g.get (F.RAIL_DUTY_TON_MIN r) ≤ perR * g.get (F.RAIL_DUTY_DMAX r) / 65536)

/-- The checks of R185 on a coefficient list. -/
def coefFit (c : List Int) : Bool :=
  let c1 := c.getD 4 0
  let c2 := c.getD 5 0
  decide (c2.natAbs < 0x10000) && decide ((c1.natAbs : Int) < 0x10000 - c2) && decide (c.getD 6 0 < c.getD 7 0)

/-- The coefficient shadow as written. -/
def Gov.coefShadow (g : Gov) (r : Nat) : List Int :=
  ([0, 1, 2, 3].map fun j => g.sget (F.RAIL_B_B r j)) ++ [g.sget (F.RAIL_C1_C1 r), g.sget (F.RAIL_C2_C2 r), g.sget (F.RAIL_VC_LO_VC_LO r), g.sget (F.RAIL_VC_HI_VC_HI r)]

/-- A refused write of a rail's block. -/
def Gov.refuseRail (g : Gov) (r : Nat) : Verdict := refuse (g.mark (F.RAIL_FLAGS_REFUSED r))

/-- RAIL_ENABLE, RAIL_DISABLE and RAIL_COMMIT: a write of RAIL_CTRL (R177, R178, R185, R315). -/
def Gov.writeRailCtrl (g : Gov) (r : Nat) (w : Word) : Verdict :=
  let off := W.RAIL_CTRL r
  let was := g.flag (F.RAIL_CTRL_EN r)
  let g' := g.plain off (insertField w 31 1 0)
  let now := g'.flag (F.RAIL_CTRL_EN r)
  if now && g.flag F.FLT_CTRL_TRIPPED then g.refuseRail r
  else if now && !was && !(g'.railFit r && g'.rateFit r g.perEff && coefFit (g.rail r).coef) then g.refuseRail r
  else if now && was && decide (g.get (F.RAIL_CTRL_RDIV r) ≠ g'.get (F.RAIL_CTRL_RDIV r)) && !g'.rateFit r g.perEff then g.refuseRail r
  else if bit w.toNat 31 && !coefFit (g.coefShadow r) then g.refuseRail r
  else
    let g := (g.hold off).plain off (insertField w 31 1 0)
    accept (if bit w.toNat 31 then g.setRail r fun x => { x with commit := true } else g)

/-- A write of a word of two entries (R186): no entry below the one beneath it, and no changed RAIL0 entry above MAX. -/
def Gov.writeEntries (g : Gov) (r off : Nat) (w : Word) : Verdict :=
  let g' := g.plain off w
  let e := fun (k : Nat) => g'.get (F.RAIL_ENTRY_ENTRY r k)
  let falls := (List.range 15).any fun k => decide (e (k + 1) < e k)
  let above := r == 0 && (List.range 16).any fun k => decide (e k ≠ g.get (F.RAIL_ENTRY_ENTRY r k)) && decide (g.get F.HLIM_VCORE_MAX < e k)
  if falls || above then g.refuseRail r else accept (g.shadow off w)

/-- A write to a word of rail r's block. -/
def Gov.writeRail (g : Gov) (r off : Nat) (w : Word) : Verdict :=
  if off = W.RAIL_CTRL r then g.writeRailCtrl r w
  else if off = W.RAIL_FLAGS r then accept (g.plain off w)
  else if off = W.RAIL_SEL r then
    if bit w.toNat 12 && g.flag F.LIM_STEADY_STAT_ACTIVE then g.refuseRail r else accept (g.shadow off w)
  else if 0x24110 + 0x100 * r ≤ off ∧ off < 0x24130 + 0x100 * r then g.writeEntries r off w
  else if off = W.RAIL_SLEW r ∨ off = W.RAIL_RAMP r then
    if field w 0 12 = 0 ∨ field w 16 12 = 0 then g.refuseRail r else accept (g.shadow off w)
  else if 0x24144 + 0x100 * r ≤ off ∧ off < 0x24164 + 0x100 * r then accept (g.plain off w)
  else accept (g.shadow off w)

/-- PHASE_OOS_WRITE and other writes of PH_CTRL (R176). -/
def Gov.writePhCtrl (g : Gov) (p : Nat) (w : Word) : Verdict :=
  let off := W.PH_CTRL p
  let bad := refuse (g.mark (F.PH_STAT_REFUSED p))
  let r := g.get (F.PH_CTRL_RAIL p)
  let g' := g.plain off w
  let moved := decide (field (g.word off) 0 10 ≠ field (g'.word off) 0 10)
  let r' := g'.get (F.PH_CTRL_RAIL p)
  let setOos := g'.flag (F.PH_CTRL_OOS p) && !g.flag (F.PH_CTRL_OOS p)
  if moved && ((g.flag (F.PH_CTRL_ASSIGNED p) && g.flag (F.RAIL_CTRL_EN r)) || (g'.flag (F.PH_CTRL_ASSIGNED p) && g.flag (F.RAIL_CTRL_EN r'))) then bad
  else if setOos && g'.flag (F.PH_CTRL_ASSIGNED p) && decide ((g'.inService r').length < g.get (F.RAIL_SHED_NPH_READY r')) then bad
  else if setOos then accept (g'.setPh p fun x => { x with oosPend := g.phaseOn p })
  else accept (if g'.flag (F.PH_CTRL_OOS p) then g' else g'.setPh p fun x => { x with oosPend := false })

/-- A write to a word of phase p's block; the words of an unassigned phase apply at once. -/
def Gov.writePhase (g : Gov) (p off : Nat) (w : Word) : Verdict :=
  if off = W.PH_CTRL p then g.writePhCtrl p w
  else if off = W.PH_OCF p then
    if g.get F.HLIM_OC_MAX < field w 0 16 then refuse (g.mark (F.PH_STAT_REFUSED p))
    else accept (if g.flag (F.PH_CTRL_ASSIGNED p) then g.shadow off w else g.plain off w)
  else if off = W.PH_CAL p then accept (if g.flag (F.PH_CTRL_ASSIGNED p) then g.shadow off w else g.plain off w)
  else accept (g.plain off w)

/-- REG_CTRL_CLR (R206): every counter of the group, every OL_SEEN and every IPK. -/
def Gov.clearRegulator (g : Gov) : Gov :=
  let g := g.set F.REG_SYNC_CNT_COUNT 0
  let g := g.each (List.range 8) fun g r => g.clearAll [F.RAIL_CNT_SHED_COUNT r, F.RAIL_CNT_ABORT_COUNT r, F.RAIL_CNT_OL_COUNT r, F.RAIL_FLAGS_OL_SEEN r]
  g.each (List.range 64) fun g p => g.clearAll [F.PH_CNT_OC_COUNT p, F.PH_I_IPK p]

/-- A write to the regulator group (R206). -/
def Gov.writeRegulator (g : Gov) (off : Nat) (w : Word) : Verdict :=
  if off = W.REG_TB then
    let g' := g.plain off w
    let f := g'.get F.REG_TB_FSW_KHZ
    if f < 300 ∨ 2000 < f ∨ (List.range 8).any (fun r => g.flag (F.RAIL_CTRL_EN r) && !g.rateFit r (51200000 / max 1 f)) then refuse (g.mark F.REG_TB_STAT_REFUSED)
    else accept (g.shadow off w)
  else if off = W.REG_TB_STAT then accept (g.plain off w)
  else if off = W.REG_CTRL then accept (if bit w.toNat 0 then g.clearRegulator else g)
  else if off < 0x24100 then accept (g.shadow off w)
  else if off < 0x24900 then g.writeRail ((off - 0x24100) / 0x100) off w
  else if off < 0x25100 then g.writePhase ((off - 0x24900) / 0x20) off w
  else accept g

end Sys2Proof.Machine
end

