-- ==== Sys2Proof/Machine/Pilots.lean ====
section
/-! DEFINITION. The firmware image and its verification, boot and anchor mode, pilot restarts, the update's rolling restart, and host supervision (chapter 13). -/

namespace Sys2Proof.Machine

/-! ### The image in flash (R333 to R335) -/

/-- IMG_LEN of the header. -/
def imgLen (fl : Tab Byte) : Nat := flashLe fl 0x14 4

/-- OFFSET, LEN and ENTRY of pilot k's section. -/
def imgSection (fl : Tab Byte) (k : Nat) : Nat × Nat × Nat :=
  (flashLe fl (0x20 + 16 * k) 4, flashLe fl (0x24 + 16 * k) 4, flashLe fl (0x28 + 16 * k) 4)

/-- SHA-384 of pilot k's section as it stands in flash. -/
def sectionDigest (fl : Tab Byte) (k : Nat) : Nat :=
  let (o, l, _) := imgSection fl k
  ofLeBytes (sha384 (flashBytes fl o (min l 0x40000)))

/-- SEC_DIG of pilot k in the header. -/
def headerDigest (fl : Tab Byte) (k : Nat) : Nat := flashLe fl (0x50 + 48 * k) 48

/-- FW_DIGEST: SHA-384 of header bytes 0x000 to 0x19F and the payload. -/
def imageDigest (fl : Tab Byte) : List Byte := sha384 (flashBytes fl 0 0x1A0 ++ flashBytes fl 0x200 (imgLen fl - 0x200))

/-- Check 1 of R335. -/
def imgFormat (fl : Tab Byte) : Bool :=
  flashBytes fl 0 4 == [0x4F, 0x58, 0x53, 0x4E] && flashLe fl 4 2 == 1 && flashLe fl 6 2 == 0x200 &&
    decide (0x200 ≤ imgLen fl) && decide (imgLen fl ≤ 0x100000)

/-- Two sections do not overlap. -/
def apart (a b : Nat × Nat × Nat) : Bool := decide (a.1 + a.2.1 ≤ b.1) || decide (b.1 + b.2.1 ≤ a.1)

/-- Check 5 of R335; a section is loaded from SRAM address 0. -/
def imgSections (fl : Tab Byte) : Bool :=
  let s := fun k => imgSection fl k
  ([0, 1, 2].all fun k =>
    decide (0x200 ≤ (s k).1) && decide ((s k).1 + (s k).2.1 ≤ imgLen fl) && decide (1 ≤ (s k).2.1) && decide ((s k).2.1 ≤ 0x40000) &&
      decide ((s k).2.2 < (s k).2.1) && sectionDigest fl k == headerDigest fl k) &&
  apart (s 0) (s 1) && apart (s 0) (s 2) && apart (s 1) (s 2)

/-- The cause of R335 that an image fails with, or none where it is verifiable. `readOk` says that every flash read completed within the device. -/
def imageFault (fl : Tab Byte) (keyHash svn : Nat) (readOk : Bool) : Option Nat :=
  if !readOk then some 6
  else if !imgFormat fl then some 1
  else if keyHash = 0 ∨ ofBeBytes (sha384 (flashBytes fl 0xE0 96)) ≠ keyHash then some 2
  else if !ecdsaVerify (flashBe fl 0xE0 48) (flashBe fl 0x110 48) (imageDigest fl) (flashBe fl 0x1A0 48) (flashBe fl 0x1D0 48) then some 3
  else if flashLe fl 0x10 2 < svn then some 4
  else if !imgSections fl then some 5
  else none

/-- What the harbourmaster records of a verified image (R337 step 5). -/
def readImage (fl : Tab Byte) : Image :=
  { fwVer := flashLe fl 8 8, svn := flashLe fl 0x10 2, feat := flashLe fl 0x18 8, digest := ofLeBytes (imageDigest fl), secDig := [headerDigest fl 0, headerDigest fl 1, headerDigest fl 2] }

/-- The registers that show the running image (R350). -/
def Gov.showImage (g : Gov) (m : Image) : Gov :=
  let g := ((g.set64 W.FWP_VER m.fwVer).set64 W.FWP_FEAT m.feat).set F.FWP_SVN_IMG_SVN m.svn
  (g.writeWords (W.FWP_DIGEST 0) ((List.range 12).map fun k => m.digest / 2 ^ (32 * k) % 2 ^ 32)).withFirm { g.firm with image := m }

/-! ### Boot and anchor mode (R337, R338, R345) -/

/-- A fused word in a register: reserved bits stay 0 (R10). -/
def Gov.fuseWord (g : Gov) (off v : Nat) : Gov := g.setWord off (mergeWord false (fieldsAt off) 0 (BitVec.ofNat 32 v))

/-- Fused words in consecutive registers. -/
def Gov.fuseWords (g : Gov) (off : Nat) (vs : List Nat) : Gov :=
  g.each ((List.range vs.length).map fun k => (off + 4 * k, vs.getD k 0)) fun g p => g.fuseWord p.1 p.2

/-- The anchor fuse block's settings of one rail, committed, and its enable (R345). -/
def Gov.anchorRail (g : Gov) (r : Nat) (a : AnchorRail) : Gov :=
  if a = {} then g
  else
    let g := ((g.set (F.RAIL_SHED_NPH_MIN r) a.nph).set (F.RAIL_SHED_NPH_READY r) a.nph).fuseWords (W.RAIL_B r 0) ((List.range 4).map fun j => a.b.getD j 0)
    let g := g.fuseWords (W.RAIL_C1 r) [a.c1, a.c2, a.vcLo, a.vcHi, a.duty]
    let g := ((g.set (F.RAIL_DLY_ON_DLY r) a.onDly).set (F.RAIL_RAMP_ON_RAMP r) a.onRamp).fuseWord (W.RAIL_SLEW r) a.slew
    let g := (g.fuseWord (W.RAIL_WIN r) a.win).commitCoeffs r
    if a.enable then g.mark (F.RAIL_CTRL_EN r) else g

/-- Apply the anchor fuse block (R338, R345). -/
def Gov.applyAnchor (g : Gov) : Gov :=
  let g := if g.fuses.anchorFsw = 0 then g else g.set F.REG_TB_FSW_KHZ g.fuses.anchorFsw
  g.each ((List.range 8).map fun r => (r, g.fuses.anchor.getD r {})) fun g ra => g.anchorRail ra.1 ra.2

/-- The thresholds of sensor 0x0040 as they stand: T_SD, HLIM_TSOFT and 125 °C, in 1/64 °C (R63). -/
def Gov.sensorLimits (g : Gov) : List Int := [g.sact F.LIM_TSD_THR_T_SD, g.sact F.HLIM_TSOFT_TSOFT, 8000]

/-- Enter anchor mode with a cause (R345). The requests taken before are answered as every packet is. -/
def Gov.enterAnchor (g : Gov) (cause : Nat) : Gov :=
  let g := (((g.set F.SUP_STAT_MODE 2).set F.SUP_ANCHOR_CAUSE cause).raise 296 0).applyAnchor
  g.each g.cmd.reqs fun g p => g.post p.1 p.2.words stAnchor []

/-! ### Pilot restarts (R339 to R341, R349) -/

/-- The channels of a pilot. -/
def pilotChannels (k : Nat) : List Nat := (List.range 16).filter fun n => channelPilot n == some k

/-- Hold a pilot in reset and let its turn come (R340 step 1, R349): in-flight commands of its channels are condemned to ABORTED and its load buffers are discarded. -/
def Gov.haltPilot (g : Gov) (k : Nat) : Gov :=
  let mine := fun (n : Nat) => channelPilot n == some k
  let reqs := g.cmd.reqs.map fun (p : Nat × Req) => if mine p.1 then (p.1, { p.2 with doom := some stAborted }) else p
  let g := g.withCmd { g.cmd with reqs := reqs, bufs := g.cmd.bufs.filter fun (p : Nat × LoadBuf) => !mine p.1 }
  let g := if k = 0 then g.withPwr { g.pwr with cmdChan := none } else g
  let g := g.set (F.FWP_PSTATE_STATE k) 3
  match g.firm.cur with
  | none => g.withFirm { g.firm with cur := some k }
  | some _ => g.withFirm { g.firm with waiting := sortBy (fun x => x) (g.firm.waiting ++ [k]) }

/-- Restart a pilot for a cause of R339: counted, logged and held in reset. A pilot already restarting is not restarted again (R349). -/
def Gov.restartPilot (g : Gov) (k cause : Nat) : Gov :=
  if g.get (F.FWP_PSTATE_STATE k) = 3 then g
  else
    let g := (g.inc (F.FWP_RST_CNT_COUNT k)).set F.FWP_RST_LAST_PILOT k
    ((g.set F.FWP_RST_LAST_CAUSE cause).log g.now 0xC [k + cause * 2 ^ 8]).haltPilot k

/-- Answer the commands a restart left in flight (R341): the journalled result where the journal holds the sequence, else the condemned status. -/
def Gov.answerLeft (g : Gov) (k : Nat) : Gov :=
  g.each (pilotChannels k) fun g n =>
    match g.req n with
    | some { words := ws, doom := some st, .. } =>
      if g.flag (F.SUP_JOURNAL_VALID n) ∧ g.get (F.SUP_JOURNAL_SEQ n) = pkSeq ws then g.post n ws (g.get (F.SUP_JOURNAL_RESULT n)) []
      else g.post n ws st []
    | _ => g

/-- Let the next pilot that waits be reloaded, or the next of a rolling restart (R343, R349). -/
def Gov.nextRestart (g : Gov) : Gov :=
  match g.firm.waiting with
  | k :: rest => g.withFirm { g.firm with cur := some k, waiting := rest }
  | [] =>
    match g.firm.rolling with
    | k :: rest => (g.withFirm { g.firm with rolling := rest }).restartPilot k 4
    | [] => g

/-- The end of a rolling restart (R343): when pilot A runs again, USTATE is DONE, the image registers change together and the update-finish command is answered. -/
def Gov.finishUpdate (g : Gov) : Gov :=
  let g := (g.set F.FWP_UPD_USTATE 5).showImage g.firm.next
  match g.req 2 with
  | some { words := ws, .. } =>
    if pkOpcode ws = 5 then g.answer 2 ws stOk [g.firm.image.fwVer % 2 ^ 32, g.firm.image.fwVer / 2 ^ 32] else g
  | none => g

/-- A reloaded pilot runs: it answers what was in flight, and the next restart begins. -/
def Gov.pilotRuns (g : Gov) (k : Nat) : Gov :=
  let g := g.set (F.FWP_PSTATE_STATE k) 2
  let g := if k = 0 ∧ g.get F.FWP_UPD_USTATE = 3 ∧ g.firm.rolling = [] then g.finishUpdate else g
  (g.answerLeft k).takeUp.nextRestart

/-- The pilots run: the mode is RUNNING and the die is not asleep. -/
def Gov.pilotsOn (g : Gov) : Bool := g.up && g.running && !g.asleep

/-! ### Registers of the group (R350) -/

/-- A write to the pilot and supervisor group. -/
def Gov.writePilots (g : Gov) (off : Nat) (w : Word) : Verdict :=
  let bad := refuse (g.mark F.SUP_STAT_REFUSED)
  if off = W.FWP_WDT then
    if g.locked off then accept (g.noteLocked off)
    else if [0, 8, 16].any fun lo => decide (field w lo 8 < 1) || decide (100 < field w lo 8) then bad
    else accept (g.plain off w)
  else if off = W.SUP_HB then
    if 1 ≤ field w 0 16 ∧ field w 0 16 ≤ 9 then bad else accept (g.plain off w)
  else if off = W.SUP_HB_KICK then accept (g.withFirm { g.firm with lastKick := g.now })
  else if off = W.FWP_RST_REQ then
    let ust := g.get F.FWP_UPD_USTATE
    if field w 0 3 = 0 then accept g
    else if ust = 1 ∨ ust = 2 then bad
    else accept (g.each (bitList 3 (field w 0 3)) fun g k => if g.pilotsOn && g.pilotUp k then g.restartPilot k 5 else g)
  else accept (g.plain off w)

end Sys2Proof.Machine
end

