-- ==== Sys2Proof/Machine/Forecast.lean ====
section
/-! DEFINITION. The forecast unit's hint port and reservation table, the phase hints, and the sluice tick (chapters 2 and 5). -/

namespace Sys2Proof.Machine

/-! ### The hint FIFOs (R49, R50, R138) -/

/-- Input n takes turns: its IN_EN bit is in force. -/
def Gov.hintEnabled (g : Gov) (n : Nat) : Bool := bit (g.act F.FCU_CFG_IN_EN) n

/-- HNT_n_READY (R49, R77): high in RUN and IDLE while the FIFO is not full. -/
def Gov.hintReady (g : Gov) (n : Nat) : Bool :=
  g.up && (g.state == stRun || g.state == stIdle) && decide ((g.fcu.fifos.getD n []).length < 32)

/-- The odd-parity bits of a hint word's eight bytes (R49). -/
def hintParity (w : BitVec 64) : BitVec 8 :=
  BitVec.ofNat 8 ((List.range 8).foldl (fun p k => p + oddParity 8 (w.toNat / 256 ^ k) * 2 ^ k) 0)

/-- The input whose word is dequeued next: in turn, skipping empty and disabled inputs (R138). -/
def Gov.nextInput (g : Gov) : Option Nat :=
  ([1, 2, 3, 4].map fun k => (g.fcu.turn + k) % 4).find? fun n => g.hintEnabled n && !(g.fcu.fifos.getD n []).isEmpty

/-- The kinds of hint word that have their own rows, and the discarded ones. -/
inductive HintKind where
  | nop | reserve | confirm | retract | release | hint | cancel | bad
  deriving DecidableEq, Repr

/-- The kind of a word of correct parity (R137): reserved types and non-zero bits in zero fields are bad words. -/
def hintKind (w : BitVec 64) : HintKind :=
  let x := w.toNat
  match bits x 60 4 with
  | 0 => if x = 0 then .nop else .bad
  | 1 => if bits x 56 4 = 0 ∧ bits x 0 4 = 0 then .reserve else .bad
  | 2 => if bits x 56 4 = 0 ∧ bits x 0 24 = 0 then .confirm else .bad
  | 3 => if bits x 56 3 = 0 ∧ bits x 0 8 = 0 then .retract else .bad
  | 4 => if bits x 56 3 = 0 ∧ bits x 0 8 = 0 then .release else .bad
  | 5 => if bits x 0 28 = 0 then .hint else .bad
  | 6 => if bits x 0 56 = 0 then .cancel else .bad
  | _ => .bad

/-- The next word to dequeue, its input and its kind; a word of wrong parity is bad. -/
def Gov.nextHint (g : Gov) : Option (Nat × BitVec 64 × HintKind) :=
  match g.nextInput with
  | none => none
  | some n =>
    match (g.fcu.fifos.getD n []).head? with
    | none => none
    | some (w, p) => some (n, w, if p = hintParity w then hintKind w else .bad)

/-- Take the first word of input n from its FIFO. -/
def Gov.dequeue (g : Gov) (n : Nat) : Gov :=
  g.withFcu { g.fcu with fifos := g.fcu.fifos.set n (g.fcu.fifos.getD n []).tail, turn := n }

/-! ### Start, deadline and lifetime (R141, R143) -/

/-- The unwrapped count of base ticks at the present instant. -/
def Gov.tick (g : Gov) : Nat := g.now / 250

/-- A live entry's end has come: its deadline while PENDING or OPEN, its lifetime once CONFIRMED, judged at the present base tick. -/
def Gov.entryDue (g : Gov) (e : Entry) : Bool :=
  match e.st with
  | .confirmed => decide (e.confEnd ≤ g.tick * 250)
  | _ => decide (e.deadline ≤ g.tick)

/-- An entry with its start taken: PENDING becomes OPEN at its start tick. -/
def startEntry (tick : Nat) (e : Entry) : Entry :=
  if e.st = .pending ∧ e.start ≤ tick then { e with st := .opened } else e

/-- Open every pending entry whose start tick has come (RESERVATION_START). -/
def Gov.startEntries (g : Gov) : Gov :=
  g.withFcu { g.fcu with table := g.fcu.table.map (startEntry g.tick) }

/-- Free the entries whose end has come and count them by kind (R141). -/
def Gov.expireEntries (g : Gov) (pick : Entry → Bool) : Gov :=
  let due := g.fcu.table.filter fun e => g.entryDue e && pick e
  if due.isEmpty then g
  else
    let n := due.countP fun e => e.st == .confirmed
    let g := g.setTable (g.fcu.table.filter fun e => !(g.entryDue e && pick e))
    (g.inc F.FCU_CNT_CONFEND_COUNT n).inc F.FCU_CNT_EXPIRE_COUNT (due.length - n)

/-- The expiries that the base tick has made due (R143): a word dequeued after the tick sees them complete. -/
def Gov.settleEntries (g : Gov) : Gov := g.expireEntries fun _ => true

/-! ### RESERVE, CONFIRM, RETRACT, RELEASE (R140 to R142) -/

/-- A key matches an entry. -/
def Entry.hasKey (e : Entry) (b a i : Nat) : Bool := e.berth == b && e.acct == a && e.igid == i

/-- Record a refused RESERVE (R140): FCU_STATUS, FCU_LAST_REF and the counter of the reason. -/
def Gov.refuseReserve (g : Gov) (n reason b a i : Nat) : Gov :=
  let g := ((g.mark F.FCU_STATUS_REFUSED).set F.FCU_STATUS_REASON reason).set F.FCU_STATUS_INPUT n
  let g := ((g.set F.FCU_LAST_REF_BERTH b).set F.FCU_LAST_REF_ACCT a).set F.FCU_LAST_REF_IGID i
  if reason = 1 then g.inc F.FCU_CNT_REF_FULL_COUNT else g.inc F.FCU_CNT_REF_BAD_COUNT

/-- The first failing condition of R140 after FULL, if any. -/
def Gov.reserveBad (g : Gov) (b a start act : Nat) : Option Nat :=
  if !g.present b ∨ g.quar b then some 2
  else if g.get (F.ACC_STAT_STATE a) ≠ 1 then some 3
  else if g.act F.FCU_CFG_HORIZON < start then some 4
  else if act = 0 then some 5
  else none

/-- A dequeued RESERVE from input n (R140, R142). -/
def Gov.reserve (g : Gov) (n : Nat) (w : BitVec 64) : Gov :=
  let x := w.toNat
  let b := bits x 48 8
  let a := bits x 40 8
  let i := bits x 24 16
  let act := bits x 12 12
  let start := bits x 4 8
  match g.fcu.table.find? fun e => e.hasKey b a i with
  | some e =>
    match g.reserveBad b a start act with
    | some r => g.refuseReserve n r b a i
    | none =>
      if e.st = .pending then
        if e.deadline < g.tick + start then g.refuseReserve n 4 b a i
        else
          (g.setTable (g.fcu.table.map fun e => if e.hasKey b a i then { e with act := act, start := g.tick + start } else e)).inc F.FCU_CNT_DUP_COUNT
      else
        (g.setTable (g.fcu.table.map fun e => if e.hasKey b a i then { e with act := act } else e)).inc F.FCU_CNT_DUP_COUNT
  | none =>
    if resCapacity ≤ g.fcu.table.length then g.refuseReserve n 1 b a i
    else
      match g.reserveBad b a start act with
      | some r => g.refuseReserve n r b a i
      | none =>
        let e : Entry := { berth := b, acct := a, igid := i, act := act, start := g.tick + start, deadline := g.tick + g.act F.FCU_CFG_HORIZON + 1, st := if start = 0 then .opened else .pending, confEnd := 0 }
        (g.setTable (g.fcu.table ++ [e])).inc F.FCU_CNT_ACCEPT_COUNT

/-- A dequeued CONFIRM (R141): a PENDING or OPEN entry of the key is confirmed; else an orphan. -/
def Gov.confirm (g : Gov) (w : BitVec 64) : Gov :=
  let x := w.toNat
  let b := bits x 48 8
  let a := bits x 40 8
  let i := bits x 24 16
  if g.fcu.table.any fun e => e.hasKey b a i && e.st != .confirmed then
    let till := g.now + 1000 * g.act F.FCU_CONF_MAX_CONF_MAX
    (g.setTable (g.fcu.table.map fun e => if e.hasKey b a i then { e with st := .confirmed, confEnd := till } else e)).inc F.FCU_CNT_CONFIRM_COUNT
  else g.inc F.FCU_CNT_ORPHAN_COUNT

/-- The key range of a RETRACT or RELEASE (R137): berth or any, account, and an inclusive IGID range modulo 2^16. -/
def rangeHit (w : BitVec 64) (e : Entry) : Bool :=
  let x := w.toNat
  let first := bits x 24 16
  (bit x 59 || e.berth == bits x 48 8) && e.acct == bits x 40 8 &&
    decide ((e.igid + 2 ^ 16 - first) % 2 ^ 16 ≤ (bits x 8 16 + 2 ^ 16 - first) % 2 ^ 16)

/-- A dequeued RETRACT frees every live entry in range, or is an orphan (R141). -/
def Gov.retract (g : Gov) (w : BitVec 64) : Gov :=
  let n := g.fcu.table.countP (rangeHit w)
  if n = 0 then g.inc F.FCU_CNT_ORPHAN_COUNT
  else (g.setTable (g.fcu.table.filter fun e => !rangeHit w e)).inc F.FCU_CNT_RETRACT_COUNT n

/-- A dequeued RELEASE frees the CONFIRMED entries in range; entries it matches but cannot free, or no match, count one orphan for the word (R141). -/
def Gov.release (g : Gov) (w : BitVec 64) : Gov :=
  let frees := fun (e : Entry) => rangeHit w e && e.st == ResState.confirmed
  let n := g.fcu.table.countP frees
  let left := g.fcu.table.any fun e => rangeHit w e && e.st != .confirmed
  let g := if n = 0 then g else (g.setTable (g.fcu.table.filter fun e => !frees e)).inc F.FCU_CNT_RELEASE_COUNT n
  if n = 0 ∨ left then g.inc F.FCU_CNT_ORPHAN_COUNT else g

/-! ### Phase hints (R145) -/

/-- The hint of a class, if it holds one. -/
def Gov.hintOf (g : Gov) (k : Nat) : Option PhaseHint := g.fcu.hints.find? fun h => h.cls == k

/-- Drop a class's hint. -/
def Gov.dropHint (g : Gov) (k : Nat) : Gov :=
  let g := g.withFcu { g.fcu with hints := g.fcu.hints.filter fun h => h.cls != k }
  (g.set ⟨W.FCU_HINT_STAT, k, 1⟩ 0).set ⟨W.FCU_HINT_STAT, 16 + k, 1⟩ 0

/-- A dequeued HINT: replaces its class's hint with times from now, or is a bad word where the class has no rail. -/
def Gov.phaseHint (g : Gov) (w : BitVec 64) : Gov :=
  let x := w.toNat
  let k := bits x 56 4
  let lead := bits x 44 12
  let dur := bits x 28 16
  if g.act (F.FCU_CLS_CFG_RAILMASK k) = 0 then g.inc F.FCU_CNT_BADWORD_COUNT
  else
    let g := g.dropHint k
    let upAt := g.now + 1000 * (lead - g.act (F.FCU_CLS_CFG_PRE k))
    let h : PhaseHint := { cls := k, upAt := upAt, till := if dur = 0 then none else some (g.now + 1000 * (lead + dur)) }
    let g := g.withFcu { g.fcu with hints := g.fcu.hints ++ [h] }
    ((g.mark ⟨W.FCU_HINT_STAT, 16 + k, 1⟩).set ⟨W.FCU_HINT_STAT, k, 1⟩ (b2n (upAt ≤ g.now))).inc F.FCU_CNT_HINT_COUNT

/-- A dequeued CANCEL ends its class's hint, or is an orphan. -/
def Gov.cancelHint (g : Gov) (w : BitVec 64) : Gov :=
  let k := bits w.toNat 56 4
  match g.hintOf k with
  | none => g.inc F.FCU_CNT_ORPHAN_COUNT
  | some _ => g.dropHint k

/-- Hints whose activation or end has come by now (R145). -/
def Gov.settleHints (g : Gov) : Gov :=
  g.each g.fcu.hints fun g h =>
    match h.till with
    | some e => if e ≤ g.now then g.dropHint h.cls else if h.upAt ≤ g.now then g.mark ⟨W.FCU_HINT_STAT, h.cls, 1⟩ else g
    | none => if h.upAt ≤ g.now then g.mark ⟨W.FCU_HINT_STAT, h.cls, 1⟩ else g

/-- Some class hint is active (R293). -/
def Gov.hintActive (g : Gov) (k : Nat) : Bool := bit (g.get F.FCU_HINT_STAT_ACTIVE) k

/-! ### The sluice tick (R19, R129, R130) -/

/-- One step of a GATE value toward its target. -/
def gateStep (up dn tgt gate : Nat) : Nat :=
  if tgt > gate then (if tgt - gate > up then gate + up else tgt)
  else if tgt < gate then (if gate - tgt > dn then gate - dn else tgt)
  else gate

/-- gavg of a berth: the floor of the mean of GATE over the sample's sluice ticks (R133); its present GATE where the sample held no tick. -/
def Gov.gavg (g : Gov) (b : Nat) : Nat :=
  if g.fcu.ticks = 0 then g.get (F.BT_GATE_GATE b) else Tab.get (fun _ => 0) g.fcu.gateSum b / g.fcu.ticks

end Sys2Proof.Machine
end

