-- ==== Sys2Proof/Machine/Engine.lean ====
section
/-! DEFINITION. The control engine: micro-programs and their execution, the loops of a sample, overruns, arbitration and winner words, the law loader, and the loop-slot and engine registers (chapter 3). -/

namespace Sys2Proof.Machine

/-! ### Laws (R97 to R102) -/

/-- The micro-instructions of a law: from the ROM or from the store (R102). -/
def Gov.lawCode (g : Gov) (k : Nat) : List (BitVec 64) :=
  let start := g.get (F.LAW_W0_START k)
  let len := g.get (F.LAW_W0_LEN k)
  if g.flag (F.LAW_W0_ROM k) then (romCode.drop start).take len
  else (List.range len).map fun i => Tab.get (fun _ => 0#64) g.eng.prog (start + i)

/-- Fields of a micro-instruction (R97). -/
def miOp (m : BitVec 64) : Nat := bits m.toNat 58 6
def miD (m : BitVec 64) : Nat := bits m.toNat 55 3
def miA (m : BitVec 64) : Nat := bits m.toNat 49 6
def miB (m : BitVec 64) : Nat := bits m.toNat 43 6
def miC (m : BitVec 64) : Nat := bits m.toNat 37 6
def miWide (m : BitVec 64) : Bool := bit m.toNat 36
def miX (m : BitVec 64) : Nat := bits m.toNat 32 4
def miImm (m : BitVec 64) : Int := toSigned 32 m.toNat

/-- The state of an execution: the registers and which were written, the flags, what OUT and ST are to commit, the saturations seen, and the TBL count. -/
structure ExecSt where
  w     : List Int := [0, 0, 0, 0, 0, 0, 0, 0]
  wrote : Nat := 0
  fl    : LawFlags := {}
  out   : Int := 0
  st0   : Option Int := none
  st1   : Option Int := none
  sato  : Bool := false
  tbls  : Nat := 0
  deriving DecidableEq, Repr

/-- Write a working register with a saturated result. -/
def ExecSt.put (e : ExecSt) (d : Nat) (r : Sat) : ExecSt :=
  { e with w := e.w.set d r.val, wrote := e.wrote ||| 2 ^ d, fl := { e.fl with satf := e.fl.satf || r.sat } }

/-- A saturation without a register result. -/
def ExecSt.noteSat (e : ExecSt) (s : Bool) : ExecSt := { e with fl := { e.fl with satf := e.fl.satf || s } }

/-- One micro-instruction (R99). -/
def Gov.micro (g : Gov) (inp : LawIn) (e : ExecSt) (m : BitVec 64) : ExecSt :=
  let v := fun (code : Nat) => inp.operand e.w (miImm m) code
  let a := v (miA m)
  let b := v (miB m)
  let c := v (miC m)
  let a32 := sat32 a
  let b32 := sat32 b
  let fit := fun (x : Int) => if miWide m then sat48 x else sat32 x
  let put := fun (r : Sat) => e.put (miD m) r
  match miOp m with
  | 0x01 => put (fit (a + b))
  | 0x02 => put (fit (a - b))
  | 0x03 => (put (satMul a32.val b32.val)).noteSat (a32.sat || b32.sat)
  | 0x04 => (put (satMac c a32.val b32.val)).noteSat (a32.sat || b32.sat)
  | 0x05 => put (fit (min a b))
  | 0x06 => put (fit (max a b))
  | 0x07 =>
    let x := clampI a b c
    { put (fit x) with sato := e.sato || (miB m == 0x0F && miC m == 0x10 && (fit x).val != a) }
  | 0x08 => put (fit (if a < 0 then -a else a))
  | 0x09 => put (fit (-a))
  | 0x0A => put (fit (asr a (miX m)))
  | 0x0B => put (fit (a * 2 ^ miX m))
  | 0x0C => { e with fl := e.fl.compare a b }
  | 0x0D => put (fit (if e.fl.cond (miX m) inp.lost then a else b))
  | 0x0E => { (put (g.tbl ((miImm m).toNat % 64) a32.val)).noteSat a32.sat with tbls := e.tbls + 1 }
  | 0x10 => if miX m = 0 then { e with st0 := some a } else { e.noteSat a32.sat with st1 := some a32.val }
  | 0x11 => { e.noteSat a32.sat with out := a32.val }
  | _ => e

/-- Run a law's micro-instructions in order (R101). -/
def Gov.execLaw (g : Gov) (code : List (BitVec 64)) (inp : LawIn) : ExecSt := code.foldl (g.micro inp) {}

/-! ### The loops of a sample (R80, R87, R93) -/

/-- The slots enabled by the words in force, in order. A slot whose EN is 1 is always listed, since EN resets to 0. -/
def Gov.enabledSlots (g : Gov) : List Nat :=
  let offs := ((g.regs.map (·.1)) ++ (g.held.map (·.1))).filter fun o => 0x10000 ≤ o && decide (o < 0x20000) && o % 64 == 0
  (sortBy (fun k => k) ((offs.map fun o => (o - 0x10000) / 64).eraseDups)).filter fun k => g.actFlag (F.LS_CTRL_EN k)

/-- The slots enabled by the words as written (R31). -/
def Gov.writtenSlots (g : Gov) : List Nat :=
  let offs := (g.regs.map (·.1)).filter fun o => 0x10000 ≤ o && decide (o < 0x20000) && o % 64 == 0
  (offs.map fun o => (o - 0x10000) / 64).filter fun k => g.flag (F.LS_CTRL_EN k)

/-- The states in force (R86): S0 as an S48, and S1. -/
def Gov.s0 (g : Gov) (k : Nat) : Int := toSigned 48 ((g.actWord (W.LS_S0_LO k)).toNat + (g.actWord (W.LS_S0_HI k)).toNat * 2 ^ 32)
def Gov.s1 (g : Gov) (k : Nat) : Int := g.sact (F.LS_S1_S1 k)

/-- The rail, region and die ceilings of the last arbitration; 1.0 before the first. -/
def Gov.railF (g : Gov) (r : Nat) : Nat := Tab.get (fun _ => 0x10000) g.eng.railF r
def Gov.regionF (g : Gov) (rg : Nat) : Nat := Tab.get (fun _ => 0x10000) g.eng.regionF rg

/-- The final ceiling f of a berth in the last arbitration; for a berth it did not cover, the least of its rail's and the die's. -/
def Gov.berthF (g : Gov) (b : Nat) : Nat := Tab.get (fun b => min (g.railF (g.railOf b)) g.eng.dieF) g.eng.berthF b

/-- c[n−1] of R93: none where it equals the loop's own output. -/
def Gov.cprev (g : Gov) (dest target : Nat) : Option Int :=
  let most := fun (bs : List Nat) => if bs.isEmpty then none else some ((bs.map g.berthF).foldl max 0 : Nat)
  if dest = 1 then some (g.berthF target)
  else if dest = 2 then (most ((g.eng.covered.filter fun p => p.2 == target).map (·.1))).map Int.ofNat
  else if dest = 3 then (most (g.eng.covered.map (·.1))).map Int.ofNat
  else if dest = 4 then some (g.regionF target)
  else none

/-- The supplied setpoint of a slot (R109), else its own. -/
def Gov.slotSp (g : Gov) (k : Nat) : Int :=
  if g.actFlag F.LIM_CFG_PCAP_EN ∧ k = g.act F.LIM_SLOTS_PCAP_SLOT then g.lim.pcapSp
  else if g.actFlag F.LIM_CFG_PCAP_EN ∧ g.actFlag F.LIM_CFG_BE_EN ∧ k = g.act F.LIM_SLOTS_BE_SLOT then g.lim.beSp
  else g.sact (F.LS_SP_SP k)

/-- A feedback at step 3: the value latched at step 1, or for class 0xC the output of the sample before (R80, R87). -/
def Gov.loopFeed (g : Gov) (src : Nat) (latched : Int × Bool) : Feed :=
  if src / 4096 = 12 then ⟨g.sget (F.LS_OUT_OUT (src % 4096)), false⟩ else ⟨latched.1, latched.2⟩

/-- The inputs of a slot's law, with whether the scaling saturated and whether a feedback was a substitute. -/
def Gov.lawIn (g : Gov) (k : Nat) (p s : Int × Bool) : LawIn × Bool × Bool :=
  let pri := g.loopFeed (g.act (F.LS_FB_FB_PRI k)) p
  let sec := g.loopFeed (g.act (F.LS_FB_FB_SEC k)) s
  let y := satMul pri.val (g.sact (F.LS_FBSCALE_FBSCALE k))
  let uprev := g.sget (F.LS_OUT_OUT k)
  let c := (g.cprev (g.act (F.LS_CTRL_DEST k)) (g.act (F.LS_CTRL_TARGET k))).getD uprev
  ({ y := y.val, z := sec.val, sp := g.slotSp k, p0 := g.sact (F.LS_P0_P0 k), p1 := g.sact (F.LS_P1_P1 k), p2 := g.sact (F.LS_P2_P2 k), p3 := g.sact (F.LS_P3_P3 k), ulo := g.sact (F.LS_ULO_ULO k), uhi := g.sact (F.LS_UHI_UHI k), s0 := g.s0 k, s1 := g.s1 k, uprev := uprev, cprev := c, lost := g.act (F.LS_CTRL_DEST k) != 0 && decide (c < uprev) }, y.sat, pri.stale || sec.stale)

/-- Run one slot. -/
def Gov.runSlot (g : Gov) (f : Nat × (Int × Bool) × (Int × Bool)) : LoopRes :=
  let k := f.1
  let law := g.act (F.LS_CTRL_LAW k)
  let (inp, ysat, stale) := g.lawIn k f.2.1 f.2.2
  let e := g.execLaw (g.lawCode law) inp
  { slot := k, law := law, inp := inp, stale := stale, out := e.out, s0 := e.st0, s1 := e.st1, sato := e.sato, sata := ysat || e.fl.satf, tbls := e.tbls, steps := g.get (F.LAW_W0_STEPS law), w := e.w, wrote := e.wrote, lt := e.fl.lt, eq := e.fl.eq, gt := e.fl.gt, satf := e.fl.satf }

/-- A slot that memory errors hold (R320): its law's store, or one of its words. -/
def Gov.slotHeld (g : Gov) (k : Nat) : Bool :=
  g.eng.badLaw.contains (g.act (F.LS_CTRL_LAW k)) || g.eng.badWord.any fun p => p.1 == k

/-- R23 step 1: the feedbacks of every enabled loop that no memory error holds, as they are latched and substituted. -/
def Gov.latchFeeds (g : Gov) : Gov :=
  let take := fun (src : Nat) => let f := g.feed src; (f.val, f.stale)
  g.withEng { g.eng with feeds := (g.enabledSlots.filter fun k => !g.slotHeld k).map fun k => (k, take (g.act (F.LS_FB_FB_PRI k)), take (g.act (F.LS_FB_FB_SEC k))) }

/-- R23 step 3: run the loops on the feedbacks latched at step 1; results wait for step 4. -/
def Gov.runLoops (g : Gov) : Gov :=
  let shapes : List SlotShape := g.enabledSlots.map fun k => ⟨k, g.act (F.LS_CTRL_DEST k), g.act (F.LS_CTRL_TARGET k), g.act (F.LS_CTRL_KIND k)⟩
  let multi := g.enabledSlots.any fun k => decide (1 < g.get (F.LAW_W0_STEPS (g.act (F.LS_CTRL_LAW k))))
  g.withEng { g.eng with feeds := [], ran := true, multi := multi, shapes := shapes, inProg := g.eng.feeds.map g.runSlot }

/-! ### Step 4: overruns and the commit (R24, R81 to R84) -/

/-- The TBL allowance of R82 for a period code. -/
def tblAllowance (code : Nat) (multi : Bool) : Nat :=
  let margin := 1152 * 2 ^ code / 4
  if multi then (margin - 392) / 7 else margin / 7

/-- The dispatcher's order at a step boundary: the loop with more steps still to run first, then the lower slot (R80). -/
def dispatchRank (p : Nat × Nat) : Nat := (8 - p.2) * 1024 + p.1

/-- The slots in the order in which the dispatcher places their last steps on eight lanes (R80). Each round is one step boundary: the first eight of the loops (slot, steps still to run) run a step; a loop's next step is ready at the next boundary. -/
def placeRounds : Nat → List (Nat × Nat) → List Nat
  | 0, _ => []
  | fuel + 1, left =>
    let order := sortBy dispatchRank left
    let issued := order.take 8
    (issued.filter fun p => p.2 ≤ 1).map (·.1) ++ placeRounds fuel ((issued.filter fun p => 1 < p.2).map (fun p => (p.1, p.2 - 1)) ++ order.drop 8)

/-- The slots of some executions in the order of their last steps. -/
def placed (rs : List LoopRes) : List Nat := placeRounds ((rs.map (·.steps)).foldl (· + ·) 1) (rs.map fun r => (r.slot, r.steps))

/-- The slots whose loops fail to complete: none within the allowance, else the last so many of the order (R82, R83). -/
def Gov.overrunSlots (g : Gov) : List Nat × Gov :=
  let rs := g.eng.inProg
  let tbls := (rs.map (·.tbls)).foldl (· + ·) 0
  if tbls ≤ tblAllowance (g.get F.ENG_CFG_PER_ACT) g.eng.multi then ([], g)
  else
    let (i, g) := g.draw
    ((placed rs).drop (rs.length - Config.overruns i % (rs.length + 1)), g)

/-- Count an overrun of a slot (R24). -/
def Gov.overrun (g : Gov) (k : Nat) : Gov :=
  ((g.inc (F.LS_OVR_CNT_OVR_CNT k)).mark (F.LS_STAT_OVR k)).raise 256 k

/-- Store a word that the sample computes: in force at once, also beside a written value that still waits (R86). -/
def Gov.setLive (g : Gov) (off : Nat) (w : Word) : Gov :=
  if g.held.any fun p => p.1 == off then g.withHeld (g.held.map fun p => if p.1 = off then (off, w) else p) else g.setWord off w

/-- Commit one loop's results; a state word written while the sample ran keeps the written value (R86). -/
def Gov.commitLoop (written : List Nat) (g : Gov) (r : LoopRes) : Gov :=
  let k := r.slot
  let g := g.sset (F.LS_OUT_OUT k) r.out
  let g := match r.s0 with
    | some v => if written.contains (W.LS_S0_LO k) then g else (g.setLive (W.LS_S0_LO k) (BitVec.ofInt 32 v)).setLive (W.LS_S0_HI k) (BitVec.ofNat 32 (ofSigned 48 v / 2 ^ 32))
    | none => g
  let g := match r.s1 with
    | some v => if written.contains (W.LS_S1 k) then g else g.setLive (W.LS_S1 k) (BitVec.ofInt 32 (s32 v))
    | none => g
  let g := (((g.set (F.LS_STAT_SATO k) (b2n r.sato)).set (F.LS_STAT_SATA k) (b2n r.sata)).set (F.LS_STAT_LOST k) (b2n r.inp.lost)).set (F.LS_STAT_STALE_IN k) (b2n r.stale)
  if r.sata then g.mark (F.LS_STAT_SAT k) else g

/-- The unused lane cycles of the sample: its step slots less the steps run, less what bank stalls took (R81, R82). -/
def Gov.idleCycles (g : Gov) (steps tbls : Nat) : Nat × Gov :=
  let left := 2400 * g.ticks - 8 * (steps + g.eng.regSteps)
  if tbls = 0 then (left, g)
  else
    let (i, g) := g.draw
    (left - Config.stallCycles i % (7 * tbls + 1), g)

/-- The steps and TBL micro-instructions that a sample executed: those of the loops that completed, and of each abandoned one a part the spec leaves open (R82, R83). -/
def Gov.executed (g : Gov) (rs : List LoopRes) (late : List Nat) : (Nat × Nat) × Gov :=
  let sum := fun (f : LoopRes → Nat) (p : LoopRes → Bool) => ((rs.filter p).map f).foldl (· + ·) 0
  let whole := fun (r : LoopRes) => !late.contains r.slot
  if late.isEmpty then ((sum (·.steps) whole, sum (·.tbls) whole), g)
  else
    let (i, g) := g.draw
    let left := fun (r : LoopRes) => late.contains r.slot
    ((sum (·.steps) whole + Config.partSteps i % (sum (·.steps) left + 1), sum (·.tbls) whole + Config.partTbls i % (sum (·.tbls) left + 1)), g)

/-- R23 step 4: close the sample's lane work. `lanes` are the slots that met a lane, register or context parity error (R84), `written` the words written while the sample ran. Answers the slots that were abandoned. -/
def Gov.closeLoops (g : Gov) (lanes written : List Nat) : List Nat × Gov :=
  let (late, g) := g.overrunSlots
  let rs := g.eng.inProg
  let bad := fun (k : Nat) => lanes.contains k || g.eng.lostCtx.contains k
  let g := g.each (rs.filter fun r => late.contains r.slot && !bad r.slot) fun g r => g.overrun r.slot
  let g := if late.isEmpty then g else (g.inc F.ENG_OVR_SAMPLES_COUNT).mark F.ENG_STATUS_OVR
  let g := g.each (lanes.filter fun k => rs.any fun r => r.slot == k) fun g k => g.raise 257 k
  let done := rs.filter fun r => !late.contains r.slot && !bad r.slot
  let (ex, g) := g.executed rs late
  let (idle, g) := g.idleCycles ex.1 ex.2
  let g := if g.eng.ran then ((g.upd F.ENG_PEAK_MIN_IDLE (min (usat 16 idle))).upd F.ENG_PEAK_TBL_MAX (max (usat 16 ex.2))).mark F.ENG_STATUS_PEAK_VALID else g
  let g := g.each done (Gov.commitLoop written)
  ((rs.filter fun r => late.contains r.slot || bad r.slot).map (·.slot), (g.withEng { g.eng with lostCtx := [], regSteps := 0 }))

/-! ### Step 5: lowest output wins (R92 to R95) -/

/-- A destination's least output with the slot that gives it, none where no loop covers it. -/
structure Win where
  f    : Nat
  slot : Option Nat
  lvl  : Nat
  deriving DecidableEq, Repr

/-- The output of a loop into the minimum tree: clamped to 0 to 1.0. -/
def Gov.outF (g : Gov) (k : Nat) : Nat := (clampI (g.sget (F.LS_OUT_OUT k)) 0 0x10000).toNat

/-- The lower output; among equals the lower slot (R94). -/
def Win.least (a b : Win) : Win :=
  match a.slot, b.slot with
  | none, _ => b
  | _, none => a
  | some i, some j => if b.f < a.f ∨ (b.f = a.f ∧ j < i) then b else a

/-- The least output among the slots a test picks, at a level. -/
def Gov.winOf (g : Gov) (slots : List Nat) (lvl : Nat) (pick : Nat → Bool) : Win :=
  (slots.filter pick).foldl (fun w k => w.least ⟨g.outF k, some k, lvl⟩) ⟨0x10000, none, lvl⟩

/-- The sample number in the period in force (R95). -/
def Gov.sampleNo (g : Gov) (idx : Nat) : Nat := idx / g.ticks

/-- A winner word (R95). -/
def Gov.winWord (g : Gov) (w : Win) (idx : Nat) : Word :=
  let snum := g.sampleNo idx % 256 * 2 ^ 24
  match w.slot with
  | none => BitVec.ofNat 32 (0x400 + snum)
  | some k => BitVec.ofNat 32 (k + w.lvl * 2 ^ 11 + (((g.eng.shapes.find? fun x => x.slot == k).map (·.kind)).getD 0) * 2 ^ 16 + snum)

/-- FEFF of a region (R92): FMAX, reduced to the MAX of the synthesizer it selects. -/
def Gov.feff (g : Gov) (rg : Nat) : Nat :=
  match g.source rg with
  | .syn s => min (g.fmax rg) (g.get (F.HLIM_FSYN_MAX s))
  | _ => g.fmax rg

/-- The frequency ceiling of a region in MHz (R92). -/
def Gov.freqCeil (g : Gov) (rg : Nat) : Nat := g.regionF rg * g.feff rg / 65536

/-- Set WON for the slots that won a place, and clear it for the others (R85). -/
def Gov.setWon (g : Gov) (winners : List Nat) : Gov :=
  let g := g.each g.eng.won fun g k => g.set (F.LS_STAT_WON k) 0
  let g := g.each winners fun g k => g.mark (F.LS_STAT_WON k)
  g.withEng { g.eng with won := winners }

/-- The winner that a kept ceiling and winner word name (R317). -/
def keptWin (w : Word) (f : Nat) : Win := ⟨f, if bit w.toNat 10 then none else some (field w 0 10), field w 11 2⟩

/-- R23 step 5 for the sample that began at `idx`: the domain minima, then every berth's final ceiling and winner word, and each present berth's activity ceiling. A loop to an absent berth or to a rail without a present berth takes no part (R94). `bad` names the destinations (level, number) whose parity failed: they keep their ceiling and winner word (R317). -/
def Gov.arbitrate (g : Gov) (idx : Nat) (bad : List (Nat × Nat)) : Gov :=
  let slots := g.eng.shapes.map (·.slot)
  let present := g.berths
  let dest := fun (d t k : Nat) => g.eng.shapes.any fun x => x.slot == k && x.dest == d && x.target == t
  let hit := fun (lvl n : Nat) => bad.contains (lvl, n)
  let railW := (List.range 8).map fun r => if present.any (fun b => g.railOf b == r) then g.winOf slots 1 (dest 2 r) else ⟨0x10000, none, 1⟩
  let dieW := g.winOf slots 2 (dest 3 0)
  let regW := (List.range 16).map fun rg => g.winOf slots 3 (dest 4 rg)
  let railOut := fun (r : Nat) => if hit 1 r then keptWin (g.word (W.ENG_WIN_RAIL r)) (g.railF r) else railW.getD r ⟨0x10000, none, 1⟩
  let dieOut := if hit 2 0 then keptWin (g.word W.ENG_WIN_DIE) g.eng.dieF else dieW
  let berthW := (List.range 256).map fun b =>
    let mine := if present.contains b then g.winOf slots 0 (dest 1 b) else ⟨0x10000, none, 0⟩
    let w := (mine.least (railOut (g.railOf b))).least dieOut
    let w := { w with f := min w.f (min (railOut (g.railOf b)).f dieOut.f) }
    (b, if hit 0 b then keptWin (g.word (W.BT_WIN b)) (g.berthF b) else w)
  let won := (railW.filterMap (·.slot)) ++ dieW.slot.toList ++ (regW.filterMap (·.slot))
  let own := fun (k : Nat) => (if g.eng.shapes.any fun x => x.slot == k && x.dest == 1 then berthW.any fun p => p.2.slot == some k else won.contains k)
  let g := g.setWon (slots.filter own)
  let g := g.each (List.range 8) fun g r => if hit 1 r then g else (g.setWord (W.ENG_WIN_RAIL r) (g.winWord (railW.getD r ⟨0x10000, none, 1⟩) idx))
  let g := if hit 2 0 then g else g.setWord W.ENG_WIN_DIE (g.winWord dieW idx)
  let g := g.each (List.range 16) fun g rg => if hit 3 rg then g else g.setWord (W.ENG_WIN_REGION rg) (g.winWord (regW.getD rg ⟨0x10000, none, 3⟩) idx)
  let g := g.each berthW fun g p => if hit 0 p.1 then g else g.setWord (W.BT_WIN p.1) (g.winWord p.2 idx)
  let railF := (List.range 8).foldl (fun t r => Tab.put (fun _ => 0x10000) t r (railOut r).f) g.eng.railF
  let regionF := (List.range 16).foldl (fun t rg => if hit 3 rg then t else Tab.put (fun _ => 0x10000) t rg (regW.getD rg ⟨0x10000, none, 3⟩).f) g.eng.regionF
  let shown := berthW.filter fun p => present.contains p.1
  let g := g.withEng { g.eng with railF := railF, regionF := regionF, dieF := dieOut.f, berthF := shown.map fun p => (p.1, p.2.f), covered := present.map fun b => (b, g.railOf b) }
  let g := g.each shown fun g p => g.set (F.BT_CEIL_CEIL p.1) (p.2.f * 4095 / 65536)
  g.each bad fun g p => g.raise 258 (p.1 * 1024 + p.2)

/-! ### The loader (R103) -/

/-- What an opcode uses: D, A, B, C, X, IMM and WIDE. -/
structure MiUse where
  d : Bool := false
  a : Bool := false
  b : Bool := false
  c : Bool := false
  x : Bool := false
  imm : Bool := false
  wide : Bool := false
  deriving DecidableEq, Repr

/-- The fields each listed opcode uses (R99); none for a reserved opcode. -/
def miUse (op : Nat) : Option MiUse :=
  if op = 0x00 then some {}
  else if op = 0x01 ∨ op = 0x02 ∨ op = 0x05 ∨ op = 0x06 then some { d := true, a := true, b := true, wide := true }
  else if op = 0x03 then some { d := true, a := true, b := true }
  else if op = 0x04 then some { d := true, a := true, b := true, c := true }
  else if op = 0x07 then some { d := true, a := true, b := true, c := true, wide := true }
  else if op = 0x08 ∨ op = 0x09 then some { d := true, a := true, wide := true }
  else if op = 0x0A ∨ op = 0x0B then some { d := true, a := true, x := true, wide := true }
  else if op = 0x0C then some { a := true, b := true }
  else if op = 0x0D then some { d := true, a := true, b := true, x := true, wide := true }
  else if op = 0x0E then some { d := true, a := true, imm := true }
  else if op = 0x10 then some { a := true, x := true }
  else if op = 0x11 then some { a := true }
  else none

/-- The operand codes an instruction uses. -/
def miOperands (m : BitVec 64) : List Nat :=
  match miUse (miOp m) with
  | some u => (if u.a then [miA m] else []) ++ (if u.b then [miB m] else []) ++ (if u.c then [miC m] else [])
  | none => []

/-- Check 5 and check 9 of one micro-instruction: listed opcode and operand codes, unused fields zero (IMM may also be used as an operand), X in range, a table index of 0 to 63. -/
def miLegal (m : BitVec 64) : Bool :=
  match miUse (miOp m) with
  | none => false
  | some u =>
    let op := miOp m
    (miOperands m).all (fun c => decide (c ≤ 0x17)) && (u.d || miD m == 0) && (u.a || miA m == 0) && (u.b || miB m == 0) && (u.c || miC m == 0) && (u.wide || !miWide m) && (u.x || miX m == 0) &&
    (u.imm || (miOperands m).contains 0x15 || bits m.toNat 0 32 == 0) &&
    (op != 0x0D || decide (miX m ≤ 7)) && (op != 0x10 || decide (miX m ≤ 1)) && (op != 0x0E || decide (bits m.toNat 0 32 < 64))

/-- Check 6: no working register is read before it is written. -/
def wrotesFirst : Nat → List (BitVec 64) → Bool
  | _, [] => true
  | seen, m :: ms =>
    (miOperands m).all (fun c => decide (8 ≤ c) || bit seen c) &&
      wrotesFirst (match miUse (miOp m) with | some u => if u.d then seen ||| 2 ^ miD m else seen | none => seen) ms

/-- Check 7: no SEL on a comparison before the first CMP. -/
def selAfterCmp : List (BitVec 64) → Bool
  | [] => true
  | m :: ms => if miOp m = 0x0C then true else !(miOp m == 0x0D && decide (miX m ≤ 5)) && selAfterCmp ms

/-- Checks 5 to 9 of R103 on a law's micro-instructions. -/
def lawLegal (code : List (BitVec 64)) : Bool :=
  code.all miLegal && wrotesFirst 0 code && selAfterCmp code &&
    code.countP (fun m => miOp m == 0x11) == 1 && decide (code.countP (fun m => miOp m == 0x10 && miX m == 0) ≤ 1) && decide (code.countP (fun m => miOp m == 0x10 && miX m == 1) ≤ 1)

/-- The law is used by some enabled slot (USE of R102). -/
def Gov.lawUse (g : Gov) (k : Nat) : Nat := g.writtenSlots.countP fun s => g.get (F.LS_CTRL_LAW s) == k

/-- The runs of the store that installed laws hold, but that of one law. -/
def Gov.storeRuns (g : Gov) (but : Nat) : List (Nat × Nat) :=
  ((List.range 62).map (· + 2)).filterMap fun k =>
    if k ≠ but ∧ g.flag (F.LAW_W0_VALID k) then some (g.get (F.LAW_W0_START k), g.get (F.LAW_W0_LEN k)) else none

/-- The lowest contiguous free run of a length (check 3): it starts at 0 or where a run ends. -/
def freeRun (runs : List (Nat × Nat)) (len : Nat) : Option Nat :=
  let starts := sortBy (fun x => x) (0 :: runs.map fun r => r.1 + r.2)
  starts.find? fun s => decide (s + len ≤ 4096) && runs.all fun r => decide (s + len ≤ r.1) || decide (r.1 + r.2 ≤ s)

/-- Clear a law's directory entry and free its run. -/
def Gov.dropLaw (g : Gov) (k : Nat) : Gov :=
  let g := g.withEng { g.eng with badLaw := g.eng.badLaw.filter (· != k) }
  (g.setWord (W.LAW_W0 k) 0).setWord (W.LAW_W1 k) 0

/-- Install a law that passed every check (R103). -/
def Gov.installLaw (g : Gov) (k start : Nat) (code : List (BitVec 64)) : Gov :=
  let n := code.length
  let prog := (List.range n).foldl (fun p i => Tab.put (fun _ => 0#64) p (start + i) (code.getD i 0)) g.eng.prog
  let g := (g.dropLaw k).withEng { (g.dropLaw k).eng with prog := prog }
  let g := ((g.set (F.LAW_W0_START k) start).set (F.LAW_W0_LEN k) n).set (F.LAW_W0_STEPS k) ((n + 15) / 16)
  (g.mark (F.LAW_W0_VALID k)).setWord (W.LAW_W1 k) (BitVec.ofNat 32 (lawCrc code))

/-- The failed check of R103 for a received law, or where it is to be installed. -/
def Gov.loadLaw (g : Gov) (k len crc : Nat) (code : List (BitVec 64)) : Sum Nat Nat :=
  if k < 2 ∨ 63 < k then .inl 1
  else if g.flag (F.LAW_W0_VALID k) ∧ g.lawUse k ≠ 0 then .inl 2
  else if len < 1 ∨ 128 < len then .inl 3
  else
    match freeRun (g.storeRuns k) len with
    | none => .inl 3
    | some s =>
      if lawCrc code ≠ crc then .inl 4
      else if !code.all miLegal then .inl (if (code.all fun m => miLegal m || miOp m == 0x0E) then 9 else 5)
      else if !wrotesFirst 0 code then .inl 6
      else if !selAfterCmp code then .inl 7
      else if !lawLegal code then .inl 8
      else .inr s

/-! ### Capacity (R30, R31, R82) -/

/-- The loop-step limit of a period code. -/
def stepLimit (code : Nat) : Nat := 256 * 2 ^ code

/-- Steps over the enabled slots as written. -/
def Gov.stepsUsed (g : Gov) : Nat := (g.writtenSlots.map fun s => g.get (F.LAW_W0_STEPS (g.get (F.LS_CTRL_LAW s)))).foldl (· + ·) 0

/-- The period codes that may be in force while the present enables hold (R31). -/
def Gov.periodCodes (g : Gov) : List Nat := [g.get F.ENG_CFG_PER_ACT] ++ (if g.flag F.ENG_CFG_PER_PEND then [g.get F.ENG_CFG_PERIOD] else [])

/-- The capacity rules hold for the enables as written under some period codes. -/
def Gov.capacityOk (g : Gov) (codes : List Nat) : Bool :=
  codes.all fun c => decide (g.stepsUsed ≤ stepLimit c) && !(c == 0 && g.writtenSlots.any fun s => decide (1 < g.get (F.LAW_W0_STEPS (g.get (F.LS_CTRL_LAW s)))))

/-! ### Registers of the engine and the slots (R79, R85, R86, R91, R96, R104, R109) -/

/-- Refuse a write of a slot: REFUSED, one bit of ENG_STATUS, and the slot (R104). -/
def Gov.refuseSlot (g : Gov) (k : Nat) (bit_ : Fld) : Verdict :=
  refuse (((g.mark (F.LS_STAT_REFUSED k)).mark bit_).set F.ENG_STATUS_REF_SLOT k)

/-- R91 on written words: law 1 with a pole outside the open unit interval. -/
def Gov.poleBad (g : Gov) (k : Nat) : Bool :=
  g.get (F.LS_CTRL_LAW k) == 1 && (let p := g.sget (F.LS_P2_P2 k); decide (0xFFFF < p) || decide (p < -0xFFFF))

/-- ULO above UHI on written words. -/
def Gov.limitsCross (g : Gov) (k : Nat) : Bool := decide (g.sget (F.LS_UHI_UHI k) < g.sget (F.LS_ULO_ULO k))

/-- TARGET is in range for DEST (R104). -/
def targetOk (dest target : Nat) : Bool :=
  if dest = 0 ∨ dest = 3 then target == 0
  else if dest = 1 then decide (target < 256)
  else if dest = 2 then decide (target < 8)
  else if dest = 4 then decide (target < 16)
  else false

/-- The conditions of R104 that set LAW_REF. -/
def Gov.slotShape (g : Gov) (k : Nat) : Bool :=
  let dest := g.get (F.LS_CTRL_DEST k)
  let tgt := g.get (F.LS_CTRL_TARGET k)
  let law := g.get (F.LS_CTRL_LAW k)
  g.flag (F.LAW_W0_VALID law) && targetOk dest tgt && (dest != 1 || g.presentWritten tgt) &&
    sourceValid (g.get (F.LS_FB_FB_PRI k)) && sourceValid (g.get (F.LS_FB_FB_SEC k)) && (decide (2 ≤ law) || g.get (F.LS_FB_FB_SEC k) == 0)

/-- The slot is enabled as R109 asks of the cap slot or the share slot, but for FBSCALE. -/
def Gov.capShape (g : Gov) (k dest : Nat) : Bool :=
  g.flag (F.LS_CTRL_EN k) && g.get (F.LS_CTRL_DEST k) == dest && g.get (F.LS_CTRL_LAW k) == 0 && g.get (F.LS_FB_FB_PRI k) / 4096 == 7

/-- FBSCALE is 1.0. -/
def Gov.unitScale (g : Gov) (k : Nat) : Bool := g.get (F.LS_FBSCALE_FBSCALE k) == 0x10000

/-- The conditions of R109 hold on written words, for LIM_SLOTS and LIM_CFG as given. -/
def Gov.capSlotsOk (g : Gov) (cap be : Nat) (beEn : Bool) : Bool :=
  g.capShape cap 3 && g.unitScale cap && (!beEn || (g.capShape be 0 && g.unitScale be && g.get (F.LS_FB_FB_PRI be) == g.get (F.LS_FB_FB_PRI cap)))

/-- R109 as written now. -/
def Gov.capHolds (g : Gov) : Bool :=
  !g.flag F.LIM_CFG_PCAP_EN || g.capSlotsOk (g.get F.LIM_SLOTS_PCAP_SLOT) (g.get F.LIM_SLOTS_BE_SLOT) (g.flag F.LIM_CFG_BE_EN)

/-- The slot is named by LIM_SLOTS and its setpoint is supplied (R109). -/
def Gov.spSupplied (g : Gov) (k : Nat) : Bool :=
  g.flag F.LIM_CFG_PCAP_EN && (k == g.get F.LIM_SLOTS_PCAP_SLOT || (g.flag F.LIM_CFG_BE_EN && k == g.get F.LIM_SLOTS_BE_SLOT))

/-- LOOP_SLOT_ENABLE and writes of LS_CTRL and LS_FB (R104). No slot is enabled in anchor mode (R345; the flag that shows it is a DESIGN CHOICE: log entry 111). -/
def Gov.writeSlotShape (g : Gov) (k off : Nat) (w : Word) : Verdict :=
  let was := g.flag (F.LS_CTRL_EN k)
  let old := (g.get (F.LS_CTRL_LAW k), g.get (F.LS_CTRL_DEST k), g.get (F.LS_CTRL_TARGET k), g.word (W.LS_FB k))
  let g' := g.plain off w
  let new := (g'.get (F.LS_CTRL_LAW k), g'.get (F.LS_CTRL_DEST k), g'.get (F.LS_CTRL_TARGET k), g'.word (W.LS_FB k))
  let now := g'.flag (F.LS_CTRL_EN k)
  if now && g.anchored then g.refuseSlot k F.ENG_STATUS_LAW_REF
  else if now && (!was || decide (old ≠ new)) && !g'.capacityOk g'.periodCodes then g.refuseSlot k F.ENG_STATUS_CAP_REF
  else if now && (!was || decide (old ≠ new)) && (g'.limitsCross k || g'.poleBad k) then g.refuseSlot k F.ENG_STATUS_PARAM_REF
  else if now && (!was || decide (old ≠ new)) && !g'.slotShape k then g.refuseSlot k F.ENG_STATUS_LAW_REF
  else if g.capHolds && !g'.capHolds then g.refuseSlot k F.ENG_STATUS_LAW_REF
  else accept (g.shadow off w)

/-- What a write to a word of slot k does to the slot. -/
def Gov.slotVerdict (g : Gov) (k off : Nat) (w : Word) : Verdict :=
  let g' := g.plain off w
  if off = W.LS_CTRL k ∨ off = W.LS_FB k then g.writeSlotShape k off w
  else if off = W.LS_SP k ∧ g.spSupplied k then accept g
  else if off = W.LS_FBSCALE k ∧ g.capHolds ∧ !g'.capHolds then g.refuseSlot k F.ENG_STATUS_PARAM_REF
  else if (off = W.LS_ULO k ∨ off = W.LS_UHI k) ∧ g.flag (F.LS_CTRL_EN k) ∧ g'.limitsCross k then g.refuseSlot k F.ENG_STATUS_PARAM_REF
  else if off = W.LS_P2 k ∧ g.flag (F.LS_CTRL_EN k) ∧ g'.poleBad k then g.refuseSlot k F.ENG_STATUS_PARAM_REF
  else if off = W.LS_S0_LO k ∨ off = W.LS_S0_HI k then accept (((g.hold (W.LS_S0_LO k)).hold (W.LS_S0_HI k)).plain off w)
  else if off = W.LS_STAT k then accept (if bit w.toNat 8 then (g.plain off w).set (F.LS_OVR_CNT_OVR_CNT k) 0 else g.plain off w)
  else if off = W.LS_OUT k ∨ off = W.LS_OVR_CNT k then accept g
  else accept (g.shadow off w)

/-- A write to a word of slot k. Unless it is refused, a word that a memory error holds is released (R320, R375). -/
def Gov.writeSlot (g : Gov) (k off : Nat) (w : Word) : Verdict :=
  let v := g.slotVerdict k off w
  if v.ok then accept (v.gov.withEng { v.gov.eng with badWord := v.gov.eng.badWord.filter fun p => !(p.1 == k && p.2 == (off - 0x10000) % 64 / 4) }) else v

/-- PERIOD_WRITE (R78, R79): a reserved code, or one that breaks the capacity rules, is refused; else it waits for its tick. -/
def Gov.writePeriod (g : Gov) (w : Word) : Verdict :=
  let code := field w 0 4
  if 6 < code ∨ !g.capacityOk [code] then refuse (g.mark F.ENG_STATUS_CAP_REF)
  else accept ((g.set F.ENG_CFG_PERIOD code).set F.ENG_CFG_PER_PEND (b2n (code ≠ g.get F.ENG_CFG_PER_ACT)))

/-- A write to the engine group. -/
def Gov.writeEngine (g : Gov) (off : Nat) (w : Word) : Verdict :=
  if off = W.ENG_CFG then g.writePeriod w
  else if off = W.ENG_STATUS then
    let g := g.plain off w
    let g := if bit w.toNat 3 then g.set F.ENG_OVR_SAMPLES_COUNT 0 else g
    accept (if bit w.toNat 4 then g.setWord W.ENG_PEAK 0xFFFF else g)
  else accept g

/-- PERIOD_CHANGE at a tick (R79): the written code takes effect where SAMPLE_IDX is a multiple of both periods. -/
def Gov.periodChange (g : Gov) : Gov :=
  let code := g.get F.ENG_CFG_PERIOD
  if g.flag F.ENG_CFG_PER_PEND ∧ g.idx % g.ticks = 0 ∧ g.idx % periodTicks code = 0 then (g.set F.ENG_CFG_PER_ACT code).set F.ENG_CFG_PER_PEND 0
  else g

end Sys2Proof.Machine
end

