-- ==== Sys2Proof/Machine/Clocks.lean ====
section
/-! DEFINITION. The breakwater, the synthesizers, the source multiplexers, the clock monitors and the oscillator trim (chapter 6). -/

namespace Sys2Proof.Machine

/-! ### Records -/

/-- The update of a region's record. -/
def Gov.setRgn (g : Gov) (k : Nat) (f : RegionSt → RegionSt) : Gov := g.withClk { g.clk with regions := Tab.upd (fun _ => {}) g.clk.regions k f }

/-! ### Detectors (R151, R154, R223) -/

/-- The detector is armed (R151). -/
def Gov.armed (g : Gov) (d : Nat) : Bool :=
  let r := g.act (F.DRP_DET_CFG_RAIL d)
  g.actFlag (F.DRP_DET_CFG_EN d) && (g.state == stRun || g.state == stIdle) && g.railOn r && g.flag (F.RAIL_STATE_INWIN r) && !g.flag (F.SNS_DET_STAT_BROKEN d)

/-- The detectors that cross now. -/
def Gov.crossers (g : Gov) : List Nat := (g.clk.crossing.filter fun p => p.2.isSome).map (·.1)

/-- An armed detector of a region crosses. -/
def Gov.regionCrosses (g : Gov) (rg : Nat) : Bool := g.crossers.any fun d => g.armed d && g.act (F.DRP_DET_CFG_REGION d) == rg

/-! ### Stretch episodes (R155 to R158) -/

/-- Phase k of a 16-phase frame is skipped at a depth (R155). -/
def skipPhase (k depth : Nat) : Bool := (k + 1) * depth / 16 != k * depth / 16

/-- The frame position of the next clock phase of a region (R155). -/
def Gov.framePos (g : Gov) (rg : Nat) : Nat := (g.rgn rg).frame / 1000 % 16

/-- The frequency of the clock connected to a region, in MHz. -/
def Gov.outMhz (g : Gov) (rg : Nat) : Nat := if g.sourceRuns (g.rgn rg).out then g.sourceMhz (g.rgn rg).out else 0

/-- The effective frequency of a region over a whole frame, in sixteenths of a MHz (R155). -/
def Gov.effective (g : Gov) (rg : Nat) : Nat := g.outMhz rg * (16 - g.get (F.DRP_RGN_STAT_DEPTH rg))

/-- An episode is open. -/
def Gov.episode (g : Gov) (rg : Nat) : Bool := g.flag (F.DRP_RGN_STAT_OPEN rg)

/-- The next clock phase of a region is skipped (R155). -/
def Gov.skipsNext (g : Gov) (rg : Nat) : Bool := g.episode rg && skipPhase (g.framePos rg) (g.get (F.DRP_RGN_STAT_DEPTH rg))

/-- Hold the upward glides of the synthesizer a region selects (R162). -/
def Gov.blockGlide (g : Gov) (rg : Nat) : Gov :=
  match g.source rg with
  | .syn s => let g := g.setSyn s fun x => { x with blocked := true }; if g.synOn s then g.reglide s else g
  | _ => g

/-- Open an episode at DEPTH0; the frame stands at its last position, so the next phase is skipped (R155). -/
def Gov.openEpisode (g : Gov) (rg d : Nat) : Gov :=
  let depth := g.act (F.DRP_RGN_STR_DEPTH0 rg)
  let g := ((g.mark (F.DRP_RGN_STAT_OPEN rg)).set (F.DRP_RGN_STAT_DEPTH rg) depth).set (F.DRP_RGN_STAT_FIRST_DET rg) d
  (g.setRgn rg fun x => { x with maxDepth := depth, openAt := g.now, changeAt := g.now, crossed := true, falling := false, strNow := true, frame := 15000 }).blockGlide rg

/-- Close an episode: counted, timed and logged (R157). -/
def Gov.closeEpisode (g : Gov) (rg : Nat) : Gov :=
  if !g.episode rg then g
  else
    let x := g.rgn rg
    let dur := (g.now - x.openAt) / 10
    let g := (g.inc (F.DRP_RGN_EPI_COUNT rg)).set64 (W.DRP_RGN_STIME_LO rg) (g.get64 (W.DRP_RGN_STIME_LO rg) + dur)
    let g := g.log g.now 3 [rg + g.get (F.DRP_RGN_STAT_FIRST_DET rg) * 2 ^ 8 + x.maxDepth * 2 ^ 16, dur, x.openAt % 2 ^ 32, x.openAt / 2 ^ 32]
    (g.set (F.DRP_RGN_STAT_OPEN rg) 0).set (F.DRP_RGN_STAT_DEPTH rg) 0

/-- Lower the depth by one, closing at 0. -/
def Gov.release1 (g : Gov) (rg : Nat) : Gov :=
  let g := (g.upd (F.DRP_RGN_STAT_DEPTH rg) (· - 1)).setRgn rg fun x => { x with falling := true, changeAt := g.now }
  if g.get (F.DRP_RGN_STAT_DEPTH rg) = 0 then g.closeEpisode rg else g

/-- Judge again whether an armed detector of a region crosses: HOLD counts from the instant at which none does any more, and a crossing stops the fall of the depth (R151, R156). -/
def Gov.noteCross (g : Gov) (rg : Nat) : Gov :=
  if g.regionCrosses rg = (g.rgn rg).crossed then g
  else if (g.rgn rg).crossed then g.setRgn rg fun x => { x with crossed := false, endAt := g.now }
  else g.setRgn rg fun x => { x with crossed := true, falling := false }

/-- A detector stops crossing. -/
def Gov.detectorEnds (g : Gov) (d : Nat) : Gov :=
  let g := (g.withClk { g.clk with crossing := Tab.put (fun _ => none) g.clk.crossing d none }).set (F.DRP_DET_CFG_CROSS d) 0
  g.noteCross (g.act (F.DRP_DET_CFG_REGION d))

/-! ### Time and the clocks -/

/-- What an interval of so many ns brings: the frames of open episodes count the phases of the connected clock (R158), and each glide gains what its rate allows (R161). -/
def Gov.runClocks (g : Gov) (dt : Nat) : Gov :=
  let g := g.each ((List.range 16).filter g.episode) fun g rg => let n := dt * g.outMhz rg; g.setRgn rg fun x => { x with frame := (x.frame + n) % 16000 }
  g.each ((List.range 16).filter fun s => (g.syn s).dir != 0) fun g s =>
    let rate := if (g.syn s).dir = 1 then g.act (F.FSYN_GLIDE_GUP s) else g.act (F.FSYN_GLIDE_GDN s)
    g.setSyn s fun x => { x with credit := x.credit + dt * rate }

/-- What the event just ended left behind: the crossings of regions with an open episode, and since when a region has no clock. -/
def Gov.settleClocks (g : Gov) : Gov :=
  let g := g.each ((List.range 16).filter g.episode) Gov.noteCross
  g.each ((List.range 16).filter fun rg => g.clocked rg == (g.rgn rg).stopAt.isSome) fun g rg =>
    g.setRgn rg fun x => { x with stopAt := if g.clocked rg then none else some g.now }

/-- Let time pass up to an instant, never backward. -/
def Gov.passTo (g : Gov) (t : Nat) : Gov :=
  if g.now < t then (g.settleClocks.runClocks (t - g.now)).withNow t else g

/-! ### Synthesizers (R159 to R163) -/

/-- A region is enabled for steady mode (R121). -/
def Gov.steadyRegion (g : Gov) (rg : Nat) : Bool :=
  g.get (F.DRP_RGN_MUX_SEL rg) ≤ 1 && g.berths.any fun b => g.regionOf b == rg

/-- The frequency a region asks of its synthesizer: its ceiling, or FSTEADY in steady mode (R160). -/
def Gov.regionAsk (g : Gov) (rg : Nat) : Nat :=
  if g.flag F.LIM_STEADY_STAT_ACTIVE && g.steadyRegion rg then g.act (F.LIM_FSTEADY_FSTEADY rg) else g.freqCeil rg

/-- The request of a synthesizer before clamping: none where governed and selected by no region (R160). -/
def Gov.synAsk (g : Gov) (s : Nat) : Option Nat :=
  if g.actFlag (F.FSYN_CTRL_MODE s) then some (g.act (F.FSYN_MAN_MAN s))
  else match g.selecting s with
    | [] => none
    | rg :: rest => some ((rest.map g.regionAsk).foldl min (g.regionAsk rg))

/-- Form the clamped target of a synthesizer (R160): the last target is held where no region selects it; FLOOR for a governed target raised to 200 MHz; CLAMP and a bollard action for a request newly lowered to MAX. -/
def Gov.retarget (g : Gov) (s : Nat) : Gov :=
  if !g.synOn s then g
  else
    match g.synAsk s with
    | none => (g.set (F.FSYN_FREQ_TGT s) (min (g.get (F.HLIM_FSYN_MAX s)) (max 200 (g.get (F.FSYN_FREQ_TGT s))))).reglide s
    | some ask =>
      let top := g.get (F.HLIM_FSYN_MAX s)
      let low := decide (ask < 200)
      let g := g.set (F.FSYN_STAT_FLOOR s) (b2n (low && !g.actFlag (F.FSYN_CTRL_MODE s)))
      let g := if top < ask then
          let g := g.mark (F.FSYN_STAT_CLAMP s)
          if (g.syn s).clamped = ask then g else (g.setSyn s fun x => { x with clamped := ask }).bollard 2 s
        else g.setSyn s fun x => { x with clamped := 0 }
      (g.set (F.FSYN_FREQ_TGT s) (min top (max 200 ask))).reglide s

/-- The fast-down path to a lowered MAX (R163). -/
def Gov.fastDown (g : Gov) (s : Nat) : Gov :=
  let top := g.get (F.HLIM_FSYN_MAX s)
  if top < g.get (F.FSYN_FREQ_CUR s) then ((g.set (F.FSYN_FREQ_CUR s) top).setSyn s fun x => { x with dir := 0, credit := 0 }).bollard 2 s else g

/-- A stopped synthesizer shows nothing. -/
def Gov.stopSyn (g : Gov) (s : Nat) : Gov :=
  (g.setSyn s fun x => { x with dir := 0, credit := 0, blocked := false }).clearAll [F.FSYN_STAT_LOCK s, F.FSYN_STAT_GLIDE s, F.FSYN_STAT_HELD s, F.FSYN_STAT_COAST s, F.FSYN_STAT_FLOOR s, F.FSYN_FREQ_CUR s]

/-- After an activation: synthesizers no longer enabled stop. -/
def Gov.settleSyns (g : Gov) : Gov :=
  g.each (List.range 16) fun g s => if !g.synOn s ∧ g.word (W.FSYN_FREQ s) ≠ 0 ∧ g.get (F.FSYN_FREQ_CUR s) ≠ 0 then g.stopSyn s else g

/-- At a sample tick (R157, R162): STR_SMP of the completed sample, and blocked glides resume where both preceding samples of every selecting region are clear and no episode is open. -/
def Gov.clockTick (g : Gov) : Gov :=
  let g := g.each (List.range 16) fun g rg =>
    let x := g.rgn rg
    (g.setRgn rg fun x => { x with strPrev := x.strLast, strLast := x.strNow, strNow := g.episode rg }).set (F.DRP_RGN_STAT_STR_SMP rg) (b2n x.strNow)
  g.each (List.range 16) fun g s =>
    let b := (g.selecting s).any fun rg => (g.rgn rg).strLast || (g.rgn rg).strPrev || g.episode rg
    let g := g.setSyn s fun x => { x with blocked := b }
    if g.synOn s then g.reglide s else g

/-! ### Reference loss (R164, R165) -/

/-- The map of synthesizers in coast. -/
def Gov.coastMap (g : Gov) : Nat := mapBits 16 fun s => g.flag (F.FSYN_STAT_COAST s)

/-- A synthesizer enters coast. -/
def Gov.coast (g : Gov) (s : Nat) : Gov :=
  (((((g.mark (F.FSYN_STAT_COAST s)).mark (F.FSYN_STAT_REF_LOST s)).set (F.FSYN_STAT_LOCK s) 0).inc (F.FSYN_CNT_COAST_COUNT s))).reglide s

/-- A loss of REFCLK, seen by a synthesizer or by the monitor: the source is raised once for it. -/
def Gov.refLoss (g : Gov) : Gov :=
  let g := g.withClk { g.clk with refGone := true }
  if g.clk.refLost.isSome then g else (g.withClk { g.clk with refLost := some g.now }).raise 275 g.coastMap

/-! ### Monitors (R166) -/

/-- The presence of a clock after a window: absent below 64 edges, present after two windows in a row of 64 or more. -/
def Gov.window1 (g : Gov) (key edges : Nat) (f : Fld) : Gov :=
  let n := if edges < 64 then 0 else Tab.get (fun _ => 0) g.clk.counts key + 1
  let g := g.withClk { g.clk with counts := Tab.put (fun _ => 0) g.clk.counts key (min n 2) }
  if edges < 64 then g.set f 0 else if 2 ≤ n then g.mark f else g

/-- REFCLK's window: a return starts the 100 µs of R165, a disappearance is a loss (R164). A window of 64 edges or more that began after a loss ends it. -/
def Gov.refWindow (g : Gov) (edges : Nat) : Gov :=
  let was := g.flag F.DRP_CLKMON_REF_PRESENT
  let g := g.window1 0 edges F.DRP_CLKMON_REF_PRESENT
  let now := g.flag F.DRP_CLKMON_REF_PRESENT
  let back := match g.clk.refLost with
    | some a => decide (64 ≤ edges) && decide (a + 1000 ≤ g.now)
    | none => decide (64 ≤ edges)
  let g := if back then g.withClk { g.clk with refLost := none, refGone := false } else g
  if now && !was then g.withClk { g.clk with refSince := g.now }
  else if was && !now then g.refLoss
  else g

/-- A region output's window: when an output that is not OFF goes absent, the 2 µs of R170 begin; a switch in progress or hung keeps its own. -/
def Gov.rgnWindow (g : Gov) (rg edges : Nat) : Gov :=
  let g := g.window1 (32 + rg) edges (F.DRP_RGN_STAT_PRESENT rg)
  if g.flag (F.DRP_RGN_MUX_BUSY rg) then g
  else if g.flag (F.DRP_RGN_STAT_PRESENT rg) || g.source rg == .off then g.setRgn rg fun x => { x with goneAt := none }
  else if edges < 64 then g.setRgn rg fun x => { x with goneAt := some (x.goneAt.getD g.now) }
  else g

/-- A frame mark comes in on the UP port: marks are at their spacing where it follows the last one by 10 µs to within a window (R166; log entry 88). -/
def Gov.seeMark (g : Gov) : Gov :=
  let near := match g.clk.markAt with
    | some a => decide (a + 9000 ≤ g.now) && decide (g.now ≤ a + 11000)
    | none => false
  g.withClk { g.clk with markAt := some g.now, markNear := near }

/-- A frame comes in on the UP port: its mark counts for the trim also (R273). -/
def Gov.noteMark (g : Gov) : Gov :=
  let g := g.seeMark
  g.withClk { g.clk with marks := g.clk.marks + 1 }

/-- The presence of the marks at the end of a window: absent once three in a row were missed (R166). -/
def Gov.markWindow (g : Gov) : Gov :=
  let gone := match g.clk.markAt with
    | some a => decide (a + 31000 ≤ g.now)
    | none => true
  if gone then g.set F.DRP_CLKMON_MARK_PRESENT 0 else if g.clk.markNear then g.mark F.DRP_CLKMON_MARK_PRESENT else g

/-! ### Multiplexers (R167 to R170) -/

/-- Connect a region to the source it selects. -/
def Gov.connect (g : Gov) (rg : Nat) : Gov :=
  let old := (g.rgn rg).out
  let new := g.source rg
  let g := (g.set (F.DRP_RGN_MUX_BUSY rg) 0).setRgn rg fun x => { x with out := new, goneAt := none }
  let g := match old with | .syn k => g.retarget k | _ => g
  match new with
  | .syn k => (if (g.rgn rg).strLast || (g.rgn rg).strPrev || g.episode rg then g.setSyn k fun x => { x with blocked := true } else g).retarget k
  | _ => g

/-- Select a source by its codes. -/
def Gov.selectSource (g : Gov) (rg sel alt : Nat) : Gov := (g.set (F.DRP_RGN_MUX_SEL rg) sel).set (F.DRP_RGN_MUX_ALT rg) alt

/-- Force a region to a source whose old one has stopped (R169): BUSY clears with the new clock. -/
def Gov.forceSource (g : Gov) (rg sel alt : Nat) : Gov :=
  let g := g.selectSource rg sel alt
  (if g.source rg = .off then g.closeEpisode rg else g).connect rg

/-- Begin a glitch-free switch; a switch to OFF closes an open episode at once (R158). -/
def Gov.beginSwitch (g : Gov) (rg sel alt : Nat) : Gov :=
  let g := ((g.selectSource rg sel alt).mark (F.DRP_RGN_MUX_BUSY rg)).setRgn rg fun x => { x with swAt := g.now }
  if g.source rg = .off then g.closeEpisode rg else g

/-- The new source of a switch is refused (R167). -/
def Gov.switchBad (g : Gov) (rg : Nat) (new : Source) : Bool :=
  g.flag (F.DRP_RGN_MUX_BUSY rg) || !g.sourcePresent (g.source rg) || !g.sourcePresent new ||
    (match new with | .syn k => !g.flag (F.FSYN_CTRL_EN k) || !g.synOn k || !g.flag (F.FSYN_STAT_LOCK k) | _ => false) || decide (g.fmax rg < g.sourceMhz new)

/-- REGION_SWITCH and REGION_FORCE: a write of DRP_RGN_MUX (R167, R169). In anchor mode every region stays where it is (R345; log entry 111). -/
def Gov.writeMux (g : Gov) (rg : Nat) (w : Word) : Verdict :=
  let off := W.DRP_RGN_MUX rg
  let sel := field w 0 2
  let alt := field w 4 4
  let new := sourceOf rg sel alt
  let bad := refuse (g.mark (F.DRP_RGN_MUX_REFUSED rg))
  let rest := fun (g : Gov) => (g.plain off (insertField (insertField (insertField w 0 2 (g.get (F.DRP_RGN_MUX_SEL rg))) 4 4 (g.get (F.DRP_RGN_MUX_ALT rg))) 24 1 0))
  if g.anchored ∧ new ≠ g.source rg then bad
  else if bit w.toNat 24 then
    if g.sourcePresent (g.rgn rg).out || !g.sourcePresent new then bad else accept ((rest g).forceSource rg sel alt)
  else if new = g.source rg then accept ((rest g).selectSource rg sel alt)
  else if g.switchBad rg new then bad
  else accept ((rest g).beginSwitch rg sel alt)

/-! ### Oscillator trim (R172, R173) -/

/-- The reference the trim uses, if its source is present: true for REFCLK, false for the marks. -/
def Gov.trimRef (g : Gov) : Option Bool :=
  let src := g.act F.DRP_OSC_TRIM_SRC
  let ref := g.flag F.DRP_CLKMON_REF_PRESENT
  let mark := g.flag F.DRP_CLKMON_MARK_PRESENT && (g.state == stRun || g.state == stIdle)
  if src = 1 then (if ref then some true else none)
  else if src = 2 then (if mark then some false else none)
  else if src = 3 then (if ref then some true else if mark then some false else none)
  else none

/-! ### Registers (R151, R156, R159, R161, R175, R420) -/

/-- FSYN_ENABLE: a write of FSYN_CTRL. -/
def Gov.writeFsynCtrl (g : Gov) (k : Nat) (w : Word) : Verdict :=
  let bad := refuse (g.mark (F.FSYN_STAT_REFUSED k))
  if bit w.toNat 0 then (if g.get (F.HLIM_FSYN_FUSE k) < 200 then bad else accept (g.shadow (W.FSYN_CTRL k) w))
  else if (List.range 16).any fun rg => g.source rg == .syn k || (g.rgn rg).out == .syn k then bad
  else accept (g.shadow (W.FSYN_CTRL k) w)

/-- DRP_CTRL_CLR (R175): every counter and every stretch time of the group. -/
def Gov.clearClocks (g : Gov) : Gov :=
  g.zeroWords (((List.range 16).flatMap fun k => [W.FSYN_CNT_COAST k, W.DRP_RGN_EPI k, W.DRP_RGN_STIME_LO k, W.DRP_RGN_STIME_HI k]) ++ (List.range 256).map W.DRP_DET_CNT)

/-- A write to the synthesizer and breakwater group. -/
def Gov.writeClocks (g : Gov) (off : Nat) (w : Word) : Verdict :=
  let bad := refuse (g.mark F.DRP_STATUS_REFUSED)
  if off < 0x28200 then
    let k := (off - 0x28000) / 0x20
    if off = W.FSYN_CTRL k then g.writeFsynCtrl k w
    else if off = W.FSYN_GLIDE k then
      if field w 0 8 = 0 ∨ field w 8 8 = 0 then refuse (g.mark (F.FSYN_STAT_REFUSED k)) else accept (g.shadow off w)
    else if off = W.FSYN_STAT k then accept (g.plain off w)
    else accept (g.shadow off w)
  else if off < 0x28400 then
    let k := (off - 0x28200) / 0x20
    if off = W.DRP_RGN_MUX k then g.writeMux k w
    else if off = W.DRP_RGN_FMAX k then
      if field w 0 16 < 200 ∨ g.get (F.HLIM_FSYN_MAX k) < field w 0 16 then bad else accept (g.shadow off w)
    else if off = W.DRP_RGN_STR k then
      let d0 := field w 0 4
      let dm := field w 4 4
      if d0 = 0 ∨ dm < d0 ∨ 12 < dm ∨ field w 16 8 = 0 then bad else accept (g.shadow off w)
    else accept (g.shadow off w)
  else if off < 0x28800 then
    if field w 0 6 < 4 ∨ 0x20 < field w 0 6 then bad else accept (g.shadow off w)
  else if off = W.DRP_CTRL then accept (if bit w.toNat 0 then g.clearClocks else g)
  else if off = W.DRP_STATUS then accept (g.plain off w)
  else accept (g.shadow off w)

end Sys2Proof.Machine
end

