-- ==== Sys2Proof/Machine/Limits.lean ====
section
/-! DEFINITION. The limit block: the package cap's setpoint, excursions and thermal step-down, steady mode, LC floors and BE shares; the bollard registers; and the limit registers (chapter 4). -/

namespace Sys2Proof.Machine

/-! ### The package cap (R108 to R111) -/

/-- The cap, the step-down and the floor of R108: cap_sus in 1/16 W. -/
def Gov.capSus (g : Gov) : Nat :=
  let cap := g.act F.LIM_PCAP_PCAP
  let capH := if g.lim.harbour then min cap (g.get F.LIM_HARBOUR_HP_PCAP) else cap
  min capH (max (g.act F.LIM_PCAP_MIN_PCAP_MIN) (capH - g.get F.LIM_TSD_STAT_K * g.act F.LIM_TSD_STEP_STEP))

/-- Package power as slot PCAP_SLOT's source names it. -/
def Gov.capPower (g : Gov) : Nat := g.packagePower (g.act (F.LS_FB_FB_PRI (g.act F.LIM_SLOTS_PCAP_SLOT)) % 4096)

/-- The limit block of R23 step 2 (R108, R109): the bucket is full where PCAP_EN has just come into force. -/
def Gov.limitBlock (g : Gov) : Gov :=
  let full := g.act F.LIM_EXC_EXC_MAX * 4
  if !g.actFlag F.LIM_CFG_PCAP_EN then
    let g := ((g.set F.LIM_EXC_STAT_CREDIT full).set F.LIM_EXC_STAT_GRANTED 0).set F.LIM_EXC_STAT_SPENT 0
    g.withLim { g.lim with rc := 0, capped := false }
  else
    let sus := g.capSus
    let ticks := g.ticks
    let credit := if g.lim.capped then g.get F.LIM_EXC_STAT_CREDIT else full
    let g : Gov := if sus < g.capPower then
        let c := if ticks < credit then credit - ticks else 0
        let g : Gov := (g.set F.LIM_EXC_STAT_CREDIT c).withLim { g.lim with rc := 0 }
        if c = 0 then g.mark F.LIM_EXC_STAT_SPENT else g
      else
        let rc := g.lim.rc + ticks
        let k := max 1 (g.act F.LIM_EXC_RECHG)
        let c := min full (credit + rc / k)
        let g : Gov := (g.set F.LIM_EXC_STAT_CREDIT c).withLim { g.lim with rc := rc % k }
        if c = full then g.set F.LIM_EXC_STAT_SPENT 0 else g
    let exc := g.actFlag F.LIM_CFG_EXC_EN && g.get F.LIM_TSD_STAT_K == 0 && decide (0 < g.get F.LIM_EXC_STAT_CREDIT) && !g.flag F.LIM_EXC_STAT_SPENT &&
      !g.flag F.LIM_STEADY_STAT_ACTIVE && !(g.lim.harbour && !g.flag F.LIM_HARBOUR_HP_EXC)
    let sp := if exc then g.act F.LIM_PCAP_PEXC else sus
    let g := g.set F.LIM_EXC_STAT_GRANTED (b2n exc)
    let be := if g.actFlag F.LIM_CFG_BE_EN then ((sp - g.act F.LIM_BE_BE_MARGIN : Nat) : Int) * 4096 else g.lim.beSp
    g.withLim { g.lim with pcapSp := (sp : Int) * 4096, beSp := be, capped := true }

/-- Thermal step-down at a completed sweep whose hottest present sensor reads t (R111). -/
def Gov.stepDown (g : Gov) (t : Int) : Gov :=
  let thr := g.sact F.LIM_TSD_THR_T_SD
  let k := g.get F.LIM_TSD_STAT_K
  if !g.actFlag F.LIM_CFG_TSD_EN then g.set F.LIM_TSD_STAT_K 0
  else if thr ≤ t then (if k < g.act F.LIM_TSD_STEP_KMAX then g.set F.LIM_TSD_STAT_K (k + 1) else g)
  else if t < thr - (g.act F.LIM_TSD_THR_T_HYS : Int) then g.set F.LIM_TSD_STAT_K (k - 1)
  else g

/-! ### Steady mode (R121, R122, R127) -/

/-- The entry a rail holds in steady mode: chosen once from FSTEADY (R121). -/
def Gov.steadyEntry (g : Gov) (r : Nat) : Nat :=
  (g.selectFor r ((g.railRegions r).map fun rg => if g.steadyRegion rg then g.act (F.LIM_FSTEADY_FSTEADY rg) else g.sourceTarget (g.source rg))).1

/-- End steady mode: entries are selected again. -/
def Gov.endSteady (g : Gov) : Gov :=
  (g.set F.LIM_STEADY_STAT_ACTIVE 0).each (List.range 8) fun g r => g.setRail r fun x => { x with steady := none }

/-- R23 step 1: a written STEADY takes effect, and the harbour policy ends steady mode unless it keeps it. -/
def Gov.steadyTick (g : Gov) : Gov :=
  let g := if g.lim.harbour && !g.flag F.LIM_HARBOUR_HP_STEADY then
      (g.set F.LIM_CFG_STEADY 0).withLim { g.lim with steadyReq := false } else g
  if !g.flag F.LIM_CFG_STEADY then (if g.flag F.LIM_STEADY_STAT_ACTIVE then g.endSteady else g)
  else if g.lim.steadyReq then
    let g := (g.mark F.LIM_STEADY_STAT_ACTIVE).withLim { g.lim with steadyReq := false }
    g.each (List.range 8) fun g r => if g.railOn r then (let e := g.steadyEntry r; g.setRail r fun x => { x with steady := some e }) else g
  else g

/-- The other rank-4 ceilings on every berth: the fault throttle and the quiesce ceiling, each with its KIND (R122, R284, R313). -/
def Gov.dieCeilings (g : Gov) : List (Nat × Nat) :=
  (if g.flag F.FLT_CTRL_THROTTLED then [(g.get F.FLT_THROTTLE_LEVEL, 6)] else []) ++ (match g.lim.quiesce with | some c => [(c, 7)] | none => [])

/-- The least of a berth's ceilings with the KIND of the one that lies strictly below that of R92. -/
def Gov.rank4 (g : Gov) (b : Nat) : Nat × Option Nat :=
  g.dieCeilings.foldl (fun a c => if c.1 < a.1 then (c.1, some c.2) else a) (g.get (F.BT_CEIL_CEIL b), none)

/-- R23 step 5: steady mode breaks at the first berth, then the first region, whose ceiling falls below its steady setting. -/
def Gov.steadyBreak (g : Gov) (idx : Nat) : Gov :=
  if !g.flag F.LIM_STEADY_STAT_ACTIVE then g
  else
    let low := g.berths.find? fun b => decide ((g.rank4 b).1 < g.act F.LIM_STEADY_ACT_STEADY_ACT)
    let slow := (List.range 16).find? fun rg => g.steadyRegion rg && decide (g.freqCeil rg < g.act (F.LIM_FSTEADY_FSTEADY rg))
    let word : Option Word := match low with
      | some b =>
        match (g.rank4 b).2 with
        | some kind => some (BitVec.ofNat 32 (0x400 + 2 * 2 ^ 11 + kind * 2 ^ 16 + g.sampleNo idx % 256 * 2 ^ 24))
        | none => some (g.word (W.BT_WIN b))
      | none => slow.map fun rg => g.word (W.ENG_WIN_REGION rg)
    match word with
    | some w => ((((g.endSteady).mark F.LIM_STEADY_STAT_BROKEN).setWord W.LIM_STEADY_WIN w).log g.now 5 [w.toNat]).mark F.GOV_IRQ_SRC_STEADY
    | none => g

/-! ### Floors and shares (R124, R127) -/

/-- At the tick of a sample: the present berths whose captured account is OPEN and latency-critical, with that account; none where the harbour policy takes the floors away (R127). An open or a close whose tick is this one has taken effect. -/
def Gov.lcBerths (g : Gov) : List (Nat × Nat) :=
  if g.lim.harbour && !g.flag F.LIM_HARBOUR_HP_FLOORS then []
  else
    let opens := g.led.opens.filter (·.due.isSome)
    let isOpen := fun (a : Nat) => opens.any (·.acct == a) || (g.get (F.ACC_STAT_STATE a) == 1 && !g.led.closes.any fun c => c.acct == a && c.due.isSome)
    let isBe := fun (a : Nat) => match opens.find? (·.acct == a) with
      | some o => o.cls != 0
      | none => g.flag (F.ACC_STAT_CLASS a)
    (g.berths.map fun b => (b, g.get (F.BT_ACCT_ACCT b))).filter fun p => isOpen p.2 && !isBe p.2

/-- The berth was of the latency-critical class at the tick of the sample whose step 6 is formed. -/
def Gov.isLc (g : Gov) (b : Nat) : Bool := g.led.lcWas.any (·.1 == b)

/-- The account that the berth's class came from. -/
def Gov.classAcct (g : Gov) (b : Nat) : Nat := ((g.led.lcWas.find? (·.1 == b)).map (·.2)).getD 0

/-- The output of the share slot as an activity ceiling. -/
def Gov.shareCeil (g : Gov) : Nat := g.outF (g.act F.LIM_SLOTS_BE_SLOT) * 4095 / 65536

/-- The rank-5 stage for a berth: its ceiling after the share, its floor, and its target from a base (R124). -/
def Gov.rank5 (g : Gov) (b base : Nat) : Nat × Nat × Nat :=
  let c := (g.rank4 b).1
  let lc := g.isLc b
  let c := if g.actFlag F.LIM_CFG_BE_EN && !lc then min c g.shareCeil else c
  let fl := if g.actFlag F.LIM_CFG_FLOOR_EN && lc then min (g.get (F.ACC_FLOOR_FLOOR_ACT (g.classAcct b))) c else 0
  (c, fl, min (max base fl) c)

/-! ### Registers (R109, R110, R118, R120, R121, R127, R128) -/

/-- STEADY may be set on written settings (R121). -/
def Gov.steadyOk (g : Gov) : Bool :=
  g.get F.LIM_STEADY_ACT_STEADY_ACT != 0 && (List.range 16).all fun rg => !g.steadyRegion rg || decide (g.get (F.LIM_FSTEADY_FSTEADY rg) ≤ g.get (F.DRP_RGN_FMAX_FMAX rg))

/-- PCAP_ENABLE and STEADY_ENABLE: a write of LIM_CFG. Written in a session after harbour mode it lifts the harbour policy (R127). -/
def Gov.writeLimCfg (g : Gov) (w : Word) : Verdict :=
  let pcap := bit w.toNat 0
  let be := bit w.toNat 3
  let sets := bit w.toNat 5 && !g.flag F.LIM_CFG_STEADY
  if pcap && !g.capSlotsOk (g.get F.LIM_SLOTS_PCAP_SLOT) (g.get F.LIM_SLOTS_BE_SLOT) be then refuse (g.mark F.LIM_STATUS_REFUSED)
  else if sets && !g.steadyOk then refuse (g.mark F.LIM_STATUS_REFUSED)
  else
    let g := g.shadow W.LIM_CFG w
    accept (g.withLim { g.lim with steadyReq := bit w.toNat 5 && (g.lim.steadyReq || sets), harbour := g.lim.harbour && g.flag F.SUP_STAT_HARBOUR })

/-- A write to the limit group. -/
def Gov.writeLimits (g : Gov) (off : Nat) (w : Word) : Verdict :=
  let bad := refuse (g.mark F.LIM_STATUS_REFUSED)
  let steady := g.flag F.LIM_STEADY_STAT_ACTIVE
  if off = W.LIM_CFG then g.writeLimCfg w
  else if off = W.LIM_PCAP then
    if 0x7080 < field w 0 16 ∨ 0x8980 < field w 16 16 ∨ field w 16 16 < field w 0 16 then bad else accept (g.shadow off w)
  else if off = W.LIM_EXC then
    if 2000 < field w 0 12 ∨ field w 16 8 = 0 then bad else accept (g.shadow off w)
  else if off = W.LIM_TSD_THR then
    if 0xA00 < field w 16 16 then bad else accept (g.shadow off w)
  else if off = W.LIM_PCAP_MIN then
    if g.get F.LIM_PCAP_PCAP < field w 0 16 then bad else accept (g.shadow off w)
  else if off = W.LIM_STEADY_ACT ∨ (W.LIM_FSTEADY 0 ≤ off ∧ off ≤ W.LIM_FSTEADY 7) then (if steady then bad else accept (g.shadow off w))
  else if off = W.LIM_STEADY_STAT ∨ off = W.LIM_STATUS then accept (g.plain off w)
  else if off = W.LIM_HARBOUR then accept ((g.noteLocked off).plain off w)
  else accept (g.shadow off w)

/-- HLIM_WRITE and HLIM_LOCK_WRITE: a write to the bollard group (R118). An accepted MAX acts at once. -/
def Gov.writeBollards (g : Gov) (off : Nat) (w : Word) : Verdict :=
  let bad := refuse (g.mark F.HLIM_CTRL_REFUSED)
  if g.locked off && off != W.HLIM_CTRL then accept (g.noteLocked off)
  else if off = W.HLIM_VCORE then
    if g.get F.HLIM_VCORE_FUSE < field w 16 12 then bad
    else
      let g := g.plain off w
      accept (if g.entryOk 0 (g.tgt 0) then g else g.setTarget 0 (g.topEntry 0))
  else if off = W.HLIM_OC then
    if g.get F.HLIM_OC_FUSE < field w 16 16 then bad else accept (g.plain off w)
  else if W.HLIM_FSYN 0 ≤ off ∧ off ≤ W.HLIM_FSYN 15 then
    let k := (off - W.HLIM_FSYN 0) / 4
    if g.get (F.HLIM_FSYN_FUSE k) < field w 16 16 then bad else accept (((g.plain off w).fastDown k).retarget k)
  else if off = W.HLIM_TSOFT then
    if 0x1F40 < toSigned 16 (field w 0 16) then bad else accept (g.plain off w)
  else accept (g.plain off w)

end Sys2Proof.Machine
end

