-- ==== Sys2Proof/Machine/Sensing.lean ====
section
/-! DEFINITION. Sensors, plausibility, berth model power, tide tables and margin trim (chapter 8). -/

namespace Sys2Proof.Machine

/-! ### Declaring a sensor broken (R219 to R221) -/

/-- The status word's BROKEN field of a sensor by class and index. The three swept or written classes share one block layout: thermal 0, path monitor 384, HBM 512. -/
def brokenFld (cls idx : Nat) : Fld :=
  if cls = 1 then F.SNS_T_VAL_BROKEN idx
  else if cls = 2 then F.SNS_H_VAL_BROKEN idx
  else if cls = 0xB then F.SNS_P_VAL_BROKEN idx
  else if cls = 4 then F.SNS_RS_STAT_BROKEN idx
  else if cls = 8 then F.SNS_PH_STAT_BROKEN idx
  else if cls = 9 then F.SNS_ACT_STAT_BROKEN idx
  else F.SNS_DET_STAT_BROKEN idx

/-- The SUBST field of a sensor, where its class has one. -/
def substFld (cls idx : Nat) : Option Fld :=
  if cls = 1 then some (F.SNS_T_VAL_SUBST idx)
  else if cls = 2 then some (F.SNS_H_VAL_SUBST idx)
  else if cls = 0xB then some (F.SNS_P_VAL_SUBST idx)
  else if cls = 8 then some (F.SNS_PH_STAT_SUBST idx)
  else none

/-- Reads go on showing a sensing word as it stood at the last step 2 (R216). -/
def Gov.keepShadow (g : Gov) (off : Nat) : Gov :=
  if g.sns.shadow.any fun p => p.1 == off then g else g.withSns { g.sns with shadow := Tab.ins off (g.word off) g.sns.shadow }

/-- The word that a read shows at a sensing offset: the shadow copy while one is kept (R216). -/
def Gov.shown (g : Gov) (off : Nat) : Word := Tab.get (fun o => g.word o) g.sns.shadow off

/-- Declare a sensor broken (R219); a phase leaves service (R221); a remote-sense pair holds INWIN clear (R220). -/
def Gov.declareBroken (g : Gov) (cls idx : Nat) : Gov :=
  if g.flag (brokenFld cls idx) then g
  else
    let g := g.mark (brokenFld cls idx)
    let g := match substFld cls idx with
      | some f => g.mark f
      | none => g
    let g := ((g.inc F.SNS_CNT_BROKEN_COUNT).raise 261 (cls * 4096 + idx)).log g.now 4 [cls * 4096 + idx]
    if cls = 8 then g.phaseFault idx else if cls = 4 then g.windowIs idx false else g

/-- A parity failure at the input latch (R214). -/
def Gov.sensorParity (g : Gov) (cls idx : Nat) : Gov := (g.inc F.SNS_CNT_PARITY_COUNT).raise 260 (cls * 4096 + idx)

/-! ### Swept sensors (R210, R211, R214, R217 to R219) -/

/-- What differs between the two swept classes: the class code, the first block and the number of sensors, what one unit of BAND and NB_OFS is worth, the range, and the fallback. -/
structure Swept where
  cls   : Nat
  base  : Nat
  count : Nat
  unit_ : Int
  lo    : Int
  hi    : Int
  fb    : Int
  deriving DecidableEq, Repr

/-- Thermal sensors: 1/64 °C, bands in 0.25 °C, −40 °C to 150 °C. -/
def Gov.thermalClass (g : Gov) : Swept := ⟨1, 0, 384, 16, -2560, 9600, g.fbTemp⟩

/-- Path monitors: taps, no fixed range. -/
def pathClass : Swept := ⟨0xB, 384, 128, 1, 0, 0xFFFF, 0⟩

/-- The neighbours a sensor lists. -/
def Gov.neighbours (g : Gov) (c : Swept) (i : Nat) : List Nat :=
  [g.act (F.SNS_T_NB_NB0 (c.base + i)), g.act (F.SNS_T_NB_NB1 (c.base + i)), g.act (F.SNS_T_NB_NB2 (c.base + i))].filter fun j => decide (j < c.count)

/-- Sensor i of a swept class is enabled and not broken. -/
def Gov.sensorUsed (g : Gov) (c : Swept) (i : Nat) : Bool := g.actFlag (F.SNS_T_CFG_EN (c.base + i)) && !g.flag (F.SNS_T_VAL_BROKEN (c.base + i))

/-- The value of a sensor in a list of conversions. -/
def sweepValue (vals : List (Nat × Int)) (i : Nat) : Option Int := (vals.find? fun p => p.1 == i).map (·.2)

/-- The model of a sensor: the floor of the mean of its usable neighbours plus NB_OFS; none where no neighbour is usable. -/
def Gov.neighbourModel (g : Gov) (c : Swept) (vals : List (Nat × Int)) (i : Nat) : Option Int :=
  let vs := (g.neighbours c i).filterMap fun j => if g.sensorUsed c j then sweepValue vals j else none
  if vs.isEmpty then none
  else some (Int.fdiv (vs.foldl (· + ·) 0) vs.length + g.sact (F.SNS_T_CFG_NB_OFS (c.base + i)) * c.unit_)

/-- Store a swept value, saturated to its class's width: signed temperatures, unsigned taps (R14, R233). -/
def Gov.present16 (g : Gov) (c : Swept) (f : Fld) (v : Int) : Gov := if c.cls = 1 then g.sset f v else g.set f (usatInt 16 v)

/-- Present a substitute: the model, or the fallback. -/
def Gov.substitute (g : Gov) (c : Swept) (k : Nat) (model : Option Int) : Gov :=
  ((g.present16 c (F.SNS_T_VAL_VAL k) (model.getD c.fb)).mark (F.SNS_T_VAL_SUBST k)).set (F.SNS_T_VAL_NA k) (b2n model.isNone)

/-- A stale update of a sensor with a status word (R214). -/
def Gov.staleUpdate (g : Gov) (stale cnt : Fld) : Gov := ((g.mark stale).inc cnt).inc F.SNS_CNT_STALE_COUNT

/-- RCNT after an update: out of band or not (R217). -/
def Gov.countBand (g : Gov) (rcnt : Fld) (out : Bool) : Gov := g.set rcnt (if out then min 16 (g.get rcnt + 1) else 0)

/-- One sensor's update in a sweep: its own value if it is fresh, and its model. -/
def Gov.sweepOne (g : Gov) (c : Swept) (i : Nat) (raw fresh model : Option Int) : Gov :=
  let k := c.base + i
  if !g.actFlag (F.SNS_T_CFG_EN k) then g.substitute c k model
  else if g.flag (F.SNS_T_VAL_BROKEN k) then
    let g := match raw with
      | some v => g.present16 c (F.SNS_T_RAW_RAW k) v
      | none => g
    g.substitute c k model
  else
    match fresh with
    | none => g.staleUpdate (F.SNS_T_VAL_STALE k) (F.SNS_T_VAL_STALE_CNT k)
    | some v =>
      let g := (g.set (F.SNS_T_VAL_STALE k) 0).set (F.SNS_T_VAL_STALE_CNT k) 0
      let g := ((g.present16 c (F.SNS_T_RAW_RAW k) v).present16 c (F.SNS_T_VAL_VAL k) v).set (F.SNS_T_VAL_SUBST k) 0
      let bad := decide (v < c.lo) || decide (c.hi < v)
      match model with
      | none =>
        let g := g.mark (F.SNS_T_VAL_NA k)
        if bad then g.countBand (F.SNS_T_VAL_RCNT k) true else g
      | some m =>
        let resid := v - m
        ((g.set (F.SNS_T_VAL_NA k) 0).sset (F.SNS_T_RAW_RESID k) resid).countBand (F.SNS_T_VAL_RCNT k) (bad || decide (((g.act (F.SNS_T_CFG_BAND k) : Int) * c.unit_) < resid.natAbs))

/-- Judge one sweep of a class: every sensor on the same values, then the declarations, each of which sets to 0 the RCNT of the sensors that list the broken one (R218). -/
def Gov.judgeSweep (g : Gov) (c : Swept) (vals : List (Nat × Int)) (bad : List Nat) : Gov :=
  let fresh := vals.filter fun p => !bad.contains (c.cls * 4096 + p.1)
  let g0 := g
  let g := g.each (List.range c.count) fun g i => g.sweepOne c i (sweepValue vals i) (sweepValue fresh i) (g0.neighbourModel c fresh i)
  let newly := (List.range c.count).filter fun i => g.sensorUsed c i && (g.get (F.SNS_T_VAL_STALE_CNT (c.base + i)) == 5 || g.get (F.SNS_T_VAL_RCNT (c.base + i)) == 16)
  let g := g.each newly fun g i => g.declareBroken c.cls i
  g.each ((List.range c.count).filter fun j => newly.any fun i => (g.neighbours c j).contains i) fun g j => g.set (F.SNS_T_VAL_RCNT (c.base + j)) 0

/-- The values presented now by the sensors of a class that are in use and not stale. -/
def Gov.presented (g : Gov) (c : Swept) : List (Nat × Int) :=
  ((List.range c.count).filter fun i => g.sensorUsed c i && !g.flag (F.SNS_T_VAL_STALE (c.base + i))).map fun i => (i, if c.cls = 1 then g.sget (F.SNS_T_VAL_VAL (c.base + i)) else (g.get (F.SNS_T_VAL_VAL (c.base + i)) : Int))

/-- A disabled sensor of a class presents its fallback (R224). -/
def Gov.settleAbsent (g : Gov) (c : Swept) : Gov :=
  let off := (List.range c.count).filter fun i => !g.actFlag (F.SNS_T_CFG_EN (c.base + i))
  if off.isEmpty then g else g.each off fun g' i => g'.substitute c (c.base + i) (g.neighbourModel c (g.presented c) i)

/-- The sensors whose latch fails parity in a sample: counted and raised. -/
def Gov.noteParity (g : Gov) (cls n : Nat) (used : Nat → Bool) (bad : List Nat) : Gov :=
  g.each ((List.range n).filter fun i => bad.contains (cls * 4096 + i) && used i) fun g i => g.sensorParity cls i

/-- A sweep that SLEEP made, or left unlatched: its fresh values are presented, and no count changes (R232). -/
def Gov.presentSweep (g : Gov) (c : Swept) (vals : List (Nat × Int)) (bad : List Nat) : Gov :=
  g.each (vals.filter fun p => g.sensorUsed c p.1 && !bad.contains (c.cls * 4096 + p.1)) fun g p =>
    (g.present16 c (F.SNS_T_RAW_RAW (c.base + p.1)) p.2).present16 c (F.SNS_T_VAL_VAL (c.base + p.1)) p.2

/-- R23 step 2 for a swept class: the sweeps published before the tick, in order (R210). -/
def Gov.latchSweep (g : Gov) (c : Swept) (sweeps : List SweepSt) (bad : List Nat) : Gov :=
  let g := g.noteParity c.cls c.count (g.sensorUsed c) bad
  let g := if sweeps.isEmpty then g.each ((List.range c.count).filter fun i => bad.contains (c.cls * 4096 + i) && g.sensorUsed c i) fun g i => g.mark (F.SNS_T_VAL_STALE (c.base + i))
    else g.each sweeps fun g x => if x.judged then g.judgeSweep c x.vals bad else g.presentSweep c x.vals bad
  g.settleAbsent c

/-- The sensor that a converter or group of n sensors, one in every m, calibrates in a sweep (R213); none in the sweeps between. -/
def Gov.calSensor (g : Gov) (unit_ sweep n : Nat) : Option Nat :=
  let every := max 1 (g.act F.SNS_CAL_CAL_SW)
  if g.actFlag F.SNS_CFG_CAL_EN ∧ (sweep + Config.calSweep unit_) % every = 0 then some ((sweep / every + Config.calFirst unit_) % n) else none

/-- Thermal sensor i gives its slot in a sweep to calibration: converter i mod 16 serves it (R209, R213). -/
def Gov.thermalCal (g : Gov) (sweep i : Nat) : Bool := g.calSensor (i % 16) sweep 24 == some (i / 16)

/-- Path monitor m gives its measurement in a sweep to calibration: group m / 16 holds it (R213; the grouping is DEDUCED: log entry 96). -/
def Gov.pathCal (g : Gov) (sweep m : Nat) : Bool := g.calSensor (16 + m / 16) sweep 16 == some (m % 16)

/-- The hottest enabled, unbroken sensor at the end of a sweep, those not converted at their last value; FB_TEMP where there is none. -/
def Gov.hottestNow (g : Gov) (vals : List (Nat × Int)) : Int :=
  hottest g.fbTemp (((List.range 384).filter g.tempCounts).map fun n => (sweepValue vals n).getD (g.sget (F.SNS_T_VAL_VAL n)))

/-- The soft-thermal bollard at a sweep: live values against TSOFT, while the source's bit is clear (R117, R419). -/
def Gov.softThermal (g : Gov) (vals : List (Nat × Int)) : Gov :=
  let lim := g.sget F.HLIM_TSOFT_TSOFT
  if g.flag (F.FLT_STATUS_bit 277) then g
  else
    match ((List.range 384).filter fun n => g.tempCounts n && decide (lim ≤ (sweepValue vals n).getD (lim - 1))) with
    | n :: _ => g.raise 277 n
    | [] => g

/-- The region that a path monitor measures, and its rail. -/
def Gov.pmRegion (g : Gov) (m : Nat) : Nat := g.act (F.SNS_P_CFG_RGN m)

def Gov.pmRail (g : Gov) (m : Nat) : Nat := g.act (F.SNS_P_CFG_RAIL m)

/-- A measured code against PM_FAIL, and the trim window's least code (R211, R230). -/
def Gov.pathCode (g : Gov) (m code : Nat) : Gov :=
  let fail := decide (code ≤ g.act F.SNS_PM_PM_FAIL)
  let g := g.keepShadow (W.SNS_P_VAL m)
  let g := if fail then (g.mark (F.SNS_P_VAL_FAIL m)).raise 262 m else g.set (F.SNS_P_VAL_FAIL m) 0
  if g.flag (F.SNS_P_VAL_BROKEN m) || g.actFlag (F.SNS_P_CFG_NOGRP m) then g
  else
    let r := g.pmRail m
    let g := g.upd (F.MT_PMMIN_PMMIN r) (min code)
    if fail then g.mark (F.MT_PMMIN_FAILSEEN r) else g

/-! ### Phase currents and remote sense (R213, R214, R217, R220, R221) -/

/-- The sensor of phase p is enabled, unbroken and assigned to a rail (R176). -/
def Gov.phaseUsed (g : Gov) (p : Nat) : Bool := g.actFlag (F.SNS_PH_CFG_EN p) && !g.flag (F.SNS_PH_STAT_BROKEN p) && g.flag (F.PH_CTRL_ASSIGNED p)

/-- The model of a phase: the floor of the mean of the rail's other active phases whose channels are enabled (R209, R224), none where there is none; 0 for an inactive phase. -/
def Gov.phaseModel (g : Gov) (p : Nat) : Option Int :=
  if !g.phaseOn p then some 0
  else
    let others := (g.activePhases (g.get (F.PH_CTRL_RAIL p))).filter fun q => q != p && g.actFlag (F.SNS_PH_CFG_EN q)
    if others.isEmpty then none else some (((others.foldl (fun a q => a + (g.ph q).cur) 0) / others.length : Nat) : Int)

/-- One phase at R23 step 2, judged on the values of `g0` (R218): stale where its most recent conversion is a calibration (the loop then has the previous live conversion, R215) or older than 200 ns, or fails parity (it has the last fresh value, R214). -/
def Gov.latchPhase (bad : List Nat) (g0 g : Gov) (p : Nat) : Gov :=
  if !g0.phaseUsed p then g
  else
    let x := g0.ph p
    let old := match x.convAt with
      | some a => decide (a + 200 < g0.now)
      | none => true
    let wrong := bad.contains (0x8000 + p)
    if x.cal || old || wrong then
      let g := if x.cal && !wrong then g.setPh p fun y => { y with fresh := y.cur } else g
      g.staleUpdate (F.SNS_PH_STAT_STALE p) (F.SNS_PH_STAT_STALE_CNT p)
    else
      let g := ((g.set (F.SNS_PH_STAT_STALE p) 0).set (F.SNS_PH_STAT_STALE_CNT p) 0).set (F.SNS_PH_STAT_SUBST p) 0
      let g := g.setPh p fun y => { y with fresh := y.cur }
      match g0.phaseModel p, g0.railOn (g0.get (F.PH_CTRL_RAIL p)) with
      | some m, true =>
        let resid := (x.cur : Int) - m
        (g.sset (F.SNS_PH_STAT_RESID p) resid).countBand (F.SNS_PH_STAT_RCNT p) (decide (g.act (F.SNS_PH_CFG_BAND p) < resid.natAbs))
      | _, _ => g

/-- What the latch presents of a remote-sense pair (R214, R219, R220): the model where it is broken, the last fresh value where the latch fails parity, else VOUT. -/
def Gov.presentSense (bad : List Nat) (g : Gov) (r : Nat) : Nat × Int × Bool :=
  let v := g.get (F.RAIL_TELE_VOUT r)
  if g.flag (F.SNS_RS_STAT_BROKEN r) then (r, g.senseModel r, true)
  else if bad.contains (0x4000 + r) then (r, ((Tab.get (fun _ => 0) g.sns.rsFresh r : Nat) : Int), true)
  else (r, (v : Int), false)

/-- One remote-sense pair at R23 step 2: judged while its rail is in state ON (R217). -/
def Gov.latchSense (bad : List Nat) (g : Gov) (r : Nat) : Gov :=
  if g.flag (F.SNS_RS_STAT_BROKEN r) then g
  else if bad.contains (0x4000 + r) then
    (g.withSns { g.sns with rsStale := Tab.upd (fun _ => 0) g.sns.rsStale r (· + 1) }).inc F.SNS_CNT_STALE_COUNT
  else
    let g := g.withSns { g.sns with rsStale := Tab.put (fun _ => 0) g.sns.rsStale r 0, rsFresh := Tab.put (fun _ => 0) g.sns.rsFresh r (g.get (F.RAIL_TELE_VOUT r)) }
    if g.rstate r = rOn then
      let code := (g.rail r).sense
      let resid := (g.get (F.RAIL_TELE_VOUT r) : Int) - g.senseModel r
      let out := code == 0 || code == 0x3FFF || decide (g.act (F.SNS_RS_CFG_BAND r) * 5 < resid.natAbs)
      (g.sset (F.SNS_RS_STAT_RESID r) resid).countBand (F.SNS_RS_STAT_RCNT r) out
    else g

/-- Phase currents and remote sense at R23 step 2: all judged on the same values, then the declarations (R218, R219). -/
def Gov.latchAnalogue (g : Gov) (bad : List Nat) : Gov :=
  let g := g.noteParity 8 64 g.phaseUsed bad
  let g := g.noteParity 4 8 (fun r => !g.flag (F.SNS_RS_STAT_BROKEN r)) bad
  let used := (List.range 64).filter g.phaseUsed
  let g := g.withSns { g.sns with rsLatch := (List.range 8).map (g.presentSense bad) }
  let g := (g.each (List.range 64) (Gov.latchPhase bad g)).each (List.range 8) (Gov.latchSense bad)
  let g := g.each (used.filter fun p => g.get (F.SNS_PH_STAT_STALE_CNT p) == 5 || g.get (F.SNS_PH_STAT_RCNT p) == 16) fun g p => g.declareBroken 8 p
  g.each ((List.range 8).filter fun r => !g.flag (F.SNS_RS_STAT_BROKEN r) && (Tab.get (fun _ => 0) g.sns.rsStale r == 5 || g.get (F.SNS_RS_STAT_RCNT r) == 16)) fun g r => g.declareBroken 4 r

/-! ### Berth activity (R39, R40, R214, R222) -/

/-- A berth's activity record. -/
def Gov.actSt (g : Gov) (b : Nat) : ActSt := Tab.get (fun _ => {}) g.sns.act b

def Gov.setAct (g : Gov) (b : Nat) (x : ActSt) : Gov := g.withSns { g.sns with act := Tab.put (fun _ => {}) g.sns.act b x }

/-- The activity of a count difference (R40); 0 where BT_PEAK_CNT is 0, which the fused berth table may hold and for which R40 states no result (DESIGN CHOICE: log entry 82). -/
def activityOf (delta peakCnt ticks : Nat) : Nat := if peakCnt * ticks = 0 then 0 else min 0xFFF (delta * 4095 / (peakCnt * ticks))

/-- The gate-violation count of a fresh reading (R222): 16 samples in a row above gavg plus the band. -/
def Gov.gateViolation (g : Gov) (b a : Nat) : Gov :=
  let before := g.get (F.SNS_ACT_STAT_RCNT b)
  let g := g.countBand (F.SNS_ACT_STAT_RCNT b) (decide (g.gavg b + 16 * g.act F.SNS_CFG_ACT_BAND < a))
  if before < 16 ∧ g.get (F.SNS_ACT_STAT_RCNT b) = 16 then (g.mark (F.SNS_ACT_STAT_GVIOL b)).raise 263 b else g

/-- The capture that a berth's reading uses at a tick (R39): none where the last one is 64 engine cycles old, as when the berth's region has had no clock for so long. -/
def Gov.captureOf (g : Gov) (captures : List Capture) (b : Nat) : Option Capture :=
  let idle := (g.rgn (g.regionOf b)).stopAt.any fun a => decide (160 ≤ 3 * (g.now - a))
  if idle then none else (captures.find? fun c => c.berth.val == b).filter fun c => decide (c.age.toNat < 64)

/-- A capture's 17 bits have odd parity (R36). -/
def captureOk (c : Capture) : Bool := b2n c.par == oddParity 16 c.gray.toNat

/-- One present berth at R23 steps 1 and 2 of a sample of a length in base ticks. A reading declared broken now shows the berth's gavg from its next update on (R219). -/
def Gov.latchActivity (captures : List Capture) (ticks : Nat) (g : Gov) (b : Nat) : Gov :=
  let x := g.actSt b
  let broken := g.flag (F.SNS_ACT_STAT_BROKEN b)
  let stale := fun (g : Gov) =>
    let g := g.setAct b { x with ref := none, delta := none }
    if broken then g
    else
      let g := g.staleUpdate (F.SNS_ACT_STAT_STALE b) (F.SNS_ACT_STAT_STALE_CNT b)
      if g.get (F.SNS_ACT_STAT_STALE_CNT b) = 5 then g.declareBroken 9 b else g
  let g := match g.captureOf captures b with
    | none => stale g
    | some c =>
      if !captureOk c then stale (g.sensorParity 9 b)
      else
        let n := grayToBin c.gray.toNat
        match x.ref with
        | none =>
          let g := g.setAct b { x with ref := some n, delta := none }
          if broken then g else (g.mark (F.SNS_ACT_STAT_STALE b)).set (F.SNS_ACT_STAT_STALE_CNT b) 0
        | some p =>
          let d := (n + 65536 - p) % 65536
          let a := activityOf d (g.act (F.BT_PEAK_CNT_PEAK_CNT b)) ticks
          let g := g.setAct b { x with ref := some n, delta := some d, fresh := a }
          if broken then g else (((g.set (F.SNS_ACT_STAT_STALE b) 0).set (F.SNS_ACT_STAT_STALE_CNT b) 0).gateViolation b a)
  let g := g.set (F.BT_ACT_GAVG b) (g.gavg b)
  g.set (F.BT_ACT_ACT b) (if broken then g.gavg b else (g.actSt b).fresh)

/-- Every berth: an absent one keeps nothing and reports activity 0 (R40, R384). -/
def Gov.latchBerths (g : Gov) (captures : List Capture) (ticks : Nat) : Gov :=
  let g := g.withSns { g.sns with act := g.sns.act.filter fun p => g.present p.1 }
  g.each g.berths (Gov.latchActivity captures ticks)

/-- A disabled HBM stack presents FB_TEMP (R224, R233). -/
def Gov.settleStacks (g : Gov) : Gov :=
  g.each ((List.range 16).filter fun k => !g.actFlag (F.SNS_H_CFG_EN k)) fun g k => (g.sset (F.SNS_H_VAL_VAL k) g.fbTemp).mark (F.SNS_H_VAL_SUBST k)

/-- R23 step 2: every sensor latched at this tick is checked and substituted, and reads show what it leaves (R216). A sweep published at the tick's own instant waits for the next sample (R210). -/
def Gov.plausibility (g : Gov) (inp : SampleIn) (ticks : Nat) : Gov :=
  let bad := inp.badSensors
  let ready := fun (x : SweepSt) => decide (x.time < g.now)
  let t := g.sns.tSweeps
  let p := g.sns.pSweeps
  let g := g.latchSweep g.thermalClass (t.filter ready) bad
  let g := g.latchSweep pathClass (p.filter ready) bad
  let g := g.withSns { g.sns with tSweeps := t.filter fun x => !ready x, pSweeps := p.filter fun x => !ready x }
  let g := ((g.latchAnalogue bad).settleStacks).latchBerths inp.captures ticks
  g.withSns { g.sns with shadow := [] }

/-! ### HBM stacks (R212, R217) -/

/-- A write of TEMP is an update at its completion. Loops and reads take it from the next step 2 on (R212, R216). -/
def Gov.hbmUpdate (g : Gov) (k : Nat) (temp : Int) : Gov :=
  let g := g.withSns { g.sns with hbmAt := Tab.put (fun _ => 0) g.sns.hbmAt k g.now }
  let g := ((g.keepShadow (W.SNS_H_VAL k)).keepShadow (W.SNS_H_RAW k)).sset (F.SNS_H_RAW_RAW k) temp
  if !g.actFlag (F.SNS_H_CFG_EN k) then g
  else if g.flag (F.SNS_H_VAL_BROKEN k) then (g.sset (F.SNS_H_VAL_VAL k) g.fbTemp).mark (F.SNS_H_VAL_SUBST k)
  else
    let g := (g.set (F.SNS_H_VAL_STALE k) 0).set (F.SNS_H_VAL_STALE_CNT k) 0
    let g := (g.sset (F.SNS_H_VAL_VAL k) temp).set (F.SNS_H_VAL_SUBST k) 0
    let out := decide (temp < -2560) || decide (9600 < temp)
    let g :=
      if g.actFlag (F.SNS_H_CFG_NOGRP k) then
        let g := g.mark (F.SNS_H_VAL_NA k)
        if out then g.countBand (F.SNS_H_VAL_RCNT k) true else g
      else
        let resid := temp - ((g.berthTemp (g.act (F.SNS_H_CFG_GRP k))).val + g.sact (F.SNS_H_CFG_NB_OFS k) * 16)
        ((g.set (F.SNS_H_VAL_NA k) 0).sset (F.SNS_H_RAW_RESID k) resid).countBand (F.SNS_H_VAL_RCNT k) (out || decide (g.act (F.SNS_H_CFG_BAND k) * 16 < resid.natAbs))
    if g.get (F.SNS_H_VAL_RCNT k) = 16 then g.declareBroken 2 k else g

/-- A TMO that passes without a write is one stale update of an enabled stack; a broken one presents FB_TEMP. -/
def Gov.hbmStale (g : Gov) (k : Nat) : Gov :=
  let g := g.keepShadow (W.SNS_H_VAL k)
  if !g.actFlag (F.SNS_H_CFG_EN k) then g
  else if g.flag (F.SNS_H_VAL_BROKEN k) then (g.sset (F.SNS_H_VAL_VAL k) g.fbTemp).mark (F.SNS_H_VAL_SUBST k)
  else
    let g := g.staleUpdate (F.SNS_H_VAL_STALE k) (F.SNS_H_VAL_STALE_CNT k)
    if g.get (F.SNS_H_VAL_STALE_CNT k) = 5 then g.declareBroken 2 k else g

/-! ### Model power (R225) -/

/-- The model power of a berth on the values latched now. -/
def Gov.modelOf (g : Gov) (b : Nat) : ModelPower :=
  let v : Int := ((g.get (F.RAIL_TELE_VOUT (g.railOf b)) * 65536 / 2000 : Nat) : Int)
  let fg : Int := ((g.sourceMhz (g.source (g.regionOf b)) * 65536 / 1000 : Nat) : Int)
  let a := (g.feed (0x9000 + b)).val
  let tq := (g.feed (0x3000 + b)).val
  let pd := (satMul (satMul (g.tbl (g.act (F.BT_MODEL_CEFF_TBL b)) a).val (satMul v v).val).val fg).val
  let pl := (satMul (g.tbl (g.act (F.BT_MODEL_LEAKV_TBL b)) v).val (g.tbl (g.act (F.BT_MODEL_LEAKT_TBL b)) tq).val).val
  ⟨b, usatInt 16 (asr (satAdd pd pl) 12), usatInt 16 (asr pl 12), pd⟩

/-- Publish what the last sample computed, and compute the powers of the present one. -/
def Gov.modelUnit (g : Gov) : Gov :=
  let bs := g.berths
  let g := g.each bs fun g b =>
    match g.sns.power.find? fun m => m.berth == b with
    | some m => (g.set (F.BT_POWER_PW b) m.pw).set (F.BT_POWER_PL b) m.pl
    | none => (g.set (F.BT_POWER_PW b) 0).set (F.BT_POWER_PL b) 0
  g.withSns { g.sns with power := (bs.filter fun b => g.actFlag (F.BT_MODEL_MODEL_EN b)).map g.modelOf }

/-! ### Tide tables (R226) -/

/-- The shadow breakpoints of a table. -/
def Gov.shadowPts (g : Gov) (k : Nat) : List (Int × Int) :=
  (List.range (g.get (F.TBL_HDR_NBP k))).map fun j => (g.sget (F.TBL_X_X k j), g.sget (F.TBL_Y_Y k j))

/-- A test on each pair of neighbouring breakpoints. -/
def allSeams (f : Int × Int → Int × Int → Bool) (pts : List (Int × Int)) : Bool := (pts.zip (pts.drop 1)).all fun p => f p.1 p.2

/-- The first failing check of R226, by its number. -/
def tableFault (nbp : Nat) (inc dec : Bool) (pts : List (Int × Int)) : Option Nat :=
  if nbp < 2 ∨ 33 < nbp then some 1
  else if !allSeams (fun p q => decide (p.1 < q.1)) pts || decide (0x7FFFFFFF < (pts.getLast?.getD (0, 0)).1 - (pts.head?.getD (0, 0)).1) then some 2
  else if !allSeams (fun p q => decide ((q.2 - p.2).natAbs ≤ 0x7FFFFFFF)) pts then some 3
  else if inc && dec then some 4
  else if (inc && !allSeams (fun p q => decide (p.2 ≤ q.2)) pts) || (dec && !allSeams (fun p q => decide (q.2 ≤ p.2)) pts) then some 5
  else none

/-- A checked table awaits the next sample. -/
def Gov.queueTable (g : Gov) (k : Nat) (l : TableLoad) : Gov :=
  g.withSns { g.sns with load := (g.sns.load.filter fun p => p.1 != k) ++ [(k, l)] }

/-- LOAD written with 1. -/
def Gov.loadTable (g : Gov) (k : Nat) : Verdict :=
  let pts := g.shadowPts k
  let inc := g.flag (F.TBL_HDR_INC k)
  let dec := g.flag (F.TBL_HDR_DEC k)
  match tableFault (g.get (F.TBL_HDR_NBP k)) inc dec pts with
  | some n => refuse ((g.mark (F.TBL_CTRL_REFUSED k)).set (F.TBL_CTRL_RSN k) n)
  | none => accept (g.queueTable k ⟨pts, inc, dec⟩)

/-- The CRC over active breakpoints (R236). -/
def tableCrc (pts : List (Int × Int)) : Nat := crcWords (pts.flatMap fun p => [ofSigned 32 p.1, ofSigned 32 p.2])

/-- R23 step 1: the tables loaded become active. -/
def Gov.activateTables (g : Gov) : Gov :=
  let l := g.sns.load
  let g := g.withSns { g.sns with load := [] }
  g.each l fun g p =>
    let k := p.1
    let g := g.withSns { g.sns with active := Tab.put (fun _ => []) g.sns.active k p.2.pts }
    let g := ((g.set (F.TBL_HDR_NBP_ACT k) p.2.pts.length).set (F.TBL_HDR_INC_ACT k) (b2n p.2.inc)).set (F.TBL_HDR_DEC_ACT k) (b2n p.2.dec)
    ((g.mark (F.TBL_HDR_VALID k)).setWord (W.TBL_CRC k) (BitVec.ofNat 32 (tableCrc p.2.pts))).fire (.tblActive k)

/-! ### Margin trim (R229 to R231) -/

/-- The spacing of trim steps: 86,400 s. -/
def trimSpacing : Nat := 86400000000000

/-- Begin a new window. -/
def Gov.restartWindow (g : Gov) (r : Nat) : Gov :=
  ((g.set64 (W.MT_LAST_LO r) g.now).set (F.MT_PMMIN_PMMIN r) 0xFFFF).set (F.MT_PMMIN_FAILSEEN r) 0

/-- The guard that a raise (1) or a lowering (2) would give. -/
def Gov.trimGuard (g : Gov) (r step : Nat) : Int := if step = 1 then (g.get (F.MT_GUARD_GUARD r) : Int) + 5 else (g.get (F.MT_GUARD_GUARD r) : Int) - 5

/-- A step is acceptable (R229). -/
def Gov.trimOk (g : Gov) (r step : Nat) : Bool :=
  let last := g.get64 (W.MT_LAST_LO r)
  let v := g.trimGuard r step
  g.actFlag (F.MT_CFG_EN r) && (!g.sns.stepped.contains r || decide (last + trimSpacing ≤ g.now)) &&
    (if step = 1 then decide (v ≤ (g.act (F.MT_CFG_GMAX r) : Int)) else decide ((g.get (F.MT_GUARD_FLOOR r) : Int) ≤ v))

/-- An accepted step begins a new window and counts as taken (R229). -/
def Gov.noteStep (g : Gov) (r : Nat) : Gov := (g.withSns { g.sns with stepped := r :: g.sns.stepped.filter (· != r) }).restartWindow r

/-- A step or restart requested through MT_REQ or TRIM_STEP. -/
def Gov.requestTrim (g : Gov) (r step : Nat) : Verdict :=
  if step = 0 then accept g
  else if step = 3 then accept (g.restartWindow r)
  else if g.flag F.LIM_STEADY_STAT_ACTIVE then
    accept ((g.withSns { g.sns with heldStep := Tab.put (fun _ => 0) g.sns.heldStep r step }).mark (F.MT_REQ_HELD r))
  else if g.trimOk r step then
    accept ((g.withSns { g.sns with guard := g.sns.guard ++ [(r, (g.trimGuard r step).toNat, 0)] }).noteStep r)
  else refuse (g.mark (F.MT_REQ_REFUSED r))

/-- A sample begins: the guards that wait for its step 6, or for the next one's, count it. -/
def Gov.trimTick (g : Gov) : Gov := g.withSns { g.sns with guard := g.sns.guard.map fun p => (p.1, p.2.1, p.2.2 + 1) }

/-- R23 step 6: the guards whose sample has come take effect. -/
def Gov.trimStep (g : Gov) : Gov :=
  let due := g.sns.guard.filter fun p => 2 ≤ p.2.2
  (g.withSns { g.sns with guard := g.sns.guard.filter fun p => p.2.2 < 2 }).each due fun g p => g.set (F.MT_GUARD_GUARD p.1) p.2.1

/-- The step that pilot C chooses for a rail at the end of its window (R230). -/
def Gov.trimChoice (g : Gov) (r : Nat) : Nat :=
  let pm := g.get (F.MT_PMMIN_PMMIN r)
  if pm < g.act (F.MT_THR_MT_LO r) then 1
  else if g.act (F.MT_THR_MT_HI r) ≤ pm ∧ ¬g.flag (F.MT_PMMIN_FAILSEEN r) then 2
  else 3

/-! ### Registers (R233 to R236) -/

/-- BROKEN cleared by a write (R224); a sensor that a memory error holds broken stays so. -/
def Gov.clearBroken (g : Gov) (cls idx : Nat) : Gov :=
  if cls = 1 ∨ cls = 2 ∨ cls = 0xB then
    let k := idx + (if cls = 1 then 0 else if cls = 0xB then 384 else 512)
    (g.set (F.SNS_T_VAL_RCNT k) 0).set (F.SNS_T_VAL_STALE_CNT k) 0
  else if cls = 8 then (g.set (F.SNS_PH_STAT_RCNT idx) 0).set (F.SNS_PH_STAT_STALE_CNT idx) 0
  else if cls = 9 then (g.set (F.SNS_ACT_STAT_RCNT idx) 0).set (F.SNS_ACT_STAT_STALE_CNT idx) 0
  else if cls = 4 then (g.withSns { g.sns with rsStale := Tab.put (fun _ => 0) g.sns.rsStale idx 0 }).set (F.SNS_RS_STAT_RCNT idx) 0
  else g

/-- A write of a sensor's status word. -/
def Gov.writeStatus (g : Gov) (off cls idx : Nat) (w : Word) : Gov :=
  let was := g.flag (brokenFld cls idx)
  let g := (g.keepShadow off).plain off w
  if was && !g.flag (brokenFld cls idx) then
    if g.sns.stuck.contains (cls * 4096 + idx) then g.mark (brokenFld cls idx) else g.clearBroken cls idx
  else g

/-- A write of a sensor's configuration releases it from a memory error (R320). -/
def Gov.writeSensorCfg (g : Gov) (off cls idx : Nat) (w : Word) : Gov :=
  let g := g.shadow off w
  if g.sns.stuck.contains (cls * 4096 + idx) then
    ((g.withSns { g.sns with stuck := g.sns.stuck.filter (· != cls * 4096 + idx) }).set (brokenFld cls idx) 0).clearBroken cls idx
  else g

/-- Class and index of a 16-byte sensor block by its number. -/
def blockSensor (k : Nat) : Nat × Nat := if k < 384 then (1, k) else if k < 512 then (0xB, k - 384) else (2, k - 512)

/-- SNS_CTRL_CLR. -/
def Gov.clearSensing (g : Gov) : Gov := g.clearAll [F.SNS_CNT_STALE_COUNT, F.SNS_CNT_BROKEN_COUNT, F.SNS_CNT_PARITY_COUNT]

/-- A write of a trim word of rail r. -/
def Gov.writeTrim (g : Gov) (r off : Nat) (w : Word) : Verdict :=
  if off = W.MT_REQ r then (g.plain off w).requestTrim r (field w 0 2)
  else if off = W.MT_RESTORE r then
    if g.sns.restored.contains r then accept g
    else if g.get (F.MT_GUARD_FLOOR r) ≤ field w 0 12 ∧ field w 0 12 ≤ g.act (F.MT_CFG_GMAX r) then
      accept ((g.plain off w).withSns { g.sns with guard := g.sns.guard ++ [(r, field w 0 12, 1)], restored := r :: g.sns.restored })
    else refuse (g.mark F.SNS_STATUS_REFUSED)
  else accept (g.shadow off w)

/-- A write to the sensing group. -/
def Gov.writeSensing (g : Gov) (off : Nat) (w : Word) : Verdict :=
  if off < 0x32100 then
    let k := (off - 0x30000) / 16
    let c := blockSensor k
    if off % 16 = 0 then accept (g.writeStatus off c.1 c.2 w)
    else if off % 16 = 4 then accept g
    else if off % 16 = 12 ∧ c.1 = 2 then accept ((g.writeSensorCfg off c.1 c.2 w).hbmUpdate c.2 (toSigned 16 (field w 0 16)))
    else accept (g.writeSensorCfg off c.1 c.2 w)
  else if off < 0x32300 then
    let p := (off - 0x32100) / 8
    accept (if off % 8 = 0 then g.writeStatus off 8 p w else g.writeSensorCfg off 8 p w)
  else if off < 0x32400 then
    let r := (off - 0x32300) / 16
    accept (if off % 16 = 0 then g.writeStatus off 4 r w else g.writeSensorCfg off 4 r w)
  else if off < 0x32800 then accept (g.writeStatus off 0xE ((off - 0x32400) / 4) w)
  else if off < 0x33000 then accept (g.writeStatus off 9 ((off - 0x32800) / 4) w)
  else if off = W.SNS_CAL then
    if field w 0 8 = 0 ∨ field w 16 16 = 0 then refuse (g.mark F.SNS_STATUS_REFUSED) else accept (g.shadow off w)
  else if off = W.SNS_CTRL then accept (if bit w.toNat 0 then g.clearSensing else g)
  else if off = W.SNS_STATUS then accept (g.plain off w)
  else if off = W.SNS_CFG ∨ off = W.SNS_PM then accept (g.shadow off w)
  else if 0x33100 ≤ off then g.writeTrim ((off - 0x33100) / 0x20) off w
  else accept g

/-- A write to a tide table's shadow, or LOAD. -/
def Gov.writeTable (g : Gov) (off : Nat) (w : Word) : Verdict :=
  let k := (off - 0x80000) / 0x200
  if off = W.TBL_CTRL k then
    let g := g.plain off w
    if bit w.toNat 0 then g.loadTable k else accept g
  else accept (g.plain off w)

end Sys2Proof.Machine
end

