-- ==== Sys2Proof/Machine/Ledger.lean ====
section
/-! DEFINITION. The manifest: rail energy, its division among berths and accounts, accounts, windows, statements and the ledger registers (chapter 9), with the silent-fault sums of R322. -/

namespace Sys2Proof.Machine

/-! ### binary32 (R250) -/

/-- The binary32 nearest to n / d times 2 to the e, ties to even. -/
def fround (n : Int) (d : Nat) (e : Int) : Flt :=
  if n = 0 then {}
  else
    let a := n.natAbs
    let k : Int := 26 - (Nat.log2 a : Int) + (Nat.log2 d : Int)
    let a' := a * 2 ^ k.toNat
    let d' := d * 2 ^ (-k).toNat
    let q := a' / d'
    let drop := Nat.log2 q - 23
    let rest := q % 2 ^ drop
    let half := 2 ^ (drop - 1)
    let m := q / 2 ^ drop
    let up := decide (half < rest) || (rest == half && (a' % d' != 0 || m % 2 == 1))
    let m := m + b2n up
    let carry := decide (m = 2 ^ 24)
    let m := if carry then 2 ^ 23 else m
    { m := if n < 0 then -(m : Int) else m, e := drop + b2n carry - k + e }

/-- Sums, products, differences and quotients. -/
def fadd (a b : Flt) : Flt :=
  let e := min a.e b.e
  fround (a.m * 2 ^ (a.e - e).toNat + b.m * 2 ^ (b.e - e).toNat) 1 e

def fmul (a b : Flt) : Flt := fround (a.m * b.m) 1 (a.e + b.e)

def fdivide (a b : Flt) : Flt := if b.m = 0 then {} else fround (a.m * (if b.m < 0 then -1 else 1)) b.m.natAbs (a.e - b.e)

def fofInt (x : Int) : Flt := fround x 1 0

def fneg (a : Flt) : Flt := { a with m := -a.m }

/-- The binary32 encoding of a value in the normal range. -/
def fbits (a : Flt) : Nat :=
  if a.m = 0 then 0
  else
    let p := Nat.log2 a.m.natAbs
    let frac := a.m.natAbs * 2 ^ (23 - p) - 2 ^ 23
    (if a.m < 0 then 2 ^ 31 else 0) + (a.e + p + 127).toNat * 2 ^ 23 + frac

/-! ### Window statistics (R247 to R250) -/

/-- Add one sample to a window's sums. -/
def WinAcc.add (w : WinAcc) (x : Int) : WinAcc :=
  let xf := fofInt x
  let x0 := if w.n = 0 then x else w.x0
  let d := x - x0
  { n := w.n + 1, x0 := x0, s := w.s + d, q := w.q + (d * d).natAbs, f1 := fadd w.f1 xf, f2 := fadd w.f2 (fmul xf xf) }

/-- SUM at close. -/
def WinAcc.sum (w : WinAcc) : Nat := (w.x0 * w.n + w.s).toNat

/-- MEAN, VAR and whether the variance was clamped, in the mode of SG1_MODE. -/
def WinAcc.stats (w : WinAcc) (sg1 : Bool) : Nat × Nat × Bool :=
  if w.n = 0 then (0, 0, false)
  else if sg1 then
    let nf := fofInt w.n
    let m := fdivide w.f1 nf
    let v := fadd (fdivide w.f2 nf) (fneg (fmul m m))
    if v.m < 0 then (fbits m, 0, true) else (fbits m, fbits v, false)
  else (w.sum * 65536 / w.n, usat 64 (((w.n * w.q : Nat) - w.s * w.s).toNat / (w.n * w.n)), false)

/-! ### Rail energy (R238) -/

/-- A base tick adds VOUT times IOUT to a rail's accumulator, in 1/64 nJ; a rail that is OFF adds 0. -/
def Gov.energyTick (g : Gov) (r : Nat) : Gov :=
  if g.rstate r = rOff then g
  else g.withLed { g.led with acc := Tab.upd (fun _ => 0) g.led.acc r (· + g.get (F.RAIL_TELE_VOUT r) * g.get (F.RAIL_TELE_IOUT r)) }

/-- The whole nanojoules of a rail. -/
def Gov.railEnergy (g : Gov) (r : Nat) : Nat := Tab.get (fun _ => 0) g.led.acc r / 64

/-- Take the whole nanojoules out of every accumulator. -/
def Gov.takeEnergy (g : Gov) : Gov := g.each (List.range 8) fun g r => g.withLed { g.led with acc := Tab.upd (fun _ => 0) g.led.acc r (· % 64) }

/-- Add to a 64-bit energy, setting its wrap flag (R256). -/
def Gov.addEnergy (g : Gov) (off v : Nat) (wrap : Fld) : Gov :=
  let x := g.get64 off + v
  let g := g.set64 off x
  if 2 ^ 64 ≤ x then g.mark wrap else g

/-- The rail counter and the unattributed counter of the rails. -/
def Gov.addRail (g : Gov) (r v : Nat) : Gov := g.addEnergy (W.LDG_RAIL_E r) v ⟨W.LDG_WRAP_RAIL, r, 1⟩

def Gov.addUnattrR (g : Gov) (v : Nat) : Gov := g.addEnergy W.LDG_UNATTR_R v ⟨W.LDG_WRAP_RAIL, 8, 1⟩

def Gov.addUnattrA (g : Gov) (v : Nat) : Gov := g.addEnergy W.LDG_UNATTR_A v ⟨W.LDG_WRAP_RAIL, 9, 1⟩

def Gov.addClosed (g : Gov) (v : Nat) : Gov := g.addEnergy W.LDG_CLOSED_E v ⟨W.LDG_WRAP_RAIL, 10, 1⟩

def Gov.addTotal (g : Gov) (v : Nat) : Gov := g.addEnergy W.LDG_ACCT_TOTAL v ⟨W.LDG_WRAP_RAIL, 11, 1⟩

def Gov.addBerth (g : Gov) (b v : Nat) : Gov := g.addEnergy (W.LDG_BERTH_E b) v ⟨W.LDG_WRAP_BERTH (b / 32), b % 32, 1⟩

/-- Count one sample for a cause: 0 SLEEP, 1 NOMODEL, 2 CLOSED, 3 VIOL (R242). -/
def Gov.cause (g : Gov) (k : Nat) : Gov := g.inc ⟨W.LDG_UNATTR_CAUSE k, 0, 32⟩

/-! ### Division (R240, R241) -/

/-- Divide a total by cumulative share; 0 to every part where the weights are all 0. -/
def divide (total : Nat) (parts : List (Nat × Nat)) : List (Nat × Nat) :=
  let w := parts.foldl (fun a p => a + p.2) 0
  (parts.foldl (fun (acc : Nat × Nat × List (Nat × Nat)) p =>
    let cum := acc.1 + p.2
    let upto := total * cum / w
    (cum, upto, acc.2.2 ++ [(p.1, upto - acc.2.1)])) (0, 0, [])).2.2

/-- Add to the entry of a key in a list kept in rising order of keys. -/
def tally (k v : Nat) : List (Nat × Nat) → List (Nat × Nat)
  | [] => [(k, v)]
  | (k', v') :: rest => if k < k' then (k, v) :: (k', v') :: rest else if k = k' then (k, v' + v) :: rest else (k', v') :: tally k v rest

/-- The toggles of a berth. -/
def Gov.tog (g : Gov) (b : Nat) : BerthTog := Tab.get (fun _ => {}) g.led.toggles b

def Gov.setTog (g : Gov) (b : Nat) (x : BerthTog) : Gov := g.withLed { g.led with toggles := Tab.put (fun _ => {}) g.led.toggles b x }

/-- The engine cycle of an instant of the sample that began at a tick (1.2 GHz). -/
def cycleOf (start at_ : Nat) : Nat := (at_ - start) * 6 / 5

/-- The account shares of a berth's count difference and residency over a sample: (c_a, h_a) by account. -/
def shares (start cycles c0 cEnd : Nat) (cur : Nat) (caps : List (Nat × Nat × Nat)) : List (Nat × Nat) × List (Nat × Nat) :=
  let r := caps.foldl (fun (acc : Nat × Nat × List (Nat × Nat) × List (Nat × Nat)) p =>
    let cyc := min cycles (cycleOf start p.2.2)
    (p.2.1, cyc, tally p.1 ((p.2.1 + 65536 - acc.1) % 65536) acc.2.2.1, tally p.1 (cyc - acc.2.1) acc.2.2.2)) (c0, 0, [], [])
  (tally cur ((cEnd + 65536 - r.1) % 65536) r.2.2.1, tally cur (cycles - r.2.1) r.2.2.2)

/-- What one berth is charged in a sample: its energy, its dynamic part, the parts by account (energy, leakage), and whether the sample is a violation. -/
structure BerthCharge where
  berth : Nat
  e     : Nat
  dyn   : Nat
  parts : List (Nat × Nat × Nat)
  held  : List Nat
  viol  : Bool
  deriving DecidableEq, Repr

/-- A berth's activity of the sample is usable for division: fresh and unbroken. -/
def Gov.actFresh (g : Gov) (b : Nat) : Bool :=
  (g.actSt b).delta.isSome && !g.flag (F.SNS_ACT_STAT_STALE b) && !g.flag (F.SNS_ACT_STAT_BROKEN b)

/-- The model power of a berth in a sample's powers; 0 for a berth without a model (R240). -/
def powerIn (models : List ModelPower) (b : Nat) : Nat := ((models.find? fun m => m.berth == b).map (·.pw)).getD 0

/-- Divide a berth's energy among accounts (R241, R242), by the model powers of the sample. -/
def Gov.chargeBerth (g : Gov) (models : List ModelPower) (start ticks b e : Nat) : BerthCharge :=
  let pw := powerIn models b
  let l := if pw = 0 then 0 else e * min (((models.find? fun m => m.berth == b).map (·.pl)).getD 0) pw / pw
  let d := e - l
  let x := g.tog b
  let n := (g.actSt b).ref.getD 0
  let c0 := (n + 65536 - (g.actSt b).delta.getD 0) % 65536
  let cur := g.get (F.BT_ACCT_ACCT b)
  let ch := shares start (ticks * 300) c0 n cur x.caps
  let byCount := g.actFresh b && decide (0 < ch.1.foldl (fun a p => a + p.2) 0)
  let dparts := divide d (if byCount then ch.1 else ch.2)
  let lparts := divide l ch.2
  let at_ := fun (ps : List (Nat × Nat)) a => ((ps.find? fun p => p.1 == a).map (·.2)).getD 0
  let accts := ch.2.map (·.1)
  { berth := b, e := e, dyn := d, parts := accts.map (fun a => (a, at_ dparts a + at_ lparts a, at_ lparts a)), held := accts, viol := x.viol }

/-! ### Accounts -/

/-- Account a is open in the sample that began at a tick. -/
def Gov.openIn (g : Gov) (start a : Nat) : Bool := g.get (F.ACC_STAT_STATE a) == 1 && decide (g.get64 (W.ACC_TSTART a) ≤ start)

/-- One account's part: charged, poisoned, or unattributed. -/
def Gov.chargePart (start : Nat) (g : Gov) (p : Nat × Nat × Nat) : Gov :=
  if g.openIn start p.1 then
    let g := g.addTotal p.2.1
    if g.flag (F.ACC_STAT_POISON p.1) then g
    else
      let g := if 2 ^ 64 ≤ g.get64 (W.ACC_ENERGY p.1) + p.2.1 then g.withLed { g.led with wrapped := p.1 :: g.led.wrapped.filter (· != p.1) } else g
      (g.addEnergy (W.ACC_ENERGY p.1) p.2.1 (F.ACC_STAT_WRAP p.1)).set64 (W.ACC_LEAK p.1) (g.get64 (W.ACC_LEAK p.1) + p.2.2)
  else g.addUnattrA p.2.1

/-- Energy on a berth that these accounts held went unattributed: the flag that software may clear, and the one that the account's statement carries. -/
def Gov.noteUnattr (g : Gov) (start : Nat) (held : List Nat) : Gov :=
  g.each (held.filter (g.openIn start)) fun g a => (g.mark (F.ACC_STAT_UNATTR_SEEN a)).withLed { g.led with unattr := a :: g.led.unattr.filter (· != a) }

/-- Commit one berth's charge. -/
def Gov.commitBerth (start : Nat) (g : Gov) (c : BerthCharge) : Gov :=
  let g := g.addBerth c.berth c.e
  if c.e = 0 then g
  else if c.viol then (g.addUnattrA c.e).noteUnattr start c.held
  else
    let shut := c.parts.any fun p => decide (0 < p.2.1) && !g.openIn start p.1
    let g := g.each c.parts (Gov.chargePart start)
    if shut then g.noteUnattr start c.held else g

/-- The charges of the berths present on a rail in the sample, by the model powers of that sample, and whether the rail had no model. -/
def Gov.chargeRail (g : Gov) (models : List ModelPower) (start ticks r : Nat) : List BerthCharge × Bool :=
  let bs := (g.led.owned.filter fun p => p.2 == r).map (·.1)
  let ws := bs.map fun b => (b, powerIn models b)
  let e := g.railEnergy r
  if ws.foldl (fun a p => a + p.2) 0 = 0 then ([], decide (0 < e)) else ((divide e ws).map fun p => g.chargeBerth models start ticks p.1 p.2, false)

/-! ### Silent faults (R322) -/

/-- Add a sample to the job step's sums. -/
def Gov.silentAdd (g : Gov) (cs : List BerthCharge) (models : List ModelPower) (ticks : Nat) : Gov :=
  if !g.flag F.FLT_SIL_CFG_EN then g
  else g.each (g.led.owned.map (·.1)) fun g b =>
    match models.find? fun m => m.berth == b with
    | some m =>
      if g.actFresh b then
        let d := ((cs.find? fun c => c.berth == b).map (·.dyn)).getD 0
        g.withLed { g.led with silE := Tab.upd (fun _ => 0) g.led.silE b (· + d), silM := Tab.upd (fun _ => 0) g.led.silM b (· + (asr (m.pd * (ticks * 250 : Nat)) 16).toNat) }
      else g
    | none => g

/-- Evaluate a closed job step for every present berth with a model. -/
def Gov.evaluateStep (g : Gov) : Gov :=
  let thr := g.get F.FLT_SIL_CFG_SIL_THR
  let bs := (g.led.owned.map (·.1)).filter fun b => g.actFlag (F.BT_MODEL_MODEL_EN b)
  let g := if g.flag F.FLT_SIL_CFG_EN then
      g.each bs fun g b =>
        let e := Tab.get (fun _ => 0) g.led.silE b
        let m := Tab.get (fun _ => 0) g.led.silM b
        if m < g.get F.FLT_SIL_MIN_SIL_MIN ∨ m = 0 then g
        else
          let far := decide (thr * m < ((e : Int) - m).natAbs * 1000)
          let was := g.get (F.FLT_SIL_CNT_CNT b)
          let now := if far then min (was + 1) 64 else if was = 64 ∧ g.flag (F.FLT_SUSPECT_bit b) then 64 else 0
          let g := (g.set (F.FLT_SIL_CNT_CNT b) now).set (F.FLT_SIL_CNT_RATIO b) (min 0xFFFF (e * 4096 / m))
          if now = 64 ∧ was < 64 then (g.mark (F.FLT_SUSPECT_bit b)).raise 294 b true else g
    else g
  g.withLed { g.led with silE := [], silM := [], stepDue := false }

/-! ### Windows (R247, R248) -/

/-- Add a sample to the window: the die, and every account open in it. -/
def Gov.windowAdd (g : Gov) (start total : Nat) (byAcct : List (Nat × Nat)) : Gov :=
  if !g.led.winOn then g
  else
    let g := g.withLed { g.led with die := g.led.die.add total }
    g.each ((List.range 256).filter fun a => g.openIn start a && !g.flag (F.ACC_STAT_POISON a)) fun g a =>
      let x := ((byAcct.find? fun p => p.1 == a).map (·.2)).getD 0
      g.withLed { g.led with accs := Tab.upd (fun _ => {}) g.led.accs a (·.add x) }

/-- Publish one account's window; one without a sample publishes 0 for each (R248). -/
def Gov.publishAcct (g : Gov) (a : Nat) : Gov :=
  let w := Tab.get (fun _ => {}) g.led.accs a
  let st := w.stats (g.flag F.LDG_CTRL_SG1_MODE)
  let g := ((g.set (F.ACC_WIN_N_N a) w.n).set64 (W.ACC_WIN_SUM a) w.sum)
  let g := (g.set64 (W.ACC_WIN_MEAN a) st.1).set64 (W.ACC_WIN_VAR a) st.2.1
  if st.2.2 then g.mark (F.ACC_STAT_VAR_NEG a) else g

/-- The window's length in base ticks for a sample of a number of base ticks. -/
def Gov.windowTicks (g : Gov) (ticks : Nat) : Nat := g.get F.LDG_WIN_LEN * ticks

/-- The die window is long enough for the collective: 1 ms (R287). -/
def Gov.longWindow (g : Gov) : Bool := decide (1000000 ≤ g.windowTicks g.ticks * 250)

/-- Publish the window's results and raise GOV_IRQ[2]; a window too short for the collective is skipped by every node of the ring (R287). -/
def Gov.publishWindow (g : Gov) (short : Bool) : Gov :=
  let st := g.led.die.stats (g.flag F.LDG_CTRL_SG1_MODE)
  let g := ((g.setWord W.LDG_DIE_WIN_N (BitVec.ofNat 32 g.led.die.n)).set64 W.LDG_DIE_WIN_MEAN st.1).set64 W.LDG_DIE_WIN_VAR st.2.1
  let g := (g.set64 W.LDG_DIE_WIN_SUM g.led.die.sum).setWord W.LDG_WIN_IDX (g.word W.LDG_WIN_IDX + 1)
  let g := (g.set64 W.LDG_WIN_START g.led.winFrom).set F.LDG_STATUS_SHORT (b2n short)
  let g := if st.2.2 then g.mark F.LDG_STATUS_VAR_NEG else g
  let accts := (List.range 256).filter fun a => !g.flag (F.ACC_STAT_POISON a) && (g.get (F.ACC_STAT_STATE a) == 1 || decide (0 < (Tab.get (fun _ => {}) g.led.accs a).n))
  let g := (g.each accts Gov.publishAcct).mark F.GOV_IRQ_SRC_WIN
  let d := g.led.die
  let nat := d.stats false
  let blk : Block := { start := g.led.winFrom, span := (g.idx + 2 ^ 48 - g.led.winFrom) % 2 ^ 48, n := d.n, contrib := 0, mean := nat.1, sum := d.sum, m2 := d.n * nat.2.1 }
  let g := if g.flag F.IDL_CFG_EN && !g.longWindow then g.mark F.IDL_COLL_STAT_SKIPPED else g
  (g.withLed { g.led with winOn := false, die := {}, accs := [] }).withHws { g.hws with win := some (blk, short), newWin := true }

/-- Close the window if it ends at the present tick, or ended while the engine was stopped: at a boundary under the present LEN since the tick before, a period change, a wrap, or a clearing of WIN_EN. SHORT shows an end of the last three kinds, and a window that began off a boundary (log entry 86). -/
def Gov.windowClose (g : Gov) (ticks : Nat) (newPeriod : Bool) : Gov :=
  let wt := g.windowTicks ticks
  let wrapped := decide (g.idx < g.led.winSeen)
  let boundary := g.idx / wt != g.led.winSeen / wt
  let cut := newPeriod || wrapped || g.led.winCut || !g.flag F.LDG_CTRL_WIN_EN
  let g := if g.led.winOn && (boundary || cut) then g.publishWindow (cut || g.led.winFrom % wt != 0) else g
  g.withLed { g.led with winSeen := g.idx, winCut := false }

/-- Begin a window at the present tick where WIN_EN is set and none runs. -/
def Gov.windowBegin (g : Gov) : Gov :=
  if g.flag F.LDG_CTRL_WIN_EN && !g.led.winOn then
    g.withLed { g.led with winOn := true, winFrom := g.idx, winSeen := g.idx, die := {}, accs := [] }
  else g

/-! ### The commit (R239, R242, R243) -/

/-- Energy that no sample covers: the engine was stopped, or had not yet run (R239). -/
def Gov.commitStopped (g : Gov) : Gov :=
  let total := (List.range 8).foldl (fun a r => a + g.railEnergy r) 0
  let g' := g.each (List.range 8) fun g r => (g.addRail r (g.railEnergy r)).addUnattrR (g.railEnergy r)
  let g' := if g.led.stopped || decide (0 < total) then g'.cause 0 else g'
  (g'.takeEnergy).withLed { g'.takeEnergy.led with stopped := false }

/-- The ledger commit of the sample that began at a tick and had a length in base ticks. -/
def Gov.commitSample (g : Gov) (start ticks : Nat) (models : List ModelPower) (badLedger : Bool) : Gov :=
  let es := (List.range 8).map g.railEnergy
  let total := es.foldl (· + ·) 0
  let g0 := g
  let g := g.each (List.range 8) fun g r => g.addRail r (g0.railEnergy r)
  if badLedger then
    let g := ((g.addUnattrR total).mark F.LDG_STATUS_CONS_ERR).raise 268 (start / 250 % 2 ^ 48 / 2 ^ 16)
    (g.takeEnergy).windowAdd start total []
  else
    let rails := (List.range 8).map (g0.chargeRail models start ticks)
    let cs := (rails.map (·.1)).flatten
    let g := g.each (List.range 8) fun g r => if (g0.chargeRail models start ticks r).1.isEmpty then g.addUnattrR (g0.railEnergy r) else g
    let g := if rails.any (·.2) then g.cause 1 else g
    let closed := cs.any fun c => !c.viol && c.parts.any fun p => decide (0 < p.2.1) && !g0.openIn start p.1
    let g := g.each cs (Gov.commitBerth start)
    let g := if closed then g.cause 2 else g
    let g := if cs.any fun c => c.viol && decide (0 < c.e) then g.cause 3 else g
    let byAcct := cs.foldl (fun acc c => if c.viol then acc else c.parts.foldl (fun acc p => tally p.1 p.2.1 acc) acc) []
    let g := g.silentAdd cs models ticks
    (g.takeEnergy).windowAdd start total byAcct

/-- What the sample's end leaves of the toggles: VIOL of the sample, and no captures. -/
def Gov.endToggles (g : Gov) : Gov :=
  let g := g.each (g.led.owned.map (·.1)) fun g b => g.set (F.BT_ACCT_VIOL b) (b2n (g.tog b).viol)
  g.each (g.led.toggles.map (·.1)) fun g b => g.setTog b { g.tog b with caps := [], viol := false }

/-- Harbour mode is in force at a sample of every open account's life. -/
def Gov.noteHarbour (g : Gov) : Gov :=
  if g.flag F.SUP_STAT_HARBOUR then
    g.each ((List.range 256).filter fun a => g.get (F.ACC_STAT_STATE a) == 1) fun g a => g.mark (F.ACC_STAT_HARBOUR a)
  else g

/-! ### Opening an account (R244) -/

/-- The words of an account block that an open sets to 0. -/
def blockWords (a : Nat) : List Nat := (List.range 23).map fun k => W.ACC_STAT a + 4 * k

/-- An open takes effect at a tick: the block starts afresh, the reply gives ACC_TSTART and the fence is signalled. -/
def Gov.openAccount (g : Gov) (o : OpenReq) (tick : Nat) : Gov :=
  let a := o.acct
  let g := g.zeroWords (blockWords a)
  let g := ((g.set (F.ACC_STAT_STATE a) 1).set (F.ACC_STAT_CLASS a) o.cls).set (F.ACC_FLOOR_FLOOR_ACT a) o.fact
  let g := ((g.set (F.ACC_FLOOR_FLOOR_PWR a) o.fpwr).writeWords (W.ACC_TAG a 0) o.tag).set64 (W.ACC_TSTART a) tick
  let g := g.withLed { g.led with opens := g.led.opens.filter (·.acct != a), accs := Tab.erase g.led.accs a, wrapped := g.led.wrapped.filter (· != a), unattr := g.led.unattr.filter (· != a), stmts := g.led.stmts.map fun (x : Stmt) => if x.acct = a then { x with shown := false } else x }
  let g := g.fire (.acctOpen a)
  match g.req o.chan with
  | some r => if r.phase = .serving ∧ pkOpcode r.words = 0x20 ∧ r.doom.isNone then g.post o.chan r.words stOk [tick % 2 ^ 32, tick / 2 ^ 32 % 2 ^ 32] else g
  | none => g

/-- Opens whose tick has come and that have not taken effect yet. -/
def Gov.settleOpens (g : Gov) : Gov :=
  g.each g.led.opens fun g o =>
    match o.due with
    | some tick => g.openAccount o tick
    | none => g

/-- The present instant is a sample tick, where a change accepted before it takes effect. -/
def Gov.onTick (g : Gov) : Bool := g.now % 250 == 0 && g.idx % g.ticks == 0

/-! ### Statements (R251 to R255) -/

/-- The number of queued and unsigned statements, shown in LDG_STMT. -/
def Gov.showStmts (g : Gov) : Gov :=
  (g.set F.LDG_STMT_QUEUED g.led.stmts.length).set F.LDG_STMT_UNSIGNED (g.led.stmts.countP fun x => x.sig.isNone)

/-- The lowest free slot of the statement queue. -/
def Gov.freeSlot (g : Gov) : Nat := ((List.range 256).find? fun k => g.led.stmts.all fun x => x.slot != k).getD 0

/-- DEVICE_ID, 16 bytes. -/
def Gov.deviceId (g : Gov) : List Byte := (List.range 4).flatMap fun k => leBytes 4 (g.word (W.GOV_DEVID k)).toNat

/-- FW_DIGEST, 48 bytes. -/
def Gov.fwDigest (g : Gov) : List Byte := (List.range 12).flatMap fun k => leBytes 4 (g.word (W.FWP_DIGEST k)).toNat

/-- Bytes 0x00 to 0x8F of the statement of an account at its close (R251), but for what its signing fills in: the epoch, EPOCH_UNSURE and the digest. -/
def Gov.stmtBody (g : Gov) (a : Nat) : List Byte :=
  let poison := g.flag (F.ACC_STAT_POISON a)
  let e := if poison then 2 ^ 64 - 1 else g.get64 (W.ACC_ENERGY a)
  let l := if poison then 2 ^ 64 - 1 else g.get64 (W.ACC_LEAK a)
  let flags := b2n poison + 2 * b2n (g.led.wrapped.contains a) + 8 * g.get (F.ACC_STAT_HARBOUR a) + 16 * b2n (g.led.unattr.contains a)
  [0x53, 0x47, 0x53, 0x54] ++ leBytes 2 1 ++ leBytes 2 0xF0 ++ g.deviceId ++ leBytes 4 g.led.seq ++ [0, 0, 0, 0] ++
  leBytes 1 a ++ leBytes 1 (g.get (F.ACC_STAT_CLASS a)) ++ leBytes 2 flags ++ leBytes 2 (g.get F.FWP_SVN_IMG_SVN) ++ leBytes 1 g.node ++ [0] ++
  ((List.range 4).flatMap fun k => leBytes 4 (g.word (W.ACC_TAG a k)).toNat) ++ leBytes 8 (g.get64 (W.ACC_TSTART a)) ++ leBytes 8 (g.get64 (W.ACC_TEND a)) ++
  leBytes 8 e ++ leBytes 8 l ++ leBytes 4 (g.word (W.ACC_SWITCH a)).toNat ++ List.replicate 52 0

/-- Queue the statement of an account at its close commit. -/
def Gov.queueStmt (g : Gov) (a : Nat) : Gov :=
  let slot := g.freeSlot
  let x : Stmt := { slot := slot, order := g.led.order, acct := a, shown := true, body := g.stmtBody a, sig := none, bad := false, lost := false }
  let g := g.withLed { g.led with stmts := g.led.stmts ++ [x], order := g.led.order + 1, seq := g.led.seq + 1 }
  ((g.set (F.ACC_STMT_SLOT a) slot).mark (F.ACC_STMT_QUEUED a)).showStmts

/-- Set bits of the FLAGS byte of a statement body, and its energies to all ones where they are poisoned. -/
def stmtFlags (body : List Byte) (bits_ : Nat) (ones : Bool) : List Byte :=
  let body := body.take 0x22 ++ [body.getD 0x22 0 ||| BitVec.ofNat 8 bits_] ++ body.drop 0x23
  if ones then body.take 0x48 ++ List.replicate 16 0xFF ++ body.drop 0x58 else body

/-- An update has restarted pilot B on the new image and is not yet done (R343). -/
def Gov.updatedB (g : Gov) : Bool := g.get F.FWP_UPD_USTATE == 3 && !g.firm.rolling.contains 1 && !g.firm.waiting.contains 1 && g.firm.cur != some 1

/-- The digest of the image that pilot B runs (R343): the recorded one, and once it is restarted in the update's order, the new one. -/
def Gov.digestB (g : Gov) : List Byte := if g.updatedB then leBytes 48 g.firm.next.digest else g.fwDigest

/-- What pilot B fills in when it signs (R251, R253, R343): the epoch of this boot, the flags, and the digest of its image. -/
def Gov.fillBody (g : Gov) (x : Stmt) : List Byte :=
  let body := stmtFlags x.body (b2n x.bad + 4 * g.get F.LDG_STATUS_EPOCH_BAD) x.bad
  body.take 0x1C ++ leBytes 4 (g.word W.LDG_EPOCH).toNat ++ (body.drop 0x20).take 0x40 ++ g.digestB

/-- The epoch advance fails: pilot B goes on from the last epoch the record held (R253). -/
def Gov.epochFails (g : Gov) (k : Persist) : Gov :=
  if g.led.epochUp || g.flag F.LDG_STATUS_EPOCH_BAD then g else (g.setWord W.LDG_EPOCH (BitVec.ofNat 32 k.epoch)).mark F.LDG_STATUS_EPOCH_BAD

/-- The key store can sign: a device key is fused and source 295 is clear. -/
def Gov.keyOk (g : Gov) : Bool := g.fuses.devKey != 0 && decide (g.fuses.devKey < n384) && !g.flag (F.FLT_STATUS_bit 295)

/-- Pilot B serves: it runs, and the engine domain's pilots are not stopped. -/
def Gov.pilotServes (g : Gov) (k : Nat) : Bool := g.up && g.running && g.pilotUp k && !g.asleep

/-- Release a statement from the queue (R254). -/
def Gov.releaseStmt (g : Gov) (slot : Nat) : Gov :=
  let g := g.each (g.led.stmts.filter fun (x : Stmt) => x.slot == slot && x.shown) fun g x => (g.set (F.ACC_STMT_QUEUED x.acct) 0).set (F.ACC_STMT_SIGNED x.acct) 0
  (g.withLed { g.led with stmts := g.led.stmts.filter fun (x : Stmt) => x.slot != slot }).showStmts

/-! ### Closing an account (R245, R255) -/

/-- What a close adds to LDG_CLOSED_E: the account's energy, or the balancing amount of a poisoned one. -/
def Gov.closingAmount (g : Gov) (a : Nat) : Nat :=
  if g.flag (F.ACC_STAT_POISON a) then
    let others := ((List.range 256).filter fun k => k != a && g.get (F.ACC_STAT_STATE k) == 1).foldl (fun x k => x + g.get64 (W.ACC_ENERGY k)) 0
    (((g.get64 W.LDG_ACCT_TOTAL : Int) - g.get64 W.LDG_CLOSED_E - others) % 2 ^ 64).toNat
  else g.get64 (W.ACC_ENERGY a)

/-- A 64-bit energy of an account as the register port shows it: all ones where the account is poisoned (R255). -/
def Gov.shownEnergy (g : Gov) (a off : Nat) : List Nat :=
  if g.flag (F.ACC_STAT_POISON a) then [0xFFFFFFFF, 0xFFFFFFFF] else [(g.word off).toNat, (g.word (off + 4)).toNat]

/-- The close commit. -/
def Gov.closeAccount (g : Gov) (c : CloseReq) (tick : Nat) : Gov :=
  let a := c.acct
  let g := (g.set64 (W.ACC_TEND a) tick).addClosed (g.closingAmount a)
  let g := (g.set (F.ACC_STAT_STATE a) 2).set (F.ACC_STAT_STMT_REQ a) (b2n c.stmt)
  let g := g.withLed { g.led with closes := g.led.closes.filter (·.acct != a) }
  let g := (if c.stmt then g.queueStmt a else g).purgeAcct a
  let g := g.fire (.acctClose a)
  match g.req c.chan with
  | some r =>
    if r.phase = .serving ∧ pkOpcode r.words = 0x21 ∧ r.doom.isNone then
      g.post c.chan r.words stOk (g.shownEnergy a (W.ACC_ENERGY a) ++ [tick % 2 ^ 32, tick / 2 ^ 32 % 2 ^ 32, if c.stmt then g.get (F.ACC_STMT_SLOT a) + 256 else 0])
    else g
  | none => g

/-- Closes whose last sample has been committed. -/
def Gov.settleCloses (g : Gov) : Gov :=
  g.each g.led.closes fun g c =>
    match c.due with
    | some tick => g.closeAccount c tick
    | none => g

/-- At a tick: the opens and closes accepted before it have found their tick, and a published STEP its last sample. -/
def Gov.markDue (g : Gov) : Gov :=
  g.withLed { g.led with
    opens := g.led.opens.map fun (o : OpenReq) => if o.due.isNone then { o with due := some g.now } else o,
    closes := g.led.closes.map fun (c : CloseReq) => if c.due.isNone then { c with due := some g.now } else c,
    stepDue := g.led.stepDue || g.led.stepNew, stepNew := false }

/-! ### Berth inputs (R41, R42, R246) -/

/-- The words of a switch record: TIME; berth, old and new account, violation, and whether each account is open; the index of the sample. -/
def Gov.switchWords (g : Gov) (b old new : Nat) (viol : Bool) : List Nat :=
  let isOpen := fun a => g.get (F.ACC_STAT_STATE a) == 1
  let start := g.led.tickAt.getD g.now
  [g.now % 2 ^ 32, g.now / 2 ^ 32 % 2 ^ 32, b + old * 2 ^ 8 + new * 2 ^ 16 + b2n viol * 2 ^ 24 + b2n (isOpen old) * 2 ^ 25 + b2n (isOpen new) * 2 ^ 26, start / 250 % 2 ^ 48 / g.ticks % 2 ^ 32]

/-- Put a record in the ring of 1,024. -/
def Gov.ringPut (g : Gov) (x : List Nat) : Gov := g.withLed { g.led with ring := Tab.put (fun _ => []) g.led.ring (g.led.written % 1024) x, written := g.led.written + 1 }

/-- Write a switch record; an overwritten one is counted, and the switch counts in an open account. -/
def Gov.switchRecord (g : Gov) (b old new : Nat) (viol : Bool) : Gov :=
  let n := g.led.written
  let was := g.get (F.ACC_STAT_STATE old)
  let is := g.get (F.ACC_STAT_STATE new)
  let g := (g.ringPut (g.switchWords b old new viol)).set F.LDG_SW_HEAD_HEAD ((n + 1) % 1024)
  let g := if 1024 ≤ n then g.inc F.LDG_SW_OVF_COUNT else g
  let g := if was = 1 then g.inc (F.ACC_SWITCH_COUNT old) else g
  if is = 1 then g.inc (F.ACC_SWITCH_COUNT new) else g

/-- The last toggle lies less than 20 ns back. -/
def BerthTog.near (x : BerthTog) (now : Nat) : Bool :=
  match x.lastAt with
  | some p => decide (now < p + 20)
  | none => false

/-! ### Registers (R258 to R260) -/

/-- The words that FREEZE holds: energies, windows and account blocks. -/
def frozenWord (off : Nat) : Bool :=
  (decide (0x40000 ≤ off) && decide (off < 0x48860)) || (decide (0x4886C ≤ off) && decide (off < 0x48878)) || (decide (0x488A0 ≤ off) && decide (off < 0x488C0))

/-- A commit is complete: the words that a FREEZE before the next one holds (R257). -/
def Gov.committed (g : Gov) : Gov := g.withLed { g.led with commit := g.regs.filter fun p => frozenWord p.1 }

/-- FREEZE_WRITE, WINDOW_ENABLE and WINDOW_DISABLE: a write of LDG_CTRL. -/
def Gov.writeLdgCtrl (g : Gov) (w : Word) : Verdict :=
  let freeze := bit w.toNat 0
  let en := bit w.toNat 1
  let was := g.flag F.LDG_CTRL_WIN_EN
  if (bit w.toNat 2 != g.flag F.LDG_CTRL_SG1_MODE && (was || en)) || (en && !was && g.flag F.IDL_STAT_ALIGN_PEND) then refuse (g.mark F.LDG_STATUS_REFUSED)
  else
    let hold := if !freeze then none else if g.flag F.LDG_CTRL_FREEZE then g.led.frozen else some g.led.commit
    let g := g.plain W.LDG_CTRL w
    accept (g.withLed { g.led with frozen := hold, winCut := g.led.winCut || (was && !en && g.led.winOn) })

/-- A write to the ledger group. -/
def Gov.writeLedger (g : Gov) (off : Nat) (w : Word) : Verdict :=
  if off = W.LDG_CTRL then g.writeLdgCtrl w
  else if off = W.LDG_WIN then
    if field w 0 24 = 0 then refuse (g.mark F.LDG_STATUS_REFUSED) else accept (g.plain off w)
  else accept (g.plain off w)

/-- What a read of a ledger word shows: the switch ring, frozen words, and the all-ones fields of a poisoned account. -/
def Gov.ledgerView (g : Gov) (off : Nat) : Word :=
  if 0x4C000 ≤ off then BitVec.ofNat 32 ((Tab.get (fun _ => []) g.led.ring ((off - 0x4C000) / 16)).getD ((off - 0x4C000) / 4 % 4) 0)
  else if off < 0x48000 ∧ g.flag (F.ACC_STAT_POISON ((off - 0x40000) / 0x80)) ∧ 0x28 ≤ off % 0x80 ∧ off % 0x80 < 0x58 ∧ off % 0x80 ≠ 0x38 then 0xFFFFFFFF
  else
    match g.led.frozen with
    | some ws => if frozenWord off then Tab.get (resetWord g.fuses) ws off else g.word off
    | none => g.word off

/-- A word as commands read it: that of the ledger group as the port shows it. -/
def Gov.readout (g : Gov) (off : Nat) : Nat := (if 0x40000 ≤ off ∧ off < 0x50000 then g.ledgerView off else g.word off).toNat

end Sys2Proof.Machine
end

