-- ==== Sys2Proof/Machine/LinkCode.lean ====
section
/-! DEFINITION. The Hawser frame on its two lanes: segments with their CRC, the 2,208 bytes, and the 8b/10b symbols (R264 to R266, R286). -/

namespace Sys2Proof.Machine

/-- A segment: its bytes and their CRC-32C, inverted in a segment that failed where it was received (R264). -/
def segment (bs : List Byte) (ok : Bool) : List Byte := bs ++ leBytes 4 (if ok then crc32c bs else crc32c bs ^^^ 0xFFFFFFFF)

/-- The header of a frame sent in a direction: 0 primary, 1 secondary (R265). -/
def headerBytes (fr : Frame) (dir : Nat) : List Byte :=
  segment (leBytes 4 fr.fctr ++ leBytes 8 fr.tmark ++ leBytes 4 fr.path ++ leBytes 1 fr.hop ++ leBytes 1 fr.nodes ++ leBytes 1 (dir + 128 * b2n fr.turned) ++ List.replicate 9 0) fr.hdrOk

/-- A slot (R266). -/
def slotBytes (x : Slot) (ok : Bool) : List Byte :=
  segment (leBytes 1 x.node ++ leBytes 1 x.flags ++ leBytes 2 x.job ++ leBytes 4 x.step ++ leBytes 2 x.prog ++ leBytes 2 x.base ++ leBytes 2 x.floor ++ leBytes 2 x.ceil ++ leBytes 2 x.cap ++
    leBytes 4 x.t1 ++ leBytes 4 x.t4 ++ leBytes 2 x.stop) ok

/-- A node's slot before the node has written it: VALID 0. -/
def emptySlot (n : Nat) : Slot := { node := n, flags := 0, job := 0, step := 0, prog := 0, base := 0, floor := 0, ceil := 0, cap := 0, t1 := 0, t4 := 0, stop := 0 }

/-- The empty block. -/
def noBlock : Block := { start := 0, span := 0, n := 0, contrib := 0, mean := 0, sum := 0, m2 := 0 }

/-- A block of the collective, its fields in the order of R286 from offset 0, START in eight bytes (DESIGN CHOICE: log entry 87). -/
def collectiveBytes (b : Option Block) : List Byte :=
  let x := b.getD noBlock
  segment (leBytes 8 x.start ++ leBytes 4 x.span ++ leBytes 4 x.n ++ leBytes 8 x.contrib ++ leBytes 8 x.mean ++ leBytes 8 x.sum ++ leBytes 16 x.m2 ++ List.replicate 4 0) b.isSome

/-- The bytes of a frame sent in a direction: header, 64 slots, running block, result block (R264). -/
def frameBytes (fr : Frame) (dir : Nat) : List Byte :=
  headerBytes fr dir ++ ((List.range 64).flatMap fun n => slotBytes ((fr.slots.find? fun x => x.node == n).getD (emptySlot n)) (!fr.badSlots.contains n)) ++ collectiveBytes fr.run ++ collectiveBytes fr.result

/-- An 8b/10b symbol: a control character or data. -/
inductive Symbol where
  | control (code : Byte)
  | data (b : Byte)
  deriving DecidableEq, Repr

/-- The symbols of a lane for a frame: K28.5 and K27.7, the bytes of even number on lane 0 and of odd number on lane 1, K29.7 (R264). -/
def frameLane (fr : Frame) (dir n : Nat) : List Symbol :=
  let bs := frameBytes fr dir
  [.control 0xBC, .control 0xFB] ++ (((List.range (bs.length / 2)).map fun k => Symbol.data (bs.getD (2 * k + n) 0)) ++ [.control 0xFD])

/-- Slots for nodes at or above NODES are sent with VALID 0 (R264). -/
def trimSlots (nodes : Nat) (xs : List Slot) : List Slot := xs.map fun x => if nodes ≤ x.node then { x with flags := x.flags / 2 * 2 } else x

end Sys2Proof.Machine
end

