-- ==== Sys2Proof/Machine/Trace.lean ====
section
/-! DEFINITION. Trace buffers, the watch unit and the cut dump (chapter 16). -/

namespace Sys2Proof.Machine

/-! ### Buffers (R388 to R391) -/

/-- The records a buffer holds. -/
def traceDepth : Nat := 4096

/-- A buffer's record, and its update with LEVEL and FULL. -/
def Gov.buf (g : Gov) (n : Nat) : TraceBuf := Tab.get (fun _ => {}) g.trc.bufs n

def Gov.setBuf (g : Gov) (n : Nat) (b : TraceBuf) : Gov :=
  let g := g.withTrc { g.trc with bufs := Tab.put (fun _ => {}) g.trc.bufs n b }
  g.set (F.TRC_STAT_LEVEL n) b.recs.length

/-- Write one record to a buffer, which stops or wraps when it is full (R389, R391). -/
def Gov.record (g : Gov) (n : Nat) (stop : Bool) (idx kind index v0 v1 : Nat) : Gov :=
  let b := g.buf n
  let rec_ := [idx % 2 ^ 32, idx / 2 ^ 32 % 2 ^ 16 + kind * 2 ^ 16 + b2n b.lost * 2 ^ 20 + index * 2 ^ 22, v0 % 2 ^ 32, v1 % 2 ^ 32]
  if b.recs.length < traceDepth then g.setBuf n { b with recs := b.recs ++ [rec_], lost := false }
  else if stop then g.mark (F.TRC_STAT_FULL n)
  else
    let g := g.inc (F.TRC_LOST_COUNT n)
    if 0 < b.word then g.setBuf n { b with lost := true }
    else
      let rec_ := [rec_.getD 0 0, rec_.getD 1 0 ||| 2 ^ 20, rec_.getD 2 0, rec_.getD 3 0]
      g.setBuf n { b with recs := b.recs.drop 1 ++ [rec_], lost := false }

/-- The number of indices of a KIND. -/
def kindRange (kind : Nat) : Nat :=
  if kind = 1 ∨ kind = 6 then 1024 else if kind = 2 then 256 else if kind = 3 then 25 else if kind = 4 then 8 else if kind = 5 then 384 else 0

/-- VAL0 and VAL1 of an index of a KIND; a sensor's are those of the shadow copies of R216 (R390). -/
def Gov.traceValues (g : Gov) (kind i : Nat) : Nat × Nat :=
  let shown := fun (f : Fld) => field (g.shown f.off) f.lo f.w
  if kind = 1 then (g.get (F.LS_OUT_OUT i), (g.word (W.LS_STAT i)).toNat % 32)
  else if kind = 2 then ((g.word (W.BT_WIN i)).toNat, g.get (F.BT_GATE_GATE i) + g.get (F.BT_GATE_TARGET i) * 2 ^ 16)
  else if kind = 3 then
    if i = 0 then ((g.word W.ENG_WIN_DIE).toNat, g.eng.dieF)
    else if i < 9 then ((g.word (W.ENG_WIN_RAIL (i - 1))).toNat, g.railF (i - 1))
    else ((g.word (W.ENG_WIN_REGION (i - 9))).toNat, g.regionF (i - 9))
  else if kind = 4 then ((g.word (W.RAIL_VCMD i)).toNat, g.get (F.RAIL_TELE_VOUT i) + g.get (F.RAIL_TELE_IOUT i) * 2 ^ 16)
  else (shown (F.SNS_T_VAL_VAL i) + shown (F.SNS_T_RAW_RESID i) * 2 ^ 16, shown (F.SNS_T_VAL_STALE i) + 2 * shown (F.SNS_T_VAL_SUBST i) + 4 * shown (F.SNS_T_VAL_BROKEN i))

/-- A field of a latched trace configuration word. -/
def cfgField (cfg : List Nat) (n : Nat) (f : Nat → Fld) : Nat := cfg.getD n 0 / 2 ^ (f n).lo % 2 ^ (f n).w

/-- The trace configuration in force (R399). -/
def Gov.traceCfg (g : Gov) : List Nat := (List.range 4).map fun n => (g.word (W.TRC_CFG n)).toNat

/-- The thermal sensors that the present sample traces, with the values its records hold; the shadow copies of R216 are those of its step 2 until the next tick (R390). -/
def Gov.tracedSensors (g : Gov) : List (Nat × Nat × Nat) :=
  let cfg := g.trc.cfg
  let on := (List.range 4).filter fun n => cfgField cfg n F.TRC_CFG_EN == 1 && cfgField cfg n F.TRC_CFG_KIND == 5
  (on.flatMap fun n => (List.range (cfgField cfg n F.TRC_CFG_COUNT)).map fun j => cfgField cfg n F.TRC_CFG_FIRST + j).eraseDups.map fun i => (i, g.traceValues 5 i)

/-- R23 step 7: the records of the sample with an index, under the configuration of that sample and with the sensor values it held (R390, R399). -/
def Gov.traceSample (g : Gov) (idx : Nat) (cfg : List Nat) (sensed : List (Nat × Nat × Nat)) : Gov :=
  g.each (List.range 4) fun g n =>
    let kind := cfgField cfg n F.TRC_CFG_KIND
    if cfgField cfg n F.TRC_CFG_EN = 1 ∧ kind ≠ 6 ∧ g.sampleNo idx % 2 ^ cfgField cfg n F.TRC_CFG_DECIM = 0 then
      g.each (List.range (cfgField cfg n F.TRC_CFG_COUNT)) fun g j =>
        let i := cfgField cfg n F.TRC_CFG_FIRST + j
        let v := if kind = 5 then Tab.get (g.traceValues 5) sensed i else g.traceValues kind i
        g.record n (cfgField cfg n F.TRC_CFG_MODE == 1) idx kind i v.1 v.2
    else g

/-- A read of a drain aperture: the next word of the oldest record, and the buffer after it. -/
def Gov.drain (g : Gov) (n : Nat) : Word × Gov :=
  let b := g.buf n
  match b.recs with
  | [] => (0, g)
  | r :: rest =>
    let v := BitVec.ofNat 32 (r.getD b.word 0)
    if b.word = 3 then (v, (g.setBuf n { b with recs := rest, word := 0 }).set (F.TRC_STAT_FULL n) 0)
    else (v, g.setBuf n { b with word := b.word + 1 })

/-- TRC_CTRL_CLR. -/
def Gov.clearTrace (g : Gov) : Gov :=
  g.each (List.range 4) fun g n => ((g.setBuf n {}).set (F.TRC_STAT_FULL n) 0).set (F.TRC_LOST_COUNT n) 0

/-! ### Watch (R392, R393) -/

/-- The value of a watched variable; a working register that the execution did not write, or one of the ROM law 1, is free. -/
def Gov.watchValue (g : Gov) (h : WatchHit) (var : Nat) : Nat × Gov :=
  if var = 0x18 then (ofSigned 48 h.out, g)
  else if var = 0x19 then (ofSigned 48 h.s0, g)
  else if var = 0x1A then (ofSigned 48 h.s1, g)
  else
    match h.res with
    | none => (0, g)
    | some r =>
      if var < 8 ∧ (!bit r.wrote var || r.law == 1) then
        let (i, g) := g.draw
        ((Config.workReg i).toNat, g)
      else (ofSigned 48 (r.inp.operand r.w 0 var), g)

/-- Store an S48 at a pair of words. -/
def Gov.set48 (g : Gov) (off v : Nat) : Gov := g.set64 off (v % 2 ^ 48)

/-- Dump working register k of an execution: 0 where unwritten; free where the law is the ROM law 1. -/
def Gov.dumpReg (r : LoopRes) (g : Gov) (k : Nat) : Gov :=
  if r.law = 1 then
    let (i, g) := g.draw
    g.set48 (W.TRC_DUMP_W k) (if bit r.wrote k then (Config.workReg i).toNat else 0)
  else g.set48 (W.TRC_DUMP_W k) (if bit r.wrote k then ofSigned 48 (r.w.getD k 0) else 0)

/-- Copy the slot into the dump. -/
def Gov.dumpSlot (g : Gov) (h : WatchHit) (r : LoopRes) : Gov :=
  let g := g.each (List.range 8) (Gov.dumpReg r)
  let flags := b2n r.lt + 2 * b2n r.eq + 4 * b2n r.gt + 8 * b2n r.satf + 16 * b2n r.inp.lost
  let g := g.writeWords (W.TRC_DUMP_IN 0) ([r.inp.y, r.inp.z, r.inp.cprev, r.inp.uprev, r.inp.s1].map (ofSigned 32) ++ [flags])
  let g := (g.set48 W.TRC_DUMP_S0IN (ofSigned 48 r.inp.s0)).setWord W.TRC_DUMP_OUT (BitVec.ofNat 32 (ofSigned 32 h.out))
  (g.setWord W.TRC_DUMP_S1 (BitVec.ofNat 32 (ofSigned 32 h.s1))).set48 W.TRC_DUMP_S0 (ofSigned 48 h.s0)

/-- Disarm the watch. -/
def Gov.disarm (g : Gov) : Gov := (g.set F.TRC_WATCH_STAT_ARMED 0).withTrc { g.trc with relNew := false, target := none, stream := false }

/-- Show a capture in the registers. -/
def Gov.showHit (g : Gov) (h : WatchHit) : Gov :=
  let g := g.withTrc { g.trc with hit := none }
  if h.missed then (g.mark F.TRC_WATCH_STAT_MISSED).disarm
  else
    match h.res with
    | none => (g.mark F.TRC_WATCH_STAT_ABANDONED).disarm
    | some r =>
      let (v, g) := g.watchValue h (g.get F.TRC_WATCH_CFG_VAR)
      let g := (g.set48 W.TRC_WATCH_VAL v).dumpSlot h r
      let g := ((g.set48 W.TRC_WATCH_HIT h.idx).set F.TRC_WATCH_STAT_WRITTEN r.wrote).mark F.TRC_WATCH_STAT_DONE
      if g.flag F.TRC_WATCH_CFG_STREAM then g.withTrc { g.trc with target := none, stream := true } else g.disarm

/-- What the watched slot's execution of a sample was, once the sample's loops have closed. -/
def Gov.takeHit (g : Gov) (idx : Nat) (ran : List LoopRes) (abandoned : List Nat) : WatchHit :=
  let k := g.get F.TRC_WATCH_CFG_SLOT
  let res := ran.find? fun r => r.slot == k
  let lost := abandoned.contains k || g.slotHeld k
  { idx := idx, slot := k, missed := res.isNone && !g.slotHeld k, abandoned := lost, res := if lost then none else res, s0 := g.s0 k, s1 := g.sget (F.LS_S1_S1 k), out := g.sget (F.LS_OUT_OUT k) }

/-- R23 step 7 of a sample for the watch: the capture at the named sample, and the stream from it on, under the configuration of that sample. -/
def Gov.watchSample (g : Gov) (idx : Nat) (cfg : List Nat) (ran : List LoopRes) (abandoned : List Nat) : Gov :=
  let h := g.takeHit idx ran abandoned
  let named := g.trc.target == some (g.sampleNo idx % 2 ^ 32)
  let g := if named then g.withTrc { g.trc with hit := some h } else g
  let streams := g.flag F.TRC_WATCH_CFG_STREAM && h.res.isSome && (named || g.trc.stream)
  let n := g.get F.TRC_WATCH_CFG_WBUF
  if streams ∧ cfgField cfg n F.TRC_CFG_EN = 1 then
    let (v, g) := g.watchValue h (g.get F.TRC_WATCH_CFG_VAR)
    g.record n (cfgField cfg n F.TRC_CFG_MODE == 1) idx 6 h.slot (v % 2 ^ 32) (v / 2 ^ 32)
  else g

/-- The sample that begins at an index is the first after a relative watch's write. -/
def Gov.watchBegin (g : Gov) (idx : Nat) : Gov :=
  if g.trc.relNew then g.withTrc { g.trc with relNew := false, target := some ((g.sampleNo idx + (g.word W.TRC_WATCH_SNUM).toNat) % 2 ^ 32) } else g

/-- A code that a watch may name. -/
def watchVar (v : Nat) : Bool := decide (v ≤ 0x14) || v == 0x18 || v == 0x19 || v == 0x1A

/-- WATCH_ARM: a write of TRC_WATCH_CFG. -/
def Gov.writeWatch (g : Gov) (w : Word) : Verdict :=
  if !watchVar (field w 10 6) then refuse (g.mark F.TRC_CTRL_REFUSED)
  else
    let g := (g.plain W.TRC_WATCH_CFG w).disarm
    let g := g.withTrc { g.trc with hit := none }
    if bit w.toNat 16 then
      let rel := bit w.toNat 17
      accept ((g.mark F.TRC_WATCH_STAT_ARMED).withTrc { g.trc with relNew := rel, target := if rel then none else some (g.word W.TRC_WATCH_SNUM).toNat })
    else accept g

/-! ### The cut dump (R394) -/

/-- Latch the cut dump with a stop ID. -/
def Gov.cutDump (g : Gov) (id : Nat) : Gov :=
  let g := g.each (List.range 1024) fun g k => g.writeWords (W.TRC_CUT_LS k 0) [(g.word (W.LS_OUT k)).toNat, (g.word (W.LS_S1 k)).toNat, (g.word (W.LS_S0_LO k)).toNat, (g.word (W.LS_S0_HI k)).toNat]
  let g := g.each (List.range 256) fun g b => g.writeWords (W.TRC_CUT_GATE b 0) [g.get (F.BT_GATE_GATE b) + g.get (F.BT_GATE_TARGET b) * 2 ^ 16, (g.word (W.BT_WIN b)).toNat]
  let g := g.each (List.range 8) fun g r => g.setWord (W.TRC_CUT_VCMD r) (g.word (W.RAIL_VCMD r))
  let g := if g.flag F.TRC_CUT_VALID then g.mark F.TRC_CUT_OVERWRITTEN else g
  (g.set F.TRC_CUT_ID id).mark F.TRC_CUT_VALID

/-! ### Registers (R395) -/

/-- A write to the trace group. -/
def Gov.writeTrace (g : Gov) (off : Nat) (w : Word) : Verdict :=
  if off = W.TRC_CTRL then
    let g := g.plain off w
    accept (if bit w.toNat 0 then g.clearTrace else g)
  else if off = W.TRC_WATCH_CFG then g.writeWatch w
  else if 0x60010 ≤ off ∧ off < 0x60050 ∧ off % 16 = 0 then
    let count := field w 20 5
    if count = 0 ∨ 16 < count ∨ kindRange (field w 2 4) < field w 10 10 + count then refuse (g.mark F.TRC_CTRL_REFUSED) else accept (g.plain off w)
  else accept (g.plain off w)

end Sys2Proof.Machine
end

