-- ==== Sys2Proof/Machine/Hawser.lean ====
section
/-! DEFINITION. The Hawser link (chapter 10): ports, frames, enumeration, time, tug rounds, missing nodes, global stops, the statistics collective and the group's registers. -/

namespace Sys2Proof.Machine

/-! ### Ports (R261, R267) -/

/-- The port's record and its update: 0 UP, 1 DN. -/
def Gov.port (g : Gov) (p : Nat) : PortSt := Tab.get (fun _ => {}) g.hws.ports p

def Gov.setPort (g : Gov) (p : Nat) (f : PortSt → PortSt) : Gov := g.withHws { g.hws with ports := Tab.upd (fun _ => {}) g.hws.ports p f }

/-- The port's enable and its link state: 0 DOWN, 1 TRAIN, 2 UP. -/
def portEnable (p : Nat) : Fld := if p = 0 then F.IDL_CFG_UP_EN else F.IDL_CFG_DN_EN

def linkField (p : Nat) : Fld := if p = 0 then F.IDL_STAT_UP_LINK else F.IDL_STAT_DN_LINK

/-- The node is the root; it takes part in the ring (R418). -/
def Gov.isRoot (g : Gov) : Bool := g.flag F.IDL_CFG_ROOT

def Gov.takesPart (g : Gov) : Bool := g.flag F.IDL_CFG_EN && g.flag F.IDL_STAT_ENUM_DONE

/-- Clear LOCKED, noting the loss (R270). -/
def Gov.loseLock (g : Gov) : Gov := if g.flag F.IDL_STAT_LOCKED then ((g.set F.IDL_STAT_LOCKED 0).mark F.IDL_EVT_LOCK_LOST).mark F.GOV_IRQ_SRC_IDL else g

/-- MODE of a node that receives root frames: RING while its links are UP and no frame comes turned, else LINE (R268). -/
def Gov.setMode (g : Gov) : Gov :=
  let ring := g.get F.IDL_STAT_UP_LINK == 2 && g.get F.IDL_STAT_DN_LINK == 2 && !(g.port 0).turned && !(g.port 1).turned
  g.set F.IDL_STAT_MODE (if !g.flag F.IDL_CFG_EN then 0 else if ring then 1 else 2)

/-- The link is UP once four valid headers came in a row. -/
def Gov.linkUp (g : Gov) (p : Nat) : Gov := if g.get (linkField p) = 1 ∧ 4 ≤ (g.port p).run then (g.set (linkField p) 2).setMode else g

/-- Both links fall without an error: a port is disabled, or the governor stops its transmitters (R69, R77). -/
def Gov.linkOff (g : Gov) (p : Nat) : Gov := (g.set (linkField p) 0).setPort p fun x => { x with run := 0, missed := 0, turned := false, block := none, sent := none }

/-- A base tick counts the frame periods in which an UP link had no valid header. -/
def Gov.hawserTick (g : Gov) : Gov :=
  g.each [0, 1] fun g p =>
    let x := g.port p
    if g.get (linkField p) = 2 ∧ x.hdrAt + 10000 * (x.missed + 1) + 250 ≤ g.now then
      (g.setPort p fun x => { x with missed := x.missed + 1 }).inc F.IDL_CNT_MISS_COUNT
    else g

/-! ### Serial numbers, stamps and event times (R274, R275, R290) -/

/-- a comes before b in serial arithmetic of w bits. -/
def serialLt (w a b : Nat) : Bool := a != b && decide ((b + 2 ^ w - a) % 2 ^ w < 2 ^ (w - 1))

/-- Write one stamp record. -/
def Gov.stamp (g : Gov) (fctr ev : Nat) (hdrOk turned : Bool) (time : Nat) : Gov :=
  if fctr % 2 ^ g.get F.IDL_CFG_STAMP_DIV = 0 then
    let i := g.get F.IDL_STAMP_HEAD_HEAD
    (g.writeWords (0x4000 + 16 * i) [time % 2 ^ 32, time / 2 ^ 32 % 2 ^ 32, fctr, ev + 4 * b2n hdrOk + 8 * b2n turned]).set F.IDL_STAMP_HEAD_HEAD ((i + 1) % 512)
  else g

/-- Keep an event's time, for at most four frames, and stamp it. -/
def Gov.event (g : Gov) (fctr ev : Nat) (hdrOk turned : Bool) (time : Nat) : Gov :=
  let g := g.stamp fctr ev hdrOk turned time
  if hdrOk then g.withHws { g.hws with times := ((fctr, ev, time) :: g.hws.times).take 16 } else g

/-- The time of an event of a frame. -/
def Gov.eventTime (g : Gov) (fctr ev : Nat) : Option Nat := (g.hws.times.find? fun x => x.1 == fctr && x.2.1 == ev).map (·.2.2)

/-! ### The slots by frame (R266, R277, R282) -/

/-- The slots published in a frame that this node holds. -/
def Gov.slotsOf (g : Gov) (fctr : Nat) : List Slot := ((g.hws.hist.find? fun h => h.1 == fctr).map (·.2)).getD []

/-- Hold a slot as one published in a frame. -/
def Gov.noteSlot (g : Gov) (fctr : Nat) (x : Slot) : Gov :=
  g.withHws { g.hws with hist := g.hws.hist.map fun h => if h.1 = fctr then (h.1, x :: h.2.filter fun y => y.node != x.node) else h }

/-- How many frames back the slots of a round lie: two, and three in LINE mode. -/
def Gov.depth (g : Gov) : Nat := if g.get F.IDL_STAT_MODE = 1 then 2 else 3

/-- The frame a number of frames before another. -/
def before (fctr n : Nat) : Nat := (fctr + 2 ^ 32 - n) % 2 ^ 32

/-- The LIMITED condition over the frame period that ends (R266, R288). -/
def Gov.limitedNow (g : Gov) : Bool :=
  let low := decide (g.hws.powSum < (g.act F.LIM_PCAP_PCAP - g.get F.IDL_TUG_THR_LIM_MARGIN) * g.hws.powN)
  let act := g.get F.HLIM_ACT_CNT_COUNT
  low || decide (act ≠ g.hws.actAt) || g.hws.kSeen || (g.lim.harbour && decide (g.get F.LIM_HARBOUR_HP_PCAP < g.act F.LIM_PCAP_PCAP))

/-- A new frame counter is seen: the frame period ends, the history moves on, and the nodes whose slot the settled frame lacks are counted. -/
def Gov.newFrame (g : Gov) (fctr : Nat) : Gov :=
  if g.hws.hist.any fun h => h.1 == fctr then g
  else
    let lim := g.limitedNow
    let old := before fctr g.depth
    let settled := g.hws.hist.any fun h => h.1 == old
    let seen := g.slotsOf old
    let g := g.withHws { g.hws with limited := lim, powSum := 0, powN := 0, kSeen := false, actAt := g.get F.HLIM_ACT_CNT_COUNT, hist := ((fctr, []) :: g.hws.hist).take 4 }
    if !settled || !g.takesPart then g
    else g.each (List.range (g.get F.IDL_STAT_NODES)) fun g n =>
      if n = g.get F.IDL_STAT_NODE then g
      else
        match seen.find? fun x => x.node == n with
        | some x =>
          let told := g.hws.told.filter fun p => !(p.1 == n && (p.2 || !bit x.flags 3))
          g.withHws { g.hws with absent := Tab.put (fun _ => 0) g.hws.absent n 0, known := Tab.put (fun _ => none) g.hws.known n (some x), told := told }
        | none => g.withHws { g.hws with absent := Tab.upd (fun _ => 0) g.hws.absent n (· + 1) }

/-- The node's slots were missing in each of the last three frames. -/
def Gov.gone (g : Gov) (n : Nat) : Bool := decide (3 ≤ Tab.get (fun _ => 0) g.hws.absent n)

/-- The last slot seen of a node. -/
def Gov.lastSlot (g : Gov) (n : Nat) : Option Slot := Tab.get (fun _ => none) g.hws.known n

/-! ### The node's own slot (R266) -/

/-- The STOP field the node shows: its record once it holds one. -/
def Gov.stopField (g : Gov) : Nat :=
  if g.flag F.IDL_STOP_REC_VALID then g.get F.IDL_STOP_REC_ID + g.get F.IDL_STOP_REC_ACTION * 2 ^ 8 + g.get F.IDL_STOP_REC_ORIGIN * 2 ^ 10 else 0

/-- The node's own slot, as latched at the K27.7 of a frame. -/
def Gov.ownSlot (g : Gov) (fctr : Nat) : Slot :=
  let inTime := match g.hws.progAt with
    | some at_ => decide (g.now ≤ at_ + 1000 * g.get F.IDL_PROG_CFG_PROG_TMO)
    | none => false
  let valid := g.flag F.IDL_CFG_EN && g.flag F.IDL_CFG_TUG_EN && g.hws.prog.1 != 0 && inTime
  let frozen := !g.pilotUp 2 || g.hws.frozen
  let fault := g.flag F.FLT_CTRL_STOPPED || g.flag F.FLT_CTRL_TRIPPED || g.anchored
  let prev := before fctr 1
  { node := g.get F.IDL_STAT_NODE
    flags := b2n valid + 2 * b2n g.hws.limited + 4 * b2n frozen + 8 * b2n fault + 16 * g.get F.IDL_STAT_LOCKED + 32 * g.get F.IDL_TUG_STAT_PACED + 64 * b2n g.isRoot
    job := g.hws.prog.1, prog := g.hws.prog.2.1, step := g.hws.prog.2.2
    base := g.get F.IDL_TUG_CAP_BASE, floor := g.get F.IDL_TUG_LIM_FLOOR, ceil := g.get F.IDL_TUG_LIM_CEIL, cap := g.act F.LIM_PCAP_PCAP
    t1 := (g.eventTime prev 1).getD 0 % 2 ^ 32, t4 := (g.eventTime prev 2).getD 0 % 2 ^ 32, stop := g.stopField }

/-- What the node shows of its slot in its own registers. -/
def Gov.showSlot (g : Gov) (x : Slot) : Gov := (g.set F.IDL_TUG_STAT_FROZEN (b2n (bit x.flags 2))).set F.IDL_TUG_STAT_LIMITED (b2n (bit x.flags 1))

/-- Take a stop: the record, its receipt time, and the cut it awaits (R283). -/
def Gov.takeStop (g : Gov) (id action origin time : Nat) : Gov :=
  let g := (((g.set F.IDL_STOP_REC_ID id).set F.IDL_STOP_REC_ACTION action).set F.IDL_STOP_REC_ORIGIN origin).mark F.IDL_STOP_REC_VALID
  let g := g.set64 W.IDL_STOP_TRX time
  g.withHws { g.hws with cuts := g.hws.cuts ++ [(id, action, time)] }

/-- A requested stop enters the slot of the next frame, at the time the slot first carries it. -/
def Gov.placeStop (g : Gov) (time : Nat) : Gov :=
  match g.hws.stopReq with
  | some (id, action) => if g.takesPart then (g.withHws { g.hws with stopReq := none }).takeStop id action (g.get F.IDL_STAT_NODE) time else g
  | none => g

/-- A received STOP field with a later ID is taken. -/
def Gov.hearStop (g : Gov) (x : Slot) : Gov :=
  let id := x.stop % 256
  let last := g.get F.IDL_STOP_REC_ID
  if bits x.stop 8 2 ≠ 0 ∧ serialLt 8 last id then g.takeStop id (bits x.stop 8 2) (bits x.stop 10 6) g.now else g

/-! ### The statistics collective (R286, R287) -/

/-- Combine block b into block a. -/
def combine (a b : Block) : Block :=
  if a.n = 0 then { b with contrib := a.contrib ||| b.contrib }
  else
    let n := (a.n + b.n) % 2 ^ 32
    let d : Int := (b.mean : Int) - a.mean
    { a with
      n := n, contrib := a.contrib ||| b.contrib, sum := (a.sum + b.sum) % 2 ^ 64
      mean := (((a.mean : Int) + Int.fdiv (d * b.n) n) % 2 ^ 64).toNat
      m2 := usat 128 (a.m2 + b.m2 + (Int.fdiv (d * d * a.n * b.n) n).toNat / 2 ^ 32) }

/-- The node's own block where it may contribute to a window. -/
def Gov.ownBlock (g : Gov) (start span : Nat) : Option Block :=
  match g.hws.win with
  | some (b, short) =>
    if g.flag F.IDL_CFG_COLL_EN && g.flag F.IDL_CFG_EN && g.get F.IDL_STAT_MODE != 3 && !short && b.start == start && b.span == span && g.pilotUp 2 && g.longWindow then
      some { b with contrib := 2 ^ g.get F.IDL_STAT_NODE }
    else none
  | none => none

/-- What the node passes on for a running block it received. -/
def Gov.passBlock (g : Gov) (b : Block) : Block × Gov :=
  if b.span = 0 ∨ bit b.contrib (g.get F.IDL_STAT_NODE) then (b, g)
  else
    match g.ownBlock b.start b.span with
    | some own =>
      let c := combine b own
      (c, if c.m2 = umax 128 then g.mark F.IDL_COLL_STAT_SAT else g)
    | none => (b, g.mark F.IDL_COLL_STAT_SKIPPED)

/-- Publish a result block once and raise GOV_IRQ[2]. -/
def Gov.publishResult (g : Gov) (b : Block) : Gov :=
  if b.span = 0 ∨ g.hws.result = some b then g
  else
    let g := g.withHws { g.hws with result := some b }
    let (v, g) := if b.n = 0 then (let (i, g) := g.draw; ((Config.varAtZero i).toNat, g)) else (min (umax 64) (b.m2 / b.n), g)
    let sat := decide (b.m2 = umax 128) || decide (b.n ≠ 0 ∧ umax 64 < b.m2 / b.n)
    let g := ((g.set48 W.IDL_COLL_START b.start).setWord W.IDL_COLL_N (BitVec.ofNat 32 b.n)).set64 W.IDL_COLL_CONTRIB b.contrib
    let g := ((g.set64 W.IDL_COLL_MEAN b.mean).set64 W.IDL_COLL_VAR v).set64 W.IDL_COLL_SUM b.sum
    let g := (g.mark F.IDL_COLL_STAT_VALID).mark F.GOV_IRQ_SRC_WIN
    if sat then g.mark F.IDL_COLL_STAT_SAT else g

/-- The block the root sends in its first frame after a window boundary; it holds nothing where the window is too short, and no sample where the root does not contribute; the result of the window before is sent no more (R287). -/
def Gov.rootBlock (g : Gov) : Block × Gov :=
  let fresh := g.hws.newWin
  let g := g.withHws { g.hws with newWin := false, result := if fresh then none else g.hws.result }
  match g.hws.win with
  | some (b, _) =>
    if !fresh then (noBlock, g)
    else if !g.longWindow then (noBlock, g)
    else
      match g.ownBlock b.start b.span with
      | some own => (own, g)
      | none => ({ noBlock with start := b.start, span := b.span }, g.mark F.IDL_COLL_STAT_SKIPPED)
  | none => (noBlock, g)

/-! ### Time (R269 to R272) -/

/-- The correction and lock of a frame that gave an offset: a clock ahead of the root's is slowed, one behind it is sped up (R270). -/
def Gov.trackOffset (g : Gov) (off : Int) : Gov :=
  let (i, g) := g.draw
  let step : Int := (Config.rateStep i % 20000 + 1 : Nat)
  let g := (g.sset F.IDL_OFFSET_OFFSET off).sset F.IDL_RATE_RATE (if off = 0 then 0 else if 0 < off then -step else step)
  let near := if off.natAbs ≤ 50 then g.hws.near + 1 else 0
  let far := if off.natAbs ≤ 50 then 0 else g.hws.far + 1
  let g := g.withHws { g.hws with near := near, far := far }
  if 16 ≤ near then g.mark F.IDL_STAT_LOCKED else if 4 ≤ far then g.loseLock else g

/-- The first comparison after EN was set: an offset above 1 µs is to be stepped at the next base tick. -/
def Gov.firstCompare (g : Gov) (off : Int) : Gov :=
  if g.hws.compared then g
  else g.withHws { g.hws with compared := true, step := if 1000 < off.natAbs then some (-off) else none }

/-- The flight times measured of a port's link, newest first. -/
def Gov.flightsOf (g : Gov) (p : Nat) : List Int := Tab.get (fun _ => []) g.hws.flights p

/-- The flight time of a port's link from four stamps of one frame (R271), and its mean over 64 frames; FLIGHT shows that of the upstream link. -/
def Gov.noteFlight (g : Gov) (p t1 t2 t3 t4 : Nat) : Gov :=
  let fl := Int.tdiv (toSigned 32 (((t2 : Int) - t1 + ((t4 : Int) - t3)) % 2 ^ 32).toNat) 2
  let fls := (fl :: g.flightsOf p).take 64
  let g := g.withHws { g.hws with flights := Tab.put (fun _ => []) g.hws.flights p fls }
  if p = 0 then g.set F.IDL_RLAT_FLIGHT (usatInt 16 (Int.fdiv (fls.foldl (· + ·) 0 * 16) fls.length)) else g

/-- The mean flight time of a port's link in ns. -/
def Gov.flight (g : Gov) (p : Nat) : Int :=
  let fls := g.flightsOf p
  if fls.isEmpty then 0 else Int.fdiv (fls.foldl (· + ·) 0) fls.length

/-- A node that takes part finds its flight time and offset from a frame on a port; `near_` is the neighbour on the side of the root, and the events are those of this node's receipt from it and transmission to it. -/
def Gov.keepTime (g : Gov) (fr : Frame) (p near_ rx tx : Nat) : Gov :=
  let prev := before fr.fctr 1
  let g := match fr.slots.find? fun x => x.node == near_, g.eventTime prev rx, g.eventTime prev tx with
    | some x, some t2, some t3 => g.noteFlight p x.t1 t2 t3 x.t4
    | _, _, _ => g
  let off : Int := (g.now : Int) - ((fr.tmark : Int) + fr.path + g.flight p)
  (g.firstCompare off).trackOffset off

/-- The shift of a kept instant. -/
def shiftBy (d : Int) (x : Nat) : Nat := ((x : Int) + d).toNat

/-- The shift of a kept instant in PWM ticks. -/
def shiftPwm (d : Int) (x : Nat) : Nat := ((x : Int) + Int.fdiv (d * 256) 5).toNat

/-- Intervals that run on keep their age across a step: every kept instant moves with GOV_TIME. -/
def Gov.shiftTimes (g : Gov) (d : Int) : Gov :=
  let m := shiftBy d
  let w := shiftPwm d
  { g with
    firm := { g.firm with lastKick := m g.firm.lastKick }
    cmd := { g.cmd with reqs := g.cmd.reqs.map fun p => (p.1, { p.2 with taken := m p.2.taken }) }
    flt := { g.flt with passStart := m g.flt.passStart }
    pwr := { g.pwr with reqAt := m g.pwr.reqAt, stepAt := m g.pwr.stepAt, settleAt := m g.pwr.settleAt }
    fcu := { g.fcu with tickAt := g.fcu.tickAt.map m, hints := g.fcu.hints.map fun h => { h with upAt := m h.upAt, till := h.till.map m } }
    clk := { g.clk with
      regions := g.clk.regions.map fun p => (p.1, { p.2 with openAt := m p.2.openAt, changeAt := m p.2.changeAt, endAt := m p.2.endAt, swAt := m p.2.swAt, stopAt := p.2.stopAt.map m, goneAt := p.2.goneAt.map m })
      crossing := g.clk.crossing.map fun p => (p.1, p.2.map m), refSince := m g.clk.refSince, refLost := g.clk.refLost.map m, markAt := g.clk.markAt.map m }
    reg := { g.reg with
      rails := g.reg.rails.map fun p => (p.1, { p.2 with startAt := p.2.startAt.map w, stateAt := m p.2.stateAt, goodAt := p.2.goodAt.map m })
      phases := g.reg.phases.map fun p => (p.1, { p.2 with convAt := p.2.convAt.map m, startAt := p.2.startAt.map w, riseAt := w p.2.riseAt, fallAt := w p.2.fallAt }), edgeAt := m g.reg.edgeAt, zeroAt := g.reg.zeroAt.map w }
    sns := { g.sns with
      hbmAt := g.sns.hbmAt.map fun p => (p.1, m p.2)
      tSweeps := g.sns.tSweeps.map (fun x => { x with time := m x.time }), pSweeps := g.sns.pSweeps.map fun x => { x with time := m x.time } }
    led := { g.led with tickAt := g.led.tickAt.map m, toggles := g.led.toggles.map fun p => (p.1, { p.2 with caps := p.2.caps.map (fun c => (c.1, c.2.1, m c.2.2)), lastAt := p.2.lastAt.map m }) }
    hws := { g.hws with
      ports := g.hws.ports.map (fun p => (p.1, { p.2 with hdrAt := m p.2.hdrAt })), times := g.hws.times.map (fun x => (x.1, x.2.1, m x.2.2)), rootAt := m g.hws.rootAt, progAt := g.hws.progAt.map m
      cuts := g.hws.cuts.map (fun c => (c.1, c.2.1, m c.2.2)), waking := g.hws.waking.map (fun x => (m x.1, x.2)), sentAt := g.hws.sentAt.map m } }

/-- At a base tick after the first comparison the alignment is no longer pending. -/
def Gov.alignTick (g : Gov) : Gov := if g.flag F.IDL_STAT_ALIGN_PEND && g.hws.compared then g.set F.IDL_STAT_ALIGN_PEND 0 else g

/-! ### Enumeration (R262) -/

/-- The enumeration fails: ENUM_ERR, and the indices stay. -/
def Gov.failEnum (g : Gov) : Gov := (g.withHws { g.hws with enum := 0, hopNode := none }).mark F.IDL_EVT_ENUM_ERR

/-- Both links are UP. -/
def Gov.bothUp (g : Gov) : Bool := g.get F.IDL_STAT_UP_LINK == 2 && g.get F.IDL_STAT_DN_LINK == 2

/-- A node meets the HOP of an enumeration: the HOP it forwards. It keeps the index until a later header shows that the enumeration succeeded; where it fails here, the HOP that goes on is above every ring size, so that the root fails it too (log entry 89). -/
def Gov.takeHop (g : Gov) (fr : Frame) : Nat × Gov :=
  if fr.hop = 0 then (0, g)
  else
    let twoRoots := decide (1 < fr.slots.countP fun x => bit x.flags 6)
    if 64 ≤ fr.hop ∨ twoRoots ∨ !g.bothUp then (255, g.failEnum)
    else (fr.hop + 1, g.withHws { g.hws with hopNode := some (fr.hop, fr.fctr) })

/-- A later header than that of the enumeration names a ring that holds the index. -/
def Gov.adoptHop (g : Gov) (fr : Frame) : Gov :=
  match g.hws.hopNode with
  | some (k, f) => if serialLt 32 f fr.fctr ∧ k < fr.nodes then ((g.set F.IDL_STAT_NODE k).mark F.IDL_STAT_ENUM_DONE).withHws { g.hws with hopNode := none } else g
  | none => g

/-- A frame that this root did not send: another root is on the ring. -/
def Gov.foreign (g : Gov) (fr : Frame) : Bool := !g.hws.times.any fun x => x.1 == fr.fctr && (x.2.1 == 1 || x.2.1 == 3) && x.2.2 == fr.tmark

/-- The root meets a primary frame after it sent an enumeration: the HOP it carries ends it; a later frame without it shows that it was lost. -/
def Gov.endEnum (g : Gov) (fr : Frame) (port : Nat) : Gov :=
  if g.hws.enum ≠ 2 then g
  else if fr.hop ≠ 0 then
    let bad := port == 1 || fr.turned || decide (64 < fr.hop) || !g.bothUp || fr.slots.any fun x => bit x.flags 6 && x.node != 0
    if bad then g.failEnum
    else (((g.withHws { g.hws with enum := 0 }).set F.IDL_STAT_NODE 0).set F.IDL_STAT_NODES fr.hop).mark F.IDL_STAT_ENUM_DONE
  else if port = 0 ∧ serialLt 32 g.hws.enumAt fr.fctr then g.failEnum
  else g

/-- Before the root sends: an enumeration that is still out after three frame periods, or that meets a link that is not UP, has failed. -/
def Gov.enumTick (g : Gov) : Gov :=
  if (g.hws.enum = 1 ∧ !g.bothUp) ∨ (g.hws.enum = 2 ∧ (!g.bothUp ∨ 3 ≤ (g.hws.fctr + 2 ^ 32 - g.hws.enumAt) % 2 ^ 32)) then g.failEnum else g

/-! ### Frames (R261, R264 to R268) -/

/-- The slots of a frame, with the node's own in its place. -/
def withOwn (own : Slot) (xs : List Slot) : List Slot := sortBy (·.node) (own :: xs.filter fun x => x.node != own.node)

/-- Pilot C has a round to compute for a frame. -/
def Gov.openRound (g : Gov) (fctr : Nat) : Gov :=
  if g.flag F.IDL_CFG_TUG_EN && g.takesPart then g.withHws { g.hws with round := some fctr } else g

/-- The segments of a frame whose CRC failed. -/
def failedSegments (fr : Frame) : Nat := b2n (!fr.hdrOk) + fr.badSlots.length + b2n fr.run.isNone + b2n fr.result.isNone

/-- A valid header: counts, the last frame counter, and the ring size. -/
def Gov.hearHeader (g : Gov) (p : Nat) (fr : Frame) : Gov :=
  let g := g.setPort p fun x => { x with run := x.run + 1, hdrAt := g.now, missed := 0, turned := fr.turned }
  let g := (g.linkUp p).setWord W.IDL_FCTR (BitVec.ofNat 32 fr.fctr)
  let g := if g.isRoot || fr.nodes == 0 then g else (g.set F.IDL_STAT_NODES fr.nodes).adoptHop fr
  (g.withHws { g.hws with rootAt := g.now }).setMode

/-- The slots a frame brings, by the frame they were published in. On its first pass it brings this frame's slots of the nodes it has passed, and those that the root sent on: of the frame before in RING mode, of the second before in LINE mode. Turned back, it brings this frame's slots of the nodes it has passed since: those that differ from what this node sent on (R268). -/
def Gov.hearSlots (g : Gov) (p : Nat) (fr : Frame) : Gov :=
  let me := g.get F.IDL_STAT_NODE
  let g := g.newFrame fr.fctr
  if !g.takesPart then g
  else if fr.turned then
    match (g.port p).sent with
    | some old => if old.fctr = fr.fctr then g.each (fr.slots.filter fun x => x.node != me && !old.slots.contains x) fun g x => g.noteSlot fr.fctr x else g
    | none => g
  else
    let back := if g.get F.IDL_STAT_MODE = 1 then 1 else 2
    g.each (fr.slots.filter fun x => x.node != me) fun g x =>
      let passed := if p = 0 then decide (x.node < me) else x.node == 0 || decide (me < x.node)
      g.noteSlot (if passed then fr.fctr else before fr.fctr back) x

/-- The slots that come back to the root: those that differ from what it sent were written in this frame. -/
def Gov.rootSlots (g : Gov) (p : Nat) (fr : Frame) : Gov :=
  let out := if fr.turned then p else 1 - p
  let sent := ((g.port out).sent.map (·.slots)).getD []
  g.each (fr.slots.filter fun x => x.node != 0 && !sent.contains x) fun g x => g.noteSlot fr.fctr x

/-- The root measures the ring's latency: above 9.8 µs it raises the link's source (R268). -/
def Gov.ringLatency (g : Gov) (fctr : Nat) : Gov :=
  match g.eventTime fctr 1 with
  | some t1 =>
    let l := g.now - t1
    let g := (g.set F.IDL_RLAT_RLAT (usat 16 l)).set F.IDL_STAT_RING_SLOW (b2n (decide (9800 < l)))
    if 9800 < l then g.raise 279 4 else g
  | none => g

/-- What the root does with a frame that returns: latency, enumeration, slots, stops and the collective. A frame of another root fails an enumeration and brings nothing else. -/
def Gov.rootReceive (g : Gov) (p : Nat) (fr : Frame) : Gov :=
  if g.foreign fr then (if g.hws.enum ≠ 0 ∨ fr.hop ≠ 0 then g.failEnum else g)
  else
    let g := if p = 0 ∧ !fr.turned then g.ringLatency fr.fctr else g
    let g := if p = 0 ∨ fr.turned then g.endEnum fr p else g
    let g := g.rootSlots p fr
    let g := if g.takesPart then g.each fr.slots Gov.hearStop else g
    match fr.run with
    | some b => if b.span ≠ 0 ∧ g.takesPart then g.publishResult b else g
    | none => g

/-- What another node does with a frame: time, slots, stops, the collective's result and its next round. The header of a secondary frame serves where the primary one does not come, is turned, or failed its CRC (R271). -/
def Gov.nodeReceive (g : Gov) (p : Nat) (fr : Frame) : Gov :=
  let me := g.get F.IDL_STAT_NODE
  let away := g.get F.IDL_STAT_UP_LINK != 2 || (g.port 0).turned || (g.port 0).run == 0
  let g := g.hearSlots p fr
  let g := if !g.takesPart || fr.turned then g
    else if p = 0 then g.keepTime fr 0 (me - 1) 0 3
    else if away then g.keepTime fr 1 ((me + 1) % max 1 fr.nodes) 2 1
    else g
  let g := if g.takesPart then g.each fr.slots Gov.hearStop else g
  let g := match fr.result with
    | some b => if g.takesPart then g.publishResult b else g
    | none => g
  if p = 0 ∨ g.get F.IDL_STAT_UP_LINK ≠ 2 then g.openRound fr.fctr else g

/-- Forward a frame with its interval: onward, or turned back where the onward link is DOWN (R268). -/
def Gov.forward (g : Gov) (p : Nat) (fr : Frame) (own : Slot) (hop dt : Nat) (time : Nat) : Gov :=
  let turn := g.get (linkField (1 - p)) == 0
  let out := if turn then p else 1 - p
  let x := g.port p
  let (next, g) := match fr.run with
    | some b => (let (c, g) := g.passBlock b; (some c, g))
    | none => (none, g)
  let g := g.setPort p fun y => { y with block := next }
  let sent : Frame := { fr with
    path := (((fr.path : Int) + g.flight p + dt) % 2 ^ 32).toNat, hop := hop, turned := fr.turned || turn
    slots := trimSlots fr.nodes (if g.takesPart then withOwn own fr.slots else fr.slots)
    badSlots := if g.takesPart then fr.badSlots.filter (· != own.node) else fr.badSlots
    run := if fr.run.isNone then none else some (x.block.getD noBlock) }
  let g := g.setPort out fun y => { y with sent := some sent }
  (g.event fr.fctr (if out = 1 then 1 else 3) fr.hdrOk sent.turned time)

/-! ### Tug rounds (R277 to R280) -/

/-- A member of a group as the round reads it. -/
structure Member where
  node    : Nat
  x       : Nat
  base    : Nat
  floor   : Nat
  ceil    : Nat
  isFixed : Bool
  limited : Bool
  deriving DecidableEq, Repr

/-- A slot as a member: a fixed one has its CAP as base, no spare and no headroom. -/
def memberOf (x : Slot) (gone : Bool) : Member :=
  let fx := gone || bit x.flags 2 || bit x.flags 3
  { node := x.node, x := x.step * 65536 + x.prog, base := if fx then x.cap else x.base, floor := if fx then x.cap else x.floor, ceil := if fx then x.cap else x.ceil, isFixed := fx, limited := bit x.flags 1 }

/-- U16 subtraction that saturates. -/
def satSub16 (a b : Nat) : Nat := usat 16 (a - b)

/-- What a round finds: whether it is complete, and the members of the node's group. -/
def Gov.roundMembers (g : Gov) (fctr : Nat) : Bool × List Member :=
  let me := g.get F.IDL_STAT_NODE
  let slots := g.slotsOf (before fctr g.depth)
  match slots.find? fun x => x.node == me with
  | none => (false, [])
  | some own =>
    if !bit own.flags 0 then (true, [])
    else
      let inGroup := fun (x : Slot) => bit x.flags 0 && x.job == own.job
      let rows := (List.range (g.get F.IDL_STAT_NODES)).map fun n =>
        match slots.find? fun x => x.node == n with
        | some x => (true, if inGroup x then some (memberOf x false) else none)
        | none =>
          match g.lastSlot n with
          | some x => if inGroup x then (g.gone n, some (memberOf x true)) else (true, none)
          | none => (true, none)
      (rows.all (·.1), rows.filterMap (·.2))

/-- The result of a round: the node's target, the critical member, the lag and whether it paces. -/
structure Round where
  tgt   : Nat
  crit  : Option Nat
  lag   : Nat
  paced : Bool
  deriving DecidableEq, Repr

/-- The targets of R277, for the node at an index, with gains and threshold. -/
def tugRound (ms : List Member) (me base tug pace thr : Nat) : Round :=
  match ms with
  | [] => { tgt := base, crit := none, lag := 0, paced := false }
  | m :: rest =>
    let c := rest.foldl (fun c j => if j.x < c.x then j else c) m
    let lead := ms.foldl (fun a j => max a j.x) 0
    let lag := min 0xFFFF ((lead - c.x) / 256)
    let others := ms.filter fun j => j.node != c.node && !j.isFixed
    let mine := ms.find? fun j => j.node == me
    if c.isFixed || c.limited then
      let tgt := match mine with
        | some j => if j.node = c.node ∨ j.isFixed then j.base else max j.floor (satSub16 j.base (pace * satSub16 ((j.x - c.x) / 256) thr))
        | none => base
      { tgt := tgt, crit := some c.node, lag := lag, paced := true }
    else
      let spare := others.foldl (fun a j => a + (j.base - j.floor)) 0
      let d := min (c.ceil - c.base) (min spare (tug * satSub16 lag thr))
      let offers := divide d (others.map fun j => (j.node, j.base - j.floor))
      let tgt := match mine with
        | some j => if j.node = c.node then c.base + d else j.base - ((offers.find? fun o => o.1 == me).map (·.2)).getD 0
        | none => base
      { tgt := tgt, crit := some c.node, lag := lag, paced := false }

/-- Pilot C applies a cap: LIM_PCAP is written whenever it changes. -/
def Gov.applyCap (g : Gov) (a : Nat) : Gov :=
  let g := if a ≠ g.hws.cap then
      g.shadow W.LIM_PCAP (BitVec.ofNat 32 (a % 2 ^ 16 + max (g.get F.IDL_TUG_CAP_PEXC_T) a % 2 ^ 16 * 2 ^ 16))
    else g
  let base := g.get F.IDL_TUG_CAP_BASE
  let g := ((g.set F.IDL_TUG_STAT_APPLIED a).set F.IDL_TUG_STAT_DONOR (b2n (decide (a < base)))).set F.IDL_TUG_STAT_RECEIVER (b2n (decide (base < a)))
  g.withHws { g.hws with cap := a }

/-- A round of a node that tugs. -/
def Gov.computeRound (g : Gov) (fctr : Nat) : Gov :=
  let base := g.get F.IDL_TUG_CAP_BASE
  let (complete, ms) := g.roundMembers fctr
  let g := g.withHws { g.hws with round := none, frozen := !complete }
  if !complete then
    let a := min g.hws.cap base
    let g := g.applyCap a
    g.withHws { g.hws with tgt := a }
  else
    let r := tugRound ms (g.get F.IDL_STAT_NODE) base (g.get F.IDL_TUG_GAIN_TUG_GAIN) (g.get F.IDL_TUG_GAIN_PACE_GAIN) (g.get F.IDL_TUG_THR_LAG_THR)
    let g := (g.set F.IDL_TUG_STAT_CRIT_VALID (b2n r.crit.isSome)).set F.IDL_TUG_STAT_PACED (b2n r.paced)
    let g := match r.crit with
      | some c => (g.set F.IDL_TUG_STAT_CRIT c).set F.IDL_TUG_LAG_LAG r.lag
      | none => g
    let g := match r.crit with
      | some c =>
        if r.paced ∧ g.get F.IDL_TUG_LAG_PACED_BY ≠ c then (g.set F.IDL_TUG_LAG_PACED_BY c).log g.now 9 [c] else g
      | none => g
    let a := min r.tgt g.hws.tgt
    let g := g.applyCap a
    g.withHws { g.hws with tgt := r.tgt }

/-- The cap returns to BASE where the node tugs no more (R279); in SEGMENT mode with TUG_EN 1 the rounds go on once the node is back in the ring. -/
def Gov.returnCap (g : Gov) : Gov :=
  let base := g.get F.IDL_TUG_CAP_BASE
  let a := min base g.hws.tgt
  let g := g.applyCap a
  let g := ((g.set F.IDL_TUG_STAT_CRIT_VALID 0).set F.IDL_TUG_STAT_PACED 0)
  g.withHws { g.hws with tgt := base, tugging := g.flag F.IDL_CFG_TUG_EN || decide (a ≠ base) }

/-! ### The stop cut (R283, R284) -/

/-- FREEZE is set, where it is not yet: ledger views hold the last commit before the cut (R284). -/
def Gov.freeze (g : Gov) : Gov :=
  if g.flag F.LDG_CTRL_FREEZE then g else (g.mark F.LDG_CTRL_FREEZE).withLed { g.led with frozen := some g.led.commit }

/-- One cut. -/
def Gov.cutOne (g : Gov) (c : Nat × Nat × Nat) : Gov :=
  let g := g.set48 W.IDL_STOP_CUT g.idx
  let g := if c.2.1 = 3 then (g.set F.IDL_STOP_REC_HELD 0).withLim { g.lim with quiesce := none }
    else
      let g := (g.cutDump c.1).freeze
      if c.2.1 = 2 then (g.mark F.IDL_STOP_REC_HELD).withLim { g.lim with quiesce := some 0 } else g
  g.fire .stopCut

/-- The cuts whose receipt lies before the present sample tick. -/
def Gov.stopCut (g : Gov) : Gov :=
  let due := g.hws.cuts.filter fun c => decide (c.2.2 < g.now)
  (g.each due Gov.cutOne) |> fun g => g.withHws { g.hws with cuts := g.hws.cuts.filter fun c => !decide (c.2.2 < g.now) }

/-- Request a stop with an action: the next stop ID (R283). -/
def Gov.requestStop (g : Gov) (action : Nat) : Nat × Gov :=
  let last := match g.hws.stopReq with | some (id, _) => id | none => g.get F.IDL_STOP_REC_ID
  let id := (last + 1) % 256
  (id, (g.withHws { g.hws with stopReq := some (id, action) }))

/-! ### Registers (R263, R276, R279, R289) -/

/-- An account is open, or its open has been accepted. -/
def Gov.anyOpen (g : Gov) : Bool := !g.led.opens.isEmpty || (List.range 256).any fun a => g.get (F.ACC_STAT_STATE a) == 1

/-- HAWSER_ENABLE: a write of IDL_CFG. -/
def Gov.writeIdlCfg (g : Gov) (w : Word) : Verdict :=
  let en := bit w.toNat 2
  let was := g.flag F.IDL_CFG_EN
  if en && !was && (g.flag F.LDG_CTRL_WIN_EN || g.anyOpen) then refuse (g.mark F.IDL_EVT_REFUSED)
  else
    let tug := bit w.toNat 4 && !g.flag F.IDL_CFG_TUG_EN
    let g := g.each [0, 1] fun g p => if bit w.toNat p then g else g.linkOff p
    let g := g.plain W.IDL_CFG w
    let g := if en && !was then
        (g.set F.IDL_STAT_ALIGN_PEND (b2n (!bit w.toNat 3))).withHws { g.hws with compared := false, step := none, rootAt := g.now }
      else if !en then (g.set F.IDL_STAT_ALIGN_PEND 0).withHws { g.hws with compared := false, step := none }
      else g
    let g := if !en then g.set F.IDL_STAT_MODE 0 else if was then g else g.setMode
    let g := if tug then g.withHws { g.hws with tugging := true, frozen := true, tgt := g.get F.IDL_TUG_CAP_BASE, cap := g.get F.LIM_PCAP_PCAP } else g
    accept g

/-- ENUMERATE: at the root only, with its links UP. -/
def Gov.enumerate (g : Gov) : Gov := if g.bothUp then g.withHws { g.hws with enum := 1 } else g.mark F.IDL_EVT_ENUM_ERR

/-- The enabled ports among some. -/
def Gov.portsOn (g : Gov) (ps : List Nat) : Nat := (ps.filter fun p => g.flag (portEnable p)).foldl (fun a p => a + 2 ^ p) 0

/-- Begin the wake pattern on the enabled ports among some (R288, R303). -/
def Gov.sendWake (g : Gov) (ps : List Nat) : Gov := g.withHws { g.hws with waking := some (g.now, g.portsOn ps) }

/-- A lane of a port carries the wake pattern: lane 0, for 8 µs (R288). -/
def Gov.wakePattern (g : Gov) (p lane : Nat) : Bool :=
  match g.hws.waking with
  | some (a, m) => lane == 0 && bit m p && decide (a ≤ g.now) && decide (g.now < a + 8000)
  | none => false

/-- A write of IDL_CTRL: ENUMERATE, IDL_WAKE, IDL_CTRL_CLR and GLOBAL_STOP_WRITE. -/
def Gov.writeIdlCtrl (g : Gov) (w : Word) : Verdict :=
  if (bit w.toNat 0 && !g.isRoot) || (bit w.toNat 3 && field w 4 2 == 0) then refuse (g.mark F.IDL_EVT_REFUSED)
  else
    let g := g.plain W.IDL_CTRL w
    let g := if bit w.toNat 0 then g.enumerate else g
    let g := if bit w.toNat 1 then g.sendWake [0, 1] else g
    let g := if bit w.toNat 2 then g.clearAll [F.IDL_CNT_CRC_COUNT, F.IDL_CNT_MISS_COUNT, F.IDL_CNT_LINKDN_COUNT] else g
    accept (if bit w.toNat 3 then (g.requestStop (field w 4 2)).2 else g)

/-- PROGRESS_PUBLISH: a write of IDL_PROG_STEP publishes the pair; a changed STEP closes a silent-fault job step at its last sample (R276, R322). -/
def Gov.writeProgress (g : Gov) (w : Word) : Gov :=
  let g := g.plain W.IDL_PROG_STEP w
  let moved := g.led.step ≠ w.toNat
  { g with hws := { g.hws with prog := (g.get F.IDL_PROG_POS_JOB, g.get F.IDL_PROG_POS_PROG, w.toNat), progAt := some g.now }, led := { g.led with step := w.toNat, stepNew := g.led.stepNew || decide moved } }

/-- The tug limits of two words are refused (R279). -/
def tugBad (cap lim : Word) : Bool :=
  let base := field cap 0 16
  let pexc := field cap 16 16
  let fl := field lim 0 16
  let ceil := field lim 16 16
  decide (base < fl) || decide (ceil < base) || decide (0x7080 < ceil) || decide (0x8980 < pexc) || decide (pexc < ceil)

/-- A write to the Hawser group. -/
def Gov.writeHawser (g : Gov) (off : Nat) (w : Word) : Verdict :=
  if off = W.IDL_CFG then g.writeIdlCfg w
  else if off = W.IDL_CTRL then g.writeIdlCtrl w
  else if off = W.IDL_PROG_STEP then accept (g.writeProgress w)
  else if off = W.IDL_TUG_CAP then
    if tugBad w (g.word W.IDL_TUG_LIM) then refuse (g.mark F.IDL_EVT_REFUSED) else accept (g.plain off w)
  else if off = W.IDL_TUG_LIM then
    if tugBad (g.word W.IDL_TUG_CAP) w then refuse (g.mark F.IDL_EVT_REFUSED) else accept (g.plain off w)
  else accept (g.plain off w)

end Sys2Proof.Machine
end

