-- ==== Sys2Proof/Machine/Power.lean ====
section
/-! DEFINITION. Power states, handshakes and wake (chapter 11), with the berth handshake of R44 to R47. -/

namespace Sys2Proof.Machine

/-! ### Records -/

/-- A berth's part in the handshake. -/
def Gov.ans (g : Gov) (b : Nat) : BerthAns := Tab.get (fun _ => {}) g.pwr.ans b

def Gov.setAns (g : Gov) (b : Nat) (f : BerthAns → BerthAns) : Gov := g.withPwr { g.pwr with ans := Tab.upd (fun _ => {}) g.pwr.ans b f }

/-- Move the sequencer to a step. -/
def Gov.psStep (g : Gov) (n : Nat) : Gov := g.withPwr { g.pwr with step := n, stepAt := g.now }

/-- The state of the transition in progress. -/
def Gov.psTo (g : Gov) : Nat := g.get F.PS_STAT_TO

/-- The berths whose answers count: present, not quarantined and not skipped in this handshake (R46, R294). -/
def Gov.asked (g : Gov) : List Nat := g.berths.filter fun b => !g.quar b && !(g.ans b).skip

/-- The longest hold, in ns. -/
def Gov.tHold (g : Gov) : Nat := 1000 * g.get F.PS_CFG_T_HOLD

/-- A word of the latched state-table block. -/
def Gov.blockWord (g : Gov) (off : Nat) : Nat := g.pwr.block.getD (off / 4) 0

/-- The regions affected by the latched block: all of them for OFF, which has no block (R297). -/
def Gov.offMask (g : Gov) : Nat := if g.psTo = stOff then 0xFFFF else g.blockWord 0 % 2 ^ 16

/-- The latched settings of a rail: entry, phases kept, and whether it stays on. -/
def Gov.psRail (g : Gov) (r : Nat) : Nat × Nat × Bool :=
  let x := g.blockWord (0x10 + r / 2 * 4) / 2 ^ (16 * (r % 2))
  (bits x 0 4, bits x 4 7, bit x 11)

/-- A refusal record and, for a refusal of an entry, its log record (R295, R296, R310); the answer is the record's word 2. -/
def Gov.refusalRecord (g : Gov) (b rsn target : Nat) (exit_ : Bool) : Nat × Gov :=
  let i := g.get F.PS_LOG_HEAD_HEAD
  let w2 := b + rsn % 16 * 2 ^ 8 + target * 2 ^ 12 + b2n exit_ * 2 ^ 15 + g.get F.PS_STAT_ATTEMPT * 2 ^ 16
  let n0 := (g.word (W.BT_NAME0 b)).toNat
  let n1 := (g.word (W.BT_NAME1 b)).toNat
  let g := g.writeWords (W.PS_REFUSE i 0) [g.now % 2 ^ 32, g.now / 2 ^ 32 % 2 ^ 32, w2, b2n (g.ans b).held, n0, n1, 0, 0]
  let g := g.set F.PS_LOG_HEAD_HEAD ((i + 1) % 8)
  (w2, if exit_ then g else g.log g.now 0x000B [w2, n0, n1])

/-! ### Exits (R301 to R305) -/

/-- Drive a code on PS_REQ (R44, R45): a target is driven to every present berth that is not quarantined (R294), the code of STATE or of RUN to every present one; every asked berth is to answer afresh. -/
def Gov.drive (g : Gov) (code : Nat) : Gov :=
  let back := code == g.state || code == stRun
  let g := g.withPwr { g.pwr with psReq := code, reqAt := g.now }
  g.each g.berths fun g b => g.setAns b fun x => { x with req := if g.quar b && !back then x.req else code, sawLow := !x.ack && !x.nak, held := x.hold, skip := g.quar b, answer := none }

/-- PS_REQ of a berth: 0b000 for an absent one (R48). -/
def Gov.psReqOf (g : Gov) (b : Nat) : Nat := if g.present b then (g.ans b).req else 0

/-- Present the RUN codes to the stopped regions, as far as they still select OFF (R299), and begin BIAS_SETTLE of the state being left (R301 step 3). -/
def Gov.runCodes (g : Gov) : Gov :=
  let g := g.each ((bitList 16 g.pwr.stopped).filter fun rg => g.source rg == .off) fun g rg =>
    let x := (g.word (W.PS_ST_BIAS 0 (rg / 2))).toNat / 2 ^ (16 * (rg % 2)) % 2 ^ 14
    g.withPwr { g.pwr with codes := Tab.put (fun _ => 0) g.pwr.codes rg x }
  let g := g.withPwr { g.pwr with settled := false, settleAt := g.now + 1000 * (g.blockWord 4 % 256) }
  g.psStep 11

/-- Begin an exit with its causes (R301 step 1). -/
def Gov.beginExit (g : Gov) (causes : Nat) (replayed : Bool) : Gov :=
  let g := (((g.set F.PS_STAT_PHASE 4).mark F.PS_STAT_BUSY).set F.PS_STAT_TO 0).set F.PS_WAKE_STAT_CAUSE causes
  let g := ((g.set F.PS_WAKE_STAT_LATCH 0).set F.PS_WAKE_STAT_REPLAYED (b2n replayed))
  let g := g.withPwr { g.pwr with started := causes }
  if g.asleep then
    (g.withPwr { g.pwr with synWas := 0 }).psStep 10
  else g.runCodes

/-- The states a wake source acts in: all but RUN, the Hawser patterns only in SLEEP and DEEP (R302). -/
def Gov.wakeActs (g : Gov) (src : Nat) : Bool := g.state == stSleep || g.state == stDeep || (g.state == stIdle && src != 1 && src != 2)

/-- A wake source occurs (R302, R304): latched during an entry, noted during an exit, else the start of an exit. -/
def Gov.wake (g : Gov) (src : Nat) : Gov :=
  if !bit (g.get F.PS_WAKE_EN_EN) src then g
  else if g.flag F.PS_STAT_BUSY then
    if 10 ≤ g.pwr.step then g.upd F.PS_WAKE_STAT_CAUSE (· ||| 2 ^ src) else g.upd F.PS_WAKE_STAT_LATCH (· ||| 2 ^ src)
  else if g.wakeActs src then g.beginExit (2 ^ src) false
  else g

/-! ### The handshake (R292 to R296) -/

/-- Answer the power-state command that awaits the handshake: a commit with DEFERRED and its signal armed (R362, R370), or with ABORTED_SESSION where a newer session has ended it (R360). -/
def Gov.answerPs (g : Gov) (status : Nat) (params : List Nat) : Gov :=
  match g.pwr.cmdChan with
  | none => g
  | some n =>
    let g := g.withPwr { g.pwr with cmdChan := none }
    match g.req n with
    | some r =>
      match r.doom with
      | some st => g.post n r.words st []
      | none => (g.commit n r.words status (some .psDone)).post n r.words status params
    | none => g

/-- The handshake ends: one count where a berth held (R294). -/
def Gov.countHold (g : Gov) : Gov := if g.flag F.PS_STAT_HELD then g.inc F.PS_CNT_HOLD_COUNT else g

/-- The reverted code is acknowledged: BUSY clears; an abort from IDLE replays the latch (R295, R304). -/
def Gov.endRevert (g : Gov) : Gov :=
  let g := (((g.psStep 0).set F.PS_STAT_TO 0).set F.PS_STAT_BUSY 0).set F.PS_STAT_PHASE 0
  let latch := g.get F.PS_WAKE_STAT_LATCH
  if g.state = stIdle ∧ latch ≠ 0 then g.beginExit latch true else g.set F.PS_WAKE_STAT_LATCH 0

/-- Every asked berth has accepted the present code. -/
def Gov.allAccepted (g : Gov) : Bool := g.asked.all fun b => (g.ans b).answer == some none

/-- A refusal of the entry (R295): its records and its count; the answer is the record's word 2. -/
def Gov.refusal (g : Gov) (b rsn : Nat) : Nat × Gov :=
  let (w, g) := g.refusalRecord b rsn g.psTo false
  (w, g.inc F.PS_CNT_REFUSE_COUNT)

/-- Abort with the refusals seen (R295, R307). -/
def Gov.abortEntry (g : Gov) (refusals : List (Nat × Nat)) : Gov :=
  let res := refusals.foldl (fun (acc : List Nat × Gov) p => ((acc.1 ++ [(acc.2.refusal p.1 p.2).1]), (acc.2.refusal p.1 p.2).2)) ([], g.countHold)
  let g := (((res.2.inc F.PS_CNT_ABORT_COUNT).set F.PS_STAT_RESULT 2).set F.PS_STAT_PHASE 5).mark F.GOV_IRQ_SRC_PS
  let g := if g.state = stIdle then g else g.set F.PS_WAKE_STAT_LATCH 0
  let g := (g.withPwr { g.pwr with idle := 0, refused := !refusals.isEmpty }).answerPs stEntryAborted (res.1.take 1)
  let g := (g.drive g.state).psStep 9
  if g.allAccepted then g.endRevert else g

/-- The commit (R297 step 1, which does nothing for IDLE); a shed in progress is aborted (R307). -/
def Gov.commitEntry (g : Gov) : Gov :=
  let dst := g.psTo
  let block := if dst = stOff then [] else (List.range 16).map fun k => (g.word (0x600 + 0x40 * dst + 4 * k)).toNat
  let g := (g.countHold).withPwr { g.pwr with block := block }
  let g := if dst = stIdle then g else (g.set F.PS_STAT_PHASE 2).each (List.range 8) Gov.abortShed
  let g := if dst = stSleep ∨ dst = stDeep then g.purgeAll else g
  (g.answerPs stDeferred [1]).psStep 2

/-- The end of an exit (R301 step 7). -/
def Gov.endExit (g : Gov) : Gov :=
  let g := ((((g.psStep 0).set F.PS_STAT_STATE 0).set F.PS_STAT_BUSY 0).set F.PS_STAT_PHASE 0).mark F.GOV_IRQ_SRC_PS
  let g := (g.inc F.PS_CNT_WAKE_COUNT).withPwr { g.pwr with step := 0, idle := 0 }
  (g.fire .psDone).takeUp

/-- The asked berths that refuse, with their reasons. -/
def Gov.refusalsSeen (g : Gov) : List (Nat × Nat) := g.asked.filterMap fun b => ((g.ans b).answer.getD none).map fun rsn => (b, rsn)

/-- What the answers seen so far bring about. -/
def Gov.weigh (g : Gov) : Gov :=
  let step := g.pwr.step
  if step = 1 then
    if !g.refusalsSeen.isEmpty then g.abortEntry g.refusalsSeen
    else if g.allAccepted then g.commitEntry
    else g
  else if step = 9 then (if g.allAccepted then g.endRevert else g)
  else if step = 13 then (if g.allAccepted then g.endExit else g)
  else g

/-- A berth's pins as an answer to the present code (R45 to R47). -/
def judgeAnswer (x : BerthAns) : BerthAns :=
  if x.answer.isSome then x
  else if !x.sawLow then (if x.ack || x.nak then x else { x with sawLow := true })
  else if x.ack && x.nak then { x with answer := some (some 7) }
  else if x.ack then { x with answer := some none }
  else if x.nak then { x with answer := some (some (if x.rsn = 6 then 7 else x.rsn)) }
  else x

/-- A berth's pins 100 ns after the change of PS_REQ, if they were not seen low since: a refusal (R46); a PS_ACK that never was low since reset is tied, and its berth stands as accepting (R35; log entry 90). -/
def judgeHigh (x : BerthAns) : BerthAns :=
  if x.answer.isSome ∨ x.sawLow then x
  else if !x.wasLow && x.ack && !x.nak then { x with answer := some none }
  else { x with answer := some (some 7) }

/-- The governor waits for answers. -/
def Gov.asking (g : Gov) : Bool := g.pwr.step == 1 || g.pwr.step == 9 || g.pwr.step == 13

/-- Pins that change in the engine cycle that changes PS_REQ still answer the old code: a refusal in a cycle that aborts for refusals is one of them (R295). -/
def Gov.lateRefusal (g : Gov) (b : Nat) : Gov :=
  let x := g.ans b
  let g := g.setAns b fun x => { x with sawLow := !x.ack && !x.nak }
  if g.pwr.step = 9 ∧ g.pwr.refused ∧ x.sawLow ∧ x.nak then (g.refusal b (if x.ack ∨ x.rsn = 6 then 7 else x.rsn)).2 else g

/-- The 100 ns of R45 step 2 are over. -/
def Gov.lateAnswers (g : Gov) : Gov := (g.each g.asked fun g b => g.setAns b judgeHigh).weigh

/-- The 100 ns of R45 step 2 still run for a berth. -/
def Gov.waitsLow (g : Gov) : Bool := g.asking && g.asked.any fun b => !(g.ans b).sawLow && (g.ans b).answer.isNone

/-- Berths quarantined during a handshake are skipped for the rest of it (R46). -/
def Gov.skipQuar (g : Gov) : Gov :=
  if g.asking then (g.each g.berths fun g b => if g.quar b then g.setAns b fun x => { x with skip := true } else g).weigh else g

/-- At a base tick: berths quarantined meanwhile are skipped, and a rail settling in an entry sheds its next phase (R297 step 6). -/
def Gov.psTick (g : Gov) : Gov :=
  let g := g.skipQuar
  if g.pwr.step = 5 ∧ (g.psTo = stSleep ∨ g.psTo = stDeep) then
    g.each (List.range 8) fun g r =>
      let x := g.psRail r
      if g.railOn r && x.2.2 && decide (x.2.1 < g.nAct r) && (g.sheddingPhase r).isNone then g.beginShed r else g
  else g

/-- A stop-die or trip reaction during the handshake aborts it without a record (R307). -/
def Gov.psStopCheck (g : Gov) : Gov :=
  if g.pwr.step = 1 ∧ (g.flag F.FLT_CTRL_STOPPED ∨ g.flag F.FLT_CTRL_TRIPPED) then g.abortEntry [] else g

/-- A request (R292): whether it is accepted, and the state after it. -/
def Gov.psRequest (g : Gov) (target : Nat) (chan : Option (Fin 16)) : Bool × Gov :=
  let ok := (g.state == stRun || g.state == stIdle) && decide (1 ≤ target) && decide (target ≤ 4) && target != g.state && !g.flag F.PS_STAT_BUSY && !g.flag F.LIM_STEADY_STAT_ACTIVE
  if !ok then (false, g.set F.PS_STAT_RESULT 3)
  else
    let g := ((g.mark F.PS_STAT_BUSY).upd F.PS_STAT_ATTEMPT fun a => (a + 1) % 2 ^ 16).set F.PS_STAT_TO target
    let g := ((g.set F.PS_STAT_PHASE 1).set F.PS_STAT_HELD 0).set F.PS_WAKE_STAT_LATCH 0
    let g := g.withPwr { g.pwr with cmdChan := chan }
    let g := (g.drive target).psStep 1
    let g := if g.asked.any fun b => (g.ans b).hold then g.mark F.PS_STAT_HELD else g
    (true, g.weigh)

/-- START with TARGET RUN, or a target (R292, R302). -/
def Gov.psStart (g : Gov) (target : Nat) (chan : Option (Fin 16)) : Bool × Gov :=
  if target = 0 ∧ g.state ≠ stRun ∧ g.state ≠ stOff ∧ !g.flag F.PS_STAT_BUSY then (true, g.beginExit 0 false) else g.psRequest target chan

/-- CANCEL: during a handshake, an abort without a record (R307). -/
def Gov.psCancel (g : Gov) : Gov := if g.pwr.step = 1 then g.abortEntry [] else g

/-- The count of R293 at the end of a sample: LINK_ACT, reservations and hints count for the whole of it. -/
def Gov.idleSample (g : Gov) : Gov :=
  let active := g.pins.linkAct || g.get F.FCU_HINT_STAT_ACTIVE != 0 || g.fcu.table.any (fun e => e.st != .pending)
  let quiet := g.state == stRun && g.flag F.PS_CFG_IDLE_AUTO && !active && !g.pwr.restless && !g.flag F.PS_STAT_BUSY && !g.flag F.LIM_STEADY_STAT_ACTIVE &&
    g.berths.all fun b => decide (g.get (F.BT_ACT_ACT b) ≤ g.get F.PS_IDLE_IDLE_ACT)
  g.withPwr { g.pwr with idle := if quiet then g.pwr.idle + 1 else 0, restless := active }

/-! ### Entry after commit (R297 to R300) -/

/-- The rank-4 ceiling 0x000 of R297 step 2 holds a berth: from the first step 6 after the commit until the die is in RUN again. -/
def Gov.psShut (g : Gov) (b : Nat) : Bool :=
  let step := g.pwr.step
  (decide (2 ≤ step) && decide (step ≤ 5) && (g.psTo != stIdle || bit g.offMask (g.regionOf b))) ||
  (g.state == stIdle && bit g.pwr.stopped (g.regionOf b)) || g.asleep

/-- Rails follow the power-state table, and neither the selector nor the phase rule (R297 step 6, R33). -/
def Gov.psRails (g : Gov) : Bool := (g.pwr.step == 5 && g.psTo != stIdle) || (g.asleep && decide (g.pwr.step ≤ 10))

/-- R23 step 6: the sluice targets have been set to 0x000. -/
def Gov.psTargets (g : Gov) : Gov := if g.pwr.step = 2 then g.psStep 3 else g

/-- Remember a region's source and stop it. -/
def Gov.psStopRegion (g : Gov) (rg : Nat) : Gov :=
  let x := g.get (F.DRP_RGN_MUX_SEL rg) + 4 * g.get (F.DRP_RGN_MUX_ALT rg)
  let g := g.withPwr { g.pwr with stopped := g.pwr.stopped ||| 2 ^ rg, saved := if bit g.pwr.stopped rg then g.pwr.saved else Tab.put (fun _ => 0) g.pwr.saved rg x }
  if g.source rg = .off then g else g.beginSwitch rg 3 (g.get (F.DRP_RGN_MUX_ALT rg))

/-- Steps 5 and 6: bias codes to the affected regions, rails to their entries; for IDLE only the codes. -/
def Gov.psSettle (g : Gov) : Gov :=
  let dst := g.psTo
  let g := if dst = stOff then g else g.each ((bitList 16 g.offMask).filter fun rg => g.source rg == .off) fun g rg =>
    g.withPwr { g.pwr with codes := Tab.put (fun _ => 0) g.pwr.codes rg (g.blockWord (0x20 + rg / 2 * 4) / 2 ^ (16 * (rg % 2)) % 2 ^ 14) }
  let g := g.withPwr { g.pwr with settled := decide (dst = stOff), settleAt := g.now + 1000 * (g.blockWord 4 % 256) }
  let g := (if dst = stIdle then g else g.set F.PS_STAT_PHASE 3).psStep 5
  if dst = stIdle then g
  else g.each ((List.range 8).filter g.railOn) fun g r =>
    let x := g.psRail r
    if dst = stOff ∨ !x.2.2 then g.stopRail r else (g.abortShed r).setTarget r (g.usable r (min x.1 (g.eMax r)))

/-- The berths whose GATE an entry closes. -/
def Gov.closing (g : Gov) : List Nat := g.berths.filter fun b => g.psTo != stIdle || bit g.offMask (g.regionOf b)

/-- An unaffected region that selects a synthesizer moves to REFCLK, or stops where REFCLK is absent (R297 step 3). -/
def Gov.psMoveRegion (g : Gov) (rg : Nat) : Gov :=
  match g.source rg with
  | .syn k =>
    if g.sourcePresent .ref then
      let x := g.get (F.DRP_RGN_MUX_SEL rg) + 4 * g.get (F.DRP_RGN_MUX_ALT rg)
      let g := g.withPwr { g.pwr with movedRef := g.pwr.movedRef ||| 2 ^ rg, saved := Tab.put (fun _ => 0) g.pwr.saved rg x }
      g.beginSwitch rg 2 (g.get (F.DRP_RGN_MUX_ALT rg))
    else (g.psStopRegion rg).log g.now 6 [rg + 3 * 2 ^ 4 + k * 2 ^ 8]
  | _ => g

/-- Step 3 of an entry: the affected regions stop; for SLEEP the others leave their synthesizers. -/
def Gov.psRegions (g : Gov) : Gov :=
  let mask := g.offMask
  let sleep := decide (g.psTo = stSleep)
  let g := g.each (bitList 16 mask) Gov.psStopRegion
  if sleep then g.each ((List.range 16).filter fun rg => !bit mask rg) Gov.psMoveRegion else g

/-- Step 6 of an entry is complete. -/
def Gov.railsSettled (g : Gov) : Bool :=
  g.psTo == stIdle || (List.range 8).all fun r =>
    let x := g.psRail r
    if !g.railOn r then true
    else if g.psTo == stOff || !x.2.2 then g.rstate r == rOff
    else g.flag (F.RAIL_STATE_REACHED r) && decide (g.nAct r ≤ x.2.1) && (g.sheddingPhase r).isNone

/-- The engine stops (R32, R239): no further sample; the sample in progress and what is left of the one before are dropped. -/
def Gov.stopEngine (g : Gov) : Gov :=
  (((g.withPll false).withLed { g.led with tickAt := none, stopped := true }).withEng { g.eng with ran := false, feeds := [] }).withFcu { g.fcu with late := none }

/-- Sweeps not yet latched keep out of the judgement that sleep suspends (R232). -/
def Gov.suspendSweeps (g : Gov) : Gov :=
  let off := fun (x : SweepSt) => { x with judged := false }
  g.withSns { g.sns with tSweeps := g.sns.tSweeps.map off, pSweeps := g.sns.pSweeps.map off }

/-- The domains stop as SLEEP and DEEP require (R32, R33, R77); requests not served by then will be answered ABORTED (R372). -/
def Gov.fallAsleep (g : Gov) : Gov :=
  let g := g.each ((List.range 8).filter g.railWant) fun g r => g.setRail r fun x => { x with hold := true }
  let on := mapBits 16 g.synOn
  let g := g.each (bitList 16 on) Gov.stopSyn
  let g := (g.withPwr { g.pwr with synWas := on }).suspendSweeps
  let g := g.withFcu { g.fcu with gateOut := [] }
  let g := g.withFlt { g.flt with passStart := g.now - g.flt.passStart }
  let g := g.withCmd { g.cmd with reqs := g.cmd.reqs.map fun (p : Nat × Req) => if p.2.phase = ReqPhase.serving then p else (p.1, { p.2 with doom := some stAborted }) }
  ((g.linkOff 0).linkOff 1).stopEngine

/-- The event data of the OFF-ready notice (R64). -/
def Gov.noticeEvent (g : Gov) (time : Nat) (wakePending : Bool) : Event :=
  .notice (beBytes 4 g.fuses.pen ++ [0x01, 0x01] ++ leBytes 2 (b2n wakePending) ++ leBytes 8 time ++ leBytes 1 g.node)

/-- The notice is due: it was not sent yet, or 100 ms ago. -/
def noticeDue (last : Option Nat) (now : Nat) : Bool :=
  match last with
  | none => true
  | some p => decide (p + 100000000 ≤ now)

/-- Pilot C sends a notice that is due (R64). -/
def Gov.sendNotice (g : Gov) : Gov :=
  match g.pwr.notice with
  | some (time, wake, last) =>
    if g.powered && g.running && g.pilotUp 2 && noticeDue last g.now then
      (g.withPwr { g.pwr with notice := some (time, wake, some g.now) }).withFlt { g.flt with event := some (g.noticeEvent time wake) }
    else g
  | none => g

/-- Step 7 of an entry (R297, R304): STATE, the record of the result, and the event; OFF sends its notice (R306); SLEEP and DEEP stop the domains; a latched wake is replayed. -/
def Gov.finishEntry (g : Gov) : Gov :=
  let dst := g.psTo
  let latch := g.get F.PS_WAKE_STAT_LATCH
  let g := if dst = stSleep ∨ dst = stDeep then g.fallAsleep else g
  let g := ((((((g.set F.PS_STAT_STATE dst).set F.PS_STAT_TO 0).set F.PS_STAT_BUSY 0).set F.PS_STAT_RESULT 1).set F.PS_STAT_PHASE 0).inc F.PS_CNT_DONE_COUNT).mark F.GOV_IRQ_SRC_PS
  let g := (g.psStep 0).fire .psDone
  let g := g.withPwr { g.pwr with irqHeld := mapBits 4 g.irqLevel }
  if dst = stOff then (g.withPwr { g.pwr with notice := some (g.now, latch != 0, none) }).sendNotice
  else if latch ≠ 0 then g.beginExit latch true
  else g

/-! ### Exit steps (R301) -/

/-- The rails return from the hold compensator to the engine, stopped ones start, and each awaits its target: of the board's VSEL at once, else of the selector (R301 step 2). -/
def Gov.returnRails (g : Gov) : Gov :=
  let g := g.each ((List.range 8).filter g.railOn) fun g r =>
    let g := g.setRail r fun x => { x with hold := false }
    let g := if (g.rail r).psStop then g.startRail r else g
    if g.byVsel then g.followVsel r else g
  g.withPwr { g.pwr with await := !g.byVsel }

/-- A wake by a Hawser pattern is passed on by the other enabled port where HWS_FWD is set; a source that came during the exit has no further effect (R303, R304). -/
def Gov.forwardWake (g : Gov) : Gov :=
  let by_ := g.pwr.started
  if g.flag F.PS_CFG_HWS_FWD ∧ (bit by_ 1 ∨ bit by_ 2) then g.sendWake ((if bit by_ 1 then [1] else []) ++ (if bit by_ 2 then [0] else [])) else g

/-- The engine and the pilots run again: the scrub pass resumes, and requests that sleep left unserved are answered (R319, R372). -/
def Gov.resumeWork (g : Gov) : Gov :=
  (g.withFlt { g.flt with passStart := g.now - g.flt.passStart }).each ([0, 1, 2].filter g.pilotUp) Gov.answerLeft

/-- Step 4 of an exit: every enabled rail has reached the target of step 2, and the bias has settled. -/
def Gov.exitReady (g : Gov) : Bool := g.pwr.step == 11 && g.pwr.settled && !g.pwr.await && (List.range 8).all fun r => !g.railOn r || g.flag (F.RAIL_STATE_REACHED r)

/-- The instant of step 4 of an exit is noted. -/
def Gov.settlePower (g : Gov) : Gov := if g.exitReady then g.psStep 12 else g

/-- The synthesizers the saved sources need are locked. -/
def Gov.savedLocked (g : Gov) : Bool :=
  (bitList 16 (g.pwr.stopped ||| g.pwr.movedRef)).all fun rg =>
    let x := Tab.get (fun _ => 0) g.pwr.saved rg
    match sourceOf rg (x % 4) (x / 4) with
    | .syn k => g.flag (F.FSYN_STAT_LOCK k)
    | _ => true

/-- Every region is restored: PS_REQ becomes RUN (R301 step 6). -/
def Gov.psRestored (g : Gov) : Gov :=
  if g.pwr.step = 14 ∧ (bitList 16 g.pwr.movedRef).all (fun rg => !g.flag (F.DRP_RGN_MUX_BUSY rg)) then
    let g := (g.withPwr { g.pwr with stopped := 0, movedRef := 0, saved := [] }).drive stRun
    let g := g.psStep 13
    if g.allAccepted then g.endExit else g
  else g

/-- The regions return to the sources they had: from OFF at once, from a running clock by an ordinary switch (R301 step 5). -/
def Gov.restoreRegions (g : Gov) : Gov :=
  let g := g.each (bitList 16 (g.pwr.stopped ||| g.pwr.movedRef)) fun g rg =>
    let x := Tab.get (fun _ => 0) g.pwr.saved rg
    if (g.rgn rg).out == .off then g.forceSource rg (x % 4) (x / 4)
    else if g.source rg == sourceOf rg (x % 4) (x / 4) then g.selectSource rg (x % 4) (x / 4)
    else (g.withPwr { g.pwr with movedRef := g.pwr.movedRef ||| 2 ^ rg }).beginSwitch rg (x % 4) (x / 4)
  (g.psStep 14).psRestored

/-! ### Registers (R302, R306, R308, R309) -/

/-- PS_CTRL_CLR: counters and refusal records. -/
def Gov.clearPower (g : Gov) : Gov :=
  g.zeroWords ([W.PS_CNT_DONE, W.PS_CNT_ABORT, W.PS_CNT_REFUSE, W.PS_CNT_HOLD, W.PS_CNT_WAKE, W.PS_LOG_HEAD] ++ (List.range 64).map fun k => 0x700 + 4 * k)

/-- A write of PS_CTRL: PS_CTRL_CLR, PS_CANCEL, PS_ENTRY_REQUEST and PS_EXIT_REQUEST. -/
def Gov.writePsCtrl (g : Gov) (w : Word) : Gov :=
  let g := g.plain W.PS_CTRL w
  let g := if bit w.toNat 6 then g.clearPower else g
  let g := if bit w.toNat 5 then g.psCancel else g
  if bit w.toNat 4 then (g.psStart (field w 0 3) none).2 else g

/-- A write to the power-state group. -/
def Gov.writePower (g : Gov) (off : Nat) (w : Word) : Verdict :=
  let bad := refuse (g.mark F.PS_STAT_REFUSED)
  if off = W.PS_CTRL then accept (g.writePsCtrl w)
  else if off = W.PS_CFG then
    if field w 0 10 = 0 ∨ 1000 < field w 0 10 then bad else accept (g.plain off w)
  else if off = W.PS_IDLE then accept ((g.plain off w).withPwr { g.pwr with idle := 0 })
  else if off = W.PS_ST_RGN 3 then accept g
  else if 0x600 ≤ off ∧ off < 0x700 ∧ 0x10 ≤ off % 0x40 ∧ off % 0x40 < 0x20 then
    if (bit w.toNat 11 && field w 4 7 == 0) || (bit w.toNat 27 && field w 20 7 == 0) then bad else accept (g.plain off w)
  else accept (g.plain off w)

end Sys2Proof.Machine
end

