-- ==== Sys2Proof/Machine/Path.lean ====
section
/-! DEFINITION. The steps of the sample path that follow the tick which ends a sample (R23 steps 4 to 7): lane work closed, arbitration, snapshot, base, target, forecast, regulator and trace; the sluice and the GATE outputs; and the order in which these steps and the commands between them come. -/

namespace Sys2Proof.Machine

/-! ### Steps 5 and 6: snapshot, base, target and forecast (R132, R133, R124, R147) -/

/-- An entry counts as started at a tick. -/
def entryStarted (tick : Nat) (e : Entry) : Bool := e.st != .pending && decide (e.start ≤ tick)

/-- The snapshot of one berth at the present base tick (R132, R147). -/
def Gov.snapshot (g : Gov) (b : Nat) : Snap :=
  let es := g.fcu.table.filter fun e => e.berth == b
  let st := es.filter (entryStarted g.tick)
  let near := es.filter fun e => decide (e.start ≤ g.tick + g.act F.FCU_CFG_LEAD)
  { berth := b, started := !st.isEmpty, rs := (st.map (·.act)).foldl (· + ·) 0, rl := (near.map (·.act)).foldl (· + ·) 0, gate := g.get (F.BT_GATE_GATE b) }

/-- FCST of a berth as an activity (R42). -/
def Gov.fcstAct (g : Gov) (b : Nat) : Nat := (g.actSt b).fcst * 273

/-- The base of a berth (R133). -/
def Gov.baseOf (g : Gov) (x : Snap) : Nat :=
  let a := g.get (F.BT_ACT_ACT x.berth)
  let dem := if g.get (F.BT_ACT_GAVG x.berth) ≤ a + g.act F.ASL_CFG_PRESS then 0xFFF else min 0xFFF (a + g.act (F.BT_OPEN_HEAD x.berth))
  max dem (min 0xFFF (x.rs + g.fcstAct x.berth))

/-- The target of a berth: 0 while it is quarantined, retiring or shut for a power state, STEADY_ACT in steady mode, else from its base through rank 5 (R121, R124, R133, R297, R384). -/
def Gov.targetOf (g : Gov) (x : Snap) : Nat :=
  let b := x.berth
  if g.quar b || !g.actFlag (F.BT_CFG_PRESENT b) || g.psShut b then 0
  else if g.flag F.LIM_STEADY_STAT_ACTIVE then g.act F.LIM_STEADY_ACT_STEADY_ACT
  else (g.rank5 b (g.baseOf x)).2.2

/-- What the berth table shows of a sample's rank-5 stage and snapshot (R383). -/
def Gov.showStage (g : Gov) (x : Snap) : Gov :=
  let b := x.berth
  let ceil := g.get (F.BT_CEIL_CEIL b)
  let share := g.actFlag F.LIM_CFG_BE_EN && !g.isLc b && !g.flag F.LIM_STEADY_STAT_ACTIVE
  let fl := if g.flag F.LIM_STEADY_STAT_ACTIVE then 0 else (g.rank5 b 0).2.1
  let g := (g.set (F.BT_FCU_RSUM b) (min 0xFFF x.rs)).set (F.BT_ACCT_CLS b) (b2n (!g.isLc b))
  (g.set (F.BT_CEIL_CEIL b) (if share then min ceil g.shareCeil else ceil)).set (F.BT_CEIL_FLOOR b) fl

/-- A berth that is no longer present shows an empty snapshot (R136). -/
def Gov.dropSnap (g : Gov) (b : Nat) : Gov :=
  if !g.present b ∧ (g.get (F.BT_FCU_RSUM b) ≠ 0 ∨ g.flag (F.BT_GATE_STARTED b)) then (g.set (F.BT_FCU_RSUM b) 0).set (F.BT_GATE_STARTED b) 0 else g

/-- The sluice's part of step 6: the targets formed; the sluice ticks after it use them (R23 step 7, R130). -/
def Gov.formTargets (g : Gov) (snaps : List Snap) : Gov :=
  let ts : List (Nat × Nat × Bool) := snaps.map fun x => (x.berth, g.targetOf x, x.started)
  let g := g.withFcu { g.fcu with prevTgt := (ts.map fun (x : Nat × Nat × Bool) => (x.1, g.get (F.BT_GATE_TARGET x.1))).filter (·.2 != 0) }
  (g.each ts fun g x => (g.set (F.BT_GATE_TARGET x.1) x.2.1).set (F.BT_GATE_STARTED x.1) (b2n x.2.2)).each (List.range 256) Gov.dropSnap

/-- One berth's part in the forecast rise of its rail (R147). -/
def Gov.berthRise (g : Gov) (x : Snap) : Nat :=
  let b := x.berth
  let a := g.get (F.BT_ACT_ACT b)
  let reach := max x.gate (min (g.get (F.BT_CEIL_CEIL b)) (min 0xFFF (x.rl + g.fcstAct b)))
  (reach - a) * g.act (F.BT_IPEAK_IPEAK b) / 4095

/-- The classes whose hint is active. -/
def Gov.activeClasses (g : Gov) : List Nat := (List.range 16).filter g.hintActive

/-- The forecast rise of a rail from the classes active at the snapshot cycle, each addition saturating (R147). -/
def Gov.railRise (g : Gov) (classes : List Nat) (snaps : List Snap) (r : Nat) : Nat :=
  let add := fun (a x : Nat) => usat 16 (a + x)
  let rise := ((snaps.filter fun x => g.railOf x.berth == r).map g.berthRise).foldl add 0
  classes.foldl (fun a k =>
    let a := if g.act (F.FCU_CLS_RSEL_RSEL0 k) = r then add a (g.act (F.FCU_CLS_RISE_RISE0 k)) else a
    if g.act (F.FCU_CLS_RSEL_RSEL1 k) = r then add a (g.act (F.FCU_CLS_RISE_RISE1 k)) else a) rise

/-- The forecast entry of a rail: the highest voltage among the entries its active classes want, the lower index among equals; none without such a class (R147). -/
def Gov.railEntry (g : Gov) (classes : List Nat) (r : Nat) : Option Nat :=
  let es := (classes.filter fun k => bit (g.act (F.FCU_CLS_CFG_RAILMASK k)) r).map fun k => g.act (F.FCU_CLS_ENTRY k r)
  es.foldl (fun best e =>
    match best with
    | none => some e
    | some x => if g.entry r x < g.entry r e ∨ (g.entry r x = g.entry r e ∧ e < x) then some e else some x) none

/-- Publish a rail's forecast. -/
def Gov.publishForecast (classes : List Nat) (snaps : List Snap) (g : Gov) (r : Nat) : Gov :=
  let g := g.set (F.FCU_RAIL_FC_RISE r) (g.railRise classes snaps r)
  match g.railEntry classes r with
  | some e => (g.set (F.FCU_RAIL_FC_ENTRY r) e).mark (F.FCU_RAIL_FC_ENTRY_VALID r)
  | none => (g.set (F.FCU_RAIL_FC_ENTRY r) 0).set (F.FCU_RAIL_FC_ENTRY_VALID r) 0

/-- The regulator's part of step 6: entries and phase counts where the power-state table does not hold them, and imbalance; the phase means are those of the tick (R187, R197, R201). -/
def Gov.regulatorStep (g : Gov) : Gov :=
  let on := (List.range 8).filter g.railOn
  let g := if g.psRails then g else g.each on Gov.selectEntry
  let g := if g.psRails then g else g.each on Gov.phaseCounts
  g.each on Gov.imbalance

/-- The selector of R188 at step 6 of a sample computes with the RAIL_SEL words that were active in it, although the next sample has begun (R25; the worked example of R189). Berth words and the others are active for every part from step 1 of the next sample on. -/
def Gov.withWords (g : Gov) (old : Tab Word) (f : Gov → Gov) : Gov :=
  let kept := g.held
  (f (g.withHeld (old ++ kept))).withHeld kept

/-- A sample computes with the period it ran at, although the next one has begun with another (R79). -/
def Gov.withCode (g : Gov) (code : Nat) (f : Gov → Gov) : Gov :=
  let new := g.get F.ENG_CFG_PER_ACT
  if code = new then f g else (f (g.set F.ENG_CFG_PER_ACT code)).set F.ENG_CFG_PER_ACT new

/-! ### The steps after the tick (R23) -/

/-- The selection words of the rails. -/
def selWord (off : Nat) : Bool := (List.range 8).any fun r => off == W.RAIL_SEL r

/-- Keep what the later steps of the ended sample need. -/
def Gov.setLate (g : Gov) (l : LateSt) : Gov := g.withFcu { g.fcu with late := some l }

/-- An entry whose parity fails is freed as a purge (R150, R317). -/
def Gov.freeEntry (g : Gov) (e : BadEntry) : Gov :=
  let hit := fun (x : Entry) => x.hasKey e.berth e.acct e.igid.toNat
  if g.fcu.table.any hit then (g.purge hit).raise 266 e.num.toNat else g

/-- Step 4: the lane work of the sample closes. -/
def Gov.stepFour (g : Gov) (l : LateSt) : Gov :=
  let ran := g.eng.inProg
  let c := g.closeLoops l.lanes (l.old.map (·.1))
  c.2.setLate { l with stage := 1, ran := ran, gone := c.1 }

/-- Step 5: arbitration, the synthesizers' targets (R160), and the snapshot; the loops of the next sample, whose inputs are complete then, run. -/
def Gov.stepFive (g : Gov) (l : LateSt) : Gov :=
  let g := ((g.arbitrate l.idx l.dests).steadyBreak l.idx).each (List.range 16) Gov.retarget
  let g := (g.settleEntries.settleHints).each l.entries Gov.freeEntry
  (g.setLate { l with stage := 2, classes := g.activeClasses, snaps := g.berths.map g.snapshot }).runLoops

/-- Step 6: targets, forecast, regulator and guards. -/
def Gov.stepSix (g : Gov) (l : LateSt) : Gov :=
  let g := (g.formTargets l.snaps).each (List.range 8) (Gov.publishForecast l.classes l.snaps)
  let g := ((g.each l.snaps Gov.showStage).psTargets.withWords (l.old.filter fun p => selWord p.1) Gov.regulatorStep).trimStep
  (g.withPwr { g.pwr with await := false }).setLate { l with stage := 3 }

/-- Step 7: the records of the sample and its watch, after the sluice tick of that instant. -/
def Gov.stepSeven (g : Gov) (l : LateSt) : Gov :=
  ((g.traceSample l.idx l.cfg l.sensed).watchSample l.idx l.cfg l.ran l.gone).withFcu { g.fcu with late := none }

/-- The instant of the next step of an ended sample: 50 ns after the tick, then every 10 ns. -/
def LateSt.due (l : LateSt) : Nat := l.tick + 50 + 10 * l.stage

/-- The next step of the ended sample. -/
def Gov.lateStep (g : Gov) (l : LateSt) : Gov :=
  g.withCode l.code fun g =>
    match l.stage with
    | 0 => g.stepFour l
    | 1 => g.stepFive l
    | 2 => g.stepSix l
    | _ => g.stepSeven l

/-! ### Moving in time -/

/-- What comes about by itself up to an instant: the next step of an ended sample, or the end of the 100 ns of R45. -/
inductive Inner where
  | path (l : LateSt)
  | low
  deriving DecidableEq, Repr

/-- The first such event up to an instant, with its time. A level that is due within 100 ns may still come at the end of them. -/
def Gov.inner (g : Gov) (till : Nat) : Option (Nat × Inner) :=
  let low := if g.waitsLow && decide (g.pwr.reqAt + 100 < till) then some (g.pwr.reqAt + 100, Inner.low) else none
  match g.fcu.late with
  | some l => if l.due ≤ till ∧ (low.isNone ∨ l.due ≤ g.pwr.reqAt + 100) then some (l.due, .path l) else low
  | none => low

/-- Take one such event at its time. -/
def Gov.takeInner (g : Gov) (at_ : Nat) : Inner → Gov
  | .path l => (g.settlePower.passTo at_).lateStep l
  | .low => (g.settlePower.passTo at_).lateAnswers

/-- Take every such event up to an instant, in order; there are at most four steps and, within an interval of a base tick, three answers. -/
def Gov.catchUp : Nat → Nat → Gov → Gov
  | 0, _, g => g
  | fuel + 1, till, g =>
    match g.inner till with
    | none => g
    | some (at_, x) => (g.takeInner at_ x).catchUp fuel till

/-- Move to an instant, never backward, after what comes about by itself up to another one. -/
def Gov.moveTo (g : Gov) (till at_ : Nat) : Gov := (g.catchUp 12 till).settlePower.passTo at_

/-- Move to an instant inside the present base tick, after what comes about by itself up to and at it. -/
def Gov.reach (g : Gov) (t : Fin 250) : Gov := let at_ := (g.adv t).now; g.moveTo at_ at_

/-- Move to an instant inside the present base tick, after what comes about by itself before it. -/
def Gov.past (g : Gov) (t : Fin 250) : Gov := let at_ := (g.adv t).now; g.moveTo (at_ - 1) at_

/-- Run an event at an instant inside the present base tick, while the governor is powered, out of reset, and the die not in OFF. -/
def Gov.ev (g : Gov) (t : Fin 250) (f : Gov → Gov) : Gov := if g.up then f (g.reach t) else g

/-- Run an event at an instant inside the present base tick, while the engine runs. -/
def Gov.engineEv (g : Gov) (t : Fin 250) (f : Gov → Gov) : Gov := if g.engine then f (g.reach t) else g

/-! ### The sluice tick and the GATE outputs (R19, R37, R38, R129, R130) -/

/-- The open slope is in use for a berth: OPEN_EN, a started reservation, and READY of its rail as it stands now (R129, R130). -/
def Gov.openSlope (g : Gov) (b : Nat) : Bool :=
  g.actFlag F.FCU_CFG_OPEN_EN && g.flag (F.BT_GATE_STARTED b) && g.railReady (g.railOf b)

/-- The GATE of a berth after a tick: 0x000 while quarantined or while the die is stopped (rank 2), else one step. -/
def Gov.nextGate (g : Gov) (b : Nat) : Nat :=
  if g.quar b ∨ g.flag F.FLT_CTRL_STOPPED then 0
  else
    let up := if g.openSlope b then g.act (F.BT_OPEN_UP_OPEN b) else g.act (F.BT_SLOPE_UP b)
    gateStep up (g.act (F.BT_SLOPE_DN b)) (g.get (F.BT_GATE_TARGET b)) (g.get (F.BT_GATE_GATE b))

/-- A berth at a sluice tick: a parity failure holds its GATE for the tick, restores the target of the previous sample and raises source 259 (R317). Its output stage takes the value while its region has a clock, and holds its last one otherwise (R37, R38). -/
def Gov.sluiceBerth (ups : List (Fin 256)) (g : Gov) (b : Nat) : Gov :=
  let g := if ups.any fun u => u.val == b then (g.set (F.BT_GATE_TARGET b) (Tab.get (fun _ => 0) g.fcu.prevTgt b)).raise 259 b
    else (g.set (F.BT_GATE_OPENSLOPE b) (b2n (g.openSlope b))).set (F.BT_GATE_GATE b) (g.nextGate b)
  let v := g.get (F.BT_GATE_GATE b)
  let out := if g.clocked (g.regionOf b) then Tab.put (fun _ => 0) g.fcu.gateOut b v else g.fcu.gateOut
  g.withFcu { g.fcu with gateSum := Tab.upd (fun _ => 0) g.fcu.gateSum b (· + v), gateOut := out }

/-- GATE[11:0] of a berth's interface: 0x000 for an absent one (R48). -/
def Gov.gatePins (g : Gov) (b : Nat) : Nat := if g.present b then Tab.get (fun _ => 0) g.fcu.gateOut b else 0

/-- GATE_P of a berth's interface: odd parity over GATE, inverted by a fault injection until the next tick (R36, R398). -/
def Gov.gateParity (g : Gov) (b : Nat) : Bool := (oddParity 12 (g.gatePins b) == 1) != g.tap.gateP.contains b

end Sys2Proof.Machine
end

