-- ==== Sys2Proof/Machine/ClockRows.lean ====
section
/-! DEFINITION. The rows of: the breakwater, the synthesizers, the source multiplexers, the clock monitors and the oscillator trim (chapter 6). -/

namespace Sys2Proof.Machine

/-! ### Stretch episodes (R155 to R158) -/

/-- DROOP_CROSSING (R154, R156, R158). Clearing EN of DRP_RGN_STR in an episode leaves the episode running (DESIGN CHOICE: log entry 91). -/
def execDroopCrossing (d : Fin 256) (t : Fin 250) (s : State) : Host.Outcome State Fault Refusal :=
  s.onGov fun g => g.ev t fun g =>
    let rg := g.act (F.DRP_DET_CFG_REGION d)
    let g := (g.withClk { g.clk with crossing := Tab.put (fun _ => none) g.clk.crossing d (some g.now) }).mark (F.DRP_DET_CFG_CROSS d)
    if !g.armed d then g
    else
      let g := g.inc (F.DRP_DET_CNT_COUNT d)
      if g.episode rg then g.setRgn rg fun x => { x with crossed := true, falling := false }
      else if g.actFlag (F.DRP_RGN_STR_EN rg) && g.regionRuns rg then g.openEpisode rg d
      else g

/-- DETECTOR_RELEASE (R156). -/
def execDetectorRelease (d : Fin 256) (t : Fin 250) (s : State) : Host.Outcome State Fault Refusal :=
  s.onGov fun g => g.ev t fun g => g.detectorEnds d

/-- A timed step of a region's episode. -/
def Gov.stretchStep (g : Gov) (rg : Nat) (t : Fin 250) (ok : Gov → Bool) (f : Gov → Gov) : Gov :=
  let g' := g.reach t
  if g.up && g'.episode rg && ok g' then f g' else g

/-- STRETCH_ESCALATE (R156). -/
def execStretchEscalate (rg : Fin 16) (t : Fin 250) (s : State) : Host.Outcome State Fault Refusal :=
  s.onGov fun g => g.stretchStep rg t
    (fun g => g.regionCrosses rg && decide ((g.rgn rg).changeAt + 10 * g.act (F.DRP_RGN_STR_RLS rg) ≤ g.now) && decide (g.get (F.DRP_RGN_STAT_DEPTH rg) < g.act (F.DRP_RGN_STR_DEPTH_MAX rg)))
    fun g =>
      let d := g.get (F.DRP_RGN_STAT_DEPTH rg) + 1
      (g.set (F.DRP_RGN_STAT_DEPTH rg) d).setRgn rg fun x => { x with changeAt := g.now, maxDepth := max x.maxDepth d, falling := false }

/-- STRETCH_HOLD_EXPIRY (R156). -/
def execStretchHoldExpiry (rg : Fin 16) (t : Fin 250) (s : State) : Host.Outcome State Fault Refusal :=
  s.onGov fun g => g.stretchStep rg t
    (fun g => !g.regionCrosses rg && !(g.rgn rg).falling && decide ((g.rgn rg).endAt + 10 * g.act (F.DRP_RGN_STR_HOLD rg) ≤ g.now))
    fun g => g.release1 rg

/-- STRETCH_RELEASE_STEP (R156). -/
def execStretchReleaseStep (rg : Fin 16) (t : Fin 250) (s : State) : Host.Outcome State Fault Refusal :=
  s.onGov fun g => g.stretchStep rg t
    (fun g => !g.regionCrosses rg && (g.rgn rg).falling && decide ((g.rgn rg).changeAt + 10 * g.act (F.DRP_RGN_STR_RLS rg) ≤ g.now))
    fun g => g.release1 rg

/-- DETECTOR_STUCK (R223): 10 µs of crossing on a rail in state ON inside its window. -/
def execDetectorStuck (d : Fin 256) (t : Fin 250) (s : State) : Host.Outcome State Fault Refusal :=
  s.onGov fun g =>
    let g' := g.reach t
    let r := g'.act (F.DRP_DET_CFG_RAIL d)
    let long := fun (a : Nat) => decide (a + 10000 ≤ g'.now)
    if g.up && !g'.flag (F.SNS_DET_STAT_BROKEN d) && g'.actFlag (F.DRP_DET_CFG_EN d) && ((Tab.get (fun _ => none) g'.clk.crossing d).any long) && g'.rstate r == rOn && ((g'.rail r).goodAt.any long) then
      let g := g'.keepShadow (W.SNS_DET_STAT d)
      let g := ((g.mark (F.SNS_DET_STAT_BROKEN d)).inc F.SNS_CNT_BROKEN_COUNT).raise 261 (0xE000 + d)
      (g.log g.now 4 [0xE000 + d]).noteCross (g.act (F.DRP_DET_CFG_REGION d))
    else g

/-! ### Synthesizers (R159 to R163) -/

/-- FSYN_LOCK (R159): it locks at 200 MHz and then glides. -/
def execFsynLock (k : Fin 16) (t : Fin 250) (s : State) : Host.Outcome State Fault Refusal :=
  s.onGov fun g => g.ev t fun g =>
    if g.synOn k && !g.flag (F.FSYN_STAT_LOCK k) && !g.flag (F.FSYN_STAT_COAST k) then
      ((g.mark (F.FSYN_STAT_LOCK k)).set (F.FSYN_FREQ_CUR k) 200).retarget k
    else g

/-- FSYN_GLIDE_STEP (R161): 1 MHz toward the target, no faster than GUP or GDN allow. -/
def execFsynGlideStep (k : Fin 16) (t : Fin 250) (s : State) : Host.Outcome State Fault Refusal :=
  s.onGov fun g => g.ev t fun g =>
    if !g.synOn k then g
    else
      let g := g.reglide k
      let x := g.syn k
      if x.dir ≠ 0 ∧ 1000 ≤ x.credit then
        let g := g.upd (F.FSYN_FREQ_CUR k) fun c => if x.dir = 1 then c + 1 else c - 1
        (g.setSyn k fun x => { x with credit := x.credit - 1000 }).reglide k
      else g

/-! ### Reference loss (R164, R165) -/

/-- COAST_ENTRY: without a synthesizer named, REFCLK has shown no edge for 40 ns and every running one enters coast; with one, it alone lost lock while REFCLK is present. A synthesizer in lock shows that an earlier loss has ended. -/
def execCoastEntry (lost : Option (Fin 16)) (t : Fin 250) (s : State) : Host.Outcome State Fault Refusal :=
  s.onGov fun g => g.ev t fun g =>
    let runs := fun (k : Nat) => g.synOn k && !g.flag (F.FSYN_STAT_COAST k)
    match lost with
    | some k => if runs k then (g.coast k).raise 275 (2 ^ k.val) else g
    | none =>
      let ks := (List.range 16).filter runs
      if ks.isEmpty then g
      else
        let again := ks.any fun k => g.flag (F.FSYN_STAT_LOCK k)
        let g := g.withClk { g.clk with refSince := g.now, refLost := if again then none else g.clk.refLost }
        (g.each ks Gov.coast).refLoss

/-- COAST_EXIT (R165): REFCLK present for 100 µs without a break; the synthesizer has relocked at 200 MHz. -/
def execCoastExit (k : Fin 16) (t : Fin 250) (s : State) : Host.Outcome State Fault Refusal :=
  s.onGov fun g => g.ev t fun g =>
    if g.synOn k && g.flag (F.FSYN_STAT_COAST k) && g.flag F.DRP_CLKMON_REF_PRESENT && decide (g.clk.refSince + 100000 ≤ g.now) then
      (((g.set (F.FSYN_STAT_COAST k) 0).mark (F.FSYN_STAT_LOCK k)).set (F.FSYN_FREQ_CUR k) 200).retarget k
    else g

/-! ### Monitors (R166) -/

/-- CLKMON_WINDOW: the edges counted in a 1 µs window, of REFCLK, the 16 synthesizers and the 16 region outputs; the frame marks are those of the frames received on the UP port, and `mark` one that came in the window without a frame that a FRAME_RECEIVE reports (DEDUCED: log entry 88). -/
def execClkmonWindow (ref : BitVec 12) (syns rgns : List (BitVec 12)) (mark : Bool) (t : Fin 250) (s : State) : Host.Outcome State Fault Refusal :=
  s.onGov fun g => g.ev t fun g =>
    let g := g.refWindow ref.toNat
    let g := g.each (List.range 16) fun g k => g.window1 (1 + k) (syns.getD k 0).toNat ⟨W.DRP_CLKMON, k, 1⟩
    let g := g.each (List.range 16) fun g k => g.rgnWindow k (rgns.getD k 0).toNat
    (if mark then g.seeMark else g).markWindow

/-! ### Multiplexers (R167 to R170) -/

/-- REGION_SWITCH_COMPLETE (R168): it cannot finish while the old clock is stopped. -/
def execRegionSwitchComplete (rg : Fin 16) (t : Fin 250) (s : State) : Host.Outcome State Fault Refusal :=
  s.onGov fun g => g.ev t fun g =>
    if g.flag (F.DRP_RGN_MUX_BUSY rg) && ((g.rgn rg).out == .off || g.sourceRuns (g.rgn rg).out) && (g.source rg == .off || g.sourceRuns (g.source rg)) then (g.connect rg).psRestored else g

/-- REGION_SWITCH_HANG (R168): BUSY is still set 2 µs after the write. -/
def execRegionSwitchHang (rg : Fin 16) (t : Fin 250) (s : State) : Host.Outcome State Fault Refusal :=
  s.onGov fun g => g.ev t fun g =>
    if g.flag (F.DRP_RGN_MUX_BUSY rg) && !g.flag (F.DRP_RGN_MUX_HANG rg) && decide ((g.rgn rg).swAt + 2000 ≤ g.now) then
      ((g.mark (F.DRP_RGN_MUX_HANG rg)).setRgn rg fun x => { x with goneAt := some (x.goneAt.getD g.now) }).raise 276 rg
    else g

/-- AUTO_FORCE (R170): 2 µs after a hang or an absence, with the fallback present, in every state but OFF; logged. -/
def execAutoForce (rg : Fin 16) (t : Fin 250) (s : State) : Host.Outcome State Fault Refusal :=
  s.onGov fun g => g.ev t fun g =>
    let sel := g.get (F.DRP_RGN_MUX_FB_SEL rg)
    let alt := if sel = 1 then g.get (F.DRP_RGN_MUX_FB_SYN rg) else g.get (F.DRP_RGN_MUX_ALT rg)
    if g.actFlag F.DRP_CFG_AUTO_FORCE && g.sourcePresent (sourceOf rg sel alt) && (g.rgn rg).goneAt.any fun a => decide (a + 2000 ≤ g.now) then
      let syn := match sourceOf rg sel alt with | .syn k => k | _ => 0
      ((g.forceSource rg sel alt).log g.now 6 [rg + sel * 2 ^ 4 + syn * 2 ^ 8]).psRestored
    else g

/-! ### Oscillator trim (R172, R173) -/

/-- TRIM_WINDOW_END with the count of its window: of REFCLK edges over 4,096 oscillator cycles, or of oscillator cycles over 100 marks received (R173, R273). -/
def execTrimWindowEnd (count : BitVec 24) (t : Fin 250) (s : State) : Host.Outcome State Fault Refusal :=
  s.onGov fun g => g.ev t fun g =>
    match g.trimRef with
    | none => g
    | some ref => if !ref ∧ g.clk.marks < 100 then g else
      let g := g.withClk { g.clk with marks := 0 }
      let err : Int := (count.toNat : Int) - (if ref then 102400 else 4000)
      let tr := g.sget F.DRP_OSC_TRIM_TRIM
      let slow := if ref then decide (41 < err) else decide (err < -2)
      let fast := if ref then decide (err < -41) else decide (2 < err)
      let tr := if slow then min (tr + 1) 63 else if fast then max (tr - 1) (-64) else tr
      let g := g.sset F.DRP_OSC_TRIM_TRIM tr
      let g := g.set F.DRP_OSC_TRIM_TRIMMED (b2n (err.natAbs ≤ if ref then 102 else 4))
      (g.set F.DRP_OSC_TRIM_USED_REF (b2n ref)).set F.DRP_OSC_TRIM_USED_MARK (b2n (!ref))

end Sys2Proof.Machine
end

