-- ==== Sys2Proof/Machine/Faults.lean ====
section
/-! DEFINITION. The fault chapter's own commands: berth errors and stage faults, the scrubber, reports to the BMC, and the registers of the fault group (R311 to R331). -/

namespace Sys2Proof.Machine

/-! ### Raises from pins (R43, R55) -/

/-- BERTH_ERR: ERR is seen high; it stays sampled in SLEEP and DEEP. -/
def execBerthErr (b : Fin 256) (t : Fin 250) (s : State) : Host.Outcome State Fault Refusal :=
  s.onGov fun g => g.ev t fun g => g.raise b 0

/-- STAGE_FAULT: TFAULT_N low for 200 ns. -/
def execStageFault (t : Fin 250) (s : State) : Host.Outcome State Fault Refusal :=
  s.onGov fun g => g.ev t fun g => g.raise 269 0

/-! ### Records to the BMC (R325 to R327) -/

/-- The 96 bytes of the vendor section. -/
def vendorSection (x : Section) : List Byte :=
  let head : List Byte := [0x53, 0x47, 0x32, 0x46] ++ leBytes 2 1 ++ leBytes 2 0x60
  if x.corrupt then head ++ leBytes 2 0 ++ [0] ++ [2] ++ leBytes 84 0
  else
    head ++ leBytes 2 x.src ++ leBytes 1 x.react ++ leBytes 1 x.flags ++ leBytes 4 x.detail ++ leBytes 8 x.time ++ leBytes 8 (x.time / 250 % 2 ^ 48) ++
    leBytes 1 x.node ++ leBytes 1 x.pstate ++ leBytes 2 x.svn ++ leBytes 4 x.seq ++ leBytes 40 x.status ++ leBytes 8 x.fwVer ++ leBytes 8 0

/-- The severity of a record. -/
def severity (x : Section) : Nat :=
  if x.corrupt then 3
  else if x.react = 1 then (if x.src = 284 then 2 else 3)
  else if x.react = 2 ∨ x.react = 3 then 0
  else 1

/-- The 16 bytes of the FRU Id and the 20 bytes of the FRU Text. -/
def Gov.fruId (g : Gov) : List Byte := (List.range 4).flatMap fun k => leBytes 4 (g.word (W.FLT_FRU_ID k)).toNat
def Gov.fruText (g : Gov) : List Byte := (List.range 5).flatMap fun k => leBytes 4 (g.word (W.FLT_FRU_TEXT k)).toNat

/-- The event that carries a section. -/
def Gov.recordEvent (g : Gov) (x : Section) : Event :=
  .cper (if x.corrupt then 0 else x.seq) (severity x) g.deviceId
    (if g.flag F.FLT_FRU_VALID_ID_VALID then some g.fruId else none) (if g.flag F.FLT_FRU_VALID_TEXT_VALID then some g.fruText else none) (vendorSection x)

/-- Pilot C, or in anchor mode the ROM, serves the management port (R62, R325). -/
def Gov.mgmtServes (g : Gov) : Bool := g.powered && !g.asleep && (g.anchored || (g.running && g.pilotUp 2))

/-- ALERT_N is low: an event or fault record waits (R60). -/
def Gov.alert (g : Gov) : Bool := g.powered && (!g.flt.queue.isEmpty || g.pwr.notice.isSome)

/-- The event that goes first: the oldest section, else the notice. -/
def Gov.nextEvent (g : Gov) : Option Event :=
  match g.flt.queue with
  | x :: _ => some (g.recordEvent x)
  | [] => g.pwr.notice.map fun n => g.noticeEvent n.1 n.2.1

/-- FAULT_RECORD_SEND: the oldest queued section goes out as one event. -/
def execFaultRecordSend (t : Fin 250) (s : State) : Host.Outcome State Fault Refusal :=
  s.onGov fun g =>
    let g' := g.reach t
    match g'.flt.queue with
    | x :: _ => if g'.mgmtServes && g'.state != stOff && g'.flt.event.isNone then g'.withFlt { g'.flt with event := some (g'.recordEvent x) } else g
    | [] => g

/-- OFF_NOTICE_REPEAT: the notice is sent, and again every 100 ms until it is accepted (R64). -/
def execOffNoticeRepeat (t : Fin 250) (s : State) : Host.Outcome State Fault Refusal :=
  s.onGov fun g => if g.powered then (g.reach t).sendNotice else g

/-- The BMC's acceptance: the accepted section leaves the queue, or the notice waits no longer. -/
def Gov.acceptEvent (g : Gov) : Gov :=
  match g.flt.event with
  | some (.cper ..) =>
    let g := g.withFlt { g.flt with queue := g.flt.queue.drop 1, event := none }
    g.set F.FLT_REC_QUEUED g.flt.queue.length
  | some (.notice _) => { g with flt := { g.flt with event := none }, pwr := { g.pwr with notice := none } }
  | none => g

/-- EVENT_ACCEPTANCE. -/
def execEventAcceptance (t : Fin 250) (s : State) : Host.Outcome State Fault Refusal :=
  s.onGov fun g => if g.powered && (g.reach t).flt.event.isSome then (g.reach t).acceptEvent else g

/-! ### The scrubber (R318 to R321) -/

/-- Set the words of a record to all ones. -/
def Gov.onesWords (g : Gov) (off n : Nat) : Gov := g.writeWords off (List.replicate n 0xFFFFFFFF)

/-- A word of a loop slot is lost: one that software cannot write takes its reset value, and the slot holds for the sample only. -/
def Gov.lostSlotWord (g : Gov) (slot word : Nat) : Gov :=
  let off := 0x10000 + 64 * slot + 4 * word
  if off = W.LS_OUT slot ∨ off = W.LS_OVR_CNT slot ∨ off = W.LS_STAT slot then
    (g.setWord off (resetWord g.fuses off)).withEng { g.eng with lostCtx := g.eng.lostCtx ++ [slot] }
  else g.withEng { g.eng with badWord := g.eng.badWord ++ [(slot, word)] }

/-- A statement is uncorrectable: before or after it was signed. -/
def Gov.lostStmt (g : Gov) (slot : Nat) : Gov :=
  g.withLed { g.led with stmts := g.led.stmts.map fun (x : Stmt) => if x.slot = slot then (if x.sig.isSome then { x with lost := true } else { x with bad := true }) else x }

/-- A record of memory 9, 10 or 11 is lost. -/
def Gov.lostRecord (g : Gov) (mem item : Nat) : Gov :=
  let ones := List.replicate 8 0xFFFFFFFF
  if mem = 9 then
    if item < 1024 then g.withLed { g.led with ring := Tab.put (fun _ => []) g.led.ring item (ones.take 4) }
    else if item < 1536 then g.onesWords (0x4000 + 16 * (item - 1024)) 4
    else if item < 1544 then g.onesWords (0x700 + 32 * (item - 1536)) 8
    else g
  else if mem = 10 then g.withFlt { g.flt with log := Tab.put (fun _ => []) g.flt.log (item % 8192) ones }
  else g.withFlt { g.flt with queue := (g.flt.queue.zip (List.range g.flt.queue.length)).map fun (p : Section × Nat) => if p.2 = item then { p.1 with corrupt := true } else p.1 }

/-- The consequence of R320, with its log record and raise. -/
def Gov.uncorrectable (g : Gov) (x : BadWord) : Gov :=
  let mem := x.1.val
  let item := x.2.2
  let g := g.log g.now 0x000D [mem, x.2.1]
  if mem < 3 then (if g.pilotUp mem then (g.raise (285 + mem) x.2.1).restartPilot mem 2 else g.raise (285 + mem) x.2.1)
  else if mem = 3 then (g.withEng { g.eng with badLaw := g.eng.badLaw ++ [item % 64] }).raise 288 (item % 64)
  else if mem = 4 then
    let slot := item % 1024
    let g := if bit item 14 then g.withEng { g.eng with lostCtx := g.eng.lostCtx ++ [slot] } else g.lostSlotWord slot (bits item 10 4)
    g.raise 289 (item % 2 ^ 15)
  else if mem = 5 then (g.set (F.TBL_HDR_VALID (item % 64)) 0).raise 267 (item % 64)
  else if mem = 6 then
    let cls := bits item 12 4
    let idx := item % 2 ^ 12
    ((g.withSns { g.sns with stuck := g.sns.stuck ++ [cls * 4096 + idx] }).declareBroken cls idx).raise 290 (item % 2 ^ 16)
  else if mem = 7 then (g.mark (F.ACC_STAT_POISON (item % 256))).raise 291 (item % 256)
  else if mem = 8 then (g.lostStmt (item % 256)).raise 292 (item % 256)
  else (g.lostRecord mem item).raise 293 (mem + x.2.1 * 16)

/-- Corrected reads of a memory in the pass (R318). -/
def Gov.corrected (g : Gov) (mem n : Nat) : Gov :=
  let g := g.inc (F.FLT_ECC_CE_COUNT mem) n
  if g.get F.FLT_SCRUB_CE_THR ≤ n then g.raise 284 mem else g

/-- The words that fault injection inverted, with how often each was inverted (R398). -/
def Gov.injected (g : Gov) : List ((Nat × Nat) × Nat) := g.tap.upsets.eraseDups.map fun u => (u, g.tap.upsets.countP (· == u))

/-- SCRUB_PASS: a pass ends; words with one or two inverted bits are corrected and counted, other words act under R320. -/
def execScrubPass (fixed : List (Fin 12 × Nat)) (bad : List BadWord) (deferred : Nat) (t : Fin 250) (s : State) : Host.Outcome State Fault Refusal :=
  s.onGov fun g =>
    if !g.engine then g
    else
      let g := g.reach t
      let inj := g.injected
      let count := fun (m : Nat) => (fixed.filter fun p => p.1.val == m).foldl (fun a p => a + p.2) 0 + inj.countP fun u => u.1.1 == m && decide (u.2 ≤ 2)
      let ues := bad ++ inj.filterMap fun u => if h : u.1.1 < 12 then (if 2 < u.2 then some (⟨u.1.1, h⟩, u.1.2, u.1.2) else none) else none
      let g := (g.withTap { g.tap with upsets := [] }).withFlt { g.flt with passStart := g.now }
      let g := g.inc F.FLT_CNT_DEFER_COUNT deferred
      let g := g.each ((List.range 12).filter fun m => decide (0 < count m)) fun g m => g.corrected m (count m)
      g.each ues Gov.uncorrectable

/-- SCRUB_LATE: the pass has not finished by twice PASS_MS (R319). -/
def execScrubLate (t : Fin 250) (s : State) : Host.Outcome State Fault Refusal :=
  s.onGov fun g =>
    let g' := g.reach t
    if g.engine && decide (g'.flt.passStart + 2000000 * g'.get F.FLT_SCRUB_PASS_MS ≤ g'.now) then g'.mark F.FLT_SCRUB_STAT_LATE else g

/-! ### Registers (R313 to R316, R322, R331) -/

/-- The source may have the reaction (R312, R316). -/
def reactionOk (src code : Nat) : Bool :=
  decide (code ≤ 5) && (code != 3 || (raiseBerth src 0).isSome) && (decide (src < 298) || code == 0)

/-- REACTION_WRITE: eight reactions in one word. -/
def Gov.writeReact (g : Gov) (off : Nat) (w : Word) : Verdict :=
  let first := 2 * (off - W.FLT_REACT 0)
  if g.locked off then accept (g.noteLocked off)
  else if (List.range 8).all fun k => reactionOk (first + k) (field w (4 * k) 3) then accept (g.plain off w)
  else refuse (g.mark F.FLT_CTRL_REFUSED)

/-- FLT_CTRL_CLR: every counter of the group but FLT_LOG_OVF. -/
def Gov.clearFaults (g : Gov) : Gov := g.zeroWords ([W.FLT_CNT_DEFER, W.FLT_REC_DROP] ++ (List.range 12).map W.FLT_ECC_CE)

/-- A write to the fault group: COLLECTOR_BIT_CLEAR, QUARANTINE_RELEASE, SUSPECT_CLEAR, FLT_LOCK_WRITE, FLT_CTRL_CLR and the rest. -/
def Gov.writeFaults (g : Gov) (off : Nat) (w : Word) : Verdict :=
  if off = W.FLT_CTRL then
    let g := g.plain off w
    accept (if bit w.toNat 5 then g.clearFaults else g)
  else if W.FLT_QUAR 0 ≤ off ∧ off ≤ W.FLT_QUAR 7 then
    let b0 := 8 * (off - W.FLT_QUAR 0)
    if (bitList 32 w.toNat).any fun k => g.flag (F.FLT_STATUS_bit (b0 + k)) then refuse (g.mark F.FLT_CTRL_REFUSED) else accept (g.plain off w)
  else if W.FLT_SUSPECT 0 ≤ off ∧ off ≤ W.FLT_SUSPECT 7 then
    let b0 := 8 * (off - W.FLT_SUSPECT 0)
    accept ((g.plain off w).each ((bitList 32 w.toNat).filter fun k => g.flag (F.FLT_SUSPECT_bit (b0 + k))) fun g k => g.set (F.FLT_SIL_CNT_CNT (b0 + k)) 0)
  else if W.FLT_REACT 0 ≤ off ∧ off ≤ W.FLT_REACT 39 then g.writeReact off w
  else accept ((g.noteLocked off).plain off w)

/-- What a read of the event-log window shows: word of a record of the page. -/
def Gov.logView (g : Gov) (off : Nat) : Word :=
  let i := (g.get F.FLT_LOG_PAGE_PAGE * 64 + (off - 0x58000) / 32) % 8192
  BitVec.ofNat 32 ((Tab.get (fun _ => []) g.flt.log i).getD ((off - 0x58000) / 4 % 8) 0)

end Sys2Proof.Machine
end

