-- ==== Sys2Proof/Machine/Tap.lean ====
section
/-! DEFINITION. The TAP's instructions and fault injection (R76, R396, R398). -/

namespace Sys2Proof.Machine

/-- The TAP answers: powered, out of reset, and not in DEEP (R77). -/
def Gov.tapOn (g : Gov) : Bool := g.up && g.state != stDeep

/-- The debug-close fuse is not blown (R76). -/
def Gov.tapOpen (g : Gov) : Bool := !g.flag F.GOV_STRAP_DBG_CLOSED

/-- Select BYPASS. -/
def Gov.tapBypass (g : Gov) : Gov := g.withTap { g.tap with ir := 0x1F, dr := 0, extest := false }

/-- An instruction other than IDCODE: BYPASS after the fuse is blown. -/
def Gov.tapDo (g : Gov) (t : Fin 250) (f : Gov → Gov) : Gov :=
  if !g.tapOn then g else if g.tapOpen then f (g.reach t) else (g.reach t).tapBypass

/-- The identity register (R396). -/
def Gov.idcode (g : Gov) : Nat := g.get F.GOV_ID_MAJOR % 16 * 2 ^ 28 + 0x5302 * 2 ^ 12 + g.fuses.mfr % 2 ^ 11 * 2 + 1

/-- EXTEST: the boundary register, shifted in, drives the off-die ports. -/
def execExtest (data : Nat) (t : Fin 250) (s : State) : Host.Outcome State Fault Refusal :=
  s.onGov fun g => g.tapDo t fun g => g.withTap { g.tap with ir := 0, dr := data, bound := data, extest := true }

/-- SAMPLE_PRELOAD: the boundary register is loaded and drives nothing. -/
def execSamplePreload (data : Nat) (t : Fin 250) (s : State) : Host.Outcome State Fault Refusal :=
  s.onGov fun g => g.tapDo t fun g => g.withTap { g.tap with ir := 2, dr := data, bound := data, extest := false }

/-- IDCODE. -/
def execIdcode (t : Fin 250) (s : State) : Host.Outcome State Fault Refusal :=
  s.onGov fun g => if g.tapOn then (g.reach t).withTap { g.tap with ir := 1, dr := g.idcode, extest := false } else g

/-- BYPASS. -/
def execBypass (t : Fin 250) (s : State) : Host.Outcome State Fault Refusal :=
  s.onGov fun g => if g.tapOn then (g.reach t).tapBypass else g

/-- FTEST: shifting 1 enters factory test mode until reset. -/
def execFtest (b : Bool) (t : Fin 250) (s : State) : Host.Outcome State Fault Refusal :=
  s.onGov fun g => g.tapDo t fun g => g.withTap { g.tap with ir := 9, dr := b2n b, extest := false, factory := g.tap.factory || b }

/-- One injection of R398; other STAGE codes are refused. -/
def Gov.inject (g : Gov) (source detail stage : Nat) : Gov :=
  if stage = 0 then (if source < 320 then g.raise source detail else g)
  else if stage = 1 then g.withTap { g.tap with sensors := g.tap.sensors ++ [detail % 2 ^ 16] }
  else if stage = 2 then g.withTap { g.tap with gateP := g.tap.gateP ++ [detail % 256] }
  else if stage = 3 then g.withTap { g.tap with upsets := g.tap.upsets ++ [(detail % 16, detail / 16)] }
  else g

/-- FINJ: refused outside factory test mode, and without GO nothing happens. -/
def execFinj (source : BitVec 9) (detail : BitVec 32) (stage : BitVec 4) (go : Bool) (t : Fin 250) (s : State) : Host.Outcome State Fault Refusal :=
  s.onGov fun g => g.tapDo t fun g =>
    let g := g.withTap { g.tap with ir := 0x0A, dr := source.toNat + detail.toNat * 2 ^ 9 + stage.toNat * 2 ^ 41 + b2n go * 2 ^ 45, extest := false }
    if g.tap.factory && go then g.inject source.toNat detail.toNat stage.toNat else g

end Sys2Proof.Machine
end

