-- ==== Sys2Proof/Machine/Port.lean ====
section
/-! DEFINITION. The register port: reads and writes of the window, privilege, parity and sleep, and the commands that are writes or reads of one register (R9, R51, R52, R354, R371, R373 to R387, R397). -/

namespace Sys2Proof.Machine

/-! ### Reads -/

/-- The offsets whose word is the lower half of a 64-bit quantity (R9): first offset, how many, and their stride. The last five are the times and names of records (R260, R290, R310, R324). -/
def pairTable : List (Nat × Nat × Nat) :=
  [(0x18, 1, 4), (0x20, 1, 4), (0x100, 1, 4), (0x13C, 1, 4), (0x348, 1, 4), (0x350, 1, 4), (0x358, 1, 4), (0x360, 1, 4), (0x368, 1, 4), (0x378, 1, 4),
   (0x380, 1, 4), (0x388, 1, 4), (0x390, 1, 4), (0x518, 1, 4), (0x10030, 1024, 0x40), (0x28214, 16, 0x20), (0x33110, 8, 0x20)] ++
  [(0x40018, 256, 0x80), (0x40020, 256, 0x80), (0x40028, 256, 0x80), (0x40030, 256, 0x80), (0x40040, 256, 0x80), (0x40048, 256, 0x80), (0x40050, 256, 0x80),
   (0x48000, 256, 8), (0x48800, 8, 8), (0x48840, 1, 4), (0x48848, 1, 4), (0x48850, 1, 4), (0x48858, 1, 4), (0x48870, 1, 4), (0x488A8, 1, 4), (0x488B0, 1, 4), (0x488B8, 1, 4)] ++
  [(0x60090, 1, 4), (0x60098, 1, 4), (0x60100, 8, 8), (0x60158, 1, 4), (0x60168, 1, 4)] ++
  [(0x700, 8, 0x20), (0x710, 8, 0x20), (0x4000, 512, 0x10), (0x4C000, 1024, 0x10), (0x58000, 64, 0x20)]

/-- The word at an offset is the lower half of a pair. -/
def pairLow (off : Nat) : Bool :=
  pairTable.any fun p => decide (p.1 ≤ off) && (off - p.1) % p.2.2 == 0 && decide ((off - p.1) / p.2.2 < p.2.1)

/-- A stored word with the writes that wait for the exit from SLEEP or DEEP (R376, R379). -/
def Gov.waitingWord (g : Gov) (off : Nat) : Word :=
  g.pwr.forWrites.foldl (fun w p => if p.1 = off then mergeWord (g.locked off) (fieldsAt off) w p.2.1 else w) (g.word off)

/-- What a read of an offset shows, before the effects of a read (R381, R382, R96, R102, R109, R331, R373, R376): READY as it stands now (R200), sensing words as the last step 2 wrote their shadow copies (R216). -/
def Gov.view (g : Gov) (off : Nat) : Word :=
  if off = W.GOV_TIME_LO then BitVec.ofNat 32 g.now
  else if off = W.GOV_TIME_HI then BitVec.ofNat 32 (g.now / 2 ^ 32)
  else if off = W.SAMPLE_IDX_LO then BitVec.ofNat 32 g.idx
  else if off = W.SAMPLE_IDX_HI then BitVec.ofNat 32 (g.idx / 2 ^ 32)
  else if off = W.GOV_IRQ_SRC then BitVec.ofNat 32 g.irqSrc
  else if off = W.GOV_IRQ_LINE then BitVec.ofNat 32 (mapBits 4 g.irqLine)
  else if off = W.GOV_LOCK_STAT then
    BitVec.ofNat 32 (b2n (g.flag F.GOV_LOCK_BT) + 2 * b2n (g.flag F.HLIM_CTRL_LOCK) + 4 * b2n (g.flag F.LIM_HARBOUR_LOCK) + 8 * b2n (g.flag F.FLT_CTRL_LOCK) + 16 * b2n (g.flag F.FWP_WDT_LOCK) + 2 ^ 16 * g.get F.GOV_LOCK_STAT_LOCKED_WR)
  else if off = W.ENG_STEPS then BitVec.ofNat 32 (usat 16 g.stepsUsed + 2 ^ 16 * stepLimit (g.get F.ENG_CFG_PER_ACT))
  else if 0x800 ≤ off ∧ off < 0xC00 ∧ off % 16 = 8 then BitVec.ofNat 32 (usat 16 (g.lawUse ((off - 0x800) / 16)))
  else if off = W.CMD_SUMMARY then BitVec.ofNat 32 (mapBits 16 (fun n => g.flag (F.CMD_STAT_RDY n)) + 2 ^ 16 * mapBits 16 fun n => g.flag (F.CMD_STAT_TAKEN n))
  else if 0x10000 ≤ off ∧ off < 0x20000 ∧ off % 64 = 8 ∧ g.spSupplied ((off - 0x10000) / 64) then BitVec.ofNat 32 (ofSigned 32 (g.slotSp ((off - 0x10000) / 64)))
  else if 0x20000 ≤ off ∧ off < 0x24000 ∧ off % 64 = 0x30 then insertField (g.word off) 9 1 (b2n (g.quar ((off - 0x20000) / 64)))
  else if 0xE80 ≤ off ∧ off < 0xEA0 then insertField (g.waitingWord off) 21 1 (b2n (g.railReady ((off - 0xE80) / 4)))
  else if 0x24100 ≤ off ∧ off < 0x24900 ∧ off % 256 = 8 then insertField (g.word off) 2 1 (b2n (g.railReady ((off - 0x24100) / 256)))
  else if 0x30000 ≤ off ∧ off < 0x34000 then g.shown off
  else if 0x40000 ≤ off ∧ off < 0x50000 then g.ledgerView off
  else if 0x58000 ≤ off ∧ off < 0x58800 then g.logView off
  else g.waitingWord off

/-- A read of an offset with its effects: a drain aperture gives up a word (R391), an SG-1 counter clears (R328), and the halves of a pair go through the shadow (R9). -/
def Gov.readWord (g : Gov) (off : Nat) : Word × Gov :=
  if 0x61000 ≤ off ∧ off < 0x62000 then g.drain ((off - 0x61000) / 0x400)
  else if 0x70000 ≤ off ∧ off < 0x7002C then (g.view off, g.setWord off 0)
  else if pairLow off then (g.view off, g.withPairs (Tab.ins off (g.view (off + 4)) (Tab.erase g.pairs off)))
  else if 4 ≤ off ∧ pairLow (off - 4) then
    match g.pairs.find? fun p => p.1 == off - 4 with
    | some p => (p.2, g.withPairs (Tab.erase g.pairs (off - 4)))
    | none => (g.view off, g)
  else (g.view off, g)

/-- The answer of an access (R52): the response code and the read data. -/
def Gov.respond (g : Gov) (code : Nat) (data : Word) : Gov := { g with resp := code, rdata := data }

/-- REG_RPAR[3:0]: odd parity over each byte of the read data (R51). -/
def Gov.readParity (g : Gov) : Nat := wordParity g.rdata

/-- A read at the port. -/
def Gov.portRead (g : Gov) (off : Nat) : Gov :=
  if g.asleep && decide (0x1000 ≤ off) then g.respond 3 0 else (g.readWord off).2.respond 0 (g.readWord off).1

/-! ### Writes -/

/-- REPLY_RELEASE and the other bits of CMD_STAT (R354, R373). -/
def Gov.writeCmdStat (g : Gov) (n : Nat) (w : Word) : Gov :=
  let free := bit w.toNat 2 && g.flag (F.CMD_STAT_RDY n)
  let g := g.plain (W.CMD_STAT n) w
  if free then g.freeWindow n else g

/-- FENCE_WAIT_ABORT and REQUEST_WINDOW_CLEAR (R371, R373). -/
def Gov.writeCmdCtrl (g : Gov) (n : Nat) (w : Word) : Gov :=
  let g := if bit w.toNat 0 then g.endWait n stAborted else g
  if bit w.toNat 1 ∧ !g.flag (F.CMD_STAT_TAKEN n) then g.freeWindow n else g

/-- A write to the command group (R351, R373). -/
def Gov.writeCommands (g : Gov) (off : Nat) (w : Word) : Gov :=
  if off < 0x3000 then
    if (off - 0x1000) % 0x200 < 0x100 then g.writeRequest ((off - 0x1000) / 0x200) ((off - 0x1000) % 0x200 / 4) w else g
  else if off < 0x3100 then
    let n := (off - 0x3000) / 16
    if off % 16 = 0 then g.writeCmdStat n w else if off % 16 = 4 then g.writeCmdCtrl n w else g
  else if off = W.CMD_CFG then
    let g := g.plain off w
    if bit w.toNat 16 then g.zeroWords ((List.range 16).flatMap fun n => [W.CMD_CNT_CRC n, W.CMD_CNT_TAKEN n]) else g
  else g.plain off w

/-- The rule of the group that owns a word, for one write (R380). -/
def Gov.writeReg (g : Gov) (off : Nat) (w : Word) : Verdict :=
  if !writable off then accept g
  else if off < 0x100 then accept (g.plain off w)
  else if off < 0x200 then g.writePilots off w
  else if off < 0x400 then g.writeHawser off w
  else if off < 0x500 then g.writeEngine off w
  else if off < 0x800 then g.writePower off w
  else if off < 0xD00 then g.writeLimits off w
  else if off < 0xE00 then g.writeBollards off w
  else if off < 0x1000 then g.writeSluice off w
  else if off < 0x4000 then accept (g.writeCommands off w)
  else if off < 0x20000 then g.writeSlot ((off - 0x10000) / 64) off w
  else if off < 0x24000 then g.writeBerth ((off - 0x20000) / 64) off w
  else if off < 0x28000 then g.writeRegulator off w
  else if off < 0x30000 then g.writeClocks off w
  else if off < 0x40000 then g.writeSensing off w
  else if off < 0x50000 then g.writeLedger off w
  else if off < 0x60000 then g.writeFaults off w
  else if off < 0x70000 then g.writeTrace off w
  else g.writeTable off w

/-- A word that a non-privileged access may write (R356, R373, R380). -/
def openWord (off : Nat) : Bool :=
  off == W.IDL_PROG_POS || off == W.IDL_PROG_STEP ||
  (decide (0x1000 ≤ off) && decide (off < 0x3000) && decide (12 ≤ (off - 0x1000) / 0x200) && decide ((off - 0x1000) % 0x200 < 0x100)) ||
  (decide (0x30C0 ≤ off) && decide (off < 0x3100))

/-- The always-on groups, whose writes act in SLEEP and DEEP as in RUN (R379). -/
def alwaysOn (off : Nat) : Bool :=
  decide (off < 0x200) || (decide (0x500 ≤ off) && decide (off < 0x800)) || (decide (0xD00 ≤ off) && decide (off < 0xE00))

/-- A write of a mapped word by an access that may make it; in SLEEP and DEEP a word outside the always-on groups waits for the first sample after the exit. -/
def Gov.takeWrite (g : Gov) (off : Nat) (w : Word) (priv : Bool) : Gov :=
  if g.asleep && !alwaysOn off then g.withPwr { g.pwr with forWrites := g.pwr.forWrites ++ [(off, w, priv)] }
  else (g.writeReg off w).gov

/-- A write at the port (R52): parity, sleep and privilege first, then the group's rule. -/
def Gov.portWrite (g : Gov) (off : Nat) (wr : PortWrite) : Gov :=
  if wr.par.toNat ≠ wordParity wr.data then (g.raise 265 off).respond 2 0
  else if g.asleep && decide (0x1000 ≤ off) then g.respond 3 0
  else if (fieldsAt off).isEmpty then g.respond 0 0
  else if !wr.priv && !openWord off then g.respond 1 0
  else (g.takeWrite off wr.data wr.priv).respond 0 0

/-- The writes that waited in SLEEP and DEEP, at R23 step 1 of the first sample after the exit (R379). -/
def Gov.applyWaiting (g : Gov) : Gov :=
  (g.withPwr { g.pwr with forWrites := [] }).each g.pwr.forWrites fun g p => (g.writeReg p.1 p.2.1).gov

/-- Where a write cleared OFF_WAKE, the latch on the standby supply is cleared (R306). -/
def Persist.clearWake (k : Persist) (g g' : Gov) : Persist :=
  { k with wakeN := k.wakeN && !(g.flag F.PS_WAKE_STAT_OFF_WAKE && !g'.flag F.PS_WAKE_STAT_OFF_WAKE) }

/-- A command that is a write of one register. Clearing OFF_WAKE clears the latch on the standby supply (R306). -/
def portCommand (off : Nat) (wr : PortWrite) (t : Fin 250) (s : State) : Host.Outcome State Fault Refusal :=
  s.onBoth fun g k =>
    let g' := g.ev t fun g => g.portWrite off wr
    (g', k.clearWake (g.ev t id) g')

/-- A write of one register whose data has the bits that make it that command; other data is another command, and nothing happens here. -/
def portCommandIf (ok : Bool) (off : Nat) (wr : PortWrite) (t : Fin 250) (s : State) : Host.Outcome State Fault Refusal :=
  if ok then portCommand off wr t s else .next s

/-! ### Commands that are a write of one register -/

/-- REGISTER_WRITE: A write of any word of the window (R375, R380). -/
def execRegisterWrite (addr : BitVec 18) (wr : PortWrite) (t : Fin 250) (s : State) : Host.Outcome State Fault Refusal := portCommand (4 * addr.toNat) wr t s

/-- LOOP_SLOT_ENABLE: LS_CTRL with EN, or LS_FB of an enabled slot (R104, R107). -/
def execLoopSlotEnable (k : Fin 1024) (fb : Bool) (wr : PortWrite) (t : Fin 250) (s : State) : Host.Outcome State Fault Refusal := portCommandIf (if fb then s.gov.flag (F.LS_CTRL_EN k) else bit wr.data.toNat 0) (if fb then W.LS_FB k else W.LS_CTRL k) wr t s

/-- STATE_WORD_WRITE: S1, or the low or high word of S0 (R86). -/
def execStateWordWrite (k : Fin 1024) (half : Fin 3) (wr : PortWrite) (t : Fin 250) (s : State) : Host.Outcome State Fault Refusal := portCommand (W.LS_S1 k + 4 * half) wr t s

/-- PERIOD_WRITE: ENG_CFG.PERIOD (R79). -/
def execPeriodWrite (wr : PortWrite) (t : Fin 250) (s : State) : Host.Outcome State Fault Refusal := portCommand W.ENG_CFG wr t s

/-- PCAP_ENABLE: LIM_CFG with PCAP_EN or BE_EN (R109). -/
def execPcapEnable (wr : PortWrite) (t : Fin 250) (s : State) : Host.Outcome State Fault Refusal := portCommandIf (bit wr.data.toNat 0 || bit wr.data.toNat 3) W.LIM_CFG wr t s

/-- STEADY_ENABLE: LIM_CFG with STEADY (R121). -/
def execSteadyEnable (wr : PortWrite) (t : Fin 250) (s : State) : Host.Outcome State Fault Refusal := portCommandIf (bit wr.data.toNat 5) W.LIM_CFG wr t s

/-- HLIM_WRITE: A bollard MAX or TSOFT (R118). -/
def execHlimWrite (i : Fin 19) (wr : PortWrite) (t : Fin 250) (s : State) : Host.Outcome State Fault Refusal := portCommand (0xD00 + 4 * i) wr t s

/-- FSYN_ENABLE: FSYN_CTRL (R159). -/
def execFsynEnable (k : Fin 16) (wr : PortWrite) (t : Fin 250) (s : State) : Host.Outcome State Fault Refusal := portCommand (W.FSYN_CTRL k) wr t s

/-- REGION_SWITCH: SEL or ALT of a region (R167). -/
def execRegionSwitch (rg : Fin 16) (wr : PortWrite) (t : Fin 250) (s : State) : Host.Outcome State Fault Refusal := portCommandIf (!bit wr.data.toNat 24) (W.DRP_RGN_MUX rg) wr t s

/-- REGION_FORCE: FORCE of a region (R169). -/
def execRegionForce (rg : Fin 16) (wr : PortWrite) (t : Fin 250) (s : State) : Host.Outcome State Fault Refusal := portCommandIf (bit wr.data.toNat 24) (W.DRP_RGN_MUX rg) wr t s

/-- RAIL_ENABLE: RAIL_CTRL with EN 1 (R190). -/
def execRailEnable (r : Fin 8) (wr : PortWrite) (t : Fin 250) (s : State) : Host.Outcome State Fault Refusal := portCommandIf (bit wr.data.toNat 0) (W.RAIL_CTRL r) wr t s

/-- RAIL_DISABLE: RAIL_CTRL with EN 0 (R191). -/
def execRailDisable (r : Fin 8) (wr : PortWrite) (t : Fin 250) (s : State) : Host.Outcome State Fault Refusal := portCommandIf (!bit wr.data.toNat 0) (W.RAIL_CTRL r) wr t s

/-- RAIL_COMMIT: RAIL_CTRL with COMMIT (R185). -/
def execRailCommit (r : Fin 8) (wr : PortWrite) (t : Fin 250) (s : State) : Host.Outcome State Fault Refusal := portCommandIf (bit wr.data.toNat 31) (W.RAIL_CTRL r) wr t s

/-- PHASE_OOS_WRITE: PH_CTRL (R194, R208). -/
def execPhaseOosWrite (p : Fin 64) (wr : PortWrite) (t : Fin 250) (s : State) : Host.Outcome State Fault Refusal := portCommand (W.PH_CTRL p) wr t s

/-- TBL_LOAD: TBL_CTRL.LOAD (R226). -/
def execTblLoad (k : Fin 64) (wr : PortWrite) (t : Fin 250) (s : State) : Host.Outcome State Fault Refusal := portCommandIf (bit wr.data.toNat 0) (W.TBL_CTRL k) wr t s

/-- MT_RAISE: MT_REQ with STEP 1 (R229). -/
def execMtRaise (r : Fin 8) (wr : PortWrite) (t : Fin 250) (s : State) : Host.Outcome State Fault Refusal := portCommandIf (field wr.data 0 2 == 1) (W.MT_REQ r) wr t s

/-- MT_LOWER: MT_REQ with STEP 2 (R229). -/
def execMtLower (r : Fin 8) (wr : PortWrite) (t : Fin 250) (s : State) : Host.Outcome State Fault Refusal := portCommandIf (field wr.data 0 2 == 2) (W.MT_REQ r) wr t s

/-- MT_RESTART_WINDOW: MT_REQ with STEP 3 (R230). -/
def execMtRestartWindow (r : Fin 8) (wr : PortWrite) (t : Fin 250) (s : State) : Host.Outcome State Fault Refusal := portCommandIf (field wr.data 0 2 == 3) (W.MT_REQ r) wr t s

/-- MT_RESTORE: MT_RESTORE, once after each reset (R231). -/
def execMtRestore (r : Fin 8) (wr : PortWrite) (t : Fin 250) (s : State) : Host.Outcome State Fault Refusal := portCommand (W.MT_RESTORE r) wr t s

/-- HBM_TEMP_WRITE: SNS_HBM_WR (R212, R217). -/
def execHbmTempWrite (k : Fin 16) (wr : PortWrite) (t : Fin 250) (s : State) : Host.Outcome State Fault Refusal := portCommand (W.SNS_HBM_WR k) wr t s

/-- BERTH_PRESENT_SET: BT_CFG with PRESENT 1 (R384). -/
def execBerthPresentSet (b : Fin 256) (wr : PortWrite) (t : Fin 250) (s : State) : Host.Outcome State Fault Refusal := portCommandIf (bit wr.data.toNat 0) (W.BT_CFG b) wr t s

/-- BERTH_PRESENT_CLEAR: BT_CFG with PRESENT 0 (R384). -/
def execBerthPresentClear (b : Fin 256) (wr : PortWrite) (t : Fin 250) (s : State) : Host.Outcome State Fault Refusal := portCommandIf (!bit wr.data.toNat 0) (W.BT_CFG b) wr t s

/-- QUARANTINE_RELEASE: FLT_QUAR (R315). -/
def execQuarantineRelease (i : Fin 8) (wr : PortWrite) (t : Fin 250) (s : State) : Host.Outcome State Fault Refusal := portCommand (W.FLT_QUAR i) wr t s

/-- COLLECTOR_BIT_CLEAR: FLT_STATUS (R311). -/
def execCollectorBitClear (i : Fin 10) (wr : PortWrite) (t : Fin 250) (s : State) : Host.Outcome State Fault Refusal := portCommand (W.FLT_STATUS i) wr t s

/-- REACTION_WRITE: FLT_REACT (R316). -/
def execReactionWrite (i : Fin 40) (wr : PortWrite) (t : Fin 250) (s : State) : Host.Outcome State Fault Refusal := portCommand (W.FLT_REACT i) wr t s

/-- SUSPECT_CLEAR: FLT_SUSPECT (R322). -/
def execSuspectClear (i : Fin 8) (wr : PortWrite) (t : Fin 250) (s : State) : Host.Outcome State Fault Refusal := portCommand (W.FLT_SUSPECT i) wr t s

/-- WINDOW_ENABLE: LDG_CTRL with WIN_EN 1 (R247, R263). -/
def execWindowEnable (wr : PortWrite) (t : Fin 250) (s : State) : Host.Outcome State Fault Refusal := portCommandIf (bit wr.data.toNat 1) W.LDG_CTRL wr t s

/-- WINDOW_DISABLE: LDG_CTRL with WIN_EN 0 (R247). -/
def execWindowDisable (wr : PortWrite) (t : Fin 250) (s : State) : Host.Outcome State Fault Refusal := portCommandIf (!bit wr.data.toNat 1) W.LDG_CTRL wr t s

/-- FREEZE_WRITE: LDG_CTRL.FREEZE (R258). -/
def execFreezeWrite (wr : PortWrite) (t : Fin 250) (s : State) : Host.Outcome State Fault Refusal := portCommand W.LDG_CTRL wr t s

/-- HAWSER_ENABLE: IDL_CFG with EN (R263). -/
def execHawserEnable (wr : PortWrite) (t : Fin 250) (s : State) : Host.Outcome State Fault Refusal := portCommandIf (bit wr.data.toNat 2) W.IDL_CFG wr t s

/-- ENUMERATE: IDL_CTRL.ENUM (R262). -/
def execEnumerate (wr : PortWrite) (t : Fin 250) (s : State) : Host.Outcome State Fault Refusal := portCommandIf (bit wr.data.toNat 0) W.IDL_CTRL wr t s

/-- IDL_WAKE: IDL_CTRL.WAKE (R288). -/
def execIdlWake (wr : PortWrite) (t : Fin 250) (s : State) : Host.Outcome State Fault Refusal := portCommandIf (bit wr.data.toNat 1) W.IDL_CTRL wr t s

/-- GLOBAL_STOP_WRITE: IDL_CTRL.STOP (R283). -/
def execGlobalStopWrite (wr : PortWrite) (t : Fin 250) (s : State) : Host.Outcome State Fault Refusal := portCommandIf (bit wr.data.toNat 3) W.IDL_CTRL wr t s

/-- PROGRESS_PUBLISH: IDL_PROG_STEP (R276, R322). -/
def execProgressPublish (wr : PortWrite) (t : Fin 250) (s : State) : Host.Outcome State Fault Refusal := portCommand W.IDL_PROG_STEP wr t s

/-- PS_ENTRY_REQUEST: PS_CTRL.START with a TARGET other than RUN (R292). -/
def execPsEntryRequest (wr : PortWrite) (t : Fin 250) (s : State) : Host.Outcome State Fault Refusal := portCommandIf (bit wr.data.toNat 4 && field wr.data 0 3 != 0) W.PS_CTRL wr t s

/-- PS_EXIT_REQUEST: PS_CTRL.START with TARGET RUN (R302). -/
def execPsExitRequest (wr : PortWrite) (t : Fin 250) (s : State) : Host.Outcome State Fault Refusal := portCommandIf (bit wr.data.toNat 4 && field wr.data 0 3 == 0) W.PS_CTRL wr t s

/-- PS_CANCEL: PS_CTRL.CANCEL (R307). -/
def execPsCancel (wr : PortWrite) (t : Fin 250) (s : State) : Host.Outcome State Fault Refusal := portCommandIf (bit wr.data.toNat 5) W.PS_CTRL wr t s

/-- HEARTBEAT: SUP_HB_KICK (R347). -/
def execHeartbeat (wr : PortWrite) (t : Fin 250) (s : State) : Host.Outcome State Fault Refusal := portCommand W.SUP_HB_KICK wr t s

/-- PILOT_RESTART_REQUEST: FWP_RST_REQ (R339). -/
def execPilotRestartRequest (wr : PortWrite) (t : Fin 250) (s : State) : Host.Outcome State Fault Refusal := portCommand W.FWP_RST_REQ wr t s

/-- GOV_LOCK_WRITE: GOV_LOCK.BT (R385). -/
def execGovLockWrite (wr : PortWrite) (t : Fin 250) (s : State) : Host.Outcome State Fault Refusal := portCommandIf (bit wr.data.toNat 0) W.GOV_LOCK wr t s

/-- HLIM_LOCK_WRITE: HLIM_CTRL.LOCK (R385). -/
def execHlimLockWrite (wr : PortWrite) (t : Fin 250) (s : State) : Host.Outcome State Fault Refusal := portCommandIf (bit wr.data.toNat 0) W.HLIM_CTRL wr t s

/-- HARBOUR_LOCK_WRITE: LIM_HARBOUR.LOCK (R385). -/
def execHarbourLockWrite (wr : PortWrite) (t : Fin 250) (s : State) : Host.Outcome State Fault Refusal := portCommandIf (bit wr.data.toNat 31) W.LIM_HARBOUR wr t s

/-- FLT_LOCK_WRITE: FLT_CTRL.LOCK (R385). -/
def execFltLockWrite (wr : PortWrite) (t : Fin 250) (s : State) : Host.Outcome State Fault Refusal := portCommandIf (bit wr.data.toNat 0) W.FLT_CTRL wr t s

/-- WDT_LOCK_WRITE: FWP_WDT.LOCK (R385). -/
def execWdtLockWrite (wr : PortWrite) (t : Fin 250) (s : State) : Host.Outcome State Fault Refusal := portCommandIf (bit wr.data.toNat 31) W.FWP_WDT wr t s

/-- FCU_CTRL_CLR: FCU_CTRL.CLR (R150). -/
def execFcuCtrlClr (wr : PortWrite) (t : Fin 250) (s : State) : Host.Outcome State Fault Refusal := portCommandIf (bit wr.data.toNat 0) W.FCU_CTRL wr t s

/-- DRP_CTRL_CLR: DRP_CTRL.CLR (R175). -/
def execDrpCtrlClr (wr : PortWrite) (t : Fin 250) (s : State) : Host.Outcome State Fault Refusal := portCommandIf (bit wr.data.toNat 0) W.DRP_CTRL wr t s

/-- REG_CTRL_CLR: REG_CTRL.CLR (R206). -/
def execRegCtrlClr (wr : PortWrite) (t : Fin 250) (s : State) : Host.Outcome State Fault Refusal := portCommandIf (bit wr.data.toNat 0) W.REG_CTRL wr t s

/-- SNS_CTRL_CLR: SNS_CTRL.CLR (R234). -/
def execSnsCtrlClr (wr : PortWrite) (t : Fin 250) (s : State) : Host.Outcome State Fault Refusal := portCommandIf (bit wr.data.toNat 0) W.SNS_CTRL wr t s

/-- IDL_CTRL_CLR: IDL_CTRL.CLR (R289). -/
def execIdlCtrlClr (wr : PortWrite) (t : Fin 250) (s : State) : Host.Outcome State Fault Refusal := portCommandIf (bit wr.data.toNat 2) W.IDL_CTRL wr t s

/-- PS_CTRL_CLR: PS_CTRL.CLR (R308). -/
def execPsCtrlClr (wr : PortWrite) (t : Fin 250) (s : State) : Host.Outcome State Fault Refusal := portCommandIf (bit wr.data.toNat 6) W.PS_CTRL wr t s

/-- FLT_CTRL_CLR: FLT_CTRL.CLR (R331). -/
def execFltCtrlClr (wr : PortWrite) (t : Fin 250) (s : State) : Host.Outcome State Fault Refusal := portCommandIf (bit wr.data.toNat 5) W.FLT_CTRL wr t s

/-- CMD_CFG_CLR: CMD_CFG.CLR (R373). -/
def execCmdCfgClr (wr : PortWrite) (t : Fin 250) (s : State) : Host.Outcome State Fault Refusal := portCommandIf (bit wr.data.toNat 16) W.CMD_CFG wr t s

/-- TRC_CTRL_CLR: TRC_CTRL.CLR (R395). -/
def execTrcCtrlClr (wr : PortWrite) (t : Fin 250) (s : State) : Host.Outcome State Fault Refusal := portCommandIf (bit wr.data.toNat 0) W.TRC_CTRL wr t s

/-- WATCH_ARM: TRC_WATCH_CFG (R392). -/
def execWatchArm (wr : PortWrite) (t : Fin 250) (s : State) : Host.Outcome State Fault Refusal := portCommand W.TRC_WATCH_CFG wr t s

/-- COMMAND_TAKE: Word i of channel n's request window; the trailer takes the packet (R351). -/
def execCommandTake (n : Fin 16) (i : Fin 64) (wr : PortWrite) (t : Fin 250) (s : State) : Host.Outcome State Fault Refusal := portCommand (W.CMD_REQ n i) wr t s

/-- REPLY_RELEASE: CMD_STAT.RDY (R354). -/
def execReplyRelease (n : Fin 16) (wr : PortWrite) (t : Fin 250) (s : State) : Host.Outcome State Fault Refusal := portCommandIf (bit wr.data.toNat 2) (W.CMD_STAT n) wr t s

/-- FENCE_WAIT_ABORT: CMD_CTRL.ABORT (R371). -/
def execFenceWaitAbort (n : Fin 16) (wr : PortWrite) (t : Fin 250) (s : State) : Host.Outcome State Fault Refusal := portCommandIf (bit wr.data.toNat 0) (W.CMD_CTRL n) wr t s

/-- REQUEST_WINDOW_CLEAR: CMD_CTRL.CLEAR (R373). -/
def execRequestWindowClear (n : Fin 16) (wr : PortWrite) (t : Fin 250) (s : State) : Host.Outcome State Fault Refusal := portCommandIf (bit wr.data.toNat 1) (W.CMD_CTRL n) wr t s

/-- The status word of a sensor, detector or activity reading, and the place of its BROKEN bit (R233, R234). -/
def brokenBit (off : Nat) : Option Nat :=
  if 0x30000 ≤ off ∧ off < 0x32100 ∧ off % 16 = 0 then some 30
  else if 0x32100 ≤ off ∧ off < 0x32300 ∧ off % 8 = 0 then some 14
  else if 0x32300 ≤ off ∧ off < 0x32400 ∧ off % 16 = 0 then some 14
  else if 0x32400 ≤ off ∧ off < 0x32800 then some 0
  else if 0x32800 ≤ off ∧ off < 0x32C00 then some 9
  else none

/-- SENSOR_BROKEN_CLEAR: BROKEN of a status word written with 1 (R224). -/
def execSensorBrokenClear (addr : BitVec 18) (wr : PortWrite) (t : Fin 250) (s : State) : Host.Outcome State Fault Refusal :=
  portCommandIf (match brokenBit (4 * addr.toNat) with | some k => bit wr.data.toNat k | none => false) (4 * addr.toNat) wr t s

/-! ### Commands that are a read -/

/-- REG_PAIR_READ: a read of either word of a pair, or of any other word (R9, R52). -/
def execRegPairRead (addr : BitVec 18) (t : Fin 250) (s : State) : Host.Outcome State Fault Refusal :=
  s.onGov fun g => g.ev t fun g => g.portRead (4 * addr.toNat)

/-- SG1_COUNTER_READ (R328). -/
def execSg1CounterRead (k : Fin 11) (t : Fin 250) (s : State) : Host.Outcome State Fault Refusal :=
  s.onGov fun g => g.ev t fun g => g.portRead (W.SG1_CNT k)

/-- TRACE_DRAIN_READ: any word of a drain aperture (R391). -/
def execTraceDrainRead (n : Fin 4) (i : Fin 256) (t : Fin 250) (s : State) : Host.Outcome State Fault Refusal :=
  s.onGov fun g => g.ev t fun g => g.portRead (0x61000 + 0x400 * n + 4 * i)

/-! ### REGACC (R397) -/

/-- REGACC: one privileged access from the TAP; the next Capture-DR finds the read data, REG_RESP and DONE. -/
def execRegacc (addr : BitVec 18) (we : Bool) (data : Word) (t : Fin 250) (s : State) : Host.Outcome State Fault Refusal :=
  s.onBoth fun g k =>
    let g' := g.tapDo t fun g =>
      let off := 4 * addr.toNat
      let g := if we then g.portWrite off { data := data, par := BitVec.ofNat 4 (wordParity data), priv := true } else g.portRead off
      g.withTap { g.tap with ir := 8, dr := addr.toNat + b2n we * 2 ^ 18 + g.rdata.toNat * 2 ^ 19 + g.resp * 2 ^ 51 + 2 ^ 53, extest := false }
    (g', k.clearWake (g.ev t id) g')

end Sys2Proof.Machine
end

