-- ==== Sys2Proof/Machine/Commands.lean ====
section
/-! DEFINITION. What the pilots do with the commands they serve: one meaning for each opcode (R358 to R371), and the fence wait's end. -/

namespace Sys2Proof.Machine

/-! ### Service -/

/-- The packet carries exactly the parameters its opcode takes: their number passes the test (R357). -/
def paramCount (ws : List Nat) (ok : Nat → Bool) : Bool :=
  if pkFwait ws && pkFsig ws then decide (4 ≤ pkLen ws) && ok (pkLen ws - 4) else ok (pkLen ws - 3)

/-- The pilot ends its service of channel n's request, where it carries the opcode (R361): checks 7 to 9 of R357 (acceptance, features, the number of parameters, then the opcode's own) and the command's effect, or the status a newer session has condemned it to (R360). -/
def Gov.serve (g : Gov) (n op : Nat) (ok : Nat → Bool) (f : Gov → List Nat → Gov) : Gov :=
  match g.req n with
  | some r =>
    if g.servedNow n && pkOpcode r.words == op then
      match r.doom, (check7 n r.words).orElse fun _ => g.check8 r.words with
      | some st, _ => g.post n r.words st []
      | none, some st => g.answer n r.words st []
      | none, none => if paramCount r.words ok then f g r.words else g.answer n r.words stParam []
    else g
  | none => g

/-- A command of channel n at an instant. -/
def command (n op : Nat) (ok : Nat → Bool) (t : Fin 250) (s : State) (f : Gov → List Nat → Gov) : Host.Outcome State Fault Refusal :=
  s.onGov fun g => g.ev t fun g => g.serve n op ok f

/-- Parameter i of a packet. -/
def param (ws : List Nat) (i : Nat) : Nat := pw ws (2 + i)

/-- A 64-bit value as two words, the less significant first. -/
def words64 (x : Nat) : List Nat := [x % 2 ^ 32, x / 2 ^ 32 % 2 ^ 32]

/-- A list of n bytes as words, byte 0 least significant. -/
def byteWords (n : Nat) (bs : List Byte) : List Nat := (List.range n).map fun k => ofLeBytes ((bs.drop (4 * k)).take 4)

/-- The register words at some offsets, those of the ledger as the port shows them: under FREEZE the words of one commit (R257, R258). -/
def Gov.wordsAt (g : Gov) (offs : List Nat) : List Nat := offs.map g.readout

/-- The request has been taken up and its answer comes later. -/
def Gov.begin (g : Gov) (n : Nat) : Gov :=
  match g.req n with
  | some r => (g.setReq n (some { r with phase := .serving })).takeUp
  | none => g

/-! ### Session and firmware -/

/-- NOP. -/
def execNop (n : Fin 16) (t : Fin 250) (s : State) : Host.Outcome State Fault Refusal :=
  command n 0x00 (· == 0) t s fun g ws => g.answer n ws stOk []

/-- The commands of the earlier session, on every channel but 2 (R348, R360): those not taken up end with ABORTED_SESSION at once, one that a pilot has begun does once it ends and a power-state command not committed once its handshake ends; committed ones are left. -/
def Gov.endSession (g : Gov) : Gov :=
  let doomed := fun (p : Nat × Req) => p.1 != 2 && (p.2.phase != .serving || pkOpcode p.2.words == 0x15)
  let g := g.withCmd { g.cmd with reqs := g.cmd.reqs.map fun (p : Nat × Req) => if doomed p then (p.1, { p.2 with doom := some stAbortedSession }) else p }
  g.each (g.cmd.reqs.filter fun p => doomed p && (p.2.phase == .waiting || p.2.phase == .ready)) fun g p => g.post p.1 p.2.words stAbortedSession []

/-- A session opens with the host's major version and features (R344, R347, R348, R360). -/
def Gov.openSession (g : Gov) (hostMajor hostFeat : Nat) : Gov :=
  let major := decide (hostMajor = g.get64 W.FWP_VER / 2 ^ 48)
  let g := ((g.upd F.SUP_SESSION_ID fun x => (x + 1) % 2 ^ 16).mark F.SUP_STAT_SESSION).set F.SUP_STAT_HARBOUR 0
  let g := (g.withFirm { g.firm with feat := hostFeat &&& g.get64 W.FWP_FEAT, major := major, lastKick := g.now, watched := true }).withCmd { g.cmd with fresh := List.range 16 }
  let g := g.each (List.range 16) fun g n => g.set (F.CMD_STAT_STARTED n) (b2n ((channelPilot n).isSome && (major || decide (2 ≤ n))))
  g.endSession

/-- SESSION_OPEN. -/
def execSessionOpen (n : Fin 16) (t : Fin 250) (s : State) : Host.Outcome State Fault Refusal :=
  command n 0x01 (· == 3) t s fun g ws =>
    if 2 ^ 16 ≤ param ws 0 then g.answer n ws stParam []
    else
      let g := (g.commit n ws stOk none).openSession (param ws 0) (param ws 1 + 2 ^ 32 * param ws 2)
      g.post n ws stOk (words64 (g.get64 W.FWP_VER) ++ words64 (g.get64 W.FWP_FEAT) ++ words64 g.firm.feat ++ [g.get F.SUP_SESSION_ID])

/-- VERSION_QUERY. -/
def execVersionQuery (n : Fin 16) (t : Fin 250) (s : State) : Host.Outcome State Fault Refusal :=
  command n 0x02 (· == 0) t s fun g ws =>
    g.answer n ws stOk (g.wordsAt ([W.FWP_VER, W.FWP_VER + 4, W.FWP_SVN] ++ (List.range 12).map W.FWP_DIGEST))

/-- UPDATE_BEGIN (R342). -/
def execUpdateBegin (n : Fin 16) (t : Fin 250) (s : State) : Host.Outcome State Fault Refusal :=
  command n 0x03 (· == 1) t s fun g ws =>
    let len := param ws 0
    let ust := g.get F.FWP_UPD_USTATE
    if len < 0x200 ∨ 0x100000 < len then g.answer n ws stParam []
    else if ust = 1 ∨ ust = 2 then g.answer n ws stState []
    else ((g.set F.FWP_UPD_USTATE 1).withFirm { g.firm with imgLen := len, written := 0 }).answer n ws stOk []

/-- The status that refuses an update block, or none (R364). -/
def Gov.blockBad (g : Gov) (ws : List Nat) : Option Nat :=
  let size := 4 * ((pkParams ws).length - 1)
  if param ws 0 ≠ g.firm.written ∨ g.firm.imgLen < g.firm.written + size then some stParam
  else if g.get F.FWP_UPD_USTATE ≠ 1 then some stState
  else none

/-- The bytes of an update block. -/
def blockBytes (ws : List Nat) : List Byte := (pkParams ws).tail.flatMap fun w => leBytes 4 w

/-- The number of parameters an update block may have: an offset and 1 to 60 words. -/
def blockCount (k : Nat) : Bool := decide (2 ≤ k) && decide (k ≤ 61)

/-- The governor's part of UPDATE_DATA. -/
def Gov.updateData (g : Gov) (n : Nat) (ws : List Nat) : Gov :=
  match g.blockBad ws with
  | some st => g.answer n ws st []
  | none =>
    let total := g.firm.written + (blockBytes ws).length
    (g.withFirm { g.firm with written := total }).answer n ws stOk [total]

/-- UPDATE_DATA: the block is written to flash and read back (R342). -/
def execUpdateData (n : Fin 16) (t : Fin 250) (s : State) : Host.Outcome State Fault Refusal :=
  s.onBoth fun g k =>
    let g1 := g.ev t fun g => g.serve n 0x04 blockCount fun g ws => g.updateData n ws
    let g0 := g.ev t id
    let fl := match g0.req n with
      | some r => if g1.firm.written = g0.firm.written then k.flash else flashBlock k.dev k.flash g0.firm.written (blockBytes r.words)
      | none => k.flash
    (g1, { k with flash := fl })

/-- UPDATE_FINISH: verification starts, and the answer comes at DONE or FAILED (R342, R343, R362). -/
def execUpdateFinish (n : Fin 16) (t : Fin 250) (s : State) : Host.Outcome State Fault Refusal :=
  command n 0x05 (· == 0) t s fun g ws =>
    if g.get F.FWP_UPD_USTATE ≠ 1 ∨ g.firm.written ≠ g.firm.imgLen then g.answer n ws stState []
    else (g.set F.FWP_UPD_USTATE 2).begin n

/-- SVN-commit may proceed (R336, R342). -/
def Gov.svnOk (g : Gov) : Bool :=
  let ust := g.get F.FWP_UPD_USTATE
  decide (g.get F.FWP_SVN_FUSE_SVN < g.get F.FWP_SVN_IMG_SVN) && [0, 1, 2].all g.pilotUp && ust != 1 && ust != 2 && ust != 3

/-- SVN_COMMIT: the fuses, 64 of them, are blown up to the SVN of the running image; a blown fuse stays blown (R336). -/
def execSvnCommit (n : Fin 16) (t : Fin 250) (s : State) : Host.Outcome State Fault Refusal :=
  s.onBoth fun g k =>
    let g' := g.ev t fun g => g.serve n 0x06 (· == 0) fun g ws =>
      if !g.svnOk then g.answer n ws stState []
      else
        let svn := min 64 (g.get F.FWP_SVN_IMG_SVN)
        (g.set F.FWP_SVN_FUSE_SVN svn).answer n ws stOk [svn]
    (g', if g'.get F.FWP_SVN_FUSE_SVN = (g.ev t id).get F.FWP_SVN_FUSE_SVN then k else { k with svn := max k.svn (min 64 (g'.get F.FWP_SVN_FUSE_SVN)) })

/-! ### Register commands (R365) -/

/-- The pairs of a REG_WRITE: offsets with values. -/
def writePairs : List Nat → List (Nat × Nat)
  | o :: v :: rest => (o, v) :: writePairs rest
  | _ => []

/-- The status that refuses a pair before it is staged. -/
def Gov.pairBad (g : Gov) (n off : Nat) : Option Nat :=
  let inside := if n = 0 then decide (0xD00 ≤ off) && decide (off < 0xD54)
    else !(decide (0x100 ≤ off) && decide (off < 0x200)) && !(decide (0x500 ≤ off) && decide (off < 0x508)) &&
      !(decide (0xD00 ≤ off) && decide (off < 0xE00)) && !(decide (0x1000 ≤ off) && decide (off < 0x4000))
  let lockedOut := g.locked off && (fieldsAt off).any fun f => f.acc == .rwl
  let supplied := decide (0x10000 ≤ off) && decide (off < 0x20000) && off % 64 == 8 && g.spSupplied ((off - 0x10000) / 64)
  if off % 4 ≠ 0 ∨ 2 ^ 20 ≤ off ∨ !writable off ∨ !inside ∨ lockedOut ∨ supplied then some stParam
  else if off = W.LIM_PCAP ∧ g.flag F.IDL_CFG_TUG_EN then some stState
  else none

/-- The first pair that is refused before it is staged: its index, offset and status. -/
def Gov.firstBad (g : Gov) (n : Nat) : Nat → List (Nat × Nat) → Option (Nat × Nat × Nat)
  | _, [] => none
  | i, (o, _) :: rest =>
    match g.pairBad n o with
    | some st => some (i, o, st)
    | none => g.firstBad n (i + 1) rest

/-- Apply the staged writes in order by their registers' own rules; the first that is refused ends them. -/
def Gov.applyPairs (g : Gov) : Nat → List (Nat × Nat) → Except (Nat × Nat) Gov
  | _, [] => .ok g
  | i, (o, v) :: rest =>
    if (g.writeReg o (BitVec.ofNat 32 v)).ok then (g.writeReg o (BitVec.ofNat 32 v)).gov.applyPairs (i + 1) rest
    else .error (i, o)

/-- The governor's part of REG_WRITE: all pairs, or none. -/
def Gov.regWrite (g : Gov) (n : Nat) (ws : List Nat) : Gov :=
  let pairs := writePairs (pkParams ws)
  match g.firstBad n 0 pairs with
  | some (i, o, st) => g.answer n ws st [i, o]
  | none =>
    match g.applyPairs 0 pairs with
    | .error (i, o) => g.answer n ws stParam [i, o]
    | .ok g => g.answer n ws stOk []

/-- REG_WRITE. -/
def execRegWrite (n : Fin 16) (t : Fin 250) (s : State) : Host.Outcome State Fault Refusal :=
  s.onBoth fun g k =>
    let g' := g.ev t fun g => g.serve n 0x10 (fun c => decide (2 ≤ c) && decide (c ≤ 60) && c % 2 == 0) fun g ws => g.regWrite n ws
    (g', k.clearWake (g.ev t id) g')

/-- REG_READ: each offset as a read at the port shows it. -/
def execRegRead (n : Fin 16) (t : Fin 250) (s : State) : Host.Outcome State Fault Refusal :=
  command n 0x11 (fun c => decide (1 ≤ c) && decide (c ≤ 60)) t s fun g ws =>
    let offs := pkParams ws
    if offs.any fun o => o % 4 != 0 || decide (2 ^ 20 ≤ o) || (findReg o).isNone then g.answer n ws stParam []
    else
      let r := offs.foldl (fun (acc : List Nat × Gov) o => (acc.1 ++ [(acc.2.readWord o).1.toNat], (acc.2.readWord o).2)) ([], g)
      r.2.answer n ws stOk r.1

/-! ### Laws and tables (R103, R226, R366) -/

/-- A channel's load buffer. -/
def Gov.loadBuf (g : Gov) (n : Nat) : Option LoadBuf := (g.cmd.bufs.find? fun p => p.1 == n).map (·.2)

/-- Replace or drop a channel's load buffer. -/
def Gov.setBuf' (g : Gov) (n : Nat) (b : Option LoadBuf) : Gov :=
  let rest := g.cmd.bufs.filter fun (p : Nat × LoadBuf) => p.1 != n
  g.withCmd { g.cmd with bufs := match b with | some b => rest ++ [(n, b)] | none => rest }

/-- The buffer after a packet's words, or none where the packet does not continue it: FIRST 0 begins afresh; otherwise FIRST is the count received so far and the header fields are the same. -/
def Gov.extend (g : Gov) (n : Nat) (isLaw : Bool) (index : Nat) (head : List Nat) (first : Nat) (words : List Nat) : Option LoadBuf :=
  if first = 0 then some ⟨isLaw, index, head, words⟩
  else
    match g.loadBuf n with
    | some b => if b.isLaw = isLaw ∧ b.index = index ∧ b.head = head ∧ 2 * first = b.words.length then some { b with words := b.words ++ words } else none
    | none => none

/-- The micro-instructions of a list of words, low word first. -/
def lawWords : List Nat → List (BitVec 64)
  | lo :: hi :: rest => BitVec.ofNat 64 (lo + hi * 2 ^ 32) :: lawWords rest
  | _ => []

/-- The breakpoints of a list of words. -/
def tableWords : List Nat → List (Int × Int)
  | x :: y :: rest => (toSigned 32 x, toSigned 32 y) :: tableWords rest
  | _ => []

/-- One LAW_LOAD packet. -/
def Gov.lawLoad (g : Gov) (n : Nat) (ws : List Nat) : Gov :=
  let p0 := param ws 0
  let k := bits p0 0 6
  let len := bits p0 8 8
  if bits p0 6 2 ≠ 0 ∨ bits p0 23 9 ≠ 0 then (g.setBuf' n none).answer n ws stParam []
  else
    match g.extend n true k [len, param ws 1] (bits p0 16 7) ((pkParams ws).drop 2) with
    | none => (g.setBuf' n none).answer n ws stParam []
    | some b =>
      let code := lawWords b.words
      if code.length < len then (g.setBuf' n (some b)).answer n ws stOk []
      else
        let g := g.setBuf' n none
        if code.length ≠ len then g.answer n ws stParam (if len = 0 then [3] else [])
        else
          match g.loadLaw k len (param ws 1) code with
          | .inl c => g.answer n ws stParam [c]
          | .inr start => (g.installLaw k start code).answer n ws stOk []

/-- LAW_LOAD. -/
def execLawLoad (n : Fin 16) (t : Fin 250) (s : State) : Host.Outcome State Fault Refusal :=
  command n 0x12 (fun c => decide (4 ≤ c) && decide (c ≤ 60) && c % 2 == 0) t s fun g ws => g.lawLoad n ws

/-- LAW_UNLOAD. -/
def execLawUnload (n : Fin 16) (t : Fin 250) (s : State) : Host.Outcome State Fault Refusal :=
  command n 0x13 (· == 1) t s fun g ws =>
    let k := bits (param ws 0) 0 6
    if k < 2 ∨ g.lawUse k ≠ 0 then g.answer n ws stParam [] else (g.dropLaw k).answer n ws stOk []

/-- A table that passed: written to its shadow, and loaded (R226, R366). -/
def Gov.storeTable (g : Gov) (k : Nat) (pts : List (Int × Int)) (inc dec : Bool) : Gov :=
  let g := ((g.set (F.TBL_HDR_NBP k) pts.length).set (F.TBL_HDR_INC k) (b2n inc)).set (F.TBL_HDR_DEC k) (b2n dec)
  (g.writeWords (W.TBL_X k 0) (pts.flatMap fun p => [ofSigned 32 p.1, ofSigned 32 p.2])).queueTable k ⟨pts, inc, dec⟩

/-- One TABLE_LOAD packet. -/
def Gov.tableLoad (g : Gov) (n : Nat) (ws : List Nat) : Gov :=
  let p0 := param ws 0
  let k := bits p0 0 6
  let nbp := bits p0 8 6
  let inc := bit p0 16
  let dec := bit p0 17
  match g.extend n false k [nbp, b2n inc, b2n dec] (bits p0 24 6) ((pkParams ws).drop 1) with
  | none => (g.setBuf' n none).answer n ws stParam []
  | some b =>
    let pts := tableWords b.words
    if pts.length < nbp then (g.setBuf' n (some b)).answer n ws stOk []
    else
      let g := g.setBuf' n none
      if pts.length ≠ nbp ∧ nbp ≠ 0 then g.answer n ws stParam []
      else
        match tableFault nbp inc dec pts with
        | some c => ((g.mark (F.TBL_CTRL_REFUSED k)).set (F.TBL_CTRL_RSN k) c).answer n ws stParam [c]
        | none => ((g.storeTable k pts inc dec).commit n ws stDeferred (some (.tblActive k))).post n ws stDeferred [tableCrc pts]

/-- TABLE_LOAD. -/
def execTableLoad (n : Fin 16) (t : Fin 250) (s : State) : Host.Outcome State Fault Refusal :=
  command n 0x38 (fun c => decide (3 ≤ c) && decide (c ≤ 59) && c % 2 == 1) t s fun g ws => g.tableLoad n ws

/-- TRIM_STEP: refused or held is STATE (R229). -/
def execTrimStep (n : Fin 16) (t : Fin 250) (s : State) : Host.Outcome State Fault Refusal :=
  command n 0x39 (· == 1) t s fun g ws =>
    let r := bits (param ws 0) 0 3
    let step := bits (param ws 0) 8 2
    if step = 0 then g.answer n ws stParam []
    else
      let v := g.requestTrim r step
      if v.ok && (step == 3 || !g.flag F.LIM_STEADY_STAT_ACTIVE) then v.gov.answer n ws stOk [] else v.gov.answer n ws stState []

/-! ### Rails, power states, stops -/

/-- RAIL_TARGET: FORCE_ENTRY and FORCE_EN of a rail (R187, R189). -/
def execRailTarget (n : Fin 16) (t : Fin 250) (s : State) : Host.Outcome State Fault Refusal :=
  command n 0x14 (· == 1) t s fun g ws =>
    let p0 := param ws 0
    let r := bits p0 0 3
    let w := insertField (insertField (g.word (W.RAIL_SEL r)) 8 4 (bits p0 8 4)) 12 1 (bits p0 16 1)
    if g.boardMode || g.flag F.LIM_STEADY_STAT_ACTIVE || !g.railOn r then g.answer n ws stState []
    else
      let v := g.writeReg (W.RAIL_SEL r) w
      if v.ok then (v.gov.commit n ws stDeferred (some (.railReached r))).post n ws stDeferred [] else g.answer n ws stState []

/-- PS_REQUEST: an entry, an exit or a cancel (R292, R302, R307, R362). -/
def execPsRequest (n : Fin 16) (t : Fin 250) (s : State) : Host.Outcome State Fault Refusal :=
  command n 0x15 (· == 1) t s fun g ws =>
    let p0 := param ws 0
    let target := bits p0 0 3
    if bit p0 8 then
      let g := g.psCancel
      g.answer n ws stOk [g.get F.PS_STAT_RESULT]
    else if target = 0 ∧ g.state = stIdle ∧ !g.flag F.PS_STAT_BUSY then
      let g := g.beginExit 0 false
      (g.commit n ws stDeferred (some .psDone)).post n ws stDeferred [g.get F.PS_STAT_RESULT]
    else
      let v := (g.begin n).psRequest target (some n)
      if v.1 then v.2 else v.2.answer n ws stState []

/-- GLOBAL_STOP (R283, R284). -/
def execGlobalStop (n : Fin 16) (t : Fin 250) (s : State) : Host.Outcome State Fault Refusal :=
  command n 0x16 (· == 1) t s fun g ws =>
    let action := bits (param ws 0) 0 2
    if action = 0 then g.answer n ws stParam []
    else if !g.flag F.IDL_CFG_EN then g.answer n ws stState []
    else
      let v := g.requestStop action
      if action = 3 then v.2.answer n ws stOk [v.1] else (v.2.commit n ws stDeferred (some .stopCut)).post n ws stDeferred [v.1]

/-! ### Accounts and statements -/

/-- The floor power of every LC account open, or accepted and not yet open (R125). -/
def Gov.floorPower (g : Gov) : Nat :=
  ((List.range 256).filter fun a => g.get (F.ACC_STAT_STATE a) == 1 && !g.flag (F.ACC_STAT_CLASS a)).foldl (fun x a => x + g.get (F.ACC_FLOOR_FLOOR_PWR a)) 0 +
    (g.led.opens.filter fun o => o.cls == 0).foldl (fun x o => x + o.fpwr) 0

/-- ACCT_OPEN: admitted now, open at the next tick, answered then (R125, R244, R263, R362). -/
def execAcctOpen (n : Fin 16) (t : Fin 250) (s : State) : Host.Outcome State Fault Refusal :=
  command n 0x20 (· == 6) t s fun g ws =>
    let p0 := param ws 0
    let a := bits p0 0 8
    let o : OpenReq := { acct := a, cls := bits p0 8 1, fact := bits p0 16 12, fpwr := bits (param ws 1) 0 16, tag := (pkParams ws).drop 2, chan := n, due := none }
    if g.get (F.ACC_STAT_STATE a) = 1 ∨ g.led.opens.any (fun o => o.acct == a) ∨ g.flag F.IDL_STAT_ALIGN_PEND then g.answer n ws stState []
    else if o.cls = 0 ∧ g.act F.LIM_LC_BUDGET_BUDGET < g.floorPower + o.fpwr then g.answer n ws stResource []
    else ((g.withLed { g.led with opens := g.led.opens ++ [o] }).commit n ws stOk (some (.acctOpen a))).begin n

/-- ACCT_CLOSE: accepted now, closed at the commit of the last charged sample, answered then (R245, R254, R362). -/
def execAcctClose (n : Fin 16) (t : Fin 250) (s : State) : Host.Outcome State Fault Refusal :=
  command n 0x21 (· == 1) t s fun g ws =>
    let p0 := param ws 0
    let a := bits p0 0 8
    let c : CloseReq := { acct := a, stmt := bit p0 8, chan := n, due := none }
    if g.get (F.ACC_STAT_STATE a) ≠ 1 ∨ g.led.closes.any (fun c => c.acct == a) then g.answer n ws stState []
    else if c.stmt ∧ 256 ≤ g.led.stmts.length + g.led.closes.countP (·.stmt) then g.answer n ws stResource []
    else ((g.withLed { g.led with closes := g.led.closes ++ [c] }).commit n ws stOk (some (.acctClose a))).begin n

/-- ACCT_QUERY (R255). -/
def execAcctQuery (n : Fin 16) (t : Fin 250) (s : State) : Host.Outcome State Fault Refusal :=
  command n 0x22 (· == 1) t s fun g ws =>
    let a := bits (param ws 0) 0 8
    let pair := fun (o : Nat) => [o, o + 4]
    let data := g.wordsAt ([W.ACC_STAT a] ++ pair (W.ACC_ENERGY a) ++ pair (W.ACC_LEAK a) ++ pair (W.ACC_TSTART a) ++ pair (W.ACC_TEND a) ++ [W.ACC_SWITCH a])
    g.answer n ws (if g.flag (F.ACC_STAT_POISON a) then stPoisoned else stOk) data

/-- The statement in a slot. -/
def Gov.stmtAt (g : Gov) (slot : Nat) : Option Stmt := g.led.stmts.find? fun x => x.slot == slot

/-- STMT_READ (R255, R321, R367). -/
def execStmtRead (n : Fin 16) (t : Fin 250) (s : State) : Host.Outcome State Fault Refusal :=
  command n 0x28 (· == 1) t s fun g ws =>
    match g.stmtAt (bits (param ws 0) 0 8) with
    | none => g.answer n ws stParam []
    | some x =>
      match x.sig with
      | none => g.answer n ws stNotReady []
      | some sig =>
        if x.lost then g.answer n ws stPoisoned []
        else g.answer n ws (if bit (x.body.getD 0x22 0).toNat 0 then stPoisoned else stOk) (byteWords 60 (x.body ++ beBytes 48 sig.1 ++ beBytes 48 sig.2))

/-- STMT_RELEASE (R254). -/
def execStmtRelease (n : Fin 16) (t : Fin 250) (s : State) : Host.Outcome State Fault Refusal :=
  command n 0x29 (· == 1) t s fun g ws =>
    let slot := bits (param ws 0) 0 8
    match g.stmtAt slot with
    | none => g.answer n ws stParam []
    | some x => if x.sig.isNone then g.answer n ws stState [] else (g.releaseStmt slot).answer n ws stOk []

/-- The map of the slots of some statements, 8 words. -/
def slotMap (xs : List Stmt) : List Nat := (List.range 8).map fun k => mapBits 32 fun i => xs.any fun x => x.slot == 32 * k + i

/-- STMT_LIST. -/
def execStmtList (n : Fin 16) (t : Fin 250) (s : State) : Host.Outcome State Fault Refusal :=
  command n 0x2A (· == 0) t s fun g ws =>
    g.answer n ws stOk (slotMap g.led.stmts ++ slotMap (g.led.stmts.filter fun (x : Stmt) => x.sig.isSome))

/-! ### Attestation (R252, R349, R368) -/

/-- ATTEST_KEY. -/
def execAttestKey (n : Fin 16) (t : Fin 250) (s : State) : Host.Outcome State Fault Refusal :=
  command n 0x30 (· == 0) t s fun g ws =>
    if !g.keyOk then g.answer n ws stState []
    else
      let q := publicKey g.fuses.devKey
      g.answer n ws stOk (byteWords 24 (beBytes 48 q.1 ++ beBytes 48 q.2))

/-- ATTEST_CERT: a chunk of at most 232 bytes. -/
def execAttestCert (n : Fin 16) (t : Fin 250) (s : State) : Host.Outcome State Fault Refusal :=
  command n 0x31 (· == 1) t s fun g ws =>
    let off := param ws 0
    let cert := g.fuses.cert
    if cert.length < off then g.answer n ws stParam []
    else
      let chunk := (cert.drop off).take 232
      g.answer n ws stOk ([cert.length, chunk.length] ++ byteWords 58 (chunk ++ List.replicate (232 - chunk.length) 0))

/-- The body of a quote over a nonce. -/
def Gov.quoteBody (g : Gov) (nonce : List Nat) : List Byte :=
  [0x53, 0x47, 0x51, 0x54] ++ leBytes 2 1 ++ leBytes 2 (g.get F.FWP_SVN_IMG_SVN) ++ g.deviceId ++ nonce.flatMap (leBytes 4 ·) ++ g.fwDigest ++
    leBytes 8 (g.led.seq % 2 ^ 32 + (g.word W.LDG_EPOCH).toNat * 2 ^ 32)

/-- ATTEST_QUOTE. -/
def execAttestQuote (n : Fin 16) (t : Fin 250) (s : State) : Host.Outcome State Fault Refusal :=
  command n 0x32 (· == 12) t s fun g ws =>
    if !g.keyOk then g.answer n ws stState []
    else
      let body := g.quoteBody (pkParams ws)
      let sig := ecdsaSign g.fuses.devKey body
      g.answer n ws stOk (byteWords 56 (body ++ beBytes 48 sig.1 ++ beBytes 48 sig.2))

/-! ### Telemetry (R368) -/

/-- The offsets of a telemetry group, or none for a bad group or index. -/
def telemetry (group i : Nat) : Option (List Nat) :=
  if group = 0 ∧ i = 0 then
    some [W.LDG_DIE_WIN_N, W.LDG_DIE_WIN_MEAN, W.LDG_DIE_WIN_MEAN + 4, W.LDG_DIE_WIN_VAR, W.LDG_DIE_WIN_VAR + 4, W.LDG_DIE_WIN_SUM, W.LDG_DIE_WIN_SUM + 4, W.REG_PIN]
  else if group = 1 ∧ i < 8 then some [W.RAIL_TELE i, W.RAIL_POUT i, W.RAIL_STATE i, W.LDG_RAIL_E i, W.LDG_RAIL_E i + 4]
  else if group = 2 then some [W.BT_GATE i, W.BT_WIN i, W.LDG_BERTH_E i, W.LDG_BERTH_E i + 4]
  else if group = 3 ∧ i = 0 then
    some [W.IDL_COLL_START, W.IDL_COLL_START + 4, W.IDL_COLL_N, W.IDL_COLL_CONTRIB, W.IDL_COLL_CONTRIB + 4, W.IDL_COLL_MEAN, W.IDL_COLL_MEAN + 4,
      W.IDL_COLL_VAR, W.IDL_COLL_VAR + 4, W.IDL_COLL_SUM, W.IDL_COLL_SUM + 4]
  else none

/-- TELEM_READ. -/
def execTelemRead (n : Fin 16) (t : Fin 250) (s : State) : Host.Outcome State Fault Refusal :=
  command n 0x40 (· == 1) t s fun g ws =>
    match telemetry (bits (param ws 0) 0 4) (bits (param ws 0) 8 8) with
    | some offs => g.answer n ws stOk (g.wordsAt offs)
    | none => g.answer n ws stParam []

/-! ### Fences (R369 to R371) -/

/-- FENCE_RESET: every fence from first to last becomes unsignalled. -/
def execFenceReset (n : Fin 16) (t : Fin 250) (s : State) : Host.Outcome State Fault Refusal :=
  command n 0x48 (· == 1) t s fun g ws =>
    let first := bits (param ws 0) 0 12
    let last := bits (param ws 0) 16 12
    if last < first then g.answer n ws stParam []
    else (g.each ((List.range (last + 1 - first)).map (first + ·)) fun g f => g.set (F.FENCE_STATE_bit f) 0).answer n ws stOk []

/-- FENCE_QUERY. -/
def execFenceQuery (n : Fin 16) (t : Fin 250) (s : State) : Host.Outcome State Fault Refusal :=
  command n 0x49 (· == 1) t s fun g ws =>
    let f := bits (param ws 0) 0 12
    let waits := g.cmd.reqs.any fun p => p.2.phase == .waiting && pkFence p.2.words == f
    g.answer n ws stOk [g.get (F.FENCE_STATE_bit f) + 2 * b2n waits]

/-- FENCE_WAIT_TIMEOUT: WAIT_TMO has elapsed since the take, and the fence is not signalled (R371). -/
def execFenceWaitTimeout (n : Fin 16) (t : Fin 250) (s : State) : Host.Outcome State Fault Refusal :=
  s.onGov fun g => g.ev t fun g =>
    let tmo := g.get F.CMD_CFG_WAIT_TMO
    match g.req n with
    | some r => if tmo ≠ 0 ∧ r.taken + tmo * 1000000 ≤ g.now ∧ r.doom.isNone then g.endWait n stFenceTimeout else g
    | none => g

end Sys2Proof.Machine
end

