-- ==== Sys2Proof/Machine/HawserRows.lean ====
section
/-! DEFINITION. The rows of: the Hawser link (chapter 10): ports, frames, enumeration, time, tug rounds, missing nodes, global stops, the statistics collective and the group's registers. -/

namespace Sys2Proof.Machine

/-! ### Ports (R261, R267) -/

/-- LINK_TRAIN: lanes align and deskew. -/
def execLinkTrain (p : Fin 2) (t : Fin 250) (s : State) : Host.Outcome State Fault Refusal :=
  s.onGov fun g =>
    let g' := g.reach t
    if g.engine && g'.flag (portEnable p) && g'.get (linkField p) == 0 then
      let g := g'.set (linkField p) 1
      g.setPort p fun x => { x with run := 0, hdrAt := g.now, missed := 0, turned := false }
    else g

/-- LINK_UP. -/
def execLinkUp (p : Fin 2) (t : Fin 250) (s : State) : Host.Outcome State Fault Refusal :=
  s.onGov fun g =>
    let g' := g.reach t
    if g.engine && g'.get (linkField p) == 1 && decide (4 ≤ (g'.port p).run) then g'.linkUp p else g

/-- LINK_DOWN: three frame periods without a valid header. -/
def execLinkDown (p : Fin 2) (t : Fin 250) (s : State) : Host.Outcome State Fault Refusal :=
  s.onGov fun g =>
    let g' := g.reach t
    if g.engine && g'.get (linkField p) != 0 && decide ((g'.port p).hdrAt + 30000 ≤ g'.now) then
      let g := ((g'.set (linkField p) 0).setPort p fun x => { x with run := 0, missed := 0 }).inc F.IDL_CNT_LINKDN_COUNT
      let g := (((g.mark F.IDL_EVT_LINK_DOWN).mark F.GOV_IRQ_SRC_IDL).raise 279 (p.val + 1)).log g.now 7 [p.val + 1]
      if g.get F.IDL_STAT_MODE = 3 then g else g.setMode
    else g

/-- SEGMENT_ENTRY: no root frame came for three frame periods. -/
def execSegmentEntry (t : Fin 250) (s : State) : Host.Outcome State Fault Refusal :=
  s.onGov fun g =>
    let g' := g.reach t
    if g.engine && g'.flag F.IDL_CFG_EN && g'.get F.IDL_STAT_MODE != 3 && decide (g'.hws.rootAt + 30000 ≤ g'.now) then
      let g := (g'.set F.IDL_STAT_MODE 3).loseLock
      g.withHws { g.hws with near := 0, far := 0, round := none }
    else g

/-! ### The slots by frame (R266, R277, R282) -/

/-- NODE_MISSING: a node's slot shows FAULT or is missing. -/
def execNodeMissing (n : Fin 64) (t : Fin 250) (s : State) : Host.Outcome State Fault Refusal :=
  s.onGov fun g =>
    let g' := g.reach t
    let miss := g'.gone n && !g'.hws.told.contains (n.val, true)
    let fault := !g'.gone n && ((g'.lastSlot n).map fun x => bit x.flags 3).getD false && !g'.hws.told.contains (n.val, false)
    if g.engine && g'.takesPart && n.val != g'.get F.IDL_STAT_NODE && decide (n.val < g'.get F.IDL_STAT_NODES) && (miss || fault) then
      let g := g'
      let map := if miss then W.IDL_NODE_MISS else W.IDL_NODE_FAULT
      let g := g.set64 map (g.get64 map ||| 2 ^ n.val)
      let g := g.withHws { g.hws with told := g.hws.told ++ [(n.val, miss)] }
      ((g.mark F.IDL_EVT_NODE_EVENT).mark F.GOV_IRQ_SRC_IDL).log g.now 0x000A [n.val + 256 * b2n fault + 512 * b2n miss]
    else g

/-! ### Time (R269 to R272) -/

/-- TIME_STEP: at a base tick GOV_TIME moves by the offset that awaits it. -/
def execTimeStep (s : State) : Host.Outcome State Fault Refusal :=
  s.onGov fun g =>
    let g' := g.reach 0
    match g'.hws.step with
    | some d =>
      if g.engine && g'.now % 250 == 0 then
        let g := g'
        let old := g.now
        let new := shiftBy d old
        let g := (g.withHws { g.hws with step := none }).shiftTimes d
        (((g.withNow new).set F.IDL_STAT_ALIGN_PEND 0).mark F.IDL_EVT_STEPPED).log new 8 [old % 2 ^ 32, old / 2 ^ 32, new % 2 ^ 32, new / 2 ^ 32]
      else g
    | none => g

/-! ### Frames (R261, R264 to R268) -/

/-- FRAME_ORIGINATE: the root sends a primary and a secondary frame at a multiple of 10 µs. -/
def execFrameOriginate (t : Fin 250) (s : State) : Host.Outcome State Fault Refusal :=
  s.onGov fun g =>
    let g' := g.reach t
    if g.engine && g'.isRoot && g'.now % 10000 == 0 && g'.hws.sentAt != some g'.now then
      let g := g'.enumTick
      let f := (g.hws.fctr + 1) % 2 ^ 32
      let last := g.slotsOf (before f (if g.get F.IDL_STAT_MODE = 1 then 1 else 2))
      let g := (g.withHws { g.hws with fctr := f, sentAt := some g.now }).newFrame f
      let g := g.placeStop g.now
      let own := g.ownSlot f
      let g := if g.takesPart then (g.noteSlot f own).showSlot own else g
      let (run, g) := g.rootBlock
      let hop := if g.hws.enum = 1 then 1 else 0
      let g := if g.hws.enum = 1 then g.withHws { g.hws with enum := 2, enumAt := f } else g
      let fr : Frame := { hdrOk := true, fctr := f, tmark := g.now, path := 0, hop := hop, nodes := g.get F.IDL_STAT_NODES, turned := false, slots := trimSlots (g.get F.IDL_STAT_NODES) (if g.takesPart then withOwn own last else last), badSlots := [], run := some run, result := some (g.hws.result.getD noBlock) }
      let g := if g.flag F.IDL_CFG_DN_EN then (g.setPort 1 fun x => { x with sent := some fr }).event f 1 true false g.now else g
      let g := if g.flag F.IDL_CFG_UP_EN then (g.setPort 0 fun x => { x with sent := some { fr with hop := 0, run := some noBlock } }).event f 3 true false g.now else g
      g.openRound f
    else g

/-- FRAME_RECEIVE: a frame comes in on a port; a node retransmits it 112 ns to 128 ns later. -/
def execFrameReceive (p : Fin 2) (fr : Frame) (dt : Fin 17) (t : Fin 250) (s : State) : Host.Outcome State Fault Refusal :=
  s.onGov fun g =>
    let g' := g.reach t
    if !g.engine ∨ !g'.flag (portEnable p) ∨ g'.get (linkField p) = 0 then g
    else
      let g := g'.inc F.IDL_CNT_CRC_COUNT (failedSegments fr)
      let g := if p.val = 0 then g.noteMark else g
      let out := g.now + 112 + dt
      let g := g.event fr.fctr (if p.val = 0 then 0 else 2) fr.hdrOk fr.turned g.now
      let g := if fr.hdrOk then g.hearHeader p fr else g.setPort p fun x => { x with run := 0 }
      if g.isRoot then (if fr.hdrOk then g.rootReceive p fr else g)
      else
        let (hop, g) := if fr.hdrOk ∧ p.val = 0 ∧ !fr.turned then g.takeHop fr else (fr.hop, g)
        let g := if fr.hdrOk then g.newFrame fr.fctr else g
        let g := g.placeStop out
        let own := g.ownSlot fr.fctr
        let g := if g.takesPart then (g.noteSlot fr.fctr own).showSlot own else g
        let g := if fr.hdrOk then g.nodeReceive p fr else g
        g.forward p fr own hop (112 + dt) out

/-! ### Tug rounds (R277 to R280) -/

/-- TUG_ROUND: pilot C computes the round of the last frame, or takes the cap back to BASE. -/
def execTugRound (t : Fin 250) (s : State) : Host.Outcome State Fault Refusal :=
  s.onGov fun g =>
    let g' := g.reach t
    if !g.engine ∨ !g'.pilotUp 2 ∨ !g'.hws.tugging then g
    else if !g'.flag F.IDL_CFG_TUG_EN ∨ g'.get F.IDL_STAT_MODE = 3 then g'.returnCap
    else
      match g'.hws.round with
      | some f => g'.computeRound f
      | none => g

/-! ### The stop cut (R283, R284) -/

/-- STOP_CUT: the first sample tick after receipt. -/
def execStopCut (t : Fin 250) (s : State) : Host.Outcome State Fault Refusal :=
  s.onGov fun g => let g' := g.reach t; if g.engine && g'.onTick && g'.hws.cuts.any (fun c => decide (c.2.2 < g'.now)) then g'.stopCut else g

end Sys2Proof.Machine
end

