-- ==== Sys2Proof/Machine/LedgerRows.lean ====
section
/-! DEFINITION. The rows of: the manifest: rail energy, its division among berths and accounts, accounts, windows, statements and the ledger registers (chapter 9), with the silent-fault sums of R322. -/

namespace Sys2Proof.Machine

/-! ### Silent faults (R322) -/

/-- JOB_STEP_CLOSE: the step's last sample has been committed; the step is evaluated. -/
def execJobStepClose (t : Fin 250) (s : State) : Host.Outcome State Fault Refusal :=
  s.onGov fun g => if g.engine && (g.reach t).led.stepDue then (g.reach t).evaluateStep else g

/-! ### Opening an account (R244) -/

/-- ACCOUNT_OPEN_TICK: the first tick after acceptance. -/
def execAccountOpenTick (a : Fin 256) (t : Fin 250) (s : State) : Host.Outcome State Fault Refusal :=
  s.onGov fun g =>
    let g' := g.reach t
    match g'.led.opens.find? fun o => o.acct == a.val with
    | some o =>
      match o.due with
      | some tick => if g.engine then g'.openAccount o tick else g
      | none => if g.engine && g'.onTick then g'.openAccount o g'.now else g
    | none => g

/-! ### Statements (R251 to R255) -/

/-- STATEMENT_SIGN: pilot B signs the oldest unsigned statement, after the epoch of this boot is settled (R252 to R254). -/
def execStatementSign (t : Fin 250) (s : State) : Host.Outcome State Fault Refusal :=
  s.onGov fun g =>
    let g' := g.reach t
    match (sortBy (·.order) g'.led.stmts).find? fun (x : Stmt) => x.sig.isNone with
    | some x =>
      if g'.pilotServes 1 && g'.keyOk && (g'.led.epochUp || g'.flag F.LDG_STATUS_EPOCH_BAD) then
        let g := g'
        let body := g.fillBody x
        let sig := ecdsaSign g.fuses.devKey body
        let g := g.withLed { g.led with stmts := g.led.stmts.map fun (y : Stmt) => if y.slot = x.slot then { y with body := body, sig := some sig } else y }
        (if x.shown then g.mark (F.ACC_STMT_SIGNED x.acct) else g).showStmts
      else g
    | none => g

/-- EPOCH_ADVANCE: once in each boot pilot B advances the flash record, or fails to (R253). -/
def execEpochAdvance (flashOk : Bool) (t : Fin 250) (s : State) : Host.Outcome State Fault Refusal :=
  s.onBoth fun g k =>
    let g' := g.reach t
    if !g'.pilotServes 1 || g'.led.epochUp || g'.flag F.LDG_STATUS_EPOCH_BAD then (g, k)
    else
      let g := g'
      if flashOk then
        let e := (k.epoch + 1) % 2 ^ 32
        (((g.setWord W.LDG_EPOCH (BitVec.ofNat 32 e)).withLed { g.led with epochUp := true }), { k with epoch := e })
      else (g.epochFails k, k)

/-! ### Closing an account (R245, R255) -/

/-- ACCOUNT_CLOSE_COMMIT: the commit of the last charged sample is done. -/
def execAccountCloseCommit (a : Fin 256) (t : Fin 250) (s : State) : Host.Outcome State Fault Refusal :=
  s.onGov fun g =>
    match (g.reach t).led.closes.find? fun c => c.acct == a.val with
    | some c =>
      match c.due with
      | some tick => if g.engine then (g.reach t).closeAccount c tick else g
      | none => g
    | none => g

/-! ### Berth inputs (R41, R42, R246) -/

/-- ACCT_TOGGLE: the new account and a count are captured; a toggle within 20 ns of the last one is a violation. -/
def execAcctToggle (b : Fin 256) (acct : Fin 256) (gray : BitVec 16) (t : Fin 250) (s : State) : Host.Outcome State Fault Refusal :=
  s.onGov fun g =>
    if !g.engine ∨ !(g.reach t).present b then g
    else
      let g := g.reach t
      let x := g.tog b
      let viol := x.near g.now
      let old := g.get (F.BT_ACCT_ACCT b)
      let g := g.setTog b { caps := x.caps ++ [(old, grayToBin gray.toNat, g.now)], viol := x.viol || viol, lastAt := some g.now }
      if old = acct then g else (g.switchRecord b old acct viol).set (F.BT_ACCT_ACCT b) acct

end Sys2Proof.Machine
end

