-- ==== Sys2Proof/Machine/Mgmt.lean ====
section
/-! DEFINITION. The management port: bindings and addresses, vendor-defined requests, reflash in anchor mode, and the PLDM commands (R57 to R64, R346). -/

namespace Sys2Proof.Machine

/-! ### Bindings and endpoint (R57, R58) -/

/-- Give an answer; none where the message is discarded. A vendor-defined answer is the body of R61 and a control or PLDM answer begins with its completion code: the headers of DSP0236, DSP0237, DSP0233 and DSP0240 around it are the transport's. -/
def Gov.reply (g : Gov) (bs : Option (List Byte)) : Gov := g.withMgmt { g.mgmt with answer := bs }

/-- The port becomes an I3C target with a dynamic address. -/
def Gov.toI3c (g : Gov) (addr : Nat) : Gov := g.withMgmt { g.mgmt with i3c := true, dynAddr := addr }

/-- ENTDAA. -/
def execEntdaa (addr : BitVec 7) (t : Fin 250) (s : State) : Host.Outcome State Fault Refusal :=
  s.onGov fun g => g.ev t fun g => g.toI3c addr.toNat

/-- SETDASA. -/
def execSetdasa (addr : BitVec 7) (t : Fin 250) (s : State) : Host.Outcome State Fault Refusal :=
  s.onGov fun g => g.ev t fun g => g.toI3c addr.toNat

/-- RSTDAA: back to SMBus. -/
def execRstdaa (t : Fin 250) (s : State) : Host.Outcome State Fault Refusal :=
  s.onGov fun g => g.ev t fun g => g.withMgmt { g.mgmt with i3c := false, dynAddr := 0 }

/-- SET_ENDPOINT_ID, from the bus owner: answered with or without an endpoint ID assigned (R58). The null and the broadcast endpoint are no assignment: ERROR_INVALID_DATA; otherwise the assignment is accepted, with its value and an empty pool (PRESUMED: DSP0236; log entry 67). -/
def execSetEndpointId (eid : BitVec 8) (t : Fin 250) (s : State) : Host.Outcome State Fault Refusal :=
  s.onGov fun g => g.ev t fun g =>
    if eid = 0 ∨ eid = 0xFF then g.reply (some [0x02])
    else (g.withMgmt { g.mgmt with eid := eid.toNat }).reply (some [0x00, 0x00, eid, 0x00])

/-! ### Transport (R57, R58, R60, R61) -/

/-- One MCTP packet of a message: its first and last marks, its sequence number of 2 bits, and at most 64 bytes, the baseline transmission unit (R58; PRESUMED: DSP0236; log entry 97). -/
structure MctpPacket where
  som  : Bool
  eom  : Bool
  seq  : Nat
  data : List Byte
  deriving DecidableEq, Repr

/-- The packets that carry the rest of a message from its k-th packet on; a message is cut into units of 64 bytes. -/
def mctpRest : Nat → Nat → List Byte → List MctpPacket
  | 0, _, _ => []
  | n + 1, k, bs =>
    if bs.length ≤ 64 then [⟨k == 0, true, k % 4, bs⟩] else ⟨k == 0, false, k % 4, bs.take 64⟩ :: mctpRest n (k + 1) (bs.drop 64)

/-- The packets of a message. -/
def mctpPackets (bs : List Byte) : List MctpPacket := mctpRest (bs.length + 1) 0 bs

/-- The message that packets carry: they come in order, from the first mark to the last; none where one is missing. -/
def mctpJoin : Nat → List MctpPacket → Option (List Byte)
  | _, [] => none
  | k, p :: ps =>
    if p.seq ≠ k % 4 ∨ p.som ≠ (k == 0) then none
    else if p.eom then (if ps.isEmpty then some p.data else none)
    else (mctpJoin (k + 1) ps).map (p.data ++ ·)

/-- The packets in which the answer that waits goes out. -/
def Gov.answerPackets (g : Gov) : List MctpPacket := (g.mgmt.answer.map mctpPackets).getD []

/-- One step of the packet error code over a byte: CRC-8 with polynomial 0x07 (PRESUMED: SMBus; log entry 97). -/
def pecByte (c : BitVec 8) (b : Byte) : BitVec 8 :=
  (List.range 8).foldl (fun c _ => if c.msb then (c <<< 1) ^^^ 0x07 else c <<< 1) (c ^^^ b)

/-- The packet error code of a transfer on SMBus, over its address and data bytes. A transfer whose last byte is not that code is not a message and is no command (R57). -/
def pec (bs : List Byte) : BitVec 8 := bs.foldl pecByte 0

/-- A transfer on SMBus as the port takes it: its bytes without the code, or none. -/
def pecTake (bs : List Byte) : Option (List Byte) := if bs ≠ [] ∧ bs.getLast? = some (pec bs.dropLast) then some bs.dropLast else none

/-- The in-band interrupt raised on I3C beside ALERT_N, with its mandatory byte (R60). -/
def Gov.inBand (g : Gov) : Option Byte := if g.alert && g.mgmt.i3c then some 0xA1 else none

/-! ### Vendor-defined messages (R61, R62) -/

/-- Completion codes (R61). -/
def ccSuccess : Nat := 0
def ccError : Nat := 1
def ccInvalidCode : Nat := 2
def ccNotOwner : Nat := 3
def ccLocked : Nat := 4
def ccState : Nat := 5
def ccBusy : Nat := 6
def ccVerifyFailed : Nat := 7

/-- The answer to a vendor-defined request. -/
def Gov.vendorReply (g : Gov) (q : VendorReq) (code cc : Nat) (payload : List Byte) : Gov :=
  g.reply (some ([q.rq &&& 0x1F, BitVec.ofNat 8 code, BitVec.ofNat 8 cc] ++ payload))

/-- The request codes of R62. -/
def vendorCodes : List Nat := [0x01, 0x02, 0x03, 0x04, 0x05, 0x10, 0x11, 0x12]

/-- A vendor-defined request: discarded where no endpoint ID is assigned, the enterprise number is another, or it is no request; INVALID_CODE for a code that R62 does not list (a listed code of another row is that row's request, and no effect of this one); ERROR for a malformed body; BUSY where its serving part is not available; NOT_OWNER for a request of the bus owner from elsewhere. -/
def Gov.vendor (g : Gov) (q : VendorReq) (code : Nat) (always owner : Bool) (size : Nat → Bool) (f : Gov → Gov) : Gov :=
  if g.mgmt.eid = 0 ∨ q.pen.toNat ≠ g.fuses.pen ∨ q.rq.toNat < 128 then g.reply none
  else if !vendorCodes.contains q.code.toNat then g.vendorReply q q.code.toNat ccInvalidCode []
  else if q.code.toNat ≠ code then g
  else if !always && !g.mgmtServes then g.vendorReply q code ccBusy []
  else if owner && !q.owner then g.vendorReply q code ccNotOwner []
  else if bits q.rq.toNat 5 2 ≠ 0 ∨ !size q.payload.length then g.vendorReply q code ccError []
  else f g

/-- The mode, node and power state as IDENTIFY gives them. -/
def Gov.identity (g : Gov) : List Byte :=
  leBytes 4 (g.word W.GOV_ID).toNat ++ g.deviceId ++ leBytes 8 (g.get64 W.FWP_VER) ++ leBytes 2 (g.get F.FWP_SVN_IMG_SVN) ++ leBytes 2 (g.get F.FWP_SVN_FUSE_SVN) ++
    leBytes 1 (g.get F.SUP_STAT_MODE) ++ leBytes 1 g.node ++ leBytes 1 g.state

/-- IDENTIFY. -/
def execIdentify (q : VendorReq) (t : Fin 250) (s : State) : Host.Outcome State Fault Refusal :=
  s.onGov fun g => g.ev t fun g => g.vendor q 0x01 true false (· == 0) fun g => g.vendorReply q 0x01 ccSuccess g.identity

/-- WAKE: wake source 4 while its enable is set. -/
def execWake (q : VendorReq) (t : Fin 250) (s : State) : Host.Outcome State Fault Refusal :=
  s.onGov fun g => g.ev t fun g => g.vendor q 0x02 true true (· == 0) fun g =>
    if !bit (g.get F.PS_WAKE_EN_EN) 4 then g.vendorReply q 0x02 ccState [] else (g.wake 4).vendorReply q 0x02 ccSuccess []

/-- FRU_WRITE: the identity fields in one privileged write (R327). -/
def execFruWrite (q : VendorReq) (t : Fin 250) (s : State) : Host.Outcome State Fault Refusal :=
  s.onGov fun g => g.ev t fun g => g.vendor q 0x03 false true (· == 37) fun g =>
    let valid := (q.payload.getD 36 0).toNat
    if 4 ≤ valid then g.vendorReply q 0x03 ccError []
    else if g.flag F.FLT_CTRL_LOCK then g.vendorReply q 0x03 ccLocked []
    else
      let g := (g.writeWords (W.FLT_FRU_ID 0) (byteWords 4 (q.payload.take 16))).writeWords (W.FLT_FRU_TEXT 0) (byteWords 5 ((q.payload.drop 16).take 20))
      (g.setWord W.FLT_FRU_VALID (BitVec.ofNat 32 valid)).vendorReply q 0x03 ccSuccess []

/-- FRU_READ. -/
def execFruRead (q : VendorReq) (t : Fin 250) (s : State) : Host.Outcome State Fault Refusal :=
  s.onGov fun g => g.ev t fun g => g.vendor q 0x04 false false (· == 0) fun g =>
    g.vendorReply q 0x04 ccSuccess (g.fruId ++ g.fruText ++ leBytes 1 (g.word W.FLT_FRU_VALID).toNat)

/-- FAULT_STATUS. -/
def execFaultStatus (q : VendorReq) (t : Fin 250) (s : State) : Host.Outcome State Fault Refusal :=
  s.onGov fun g => g.ev t fun g => g.vendor q 0x05 true false (· == 0) fun g =>
    g.vendorReply q 0x05 ccSuccess (leBytes 40 g.collector ++ leBytes 1 (g.get F.FLT_REC_QUEUED) ++ leBytes 4 (g.word W.FLT_REC_DROP).toNat)

/-! ### Reflash (R346) -/

/-- A reflash request: STATE outside anchor mode. -/
def Gov.reflash (g : Gov) (q : VendorReq) (code : Nat) (size : Nat → Bool) (f : Gov → Gov) : Gov :=
  g.vendor q code false true size fun g => if g.anchored then f g else g.vendorReply q code ccState []

/-- REFLASH_BEGIN. -/
def execReflashBegin (q : VendorReq) (t : Fin 250) (s : State) : Host.Outcome State Fault Refusal :=
  s.onGov fun g => g.ev t fun g => g.reflash q 0x10 (· == 4) fun g =>
    let len := ofLeBytes q.payload
    if len < 0x200 ∨ 0x100000 < len then g.vendorReply q 0x10 ccError []
    else if g.get F.FWP_UPD_USTATE = 1 ∨ g.get F.FWP_UPD_USTATE = 2 then g.vendorReply q 0x10 ccBusy []
    else ((g.set F.FWP_UPD_USTATE 1).withFirm { g.firm with imgLen := len, written := 0 }).vendorReply q 0x10 ccSuccess []

/-- The governor's part of REFLASH_DATA. -/
def Gov.reflashData (g : Gov) (q : VendorReq) : Gov :=
  let size := q.payload.length - 4
  if g.get F.FWP_UPD_USTATE ≠ 1 then g.vendorReply q 0x11 ccState []
  else if ofLeBytes (q.payload.take 4) ≠ g.firm.written ∨ g.firm.imgLen < g.firm.written + size then g.vendorReply q 0x11 ccError []
  else
    let total := g.firm.written + size
    (g.withFirm { g.firm with written := total }).vendorReply q 0x11 ccSuccess (leBytes 4 total)

/-- REFLASH_DATA: the block is written and read back. -/
def execReflashData (q : VendorReq) (t : Fin 250) (s : State) : Host.Outcome State Fault Refusal :=
  s.onBoth fun g k =>
    let g1 := g.ev t fun g => g.reflash q 0x11 (fun n => decide (8 ≤ n) && decide (n ≤ 260)) fun g => g.reflashData q
    (g1, if g1.firm.written = g.firm.written then k else { k with flash := flashBlock k.dev k.flash g.firm.written (q.payload.drop 4) })

/-- REFLASH_FINISH: verification, and its result; a verified image takes effect at the next reset. -/
def execReflashFinish (q : VendorReq) (readOk : Bool) (t : Fin 250) (s : State) : Host.Outcome State Fault Refusal :=
  s.onGov fun g => g.ev t fun g => g.reflash q 0x12 (· == 0) fun g =>
    if g.get F.FWP_UPD_USTATE ≠ 1 ∨ g.firm.written ≠ g.firm.imgLen then g.vendorReply q 0x12 ccState []
    else
      match imageFault s.keep.flash g.fuses.keyHash s.keep.svn readOk with
      | some c => ((g.set F.FWP_UPD_USTATE 4).set F.FWP_UPD_FAIL_RSN c).vendorReply q 0x12 ccVerifyFailed (leBytes 1 4 ++ leBytes 1 c)
      | none => (g.set F.FWP_UPD_USTATE 5).vendorReply q 0x12 ccSuccess (leBytes 1 5 ++ leBytes 1 (g.get F.FWP_UPD_FAIL_RSN))

/-! ### PLDM (R59, R63, R64, R325) -/

/-- ERROR_NOT_READY of DSP0240. -/
def pldmNotReady : Byte := 0x04

/-- A PLDM command: not answered until an endpoint ID is assigned. -/
def Gov.pldm (g : Gov) (f : Gov → Gov) : Gov := if g.mgmt.eid = 0 then g.reply none else f g

/-- The monitoring commands that pilot C serves are not ready in anchor mode, in SLEEP and DEEP, and while it restarts (R63). -/
def Gov.monitors (g : Gov) : Bool := g.mgmtServes && !g.anchored

/-- GET_TID. -/
def execGetTid (t : Fin 250) (s : State) : Host.Outcome State Fault Refusal :=
  s.onGov fun g => g.ev t fun g => g.pldm fun g => g.reply (some ([0] ++ leBytes 1 g.mgmt.tid))

/-- GET_PLDM_VERSION: the base type and platform monitoring are supported. -/
def execGetPldmVersion (type : BitVec 8) (t : Fin 250) (s : State) : Host.Outcome State Fault Refusal :=
  s.onGov fun g => g.ev t fun g => g.pldm fun g =>
    if type = 0 ∨ type = 2 then g.reply (some ([0] ++ leBytes 4 0 ++ [0x05] ++ leBytes 4 (Config.pldmVersion type.toNat).toNat ++ Config.pldmFields 0x03 type.toNat))
    else g.reply (some [0x83])

/-- GET_PLDM_TYPES: bits 0 and 2 of 64. -/
def execGetPldmTypes (t : Fin 250) (s : State) : Host.Outcome State Fault Refusal :=
  s.onGov fun g => g.ev t fun g => g.pldm fun g => g.reply (some ([0] ++ leBytes 8 5))

/-- The command codes of a type that are answered (R63). -/
def pldmCommands (type : Nat) : List Nat := if type = 0 then [2, 3, 4, 5] else [0x04, 0x0B, 0x0C, 0x0D, 0x11, 0x50, 0x51]

/-- GET_PLDM_COMMANDS: a map of 256 bits. -/
def execGetPldmCommands (type : BitVec 8) (t : Fin 250) (s : State) : Host.Outcome State Fault Refusal :=
  s.onGov fun g => g.ev t fun g => g.pldm fun g =>
    if type = 0 ∨ type = 2 then g.reply (some ([0] ++ leBytes 32 ((pldmCommands type.toNat).foldl (fun a c => a + 2 ^ c) 0)))
    else g.reply (some [0x83])

/-- SET_EVENT_RECEIVER. -/
def execSetEventReceiver (receiver : BitVec 8) (t : Fin 250) (s : State) : Host.Outcome State Fault Refusal :=
  s.onGov fun g => g.ev t fun g => g.pldm fun g => (g.withMgmt { g.mgmt with receiver := some receiver.toNat }).reply (some [0])

/-- EVENT_MESSAGE_SUPPORTED: the CPER class and the class of the power-state notice (R59). -/
def execEventMessageSupported (t : Fin 250) (s : State) : Host.Outcome State Fault Refusal :=
  s.onGov fun g => g.ev t fun g => g.pldm fun g => g.reply (some ([0] ++ Config.pldmFields 0x0C 0 ++ [2, 0x07, 0xF0]))

/-- EVENT_MESSAGE_BUFFER_SIZE. -/
def execEventMessageBufferSize (size : BitVec 16) (t : Fin 250) (s : State) : Host.Outcome State Fault Refusal :=
  s.onGov fun g => g.ev t fun g => g.pldm fun g => g.reply (some ([0] ++ Config.pldmFields 0x0D size.toNat))

/-- A signed field as the shadow copy of R216 shows it. -/
def Gov.shownInt (g : Gov) (f : Fld) : Int := toSigned f.w (field (g.shown f.off) f.lo f.w)

/-- The hottest present thermal sensor as the shadow copies show it, in 1/64 °C. -/
def Gov.hottestShown (g : Gov) : Int := hottest g.fbTemp (((List.range 384).filter g.tempCounts).map fun n => g.shownInt (F.SNS_T_VAL_VAL n))

/-- A numeric sensor's reading as 16 bits, whether it is enabled, and whether it is signed; none for an ID that is no sensor's (R63). -/
def Gov.sensor (g : Gov) (id : Nat) : Option (Nat × Bool × Bool) :=
  if id = 0x01 then some (g.get F.REG_PIN_PIN, true, false)
  else if id = 0x02 then some (g.packagePower 0, true, false)
  else if id = 0x03 then some (usat 16 g.capSus, true, false)
  else if 0x10 ≤ id ∧ id < 0x18 then some (g.get (F.RAIL_TELE_VOUT (id - 0x10)), g.railOn (id - 0x10), false)
  else if 0x20 ≤ id ∧ id < 0x28 then some (g.get (F.RAIL_TELE_IOUT (id - 0x20)), g.railOn (id - 0x20), false)
  else if 0x30 ≤ id ∧ id < 0x38 then some (g.get (F.RAIL_POUT_POUT (id - 0x30)), g.railOn (id - 0x30), false)
  else if id = 0x40 then some (ofSigned 16 g.hottestShown, true, true)
  else if 0x41 ≤ id ∧ id < 0x51 then some (ofSigned 16 (g.shownInt (F.SNS_H_VAL_VAL (id - 0x41))), g.actFlag (F.SNS_H_CFG_EN (id - 0x41)), true)
  else if id = 0x60 then some (usatInt 16 (Int.fdiv (g.sget F.REG_VIN_VIN) 65536), true, false)
  else none

/-- GET_SENSOR_READING. -/
def execGetSensorReading (id : BitVec 16) (t : Fin 250) (s : State) : Host.Outcome State Fault Refusal :=
  s.onGov fun g => g.ev t fun g => g.pldm fun g =>
    if !g.monitors then g.reply (some [pldmNotReady])
    else
      match g.sensor id.toNat with
      | some (v, on, signed) => g.reply (some ([0, if signed then 3 else 2, if on then 0 else 1] ++ Config.pldmFields 0x11 id.toNat ++ leBytes 2 v))
      | none => g.reply (some [0x80])

/-- The records of the repository: one Terminus Locator PDR and one Numeric Sensor PDR for each of the 45 sensors (R63). -/
def pdrCount : Nat := 46

/-- GET_PDR_REPOSITORY_INFO. -/
def execGetPdrRepositoryInfo (t : Fin 250) (s : State) : Host.Outcome State Fault Refusal :=
  s.onGov fun g => g.ev t fun g => g.pldm fun g => g.reply (some ([0, 0] ++ Config.pldmFields 0x50 0 ++ leBytes 4 pdrCount ++ Config.pldmFields 0x50 1))

/-- The sensor IDs in the order of the table of R63. -/
def sensorIds : List Nat := [1, 2, 3] ++ (List.range 8).map (0x10 + ·) ++ (List.range 8).map (0x20 + ·) ++ (List.range 8).map (0x30 + ·) ++ [0x40] ++ (List.range 16).map (0x41 + ·) ++ [0x60]

/-- Base unit, data size and resolution of a sensor, as a PDR codes them: watts 7, amps 6, volts 5, degrees C 2; uint16 2, sint16 3; the resolution 0.0625, 0.125, 0.0005, 0.001 or 0.015625 in binary32 (R63; the codes PRESUMED: DSP0248; log entry 68). -/
def sensorForm (id : Nat) : Nat × Nat × Nat :=
  if id ≤ 3 ∨ (0x30 ≤ id ∧ id < 0x38) then (7, 2, 0x3D800000)
  else if 0x10 ≤ id ∧ id < 0x18 then (5, 2, 0x3A03126F)
  else if 0x20 ≤ id ∧ id < 0x28 then (6, 2, 0x3E000000)
  else if 0x40 ≤ id ∧ id < 0x51 then (2, 3, 0x3C800000)
  else (5, 2, 0x3A83126F)

/-- The upper warning, critical and fatal thresholds: sensor 0x0040 carries those that stood at boot, the others none (R63). -/
def Gov.sensorThresholds (g : Gov) (id : Nat) : List Byte := if id = 0x40 then g.mgmt.limits.flatMap fun x => leBytes 2 (ofSigned 16 x) else []

/-- A Numeric Sensor PDR: its sensor ID, base unit, data size, resolution and thresholds stand between fields that the spec leaves to DSP0248. -/
def Gov.numericPdr (g : Gov) (id : Nat) : List Byte :=
  let f := sensorForm id
  Config.pldmFields 0x51 (4 * id) ++ leBytes 2 id ++ Config.pldmFields 0x51 (4 * id + 1) ++ leBytes 1 f.1 ++ Config.pldmFields 0x51 (4 * id + 2) ++
    leBytes 1 f.2.1 ++ leBytes 4 f.2.2 ++ Config.pldmFields 0x51 (4 * id + 3) ++ g.sensorThresholds id

/-- GET_PDR: handles 0 and 1 the Terminus Locator PDR, the next ones the sensors' in the order of R63. -/
def execGetPdr (handle : BitVec 32) (t : Fin 250) (s : State) : Host.Outcome State Fault Refusal :=
  s.onGov fun g => g.ev t fun g => g.pldm fun g =>
    if !g.monitors then g.reply (some [pldmNotReady])
    else if pdrCount < handle.toNat then g.reply (some [0x82])
    else if handle.toNat ≤ 1 then g.reply (some ([0] ++ Config.pldmFields 0x51 0))
    else g.reply (some ([0] ++ g.numericPdr (sensorIds.getD (handle.toNat - 2) 0)))

/-- The event class byte of what waits. -/
def eventClass : Event → Byte
  | .cper .. => 0x07
  | .notice _ => 0xF0

/-- POLL_FOR_PLATFORM_EVENT_MESSAGE: an acknowledgement accepts the event sent before; then the oldest event that waits is given (R325). -/
def execPollForPlatformEventMessage (ack : Bool) (t : Fin 250) (s : State) : Host.Outcome State Fault Refusal :=
  s.onGov fun g => g.ev t fun g => g.pldm fun g =>
    if !g.mgmtServes then g.reply (some [pldmNotReady])
    else
      let g := if ack then g.acceptEvent else g
      match g.nextEvent with
      | some e => (g.withFlt { g.flt with event := some e }).reply (some ([0] ++ leBytes 1 g.mgmt.tid ++ [eventClass e]))
      | none => g.reply (some ([0] ++ leBytes 1 g.mgmt.tid ++ [0, 0]))

end Sys2Proof.Machine
end

