-- ==== Sys2Proof/Machine/PilotRows.lean ====
section
/-! DEFINITION. The rows of: the firmware image and its verification, boot and anchor mode, pilot restarts, the update's rolling restart, and host supervision (chapter 13). -/

namespace Sys2Proof.Machine

/-! ### Boot and anchor mode (R337, R338, R345) -/

/-- BOOT_COMPLETE: the ROM verifies the image; the pilots are released, or anchor mode is entered with the failed check's cause. -/
def execBootComplete (readOk : Bool) (t : Fin 250) (s : State) : Host.Outcome State Fault Refusal :=
  s.onGov fun g =>
    if !g.up ∨ !(g.reach t).booting then g
    else
      let g := (g.reach t).withPll true
      match imageFault s.keep.flash g.fuses.keyHash s.keep.svn readOk with
      | some c => g.enterAnchor c
      | none =>
        let g := ((g.showImage (readImage s.keep.flash)).set F.SUP_STAT_MODE 1).withMgmt { g.mgmt with limits := g.sensorLimits }
        (g.each [0, 1, 2] fun g k => g.set (F.FWP_PSTATE_STATE k) 2).applyAnchor.takeUp

/-! ### Pilot restarts (R339 to R341, R349) -/

/-- A restart of pilot k with a source and the program counter, if the pilot runs. -/
def Gov.failPilot (g : Gov) (k : Nat) (t : Fin 250) (cause src detail : Nat) : Gov :=
  if (g.reach t).pilotsOn && (g.reach t).pilotUp k then ((g.reach t).raise src detail).restartPilot k cause else g

/-- WATCHDOG_EXPIRY: cause 0x01, sources 281 to 283 with the program counter (R339). -/
def execWatchdogExpiry (k : Fin 3) (pc : Word) (t : Fin 250) (s : State) : Host.Outcome State Fault Refusal :=
  s.onGov fun g => g.failPilot k t 1 (281 + k) pc.toNat

/-- PILOT_TRAP: cause 0x03 (R339). -/
def execPilotTrap (k : Fin 3) (pc : Word) (t : Fin 250) (s : State) : Host.Outcome State Fault Refusal :=
  s.onGov fun g => g.failPilot k t 3 (281 + k) pc.toNat

/-- PILOT_PANIC: cause 0x06 (R339). -/
def execPilotPanic (k : Fin 3) (pc : Word) (t : Fin 250) (s : State) : Host.Outcome State Fault Refusal :=
  s.onGov fun g => g.failPilot k t 6 (281 + k) pc.toNat

/-- PILOT_SRAM_UNCORRECTABLE: the event-log record of the word, cause 0x02, sources 285 to 287 with the word address (R320, R339). -/
def execPilotSramUncorrectable (k : Fin 3) (addr : Nat) (t : Fin 250) (s : State) : Host.Outcome State Fault Refusal :=
  s.onGov fun g =>
    if !(g.reach t).pilotsOn ∨ !(g.reach t).pilotUp k then g
    else (((g.reach t).log (g.reach t).now 0xD [k, addr]).raise (285 + k) addr).restartPilot k 2

/-- PILOT_RESTART_COMPLETE: the reloaded section is checked against the recorded digest; the pilot runs, or is HELD where the flash holds another image or an update is being written or verified (R340, R349). Pilot C sends a power-state notice that waits for it, in OFF too (R64). -/
def execPilotRestartComplete (k : Fin 3) (t : Fin 250) (s : State) : Host.Outcome State Fault Refusal :=
  s.onGov fun g =>
    let g' := g.reach t
    if !g.powered ∨ !g'.running ∨ g'.asleep ∨ g'.firm.cur ≠ some k.val then g
    else
      let g := g'
      let g := g.withFirm { g.firm with cur := none }
      let ust := g.get F.FWP_UPD_USTATE
      if ust = 1 ∨ ust = 2 ∨ sectionDigest s.keep.flash k ≠ g.firm.image.secDig.getD k 0 then (g.set (F.FWP_PSTATE_STATE k) 4).nextRestart
      else (fun (g : Gov) => if k.val = 2 then g.sendNotice else g) (g.pilotRuns k)

/-! ### The update (R342, R343) -/

/-- UPDATE_VERIFY_COMPLETE: the harbourmaster has applied R335 to the whole image in flash; USTATE becomes FAILED with its reason, or the rolling restart C, B, A begins. -/
def execUpdateVerifyComplete (readOk : Bool) (t : Fin 250) (s : State) : Host.Outcome State Fault Refusal :=
  s.onGov fun g =>
    let g' := g.reach t
    if !g'.pilotsOn ∨ g'.get F.FWP_UPD_USTATE ≠ 2 then g
    else
      let g := g'
      match imageFault s.keep.flash g.fuses.keyHash s.keep.svn readOk with
      | some c =>
        let g := (g.set F.FWP_UPD_USTATE 4).set F.FWP_UPD_FAIL_RSN c
        match g.req 2 with
        | some { words := ws, doom := none, .. } => if pkOpcode ws = 5 then g.answer 2 ws stVerifyFailed [c] else g
        | some _ => g
        | none => g
      | none =>
        let m := readImage s.keep.flash
        let g : Gov := (g.set F.FWP_UPD_USTATE 3).withFirm { g.firm with next := m, image := { g.firm.image with secDig := m.secDig }, rolling := [2, 1, 0] }
        if g.firm.cur = none then g.nextRestart else g

/-- FLASH_OPERATION_TIMEOUT: the busy bit of an erase or a program has stayed set for so many ns; beyond its limit the operation is abandoned (R67). The update or reflash that issued it fails with reason 6; a failed epoch advance sets EPOCH_BAD (R253). -/
def execFlashOperationTimeout (op : FlashBusy) (t : Fin 250) (s : State) : Host.Outcome State Fault Refusal :=
  s.onGov fun g =>
    if (g.reach t).flashShut ∨ op.busy ≤ flashLimit s.keep.dev op.erase then g
    else
      let g := g.reach t
      if op.epoch then (if g.running then g.epochFails s.keep else g)
      else if g.get F.FWP_UPD_USTATE = 1 then (g.set F.FWP_UPD_USTATE 4).set F.FWP_UPD_FAIL_RSN 6
      else g

/-! ### Host supervision (R347) -/

/-- HEARTBEAT_LAPSE: HB_TMO without a heartbeat since the first session-open; harbour mode is entered. -/
def execHeartbeatLapse (t : Fin 250) (s : State) : Host.Outcome State Fault Refusal :=
  s.onGov fun g =>
    let g' := g.reach t
    let tmo := g'.get F.SUP_HB_HB_TMO
    if !g.up ∨ !g'.firm.watched ∨ tmo = 0 ∨ g'.flag F.SUP_STAT_HARBOUR ∨ g'.now < g'.firm.lastKick + tmo * 1000000 then g
    else (((g'.mark F.SUP_STAT_HARBOUR).mark F.SUP_STAT_HB_LAPSE).mark F.GOV_IRQ_SRC_HARBOUR).withLim { g'.lim with harbour := true }

end Sys2Proof.Machine
end

