-- ==== Sys2Proof/Machine/Boot.lean ====
section
/-! DEFINITION. Power-on, reset, brown-out and the always-on supply; the board pins that no other chapter reads; and the thermal trip (chapters 2, 13 and 17). -/

namespace Sys2Proof.Machine

/-- The governor after a reset (R386): every field at its reset value, fused fields reading their fuses, GOV_TIME and SAMPLE_IDX 0. The fuses, the levels of the input pins and the count of free values stay; SVN shows its fuses (R336), OFF_WAKE the latch on the standby supply (R306), and GOV_STRAP the strap latched at this release and the code on VSEL (R71). -/
def Gov.afterReset (g : Gov) (k : Persist) (vselEn : Bool) : Gov :=
  let n : Gov := { fuses := g.fuses, free := g.free, pins := g.pins }
  let n := (n.set F.FWP_SVN_FUSE_SVN k.svn).set F.PS_WAKE_STAT_OFF_WAKE (b2n k.wakeN)
  (n.set F.GOV_STRAP_VSEL_EN (b2n vselEn)).set F.GOV_STRAP_VSEL g.pins.vsel

/-- The block with the conditions that hold it in reset: RST_N low, a brown-out, the always-on supply absent. -/
def Gov.heldBy (g : Gov) (rst brown dark : Bool) : Gov := { g with rst := rst, brown := brown, dark := dark }

/-- The strap as last latched. -/
def Gov.strap (g : Gov) : Bool := g.flag F.GOV_STRAP_VSEL_EN

/-- POWER_ON_RESET: the supplies come into range with RST_N low (R401, R403); every field takes its reset value. -/
def execPowerOnReset (s : State) : Host.Outcome State Fault Refusal :=
  s.onBoth fun g k => ((g.afterReset k g.strap).heldBy true false false, k)

/-- RST_N_ASSERT: an asynchronous reset (R70, R77). -/
def execRstNAssert (s : State) : Host.Outcome State Fault Refusal :=
  s.onBoth fun g k => ((g.afterReset k g.strap).heldBy true g.brown g.dark, k)

/-- RST_N_RELEASE with the level of VSEL_EN: the strap is latched, time starts at 0 and the PLL starts (R71, R337, R403). During a brown-out the reset goes on (R404). -/
def execRstNRelease (vselEn : Bool) (s : State) : Host.Outcome State Fault Refusal :=
  s.onBoth fun g k => if g.rst ∧ !g.dark then ((g.afterReset k vselEn).heldBy false g.brown false, k) else (g, k)

/-- BROWN_OUT: the governor is reset as by RST_N (R404). -/
def execBrownOut (s : State) : Host.Outcome State Fault Refusal :=
  s.onBoth fun g k => if g.dark then (g, k) else ((g.afterReset k g.strap).heldBy g.rst true false, k)

/-- BROWN_OUT_RECOVERY with the level of VSEL_EN: 100 µs after the supplies recover the reset ends, as a release of RST_N would end it, unless RST_N itself is low (R404). -/
def execBrownOutRecovery (vselEn : Bool) (s : State) : Host.Outcome State Fault Refusal :=
  s.onBoth fun g k =>
    if !g.brown then (g, k)
    else if g.rst then (g.heldBy g.rst false g.dark, k)
    else (g.afterReset k vselEn, k)

/-- ALWAYS_ON_SUPPLY_REMOVAL: nothing is powered but the latch on the standby supply, and the latched thermal trip is released (R72, R404). -/
def execAlwaysOnSupplyRemoval (s : State) : Host.Outcome State Fault Refusal :=
  s.onBoth fun g k => ((g.afterReset k g.strap).heldBy true false true, { k with trip := false })

/-- A level on an input pin, seen at an instant while the block is up. -/
def Gov.pinLevel (g : Gov) (t : Fin 250) (p : PinSt) : Gov := (if g.up then g.reach t else g).withPins p

/-- PWRBRK_ASSERT: PWRBRK_N is low; the brake's feedback uses it from the next sample (R74, R87). -/
def execPwrbrkAssert (t : Fin 250) (s : State) : Host.Outcome State Fault Refusal :=
  s.onGov fun g => g.pinLevel t { g.pins with pwrbrk := false }

/-- PWRBRK_RELEASE: PWRBRK_N is high (R74). -/
def execPwrbrkRelease (t : Fin 250) (s : State) : Host.Outcome State Fault Refusal :=
  s.onGov fun g => g.pinLevel t { g.pins with pwrbrk := true }

/-- VSEL_CHANGE: a code stable for 1 µs; in board and anchor mode it is a new target for every rail that the power-state table does not hold (R71, R187). -/
def execVselChange (v : BitVec 4) (t : Fin 250) (s : State) : Host.Outcome State Fault Refusal :=
  s.onGov fun g =>
    let g' := (g.pinLevel t { g.pins with vsel := v.toNat }).set F.GOV_STRAP_VSEL v.toNat
    if g.up && g'.byVsel && !g'.psRails then g'.each (List.range 8) Gov.followVsel else g'

/-- THERMAL_TRIP: THERMTRIP_N is driven low until the always-on supply is removed; the assertion is a bollard action (R72, R119). -/
def execThermalTrip (t : Fin 250) (s : State) : Host.Outcome State Fault Refusal :=
  s.onBoth fun g k => if g.up && !k.trip then ((g.reach t).bollard 3 0, { k with trip := true }) else (g, k)

end Sys2Proof.Machine
end

