-- ==== Sys2Proof/Machine/PowerRows.lean ====
section
/-! DEFINITION. The rows of: power states, handshakes and wake (chapter 11), with the berth handshake of R44 to R47. -/

namespace Sys2Proof.Machine

/-! ### Exits (R301 to R305) -/

/-- LINK_ACT_RISE, with whether LINK_ACT stays high. -/
def execLinkActRise (stays : Bool) (t : Fin 250) (s : State) : Host.Outcome State Fault Refusal :=
  s.onGov fun g =>
    let g' := g.pinLevel t { g.pins with linkAct := stays }
    if g.up then (g'.withPwr { g'.pwr with restless := true }).wake 0 else g'

/-- WAKE_N_ASSERT: a wake source, and in OFF the latch on the standby supply (R306). -/
def execWakeNAssert (t : Fin 250) (s : State) : Host.Outcome State Fault Refusal :=
  s.onBoth fun g k => if g.up then ((g.reach t).wake 3, k) else if g.dark || (g.powered && g.state == stOff) then (g, { k with wakeN := true }) else (g, k)

/-- HAWSER_WAKE_DETECT: an enabled port's energy detector in SLEEP or DEEP (R69). -/
def execHawserWakeDetect (p : Fin 2) (t : Fin 250) (s : State) : Host.Outcome State Fault Refusal :=
  s.onGov fun g => 
    let g' := g.reach t
    if g.up && g'.asleep && g'.flag (portEnable p) then g'.wake (1 + p) else g

/-- WAKE_TIMER_FIRE: one-shot at GOV_TIME ≥ PS_WAKE_TIME (R303). -/
def execWakeTimerFire (t : Fin 250) (s : State) : Host.Outcome State Fault Refusal :=
  s.onGov fun g =>
    let g' := g.reach t
    if g.up && bit (g'.get F.PS_WAKE_EN_EN) 5 && decide (g'.get64 W.PS_WAKE_TIME_LO ≤ g'.now) then
      (g'.wake 5).upd F.PS_WAKE_EN_EN (· % 32)
    else g

/-! ### The handshake (R292 to R296) -/

/-- PS_ANSWER: a present berth's answer pins take new levels. -/
def execPsAnswer (b : Fin 256) (ack nak hold : Bool) (rsn : BitVec 4) (t : Fin 250) (s : State) : Host.Outcome State Fault Refusal :=
  s.onGov fun g =>
    if !g.up ∨ !(g.reach t).present b then g
    else
      let g := g.reach t
      let g := g.setAns b fun x => { x with ack := ack, nak := nak, hold := hold, rsn := rsn.toNat, wasLow := x.wasLow || !ack }
      if !g.asking ∨ !g.asked.contains b.val then g
      else if g.now = g.pwr.reqAt then g.lateRefusal b
      else
        let g := g.setAns b fun x => { judgeAnswer x with held := x.held || (hold && g.pwr.step == 1) }
        (if hold ∧ g.pwr.step = 1 then g.mark F.PS_STAT_HELD else g).weigh

/-- PS_HOLD_TIMEOUT: at T_HOLD, every berth without an answer refuses with reason 0x6. -/
def execPsHoldTimeout (t : Fin 250) (s : State) : Host.Outcome State Fault Refusal :=
  s.onGov fun g =>
    let g' := g.reach t
    if g.up && g'.pwr.step == 1 && decide (g'.pwr.reqAt + g'.tHold ≤ g'.now) then
      (g'.each g'.asked fun g b => g.setAns b fun x => if x.answer.isNone then { x with answer := some (some 6) } else x).weigh
    else g

/-- PS_EXIT_ACK_TIMEOUT: a berth does not acknowledge a reverted or exit code within T_HOLD (R296). -/
def execPsExitAckTimeout (t : Fin 250) (s : State) : Host.Outcome State Fault Refusal :=
  s.onGov fun g =>
    let g' := g.reach t
    let revert := g'.pwr.step == 9
    if g.up && (revert || g'.pwr.step == 13) && decide (g'.pwr.reqAt + g'.tHold ≤ g'.now) then
      let bad := g'.asked.filter fun b => (g'.ans b).answer != some none
      let g := g'.each bad fun g b =>
        let rsn := ((g.ans b).answer.getD none).getD 6
        ((g.refusalRecord b rsn (if revert then g.psTo else 0) true).2.mark F.PS_WAKE_STAT_EXIT_FAULT).raise 280 b
      if revert then g.endRevert else g.endExit
    else g

/-- AUTO_IDLE_REQUEST: after IDLE_SMP qualifying samples (R293). -/
def execAutoIdleRequest (t : Fin 250) (s : State) : Host.Outcome State Fault Refusal :=
  s.onGov fun g =>
    let g' := g.reach t
    if g.engine && g'.flag F.PS_CFG_IDLE_AUTO && g'.state == stRun && decide (max 1 (g'.get F.PS_IDLE_IDLE_SMP) ≤ g'.pwr.idle) then (g'.psRequest stIdle none).2 else g

/-! ### Entry after commit (R297 to R300) -/

/-- ENTRY_GATES_CLOSED: the regions stop, or move to REFCLK; DEEP waits for RET, the others settle at once. -/
def execEntryGatesClosed (t : Fin 250) (s : State) : Host.Outcome State Fault Refusal :=
  s.onGov fun g =>
    let g' := g.reach t
    if g.engine && g'.pwr.step == 3 && g'.closing.all fun b => g'.get (F.BT_GATE_GATE b) == 0 then
      let g := g'.psRegions.psStep 4
      if g.psTo = stDeep then g else g.psSettle
    else g

/-- RET_ASSERT: for DEEP, 100 ns after the regions stop. -/
def execRetAssert (t : Fin 250) (s : State) : Host.Outcome State Fault Refusal :=
  s.onGov fun g =>
    let g' := g.reach t
    if g.engine && g'.pwr.step == 4 && decide (g'.pwr.stepAt + 100 ≤ g'.now) then (g'.withPwr { g'.pwr with ret := true }).psSettle else g

/-- BIAS_SETTLE_EXPIRY, in an entry or an exit. -/
def execBiasSettleExpiry (t : Fin 250) (s : State) : Host.Outcome State Fault Refusal :=
  s.onGov fun g =>
    let g' := g.reach t
    if g.engine && (g'.pwr.step == 5 || g'.pwr.step == 11) && !g'.pwr.settled && decide (g'.pwr.settleAt ≤ g'.now) then g'.withPwr { g'.pwr with settled := true } else g

/-- ENTRY_COMPLETE: at the first sample tick with steps 5 and 6 complete (R297 step 7). -/
def execEntryComplete (t : Fin 250) (s : State) : Host.Outcome State Fault Refusal :=
  s.onGov fun g =>
    let g' := g.reach t
    if g.engine && g'.pwr.step == 5 && g'.pwr.settled && g'.onTick && g'.railsSettled then g'.finishEntry else g

/-! ### Exit steps (R301) -/

/-- PLL_LOCK: within 20 µs of a wake; compensation returns to the engine and stopped rails start. After a loss of lock in RUN or IDLE the engine resumes likewise. -/
def execPllLock (t : Fin 250) (s : State) : Host.Outcome State Fault Refusal :=
  s.onGov fun g =>
    let g' := g.reach t
    if !g.up ∨ g.pll then g
    else if g'.pwr.step = 10 then (g'.withPll true).returnRails.resumeWork.forwardWake.runCodes
    else if g'.asleep then g'
    else g'.withPll true

/-- RET_RELEASE: on an exit from DEEP. -/
def execRetRelease (t : Fin 250) (s : State) : Host.Outcome State Fault Refusal :=
  s.onGov fun g =>
    let g' := (g.reach t).settlePower
    if g.engine && g'.pwr.step == 12 && g'.pwr.ret then g'.withPwr { g'.pwr with ret := false } else g

/-- EXIT_REGIONS_RESTORE: 100 ns after step 4, the regions return to their sources; once every one has, PS_REQ becomes RUN. -/
def execExitRegionsRestore (t : Fin 250) (s : State) : Host.Outcome State Fault Refusal :=
  s.onGov fun g =>
    let g' := g.reach t
    if g.engine && g'.pwr.step == 12 && !g'.pwr.ret && decide (g'.pwr.stepAt + 100 ≤ g'.now) && g'.savedLocked then g'.restoreRegions else g

/-- PLL_LOCK_LOSS: source 297; the engine and the pilots have no clock (R312). -/
def execPllLockLoss (t : Fin 250) (s : State) : Host.Outcome State Fault Refusal :=
  s.onGov fun g => if g.engine then (((g.reach t).stopEngine.raise 297 0).resolve).psStopCheck else g

end Sys2Proof.Machine
end

