-- ==== Sys2Proof/Machine/RegulatorRows.lean ====
section
/-! DEFINITION. The rows of: the regulator controller: timebase and SYNC_IN, compensation, setpoint entries and their selection, starting and stopping rails, current limits, phases in and out of service, measurements, and the regulator registers (chapter 7). -/

namespace Sys2Proof.Machine

/-! ### Timebase (R178 to R181) -/

/-- TIMEBASE_PHASE_ZERO (R180). -/
def execTimebasePhaseZero (since : BitVec 18) (t : Fin 250) (s : State) : Host.Outcome State Fault Refusal :=
  s.onGov fun g => g.ev t fun g => g.phaseZero since.toNat

/-- SYNC_IN_EDGE (R180). -/
def execSyncInEdge (period : BitVec 20) (t : Fin 250) (s : State) : Host.Outcome State Fault Refusal :=
  s.onGov fun g => g.ev t fun g => g.syncEdge period.toNat

/-- SYNC_LOSS (R181): no valid edge within 2 × PER_EFF of the last one. -/
def execSyncLoss (t : Fin 250) (s : State) : Host.Outcome State Fault Refusal :=
  s.onGov fun g =>
    let g' := g.reach t
    if g.up ∧ g'.reg.acquired ∧ g'.actFlag F.REG_SYNC_SYNC_EN ∧ 2 * g'.perEff * 10 ≤ (g'.now - g'.reg.edgeAt) * 512 then g'.syncLoss else g

/-! ### Starting and stopping (R190 to R192) -/

/-- RAIL_PERIOD_START. -/
def execRailPeriodStart (r : Fin 8) (t : Fin 250) (s : State) : Host.Outcome State Fault Refusal :=
  s.onGov fun g => g.ev t fun g => g.periodStart r

/-- A timed step of a rail's sequence: in one STATE, once a number of µs has passed since it began. -/
def Gov.railTimer (g : Gov) (r : Nat) (t : Fin 250) (st : Nat) (us : Fld) (f : Gov → Gov) : Gov :=
  let g' := g.reach t
  if g.up ∧ g'.rstate r = st ∧ (g'.rail r).stateAt + g'.act us * 1000 ≤ g'.now then f g' else g

/-- RAIL_ON_DELAY_EXPIRY (R190 step 2). -/
def execRailOnDelayExpiry (r : Fin 8) (t : Fin 250) (s : State) : Host.Outcome State Fault Refusal :=
  s.onGov fun g => g.railTimer r t rOnDly (F.RAIL_DLY_ON_DLY r) fun g => g.rampFrom r (min (g.sensed r) (g.volts r (g.tgt r)))

/-- RAIL_OFF_DELAY_EXPIRY (R191 step 2). -/
def execRailOffDelayExpiry (r : Fin 8) (t : Fin 250) (s : State) : Host.Outcome State Fault Refusal :=
  s.onGov fun g => g.railTimer r t rOffDly (F.RAIL_DLY_OFF_DLY r) fun g => (g.setRail r fun x => { x with goodAt := none, good := false }).enterState r rRampDn

/-- RAIL_DISCHARGE_EXPIRY (R191 step 4). -/
def execRailDischargeExpiry (r : Fin 8) (t : Fin 250) (s : State) : Host.Outcome State Fault Refusal :=
  s.onGov fun g => g.railTimer r t rDisch (F.RAIL_STOP_T_DIS r) fun g => g.railOff r

/-- RAIL_PGOOD_DELAY_EXPIRY (R190 step 5, R73): PG_DLY has passed in state ON with INWIN held throughout. -/
def execRailPgoodDelayExpiry (r : Fin 8) (t : Fin 250) (s : State) : Host.Outcome State Fault Refusal :=
  s.onGov fun g =>
    let g' := g.reach t
    match (g'.rail r).goodAt with
    | some a => if g.up ∧ g'.rstate r = rOn ∧ a + g'.act (F.RAIL_WIN_PG_DLY r) * 1000 ≤ g'.now then g'.setRail r fun x => { x with good := true } else g
    | none => g

/-! ### Compensation (R182 to R184) -/

/-- COMPENSATOR_REQUEST. -/
def execCompensatorRequest (r : Fin 8) (upset : Bool) (t : Fin 250) (s : State) : Host.Outcome State Fault Refusal :=
  s.onGov fun g => g.ev t fun g => g.compRequest r upset

/-- FEED_FORWARD_REQUEST: latch a VIN_SNS code and compute the ticks per mV for the next compensator step (R182, R184, R202). -/
def execFeedForwardRequest (r : Fin 8) (code : BitVec 16) (t : Fin 250) (s : State) : Host.Outcome State Fault Refusal :=
  s.onGov fun g => g.ev t fun g =>
    let g := g.sset F.REG_VIN_VIN ((code.toNat : Int) * g.sact F.REG_VIN_GAIN_VIN_GAIN + g.sact F.REG_VIN_OFS_VIN_OFS)
    let g := g.countStep
    g.setRail r fun x => { x with kff := g.kffFor r x.hold, ffVin := if x.hold then x.ffVin else g.ffVin }

/-! ### Measurements (R202, R204, R213) -/

/-- PHASE_CURRENT_CONVERSION: the conversions of one 200 ns instant. -/
def execPhaseCurrentConversion (codes : List (Fin 64 × BitVec 12)) (t : Fin 250) (s : State) : Host.Outcome State Fault Refusal :=
  s.onGov fun g => g.ev t fun g =>
    let g := g.each codes fun g c => g.convert c.1 c.2.toNat
    let rails := (List.range 8).filter fun r => codes.any fun c => g.flag (F.PH_CTRL_ASSIGNED c.1) && g.get (F.PH_CTRL_RAIL c.1) == r
    g.each rails Gov.conversionRule

/-- REMOTE_SENSE_CONVERSION: VOUT, POUT and the window; pair 0 at or below its maximum ends the clamp (R195, R202, R204). -/
def execRemoteSenseConversion (r : Fin 8) (code : BitVec 14) (t : Fin 250) (s : State) : Host.Outcome State Fault Refusal :=
  s.onGov fun g => g.ev t fun g =>
    let g := ((g.setRail r fun x => { x with sense := code.toNat }).set (F.RAIL_TELE_VOUT r) (code.toNat / 4)).refreshTele r
    let g := if r.val = 0 ∧ code.toNat ≤ 4 * g.get F.HLIM_VCORE_MAX then g.withReg { g.reg with clamp := false } else g
    if rRamp ≤ g.rstate r ∧ g.rstate r ≤ rRampDn then g.windowCount r code.toNat else g

/-! ### Limits (R193 to R196) -/

/-- PHASE_OVERCURRENT (R193): PWM is forced low to the next period; an episode is a bollard action. -/
def execPhaseOvercurrent (p : Fin 64) (t : Fin 250) (s : State) : Host.Outcome State Fault Refusal :=
  s.onGov fun g => g.ev t fun g =>
    if !g.phaseOn p ∨ (g.ph p).ocNow ∨ (g.ph p).shed = 2 then g
    else
      let first := (g.ph p).ocRun == 0
      let g := (g.setPh p fun x => { x with ocNow := true, ocRun := x.ocRun + 1, pulse := false }).mark (F.PH_STAT_OC_NOW p)
      if first then (g.inc (F.PH_CNT_OC_COUNT p)).bollard 0 p else g

/-- PHASE_FAULT (R194): the limit acted in OCF_N periods in a row. -/
def execPhaseFault (p : Fin 64) (t : Fin 250) (s : State) : Host.Outcome State Fault Refusal :=
  s.onGov fun g => g.ev t fun g =>
    if g.phaseOn p ∧ 0 < (g.ph p).ocRun ∧ g.act (F.PH_OCF_OCF_N p) ≤ (g.ph p).ocRun then
      ((g.setPh p fun x => { x with ocRun := 0, ocNow := false }).set (F.PH_STAT_OC_NOW p) 0).phaseFault p
    else g

/-- VCORE_CLAMP_ENGAGE (R195): every RAIL0 PWM is low while the sense exceeds MAX. -/
def execVcoreClampEngage (t : Fin 250) (s : State) : Host.Outcome State Fault Refusal :=
  s.onGov fun g => g.ev t fun g =>
    if g.reg.clamp then g
    else
      let g := g.each (g.railPhases 0) fun g p => g.setPh p fun x => { x with pulse := false }
      (g.withReg { g.reg with clamp := true }).bollard 1 0

/-- OVERLOAD_BIN_END: a bin of OL_WIN × 25 base ticks is complete. -/
def execOverloadBinEnd (r : Fin 8) (t : Fin 250) (s : State) : Host.Outcome State Fault Refusal :=
  s.onGov fun g => g.ev t fun g => if g.rstate r ≠ rOff ∧ g.act (F.RAIL_OL_OL_WIN r) * 25 ≤ (g.rail r).binN then g.binEnd r else g

/-! ### Phase periods (R179, R193, R197, R198) -/

/-- PHASE_PERIOD_START. -/
def execPhasePeriodStart (p : Fin 64) (t : Fin 250) (s : State) : Host.Outcome State Fault Refusal :=
  s.onGov fun g => g.ev t fun g => if g.flag (F.PH_CTRL_ASSIGNED p) then g.phasePeriod p else g

/-- SHED_COMPLETE (R198 step 3): the held-low period has passed. -/
def execShedComplete (p : Fin 64) (t : Fin 250) (s : State) : Host.Outcome State Fault Refusal :=
  s.onGov fun g => g.ev t fun g => if (g.ph p).shed = 2 then g.finishShed p else g

end Sys2Proof.Machine
end

