-- ==== Sys2Proof/Machine/Sample.lean ====
section
/-! DEFINITION. The base tick and the sample tick (R15, R23): what the chapters contribute at a tick, in the order of R23, the period change, and the retirement of a berth. -/

namespace Sys2Proof.Machine

/-! ### The base tick (R15, R143, R196, R238) -/

/-- What a base tick brings by itself: pending reservations open, the rails' energy and overload bins take their latest values, and the conditions that other chapters judge at base ticks are judged. -/
def Gov.edge (g : Gov) : Gov :=
  let g := if g.engine then g.startEntries else g
  let g := g.each (List.range 8) fun g r => (g.energyTick r).binTick r
  g.psTick.hawserTick.alignTick

/-- BASE_TICK: what the present base tick still brings comes about, its expiries among the reservations are complete (R143), and time moves to the next base tick. In SLEEP and DEEP no reservation is left. -/
def execBaseTick (s : State) : Host.Outcome State Fault Refusal :=
  s.onGov fun g =>
    if !g.powered then g
    else
      let next := (g.now / 250 + 1) * 250
      let g := g.moveTo (next - 1) (next - 1)
      let g := (if g.engine then g.settleEntries.settleHints else g).passTo next
      if g.up then g.edge else g

/-! ### A retired berth (R384) -/

/-- BERTH_RETIRE_COMPLETE: the berth is absent: its reservations are purged, and its outputs show nothing of it (R48). -/
def execBerthRetireComplete (b : Fin 256) (t : Fin 250) (s : State) : Host.Outcome State Fault Refusal :=
  s.onGov fun g =>
    let g' := g.reach t
    if g.engine && g'.flag (F.BT_CFG_RETIRING b) && !g'.actFlag (F.BT_CFG_PRESENT b) && g'.get (F.BT_GATE_GATE b) == 0 then
      (((g'.set (F.BT_CFG_RETIRING b) 0).purgeBerth b).setAns b fun x => { x with req := 0 })
    else g

/-! ### Steps 1 and 2 (R25, R138, R108, R203, R314) -/

/-- The words that become active at step 1: all but those that wait for a rail's period start or for phase 0 (R25, R206). -/
def stepOneWord (off : Nat) : Bool := !(decide (0x24000 ≤ off) && decide (off < 0x25100)) || selWord off

/-- What waits for step 1 becomes active: written words, an emptied FIFO of each disabled hint input, synthesizers, tables and steady mode. -/
def Gov.activateAll (g : Gov) : Gov :=
  let g := g.activate stepOneWord
  let g := g.withFcu { g.fcu with fifos := (List.range 4).map fun n => if g.hintEnabled n then g.fcu.fifos.getD n [] else [] }
  g.settleSyns.activateTables.steadyTick

/-- Steps 1 and 2 of the sample that begins: activation, the input-power estimate, plausibility, model power, the limit block and the resolution of raises. -/
def Gov.latchAll (g : Gov) (inp : SampleIn) (ticks : Nat) : Gov :=
  let inp := { inp with badSensors := inp.badSensors ++ g.tap.sensors }
  let g := (g.withTap { g.tap with sensors := [] }).clockTick.activateAll.inputPower
  ((g.plausibility inp ticks).modelUnit.limitBlock.resolve).psStopCheck.skipQuar

/-- The ledger's commit of the sample that ends, at the end of step 2 of the next one (R239), and what a window's end brings; reads of a frozen ledger show this commit (R258). -/
def Gov.ledgerStep (g : Gov) (ticks : Nat) (models : List ModelPower) (badLedger newPeriod : Bool) : Gov :=
  let g := match g.led.tickAt with
    | some start => (g.commitSample start ticks models badLedger).noteHarbour
    | none => g.commitStopped
  ((g.endToggles.windowClose ticks newPeriod).markDue).committed

/-! ### The sample that ends (R23 steps 4 to 7) -/

/-- A destination as DETAIL of source 258 names it: its level and its number (R312). -/
def badDest (v : BitVec 12) : Option (Nat × Nat) :=
  let lvl := v.toNat / 1024
  let n := v.toNat % 1024
  if n < (if lvl = 0 then 256 else if lvl = 1 then 8 else if lvl = 2 then 1 else 16) then some (lvl, n) else none

/-- The steps still to come of the sample with an index that ends at the present tick: what they need of it, the period code it ran with, the words that were active in it, and the sensor values its records hold. -/
def Gov.endSample (g : Gov) (idx code : Nat) (inp : SampleIn) (old : Tab Word) (sensed : List (Nat × Nat × Nat)) : Gov :=
  g.setLate { tick := g.now, idx := idx, code := code, lanes := inp.badLoops.map (·.val), dests := (inp.badDests.filterMap badDest).eraseDups, entries := inp.badEntries, old := old, cfg := g.trc.cfg, sensed := sensed }

/-! ### The tick (R23, R79, R239, R247) -/

/-- A capture of the last tick that its own row has not shown yet, an account change whose tick came, and a job step to evaluate, are completed. -/
def Gov.finishLast (g : Gov) : Gov :=
  let g := g.settleOpens.settleCloses
  let g := if g.led.stepDue then g.evaluateStep else g
  match g.trc.hit with
  | some h => g.showHit h
  | none => g

/-- The sample that begins at the present tick: its window, its berths and classes, the watch and the trace configuration, the loops' inputs and the sums that follow the sample. -/
def Gov.beginSample (g : Gov) : Gov :=
  let g := g.windowBegin
  let owned := g.berths.map fun b => (b, g.railOf b)
  let g := (g.withLed { g.led with owned := owned, lcWas := g.led.lcAt, lcAt := g.lcBerths, tickAt := some g.now, oldCode := none }).withFcu { g.fcu with ticks := 0, gateSum := [] }
  let g := (g.withTrc { g.trc with cfg := g.traceCfg }).watchBegin g.idx
  let g := g.latchFeeds
  let g := if g.fcu.late.isNone then g.runLoops else g
  (g.withHws { g.hws with powSum := g.hws.powSum + g.capPower, powN := g.hws.powN + 1, kSeen := g.hws.kSeen || g.get F.LIM_TSD_STAT_K != 0 }).idleSample

/-- The period code of the sample in progress. -/
def Gov.closingCode (g : Gov) : Nat := g.led.oldCode.getD (g.get F.ENG_CFG_PER_ACT)

/-- A sample tick is due now: the engine runs, the present instant is a base tick whose index is a multiple of the period, and no sample began at it. -/
def Gov.tickDue (g : Gov) : Bool :=
  g.engine && g.now % 250 == 0 && g.idx % periodTicks g.closingCode == 0 && g.led.tickAt != some g.now

/-- A pending period takes effect at the present tick, at which no sample has begun yet (R79). -/
def Gov.periodDue (g : Gov) : Bool :=
  g.flag F.ENG_CFG_PER_PEND && g.now % 250 == 0 && g.led.tickAt != some g.now && g.idx % g.ticks == 0 && g.idx % periodTicks (g.get F.ENG_CFG_PERIOD) == 0

/-- The sample path at a tick: the commit of the sample that ends and steps 1 and 2 of the one that begins, whose period is that in force from this tick; the steps 4 to 7 of the one that ends are to come; then the next one begins. -/
def Gov.sampleTick (g : Gov) (inp : SampleIn) : Gov :=
  let g := g.finishLast.stopCut.applyWaiting
  let changed := g.led.oldCode.isSome || g.periodDue
  let code := g.closingCode
  let ticks := periodTicks code
  let old := g.held.filter fun p => stepOneWord p.1
  let models := g.sns.power
  let sensed := g.tracedSensors
  let g := (if g.led.oldCode.isSome then g else g.periodChange).latchAll inp ticks
  let g := g.phaseMeans.trimTick
  let g := g.ledgerStep ticks models inp.badLedger changed
  let g := match g.led.tickAt with
    | some start => g.endSample (start / 250 % 2 ^ 48) code inp old sensed
    | none => g
  g.beginSample

/-- SAMPLE_TICK, with what reaches the governor at the tick from outside its registers (R23). -/
def execSampleTick (inp : SampleIn) (s : State) : Host.Outcome State Fault Refusal :=
  s.onGov fun g => if g.tickDue then (g.reach 0).sampleTick inp else g

/-- PERIOD_CHANGE: a pending period takes effect at a tick aligned to both periods (R79); a sample in progress that ends at this tick keeps the code it ran with until it is closed. -/
def execPeriodChange (s : State) : Host.Outcome State Fault Refusal :=
  s.onGov fun g =>
    if g.engine && g.periodDue then (g.periodChange).withLed { g.led with oldCode := if g.led.tickAt.isSome then some g.closingCode else none }
    else g

end Sys2Proof.Machine
end

