-- ==== Sys2Proof/Machine/SensingRows.lean ====
section
/-! DEFINITION. The rows of: sensors, plausibility, berth model power, tide tables and margin trim (chapter 8). -/

namespace Sys2Proof.Machine

/-! ### Swept sensors (R210, R211, R214, R217 to R219) -/

/-- THERMAL_SWEEP_COMPLETE: the converted sensors' values are published together (R210), but for those whose slot calibration took (R213); K steps (R111) and TSOFT is judged; no conversion is made in DEEP. -/
def execThermalSweepComplete (codes : List (Fin 384 × BitVec 16)) (t : Fin 250) (s : State) : Host.Outcome State Fault Refusal :=
  s.onGov fun g => g.ev t fun g =>
    if g.state = stDeep then g
    else
      let n := g.sns.tCount
      let vals := (codes.filter fun c => !g.thermalCal n c.1).map fun (c : Fin 384 × BitVec 16) => (c.1.val, c.2.toInt)
      let g := g.withSns { g.sns with tSweeps := g.sns.tSweeps ++ [⟨g.now, g.state != stSleep, vals⟩], tCount := n + 1 }
      (g.stepDown (g.hottestNow vals)).softThermal vals

/-- PATH_MONITOR_SWEEP: in RUN and IDLE; a monitor whose region is OFF or stopped is not measured (R211). -/
def execPathMonitorSweep (codes : List (Fin 128 × BitVec 16)) (t : Fin 250) (s : State) : Host.Outcome State Fault Refusal :=
  s.onGov fun g => g.ev t fun g =>
    if g.state ≠ stRun ∧ g.state ≠ stIdle then g
    else
      let n := g.sns.pCount
      let got := codes.filter fun (c : Fin 128 × BitVec 16) => g.clocked (g.pmRegion c.1) && !g.pathCal n c.1
      let g := g.withSns { g.sns with pSweeps := g.sns.pSweeps ++ [⟨g.now, true, got.map fun (c : Fin 128 × BitVec 16) => (c.1.val, (c.2.toNat : Int))⟩], pCount := n + 1 }
      g.each (got.filter fun (c : Fin 128 × BitVec 16) => g.actFlag (F.SNS_P_CFG_EN c.1)) fun g c => g.pathCode c.1 c.2.toNat

/-! ### HBM stacks (R212, R217) -/

/-- HBM_TEMP_TIMEOUT: a TMO that passes without a write. -/
def execHbmTempTimeout (k : Fin 16) (t : Fin 250) (s : State) : Host.Outcome State Fault Refusal :=
  s.onGov fun g => g.engineEv t fun g =>
    let tmo := g.act (F.SNS_HBM_WR_TMO k) * 1000
    let due := Tab.get (fun _ => 0) g.sns.hbmAt k + tmo
    if tmo = 0 ∨ g.now < due then g
    else (g.withSns { g.sns with hbmAt := Tab.put (fun _ => 0) g.sns.hbmAt k due }).hbmStale k

/-! ### Margin trim (R229 to R231) -/

/-- MT_HELD_STEP_APPLY: steady mode has ended, and the held step is applied if it is still acceptable. -/
def execMtHeldStepApply (r : Fin 8) (t : Fin 250) (s : State) : Host.Outcome State Fault Refusal :=
  s.onGov fun g => g.engineEv t fun g =>
    let step := Tab.get (fun _ => 0) g.sns.heldStep r
    if step = 0 ∨ g.flag F.LIM_STEADY_STAT_ACTIVE then g
    else
      let g := (g.withSns { g.sns with heldStep := Tab.put (fun _ => 0) g.sns.heldStep r 0 }).set (F.MT_REQ_HELD r) 0
      if g.trimOk r step then (g.set (F.MT_GUARD_GUARD r) (g.trimGuard r step).toNat).noteStep r
      else g.mark (F.MT_REQ_REFUSED r)

/-- MT_WINDOW_DECISION: 86,400 s after MT_LAST pilot C decides for a rail with EN set. -/
def execMtWindowDecision (r : Fin 8) (t : Fin 250) (s : State) : Host.Outcome State Fault Refusal :=
  s.onGov fun g => g.engineEv t fun g =>
    if g.running && g.pilotUp 2 && g.actFlag (F.MT_CFG_EN r) && decide (g.get64 (W.MT_LAST_LO r) + trimSpacing ≤ g.now) then
      (g.requestTrim r (g.trimChoice r)).gov
    else g

end Sys2Proof.Machine
end

