-- ==== Sys2Proof/Machine/SluiceRows.lean ====
section
/-! DEFINITION. The rows of: the hint port, the reservation table, the phase hints, the sluice tick and FCST. -/

namespace Sys2Proof.Machine

/-! ### Rows of the hint port -/

/-- Dequeue the next word if it is of a kind, and give it its effect; the entries due at the present base tick are settled first (R143). -/
def Gov.onHint (g : Gov) (t : Fin 250) (kind : HintKind) (f : Gov → Nat → BitVec 64 → Gov) : Gov :=
  if !g.engine then g
  else
    match (g.reach t).nextHint with
    | some (n, w, k) => if k = kind then f ((g.reach t).dequeue n).settleEntries n w else g
    | none => g

/-- HINT_WORD_ARRIVAL: a word transfers while READY is high; a disabled input's word is discarded at once, uncounted (R138). -/
def execHintWordArrival (n : Fin 4) (w : BitVec 64) (p : BitVec 8) (t : Fin 250) (s : State) : Host.Outcome State Fault Refusal :=
  s.onGov fun g =>
    if !(g.reach t).hintReady n then g
    else
      let g := g.reach t
      if g.hintEnabled n then g.withFcu { g.fcu with fifos := g.fcu.fifos.set n (g.fcu.fifos.getD n [] ++ [(w, p)]) } else g

/-- HINT_NOP (R137). -/
def execHintNop (t : Fin 250) (s : State) : Host.Outcome State Fault Refusal := s.onGov fun g => g.onHint t .nop fun g _ _ => g

/-- RESERVE (R140). -/
def execReserve (t : Fin 250) (s : State) : Host.Outcome State Fault Refusal := s.onGov fun g => g.onHint t .reserve fun g n w => g.reserve n w

/-- CONFIRM (R141). -/
def execConfirm (t : Fin 250) (s : State) : Host.Outcome State Fault Refusal := s.onGov fun g => g.onHint t .confirm fun g _ w => g.confirm w

/-- RETRACT (R141). -/
def execRetract (t : Fin 250) (s : State) : Host.Outcome State Fault Refusal := s.onGov fun g => g.onHint t .retract fun g _ w => g.retract w

/-- RELEASE (R141). -/
def execRelease (t : Fin 250) (s : State) : Host.Outcome State Fault Refusal := s.onGov fun g => g.onHint t .release fun g _ w => g.release w

/-- HINT (R145). -/
def execHint (t : Fin 250) (s : State) : Host.Outcome State Fault Refusal := s.onGov fun g => g.onHint t .hint fun g _ w => g.phaseHint w

/-- CANCEL (R145). -/
def execCancel (t : Fin 250) (s : State) : Host.Outcome State Fault Refusal := s.onGov fun g => g.onHint t .cancel fun g _ w => g.cancelHint w

/-- BAD_HINT_WORD: a word of wrong parity raises the hint-port source with its input (R50); a reserved type or a non-zero zero field is counted (R137). -/
def execBadHintWord (t : Fin 250) (s : State) : Host.Outcome State Fault Refusal :=
  s.onGov fun g =>
    let g' := g.reach t
    let wrong := match g'.nextInput with
      | some n => match (g'.fcu.fifos.getD n []).head? with
        | some (w, p) => p != hintParity w
        | none => false
      | none => false
    g.onHint t .bad fun g n _ => if wrong then g.raise 264 n else g.inc F.FCU_CNT_BADWORD_COUNT

/-- RESERVATION_EXPIRE: a PENDING or OPEN entry at its deadline is freed (R141). -/
def execReservationExpire (b : Fin 256) (a : Fin 256) (i : BitVec 16) (t : Fin 250) (s : State) : Host.Outcome State Fault Refusal :=
  s.onGov fun g =>
    if !g.engine then g
    else (g.reach t).expireEntries fun e => e.hasKey b a i.toNat && e.st != .confirmed

/-- CONFIRMED_LIFETIME_END: a CONFIRMED entry whose CONF_MAX has elapsed is freed (R141). -/
def execConfirmedLifetimeEnd (b : Fin 256) (a : Fin 256) (i : BitVec 16) (t : Fin 250) (s : State) : Host.Outcome State Fault Refusal :=
  s.onGov fun g =>
    if !g.engine then g
    else (g.reach t).expireEntries fun e => e.hasKey b a i.toNat && e.st == .confirmed

/-- HINT_ACTIVATE: the class's hint reaches its activation time (R145). -/
def execHintActivate (k : Fin 16) (t : Fin 250) (s : State) : Host.Outcome State Fault Refusal :=
  s.onGov fun g =>
    if !g.engine then g
    else
      let g' := g.reach t
      match g'.hintOf k with
      | some h => if h.upAt ≤ g'.now then (g'.withPwr { g'.pwr with restless := true }).mark ⟨W.FCU_HINT_STAT, k, 1⟩ else g
      | none => g

/-- HINT_EXPIRE: the class's hint reaches LEAD + DUR and ends (R145). -/
def execHintExpire (k : Fin 16) (t : Fin 250) (s : State) : Host.Outcome State Fault Refusal :=
  s.onGov fun g =>
    if !g.engine then g
    else
      let g' := g.reach t
      match g'.hintOf k with
      | some { till := some e, .. } => if e ≤ g'.now then g'.dropHint k else g
      | _ => g

/-! ### The sluice tick (R19, R129) and FCST (R42) -/

/-- SLUICE_TICK: once per 10 ns every present berth's GATE moves by at most one slope step. -/
def execSluiceTick (ups : List (Fin 256)) (t : Fin 250) (s : State) : Host.Outcome State Fault Refusal :=
  s.onGov fun g =>
    let g' := g.past t
    let due := match g'.fcu.tickAt with
      | some p => decide (p + 10 ≤ g'.now)
      | none => true
    if !g.engine ∨ !due then g
    else
      let g' := (g'.withFcu { g'.fcu with tickAt := some g'.now, ticks := g'.fcu.ticks + 1 }).withTap { g'.tap with gateP := [] }
      (g'.each g'.berths (Gov.sluiceBerth ups)).reach t

/-- FCST_CHANGE: a stable FCST value is the berth's request of one sample. -/
def execFcstChange (b : Fin 256) (v : BitVec 4) (t : Fin 250) (s : State) : Host.Outcome State Fault Refusal :=
  s.onGov fun g =>
    if !g.engine ∨ !(g.reach t).present b then g
    else (g.reach t).setAct b { (g.reach t).actSt b with fcst := v.toNat }

end Sys2Proof.Machine
end

