-- ==== Sys2Proof/Machine/TraceRows.lean ====
section
/-! DEFINITION. The rows of: trace buffers, the watch unit and the cut dump (chapter 16). -/

namespace Sys2Proof.Machine

/-! ### Watch (R392, R393) -/

/-- WATCH_HIT: the named sample has closed; the capture is shown. -/
def execWatchHit (t : Fin 250) (s : State) : Host.Outcome State Fault Refusal :=
  s.onGov fun g =>
    match (g.reach t).trc.hit with
    | some h => if g.engine then (g.reach t).showHit h else g
    | none => g

end Sys2Proof.Machine
end

