-- ==== Sys2Proof/Machine/Dispatch.lean ====
section
/-! DEFINITION. What each command does: one direct call of its meaning per constructor, in the order of the table. -/

namespace Sys2Proof.Machine

/-- The effect of a command on everything but the queue. -/
def exec (i : Instr) (s : State) : Host.Outcome State Fault Refusal :=
  match i with
  | .powerOnReset => Sys2Proof.Machine.execPowerOnReset s
  | .rstNAssert => Sys2Proof.Machine.execRstNAssert s
  | .rstNRelease vselEn => Sys2Proof.Machine.execRstNRelease vselEn s
  | .brownOut => Sys2Proof.Machine.execBrownOut s
  | .bootComplete readOk t => Sys2Proof.Machine.execBootComplete readOk t s
  | .epochAdvance flashOk t => Sys2Proof.Machine.execEpochAdvance flashOk t s
  | .baseTick => Sys2Proof.Machine.execBaseTick s
  | .sampleTick inp => Sys2Proof.Machine.execSampleTick inp s
  | .sluiceTick ups t => Sys2Proof.Machine.execSluiceTick ups t s
  | .berthRetireComplete b t => Sys2Proof.Machine.execBerthRetireComplete b t s
  | .thermalSweepComplete codes t => Sys2Proof.Machine.execThermalSweepComplete codes t s
  | .pathMonitorSweep codes t => Sys2Proof.Machine.execPathMonitorSweep codes t s
  | .phaseCurrentConversion codes t => Sys2Proof.Machine.execPhaseCurrentConversion codes t s
  | .shedComplete p t => Sys2Proof.Machine.execShedComplete p t s
  | .remoteSenseConversion r code t => Sys2Proof.Machine.execRemoteSenseConversion r code t s
  | .compensatorRequest r upset t => Sys2Proof.Machine.execCompensatorRequest r upset t s
  | .feedForwardRequest r code t => Sys2Proof.Machine.execFeedForwardRequest r code t s
  | .railPeriodStart r t => Sys2Proof.Machine.execRailPeriodStart r t s
  | .railOnDelayExpiry r t => Sys2Proof.Machine.execRailOnDelayExpiry r t s
  | .railPgoodDelayExpiry r t => Sys2Proof.Machine.execRailPgoodDelayExpiry r t s
  | .railOffDelayExpiry r t => Sys2Proof.Machine.execRailOffDelayExpiry r t s
  | .railDischargeExpiry r t => Sys2Proof.Machine.execRailDischargeExpiry r t s
  | .phaseOvercurrent p t => Sys2Proof.Machine.execPhaseOvercurrent p t s
  | .phaseFault p t => Sys2Proof.Machine.execPhaseFault p t s
  | .vcoreClampEngage t => Sys2Proof.Machine.execVcoreClampEngage t s
  | .overloadBinEnd r t => Sys2Proof.Machine.execOverloadBinEnd r t s
  | .syncInEdge period t => Sys2Proof.Machine.execSyncInEdge period t s
  | .syncLoss t => Sys2Proof.Machine.execSyncLoss t s
  | .stageFault t => Sys2Proof.Machine.execStageFault t s
  | .pwrbrkAssert t => Sys2Proof.Machine.execPwrbrkAssert t s
  | .pwrbrkRelease t => Sys2Proof.Machine.execPwrbrkRelease t s
  | .vselChange v t => Sys2Proof.Machine.execVselChange v t s
  | .thermalTrip t => Sys2Proof.Machine.execThermalTrip t s
  | .berthErr b t => Sys2Proof.Machine.execBerthErr b t s
  | .acctToggle b acct gray t => Sys2Proof.Machine.execAcctToggle b acct gray t s
  | .fcstChange b v t => Sys2Proof.Machine.execFcstChange b v t s
  | .psAnswer b ack nak hold rsn t => Sys2Proof.Machine.execPsAnswer b ack nak hold rsn t s
  | .psHoldTimeout t => Sys2Proof.Machine.execPsHoldTimeout t s
  | .psExitAckTimeout t => Sys2Proof.Machine.execPsExitAckTimeout t s
  | .entryGatesClosed t => Sys2Proof.Machine.execEntryGatesClosed t s
  | .retAssert t => Sys2Proof.Machine.execRetAssert t s
  | .biasSettleExpiry t => Sys2Proof.Machine.execBiasSettleExpiry t s
  | .entryComplete t => Sys2Proof.Machine.execEntryComplete t s
  | .offNoticeRepeat t => Sys2Proof.Machine.execOffNoticeRepeat t s
  | .pllLock t => Sys2Proof.Machine.execPllLock t s
  | .retRelease t => Sys2Proof.Machine.execRetRelease t s
  | .exitRegionsRestore t => Sys2Proof.Machine.execExitRegionsRestore t s
  | .linkActRise stays t => Sys2Proof.Machine.execLinkActRise stays t s
  | .wakeNAssert t => Sys2Proof.Machine.execWakeNAssert t s
  | .hawserWakeDetect p t => Sys2Proof.Machine.execHawserWakeDetect p t s
  | .wakeTimerFire t => Sys2Proof.Machine.execWakeTimerFire t s
  | .autoIdleRequest t => Sys2Proof.Machine.execAutoIdleRequest t s
  | .droopCrossing d t => Sys2Proof.Machine.execDroopCrossing d t s
  | .stretchEscalate rg t => Sys2Proof.Machine.execStretchEscalate rg t s
  | .stretchHoldExpiry rg t => Sys2Proof.Machine.execStretchHoldExpiry rg t s
  | .stretchReleaseStep rg t => Sys2Proof.Machine.execStretchReleaseStep rg t s
  | .detectorStuck d t => Sys2Proof.Machine.execDetectorStuck d t s
  | .fsynLock k t => Sys2Proof.Machine.execFsynLock k t s
  | .fsynGlideStep k t => Sys2Proof.Machine.execFsynGlideStep k t s
  | .coastEntry lost t => Sys2Proof.Machine.execCoastEntry lost t s
  | .coastExit k t => Sys2Proof.Machine.execCoastExit k t s
  | .clkmonWindow ref syns rgns mark t => Sys2Proof.Machine.execClkmonWindow ref syns rgns mark t s
  | .regionSwitchComplete rg t => Sys2Proof.Machine.execRegionSwitchComplete rg t s
  | .regionSwitchHang rg t => Sys2Proof.Machine.execRegionSwitchHang rg t s
  | .autoForce rg t => Sys2Proof.Machine.execAutoForce rg t s
  | .trimWindowEnd count t => Sys2Proof.Machine.execTrimWindowEnd count t s
  | .hintWordArrival n w p t => Sys2Proof.Machine.execHintWordArrival n w p t s
  | .hintNop t => Sys2Proof.Machine.execHintNop t s
  | .reserve t => Sys2Proof.Machine.execReserve t s
  | .confirm t => Sys2Proof.Machine.execConfirm t s
  | .retract t => Sys2Proof.Machine.execRetract t s
  | .release t => Sys2Proof.Machine.execRelease t s
  | .hint t => Sys2Proof.Machine.execHint t s
  | .cancel t => Sys2Proof.Machine.execCancel t s
  | .reservationExpire b a j t => Sys2Proof.Machine.execReservationExpire b a j t s
  | .confirmedLifetimeEnd b a j t => Sys2Proof.Machine.execConfirmedLifetimeEnd b a j t s
  | .hintActivate k t => Sys2Proof.Machine.execHintActivate k t s
  | .hintExpire k t => Sys2Proof.Machine.execHintExpire k t s
  | .registerWrite addr wr t => Sys2Proof.Machine.execRegisterWrite addr wr t s
  | .regPairRead addr t => Sys2Proof.Machine.execRegPairRead addr t s
  | .sg1CounterRead k t => Sys2Proof.Machine.execSg1CounterRead k t s
  | .traceDrainRead n j t => Sys2Proof.Machine.execTraceDrainRead n j t s
  | .loopSlotEnable k fb wr t => Sys2Proof.Machine.execLoopSlotEnable k fb wr t s
  | .stateWordWrite k half wr t => Sys2Proof.Machine.execStateWordWrite k half wr t s
  | .periodWrite wr t => Sys2Proof.Machine.execPeriodWrite wr t s
  | .periodChange => Sys2Proof.Machine.execPeriodChange s
  | .pcapEnable wr t => Sys2Proof.Machine.execPcapEnable wr t s
  | .steadyEnable wr t => Sys2Proof.Machine.execSteadyEnable wr t s
  | .hlimWrite j wr t => Sys2Proof.Machine.execHlimWrite j wr t s
  | .fsynEnable k wr t => Sys2Proof.Machine.execFsynEnable k wr t s
  | .regionSwitch rg wr t => Sys2Proof.Machine.execRegionSwitch rg wr t s
  | .regionForce rg wr t => Sys2Proof.Machine.execRegionForce rg wr t s
  | .railEnable r wr t => Sys2Proof.Machine.execRailEnable r wr t s
  | .railDisable r wr t => Sys2Proof.Machine.execRailDisable r wr t s
  | .railCommit r wr t => Sys2Proof.Machine.execRailCommit r wr t s
  | .phaseOosWrite p wr t => Sys2Proof.Machine.execPhaseOosWrite p wr t s
  | .tblLoad k wr t => Sys2Proof.Machine.execTblLoad k wr t s
  | .mtRaise r wr t => Sys2Proof.Machine.execMtRaise r wr t s
  | .mtLower r wr t => Sys2Proof.Machine.execMtLower r wr t s
  | .mtRestartWindow r wr t => Sys2Proof.Machine.execMtRestartWindow r wr t s
  | .mtHeldStepApply r t => Sys2Proof.Machine.execMtHeldStepApply r t s
  | .mtWindowDecision r t => Sys2Proof.Machine.execMtWindowDecision r t s
  | .mtRestore r wr t => Sys2Proof.Machine.execMtRestore r wr t s
  | .hbmTempWrite k wr t => Sys2Proof.Machine.execHbmTempWrite k wr t s
  | .hbmTempTimeout k t => Sys2Proof.Machine.execHbmTempTimeout k t s
  | .sensorBrokenClear addr wr t => Sys2Proof.Machine.execSensorBrokenClear addr wr t s
  | .berthPresentSet b wr t => Sys2Proof.Machine.execBerthPresentSet b wr t s
  | .berthPresentClear b wr t => Sys2Proof.Machine.execBerthPresentClear b wr t s
  | .quarantineRelease j wr t => Sys2Proof.Machine.execQuarantineRelease j wr t s
  | .collectorBitClear j wr t => Sys2Proof.Machine.execCollectorBitClear j wr t s
  | .reactionWrite j wr t => Sys2Proof.Machine.execReactionWrite j wr t s
  | .suspectClear j wr t => Sys2Proof.Machine.execSuspectClear j wr t s
  | .windowEnable wr t => Sys2Proof.Machine.execWindowEnable wr t s
  | .windowDisable wr t => Sys2Proof.Machine.execWindowDisable wr t s
  | .freezeWrite wr t => Sys2Proof.Machine.execFreezeWrite wr t s
  | .hawserEnable wr t => Sys2Proof.Machine.execHawserEnable wr t s
  | .enumerate wr t => Sys2Proof.Machine.execEnumerate wr t s
  | .idlWake wr t => Sys2Proof.Machine.execIdlWake wr t s
  | .globalStopWrite wr t => Sys2Proof.Machine.execGlobalStopWrite wr t s
  | .progressPublish wr t => Sys2Proof.Machine.execProgressPublish wr t s
  | .jobStepClose t => Sys2Proof.Machine.execJobStepClose t s
  | .psEntryRequest wr t => Sys2Proof.Machine.execPsEntryRequest wr t s
  | .psExitRequest wr t => Sys2Proof.Machine.execPsExitRequest wr t s
  | .psCancel wr t => Sys2Proof.Machine.execPsCancel wr t s
  | .heartbeat wr t => Sys2Proof.Machine.execHeartbeat wr t s
  | .heartbeatLapse t => Sys2Proof.Machine.execHeartbeatLapse t s
  | .pilotRestartRequest wr t => Sys2Proof.Machine.execPilotRestartRequest wr t s
  | .watchdogExpiry k pc t => Sys2Proof.Machine.execWatchdogExpiry k pc t s
  | .pilotTrap k pc t => Sys2Proof.Machine.execPilotTrap k pc t s
  | .pilotPanic k pc t => Sys2Proof.Machine.execPilotPanic k pc t s
  | .pilotRestartComplete k t => Sys2Proof.Machine.execPilotRestartComplete k t s
  | .govLockWrite wr t => Sys2Proof.Machine.execGovLockWrite wr t s
  | .hlimLockWrite wr t => Sys2Proof.Machine.execHlimLockWrite wr t s
  | .harbourLockWrite wr t => Sys2Proof.Machine.execHarbourLockWrite wr t s
  | .fltLockWrite wr t => Sys2Proof.Machine.execFltLockWrite wr t s
  | .wdtLockWrite wr t => Sys2Proof.Machine.execWdtLockWrite wr t s
  | .fcuCtrlClr wr t => Sys2Proof.Machine.execFcuCtrlClr wr t s
  | .drpCtrlClr wr t => Sys2Proof.Machine.execDrpCtrlClr wr t s
  | .regCtrlClr wr t => Sys2Proof.Machine.execRegCtrlClr wr t s
  | .snsCtrlClr wr t => Sys2Proof.Machine.execSnsCtrlClr wr t s
  | .idlCtrlClr wr t => Sys2Proof.Machine.execIdlCtrlClr wr t s
  | .psCtrlClr wr t => Sys2Proof.Machine.execPsCtrlClr wr t s
  | .fltCtrlClr wr t => Sys2Proof.Machine.execFltCtrlClr wr t s
  | .cmdCfgClr wr t => Sys2Proof.Machine.execCmdCfgClr wr t s
  | .trcCtrlClr wr t => Sys2Proof.Machine.execTrcCtrlClr wr t s
  | .watchArm wr t => Sys2Proof.Machine.execWatchArm wr t s
  | .watchHit t => Sys2Proof.Machine.execWatchHit t s
  | .commandTake n j wr t => Sys2Proof.Machine.execCommandTake n j wr t s
  | .replyRelease n wr t => Sys2Proof.Machine.execReplyRelease n wr t s
  | .fenceWaitAbort n wr t => Sys2Proof.Machine.execFenceWaitAbort n wr t s
  | .requestWindowClear n wr t => Sys2Proof.Machine.execRequestWindowClear n wr t s
  | .fenceWaitTimeout n t => Sys2Proof.Machine.execFenceWaitTimeout n t s
  | .nop n t => Sys2Proof.Machine.execNop n t s
  | .sessionOpen n t => Sys2Proof.Machine.execSessionOpen n t s
  | .versionQuery n t => Sys2Proof.Machine.execVersionQuery n t s
  | .updateBegin n t => Sys2Proof.Machine.execUpdateBegin n t s
  | .updateData n t => Sys2Proof.Machine.execUpdateData n t s
  | .updateFinish n t => Sys2Proof.Machine.execUpdateFinish n t s
  | .updateVerifyComplete readOk t => Sys2Proof.Machine.execUpdateVerifyComplete readOk t s
  | .flashOperationTimeout op t => Sys2Proof.Machine.execFlashOperationTimeout op t s
  | .svnCommit n t => Sys2Proof.Machine.execSvnCommit n t s
  | .regWrite n t => Sys2Proof.Machine.execRegWrite n t s
  | .regRead n t => Sys2Proof.Machine.execRegRead n t s
  | .lawLoad n t => Sys2Proof.Machine.execLawLoad n t s
  | .lawUnload n t => Sys2Proof.Machine.execLawUnload n t s
  | .railTarget n t => Sys2Proof.Machine.execRailTarget n t s
  | .psRequest n t => Sys2Proof.Machine.execPsRequest n t s
  | .globalStop n t => Sys2Proof.Machine.execGlobalStop n t s
  | .acctOpen n t => Sys2Proof.Machine.execAcctOpen n t s
  | .accountOpenTick a t => Sys2Proof.Machine.execAccountOpenTick a t s
  | .acctClose n t => Sys2Proof.Machine.execAcctClose n t s
  | .accountCloseCommit a t => Sys2Proof.Machine.execAccountCloseCommit a t s
  | .acctQuery n t => Sys2Proof.Machine.execAcctQuery n t s
  | .statementSign t => Sys2Proof.Machine.execStatementSign t s
  | .stmtRead n t => Sys2Proof.Machine.execStmtRead n t s
  | .stmtRelease n t => Sys2Proof.Machine.execStmtRelease n t s
  | .stmtList n t => Sys2Proof.Machine.execStmtList n t s
  | .attestKey n t => Sys2Proof.Machine.execAttestKey n t s
  | .attestCert n t => Sys2Proof.Machine.execAttestCert n t s
  | .attestQuote n t => Sys2Proof.Machine.execAttestQuote n t s
  | .tableLoad n t => Sys2Proof.Machine.execTableLoad n t s
  | .trimStep n t => Sys2Proof.Machine.execTrimStep n t s
  | .telemRead n t => Sys2Proof.Machine.execTelemRead n t s
  | .fenceReset n t => Sys2Proof.Machine.execFenceReset n t s
  | .fenceQuery n t => Sys2Proof.Machine.execFenceQuery n t s
  | .entdaa addr t => Sys2Proof.Machine.execEntdaa addr t s
  | .setdasa addr t => Sys2Proof.Machine.execSetdasa addr t s
  | .rstdaa t => Sys2Proof.Machine.execRstdaa t s
  | .setEndpointId eid t => Sys2Proof.Machine.execSetEndpointId eid t s
  | .identify q t => Sys2Proof.Machine.execIdentify q t s
  | .wake q t => Sys2Proof.Machine.execWake q t s
  | .fruWrite q t => Sys2Proof.Machine.execFruWrite q t s
  | .fruRead q t => Sys2Proof.Machine.execFruRead q t s
  | .faultStatus q t => Sys2Proof.Machine.execFaultStatus q t s
  | .reflashBegin q t => Sys2Proof.Machine.execReflashBegin q t s
  | .reflashData q t => Sys2Proof.Machine.execReflashData q t s
  | .reflashFinish q readOk t => Sys2Proof.Machine.execReflashFinish q readOk t s
  | .getTid t => Sys2Proof.Machine.execGetTid t s
  | .getPldmVersion type t => Sys2Proof.Machine.execGetPldmVersion type t s
  | .getPldmTypes t => Sys2Proof.Machine.execGetPldmTypes t s
  | .getPldmCommands type t => Sys2Proof.Machine.execGetPldmCommands type t s
  | .setEventReceiver receiver t => Sys2Proof.Machine.execSetEventReceiver receiver t s
  | .eventMessageSupported t => Sys2Proof.Machine.execEventMessageSupported t s
  | .eventMessageBufferSize size t => Sys2Proof.Machine.execEventMessageBufferSize size t s
  | .getSensorReading id t => Sys2Proof.Machine.execGetSensorReading id t s
  | .getPdrRepositoryInfo t => Sys2Proof.Machine.execGetPdrRepositoryInfo t s
  | .getPdr handle t => Sys2Proof.Machine.execGetPdr handle t s
  | .pollForPlatformEventMessage ack t => Sys2Proof.Machine.execPollForPlatformEventMessage ack t s
  | .faultRecordSend t => Sys2Proof.Machine.execFaultRecordSend t s
  | .eventAcceptance t => Sys2Proof.Machine.execEventAcceptance t s
  | .frameOriginate t => Sys2Proof.Machine.execFrameOriginate t s
  | .frameReceive p fr dt t => Sys2Proof.Machine.execFrameReceive p fr dt t s
  | .tugRound t => Sys2Proof.Machine.execTugRound t s
  | .linkTrain p t => Sys2Proof.Machine.execLinkTrain p t s
  | .linkUp p t => Sys2Proof.Machine.execLinkUp p t s
  | .linkDown p t => Sys2Proof.Machine.execLinkDown p t s
  | .segmentEntry t => Sys2Proof.Machine.execSegmentEntry t s
  | .nodeMissing n t => Sys2Proof.Machine.execNodeMissing n t s
  | .timeStep => Sys2Proof.Machine.execTimeStep s
  | .stopCut t => Sys2Proof.Machine.execStopCut t s
  | .scrubPass fixed bad deferred t => Sys2Proof.Machine.execScrubPass fixed bad deferred t s
  | .scrubLate t => Sys2Proof.Machine.execScrubLate t s
  | .pllLockLoss t => Sys2Proof.Machine.execPllLockLoss t s
  | .extest data t => Sys2Proof.Machine.execExtest data t s
  | .idcode t => Sys2Proof.Machine.execIdcode t s
  | .samplePreload data t => Sys2Proof.Machine.execSamplePreload data t s
  | .bypass t => Sys2Proof.Machine.execBypass t s
  | .regacc addr we data t => Sys2Proof.Machine.execRegacc addr we data t s
  | .ftest b t => Sys2Proof.Machine.execFtest b t s
  | .finj source detail stage go t => Sys2Proof.Machine.execFinj source detail stage go t s
  | .phasePeriodStart p t => Sys2Proof.Machine.execPhasePeriodStart p t s
  | .timebasePhaseZero since t => Sys2Proof.Machine.execTimebasePhaseZero since t s
  | .detectorRelease d t => Sys2Proof.Machine.execDetectorRelease d t s
  | .brownOutRecovery vselEn => Sys2Proof.Machine.execBrownOutRecovery vselEn s
  | .alwaysOnSupplyRemoval => Sys2Proof.Machine.execAlwaysOnSupplyRemoval s
  | .badHintWord t => Sys2Proof.Machine.execBadHintWord t s
  | .pilotSramUncorrectable k addr t => Sys2Proof.Machine.execPilotSramUncorrectable k addr t s

end Sys2Proof.Machine
end

