-- ==== Sys2Proof/Safety.lean ====
section
/-! DEFINITION. The terms in which the statements speak of a run: two fields share no bit, only listed fields or words changed, a command completes, and a write at the port is taken. -/

namespace Sys2Proof.Machine

/-- Two fields share no bit of the window. -/
def Fld.apart (f h : Fld) : Bool := f.off != h.off || decide (f.lo + f.w ≤ h.lo) || decide (h.lo + h.w ≤ f.lo)

/-- Every field that shares no bit with the listed ones reads in the second state as in the first. -/
def Gov.onlyFields (g g' : Gov) (fs : List Fld) : Prop := ∀ f : Fld, fs.all f.apart = true → g'.get f = g.get f

/-- Every word at an offset outside the list reads in the second state as in the first. -/
def Gov.onlyWords (g g' : Gov) (offs : List Nat) : Prop := ∀ off : Nat, off ∉ offs → g'.word off = g.word off

/-- The state without its register window and its time. -/
def Gov.beside (g : Gov) : Gov := { g with regs := [], now := 0 }

/-- Beside the register window and the time, the two states are the same. -/
def Gov.sameBeside (g g' : Gov) : Prop := g'.beside = g.beside

/-- The command completes: `exec` answers a next state with the same queue and the same persistent state, whose governor has the property. -/
def Completes (c : Instr) (s : State) (P : Gov → Prop) : Prop := ∃ g, exec c s = .next { s with gov := g } ∧ P g

/-- The port takes a write of the word at an offset (R51, R52, R380): the parity is right, the word is mapped, the die is awake or the word lies below 0x1000, and the access is privileged or the word is open. -/
def Gov.takes (g : Gov) (off : Nat) (wr : PortWrite) : Bool :=
  wr.par.toNat == wordParity wr.data && !(g.asleep && decide (0x1000 ≤ off)) && !(fieldsAt off).isEmpty && (wr.priv || openWord off)

/-- At an instant of the present base tick the port takes a write of the word at an offset, and the write acts now: the die is awake, or the word belongs to an always-on group (R379). -/
def Gov.writesNow (g : Gov) (t : Fin 250) (off : Nat) (wr : PortWrite) : Prop :=
  g.up = true ∧ (g.reach t).takes off wr = true ∧ ((g.reach t).asleep = false ∨ alwaysOn off = true)

/-- A write was answered OK and acted on each field of its word by its access code (R12, R375); no other word changed. -/
def Gov.stores (g g' : Gov) (off : Nat) (w : Word) : Prop := g'.resp = 0 ∧ g'.word off = g.merged off w ∧ g.onlyWords g' [off]

/-- As `stores`, and every active word is as it was: the write becomes active at a later sample or period (R25, R206). -/
def Gov.storesLater (g g' : Gov) (off : Nat) (w : Word) : Prop := g.stores g' off w ∧ ∀ o, g'.actWord o = g.actWord o

/-- A write was answered OK and refused by its group: only the refusal's fields change (R375), and the refusal flag is set. -/
def Gov.refuses (g g' : Gov) (flag : Fld) (others : List Fld) : Prop := g'.resp = 0 ∧ g'.flag flag = true ∧ g.onlyFields g' (flag :: others)

/-- No entry of the forecast unit has come to its end (R143). -/
def Gov.nothingDue (g : Gov) : Prop := ∀ e ∈ g.fcu.table, g.entryDue e = false

/-- Nothing comes about by itself before an instant of the present base tick: no step of an ended sample and no answer level of a handshake is due, and no exit waits to be ready. -/
def Gov.quiet (g : Gov) (t : Fin 250) : Prop := g.inner (g.adv t).now = none ∧ g.exitReady = false

/-- At an instant of the present base tick channel n's pilot serves a request with these words and this opcode, and checks 7 and 8 of R357 pass (R344, R356, R361). -/
def Gov.serves (g : Gov) (t : Fin 250) (n op : Nat) (ws : List Nat) : Prop :=
  g.up = true ∧ (g.reach t).servedNow n = true ∧ (∃ r, (g.reach t).req n = some r ∧ r.words = ws ∧ r.doom = none) ∧ pkOpcode ws = op ∧ check7 n ws = none ∧
    (g.reach t).check8 ws = none

/-- Channel n's request is answered with a status and parameters (R353, R354): TAKEN is clear and no request is taken; the reply window holds the reply and RDY is set, or NOREPLY freed the request window instead. -/
def Gov.replied (g : Gov) (n : Nat) (ws : List Nat) (status : Nat) (params : List Nat) : Prop :=
  g.flag (F.CMD_STAT_TAKEN n) = false ∧ g.req n = none ∧
    if pkNoReply ws = true ∧ status < 32 then ∀ i < 64, g.word (W.CMD_REQ n i) = 0
    else g.flag (F.CMD_STAT_RDY n) = true ∧ ∀ i < params.length + 3, g.word (W.CMD_RPL n i) = BitVec.ofNat 32 (pw (replyWords n ws status params) i)

/-- No word changes but channel n's windows, its status and journal words, and the words listed. -/
def Gov.onlyChannel (g g' : Gov) (n : Nat) (others : List Nat) : Prop :=
  ∀ off : Nat, off ∉ W.CMD_STAT n :: W.SUP_JOURNAL n :: others → (off < W.CMD_REQ n 0 ∨ W.CMD_REQ n 0 + 0x200 ≤ off) → g'.word off = g.word off

/-- As `replied`, with the journal written for every status but those of class 1 (R359); where the command signals no fence, only its channel's words and the words listed change. -/
def Gov.answered (g g' : Gov) (n : Nat) (ws : List Nat) (status : Nat) (params : List Nat) (others : List Nat) : Prop :=
  g'.replied n ws status params ∧
  (status / 32 ≠ 1 → g'.get (F.SUP_JOURNAL_SEQ n) = pkSeq ws ∧ g'.flag (F.SUP_JOURNAL_VALID n) = true ∧ g'.get (F.SUP_JOURNAL_RESULT n) = status) ∧
  (pkFsig ws = false → g.onlyChannel g' n others)

/-- As `answered` with status DEFERRED, and the command's fence, where it signals one, is armed on an event (R370). -/
def Gov.deferred (g g' : Gov) (n : Nat) (ws params others : List Nat) (e : SigEvent) : Prop :=
  g.answered g' n ws stDeferred params others ∧ (pkFsig ws = true → (e, pkSigFence ws) ∈ g'.cmd.armed)

/-- The governor is in governed RUN (R416): RUNNING with a session; every enabled rail ON within its window and PGOOD high; every region that holds a present berth on a locked synthesizer; PCAP_EN and TRIMMED; LOCKED where IDL_CFG.EN is set. -/
def Gov.governedRun (g : Gov) : Bool :=
  g.running && g.flag F.SUP_STAT_SESSION && g.pgood && ((List.range 8).all fun r => !g.flag (F.RAIL_CTRL_EN r) || (g.railOn r && g.flag (F.RAIL_STATE_INWIN r))) &&
    (g.berths.all fun b => match g.source (g.regionOf b) with | .syn k => g.flag (F.FSYN_STAT_LOCK k) | _ => false) &&
    g.flag F.LIM_CFG_PCAP_EN && g.flag F.DRP_OSC_TRIM_TRIMMED && (!g.flag F.IDL_CFG_EN || g.flag F.IDL_STAT_LOCKED)

/-- What outlives the resets is sound: the flash bytes are listed in their one canonical form, the security-version fuses number 64 (R336), and the epoch record has 32 bits (R253). -/
def Persist.sound (k : Persist) : Prop := Tab.wf (fun _ => 0xFF#8) k.flash = true ∧ k.svn ≤ 64 ∧ k.epoch < 2 ^ 32

end Sys2Proof.Machine
end

