-- ==== Sys2Proof/Certificates/Slice0/Obligations.lean ====
section
/-! DEFINITION. The statements about the governor, one proposition each: what a command does when it completes, what it leaves alone, and what every step keeps. -/

open Sys2Proof Sys2Proof.Machine

/-- For every command c, queue rest and state s, a step of s with c at the front of its queue is exec of c on s with the queue's rest; on an empty queue the step answers the state as it is (idling on an empty queue is the model's choice, log entry 1). -/
def Obligations.StepTakesFront : Prop :=
  ∀ (c : Instr) (rest : List Instr) (s : State),
    step { s with pending := c :: rest } = exec c { s with pending := rest } ∧ step { s with pending := [] } = .next { s with pending := [] }

/-- For every command c and state s, exec of c on s answers a next state whose queue is that of s: no command faults, refuses or touches the queue. That an event row whose condition does not hold changes nothing, instead of stopping, is the model's choice (log entry 2). -/
def Obligations.CommandsKeepQueue : Prop :=
  ∀ (c : Instr) (s : State), ∃ g k, exec c s = .next { gov := g, keep := k, pending := s.pending }

/-- For all states s and s', if a step of s answers s' and what outlives the resets is sound in s, it is sound in s': the flash bytes stay listed in their one canonical form, the security-version fuses number at most 64 (R336), and the epoch record stays a 32-bit number (R253). -/
def Obligations.KeepStaysSound : Prop :=
  ∀ s s' : State, step s = .next s' → s.keep.sound → s'.keep.sound

/-- The persistent part of the reset state is sound: canonical flash, at most 64 security-version fuses, a 32-bit epoch record. -/
def Obligations.ResetKeepSound : Prop := State.reset.keep.sound

/-- A command's instant t lies in the present base tick and never before the present instant. Where no step of an ended sample, no answer level of a handshake and no end of an exit is due up to it (quiet), moving there (reach) changes GOV_TIME and the bookkeeping of the clocks (frame positions, glide credit, crossings) alone, no region's connected source, and nothing at all where the instant is not later. The statements that speak of the state at the instant (g0) are read with this. -/
def Obligations.QuietMoves : Prop :=
  (∀ (g : Gov) (t : Fin 250), g.now ≤ (g.adv t).now ∧ (g.adv t).now / 250 = g.now / 250 ∧ (g.now % 250 ≤ t.val → (g.adv t).now % 250 = t.val) ∧ (t.val ≤ g.now % 250 → (g.adv t).now = g.now)) ∧
  ∀ (g : Gov) (t : Fin 250), g.quiet t →
    g.reach t = { g with now := (g.adv t).now, clk := (g.reach t).clk } ∧ (∀ rg : Nat, ((g.reach t).rgn rg).out = (g.rgn rg).out) ∧ (t.val ≤ g.now % 250 → g.reach t = g)

/-- At State.reset, and after POWER_ON_RESET, RST_N_ASSERT, RST_N_RELEASE, BROWN_OUT, BROWN_OUT_RECOVERY and ALWAYS_ON_SUPPLY_REMOVAL, every field of the register map reads its reset value (or its fuse word, for a fused field), outside three words that later clauses give: FWP_SVN.FUSE_SVN is the fused version and PS_WAKE_STAT.OFF_WAKE the kept latch. Time is 0, no write is held, the fuses are unchanged. A release of RST_N with the die powered latches VSEL and VSEL_EN into GOV_STRAP. Removing the always-on supply releases the thermal trip. Where the spec states no reset value of a field, the value 0 is the model's choice (log entry 3). Rows that complete: POWER_ON_RESET, RST_N_ASSERT, RST_N_RELEASE, BROWN_OUT, BROWN_OUT_RECOVERY, ALWAYS_ON_SUPPLY_REMOVAL. -/
def Obligations.ResetValues : Prop :=
  ∀ s : State,
    let column := fun (g : Gov) => ∀ (off : Nat) (f : FieldDef), f ∈ fieldsAt off → off ∉ [W.FWP_SVN, W.PS_WAKE_STAT, W.GOV_STRAP] → specialReset g.fuses off = none →
      g.get ⟨off, f.lo, f.w⟩ = if f.fused then g.fuses.word off / 2 ^ f.lo % 2 ^ f.w else f.reset % 2 ^ f.w
    let fresh := fun (g : Gov) => column g ∧ g.fuses = s.gov.fuses ∧ g.now = 0 ∧ g.held = [] ∧ g.get F.FWP_SVN_FUSE_SVN = s.keep.svn % 2 ^ 16 ∧ g.flag F.PS_WAKE_STAT_OFF_WAKE = s.keep.wakeN
    column State.reset.gov ∧
    Completes .powerOnReset s (fun g => fresh g ∧ g.rst = true ∧ g.brown = false ∧ g.dark = false) ∧
    Completes .rstNAssert s (fun g => fresh g ∧ g.rst = true) ∧
    (∀ v : Bool, s.gov.rst = true → s.gov.dark = false → Completes (.rstNRelease v) s fun g => fresh g ∧ g.rst = false ∧ g.flag F.GOV_STRAP_VSEL_EN = v ∧ g.get F.GOV_STRAP_VSEL = s.gov.pins.vsel % 16) ∧
    (s.gov.dark = false → Completes .brownOut s fun g => fresh g ∧ g.brown = true ∧ g.rst = s.gov.rst) ∧
    (∀ v : Bool, s.gov.brown = true → s.gov.rst = false → Completes (.brownOutRecovery v) s fun g => fresh g ∧ g.brown = false ∧ g.flag F.GOV_STRAP_VSEL_EN = v) ∧
    ∃ g, exec .alwaysOnSupplyRemoval s = .next { s with gov := g, keep := { s.keep with trip := false } } ∧ fresh g ∧ g.dark = true

/-- A write with wrong parity answers 2, raises internal source 265 and changes nothing but the source's bit and its SG-1 counter. With right parity: in SLEEP or DEEP an access at or above 0x1000 answers 3 and changes no register; an offset with no register answers 0 and changes nothing; a non-privileged write of a word that is not open answers 1 and changes nothing. A read in SLEEP or DEEP at or above 0x1000 answers 3 with data 0. The order of the checks is the model's (log entry 20). Rows that complete: REGISTER_WRITE, REG_PAIR_READ. -/
def Obligations.PortAnswers : Prop :=
  ∀ (addr : BitVec 18) (t : Fin 250) (s : State),
    let g0 := s.gov.reach t
    s.gov.up = true →
    let off := 4 * addr.toNat
    (∀ wr : PortWrite, wr.par.toNat ≠ wordParity wr.data → g0.asleep = false →
      Completes (.registerWrite addr wr t) s fun g => g.resp = 2 ∧ g.flag (F.FLT_STATUS_bit 265) = true ∧ g0.onlyFields g [F.FLT_STATUS_bit 265, F.SG1_CNT_PARITY_COUNT]) ∧
    (∀ wr : PortWrite, wr.par.toNat = wordParity wr.data → g0.asleep = true → 0x1000 ≤ off →
      Completes (.registerWrite addr wr t) s fun g => g.resp = 3 ∧ g0.onlyFields g []) ∧
    (∀ wr : PortWrite, wr.par.toNat = wordParity wr.data → g0.asleep = false ∨ off < 0x1000 → fieldsAt off = [] →
      Completes (.registerWrite addr wr t) s fun g => g.resp = 0 ∧ g0.onlyFields g []) ∧
    (∀ wr : PortWrite, wr.par.toNat = wordParity wr.data → g0.asleep = false ∨ off < 0x1000 → fieldsAt off ≠ [] → wr.priv = false → openWord off = false →
      Completes (.registerWrite addr wr t) s fun g => g.resp = 1 ∧ g0.onlyFields g []) ∧
    (g0.asleep = true → 0x1000 ≤ off → Completes (.regPairRead addr t) s fun g => g.resp = 3 ∧ g.rdata = 0 ∧ g0.onlyFields g [])

/-- A read of the lower word of a 64-bit pair answers that word and puts the upper word in the pair's shadow. The next read of the upper word answers the shadow and uses it up. A read of the upper word with no shadow answers the live word. A read of any other word, outside the drain apertures and the SG-1 bank, answers the live word. None of them changes a register. Rows that complete: REG_PAIR_READ. -/
def Obligations.PairReads : Prop :=
  ∀ (addr : BitVec 18) (t : Fin 250) (s : State),
    let g0 := s.gov.reach t
    s.gov.up = true → g0.asleep = false ∨ 4 * addr.toNat < 0x1000 →
    let off := 4 * addr.toNat
    (pairLow off = true → Completes (.regPairRead addr t) s fun g => g.resp = 0 ∧ g.rdata = g0.view off ∧ g.pairs.find? (fun p => p.1 == off) = some (off, g0.view (off + 4)) ∧ g0.onlyFields g []) ∧
    (∀ x, pairLow off = false → 4 ≤ off → pairLow (off - 4) = true → g0.pairs.find? (fun p => p.1 == off - 4) = some (off - 4, x) →
      Completes (.regPairRead addr t) s fun g => g.resp = 0 ∧ g.rdata = x ∧ g.pairs.find? (fun p => p.1 == off - 4) = none ∧ g0.onlyFields g []) ∧
    (pairLow off = false → 4 ≤ off → pairLow (off - 4) = true → g0.pairs.find? (fun p => p.1 == off - 4) = none →
      Completes (.regPairRead addr t) s fun g => g.resp = 0 ∧ g.rdata = g0.view off ∧ g.pairs = g0.pairs ∧ g0.onlyFields g []) ∧
    (pairLow off = false → (4 ≤ off → pairLow (off - 4) = false) → ¬ (0x61000 ≤ off ∧ off < 0x62000) → ¬ (0x70000 ≤ off ∧ off < 0x7002C) →
      Completes (.regPairRead addr t) s fun g => g.resp = 0 ∧ g.rdata = g0.view off ∧ g.pairs = g0.pairs ∧ g0.onlyFields g [])

/-- A write that the port takes, of a writable word below 0x100, answers 0, leaves every other word alone, and sets each field of the word by its access code: RW and an unlocked RWL field takes the new value, RW1C clears the bits written 1, RWO takes the new value while the field is 0 and holds it after, RO and ROS keep theirs, and a trigger reads 0. Rows that complete: REGISTER_WRITE. -/
def Obligations.WritesByAccessCode : Prop :=
  ∀ (addr : BitVec 18) (wr : PortWrite) (t : Fin 250) (s : State),
    let g0 := s.gov.reach t
    s.gov.up = true → 4 * addr.toNat < 0x100 → g0.takes (4 * addr.toNat) wr = true → writable (4 * addr.toNat) = true →
    let off := 4 * addr.toNat
    Completes (.registerWrite addr wr t) s fun g => g.resp = 0 ∧ (∀ o, o ≠ off → g.word o = g0.word o) ∧
      ∀ f ∈ fieldsAt off, g.get ⟨off, f.lo, f.w⟩ =
        let old := g0.get ⟨off, f.lo, f.w⟩
        let new := field wr.data f.lo f.w
        match f.acc with
        | .rw => new
        | .rw1c => old &&& (2 ^ f.w - 1 - new)
        | .rwo => if old = 0 then new else old
        | .rwl => new
        | .ro => old
        | .ros => old
        | .trig => 0

/-- At BOOT_COMPLETE while the die boots: when the image passes every check, MODE is 1, all three pilots are RUNNING, the PLL is locked, the running image is the flash's, and IMG_SVN is the image's; when a check fails with cause c, MODE is 2 (anchor), ANCHOR_CAUSE is c, the PLL is locked and the anchor-mode source 296 is raised. Rows that complete: BOOT_COMPLETE. -/
def Obligations.BootCompletes : Prop :=
  ∀ (readOk : Bool) (t : Fin 250) (s : State),
    let g0 := s.gov.reach t
    s.gov.up = true → g0.asleep = false → g0.booting = true →
    let fault := imageFault s.keep.flash g0.fuses.keyHash s.keep.svn readOk
    (fault = none → Completes (.bootComplete readOk t) s fun g => g.get F.SUP_STAT_MODE = 1 ∧ (∀ k : Fin 3, g.get (F.FWP_PSTATE_STATE k) = 2) ∧ g.pll = true ∧ g.firm.image = readImage s.keep.flash ∧
      g.get F.FWP_SVN_IMG_SVN = flashLe s.keep.flash 0x10 2 % 2 ^ 16) ∧
    (∀ c, fault = some c → Completes (.bootComplete readOk t) s fun g => g.get F.SUP_STAT_MODE = 2 ∧ g.get F.SUP_ANCHOR_CAUSE = c ∧ g.pll = true ∧ g.flag (F.FLT_STATUS_bit 296) = true)

/-- When pilot B serves and the epoch has not advanced at this boot: with the record written, the epoch register and the kept record are one more and no other register changes; with the write failed, EPOCH_BAD is set, the epoch reads as before, and only LDG_EPOCH and LDG_STATUS may change. Rows that complete: EPOCH_ADVANCE. -/
def Obligations.EpochAdvances : Prop :=
  ∀ (t : Fin 250) (s : State),
    let g0 := s.gov.reach t
    g0.pilotServes 1 = true → g0.led.epochUp = false → g0.flag F.LDG_STATUS_EPOCH_BAD = false →
    (∃ g, exec (.epochAdvance true t) s = .next { s with gov := g, keep := { s.keep with epoch := (s.keep.epoch + 1) % 2 ^ 32 } } ∧
      g.word W.LDG_EPOCH = BitVec.ofNat 32 (s.keep.epoch + 1) ∧ g.led.epochUp = true ∧ ∀ o, o ≠ W.LDG_EPOCH → g.word o = g0.word o) ∧
    Completes (.epochAdvance false t) s fun g => g.flag F.LDG_STATUS_EPOCH_BAD = true ∧ g.word W.LDG_EPOCH = BitVec.ofNat 32 s.keep.epoch ∧ ∀ o, o ≠ W.LDG_EPOCH → o ≠ W.LDG_STATUS → g.word o = g0.word o

/-- While the governor is up: PWRBRK_N's edges change the pin and no register and nothing else; a VSEL change shows in GOV_STRAP.VSEL alone, and, where VSEL rules the rails and no power-state move holds them, moves every rail's target to the usable entry for VSEL bounded by e_max; a thermal trip latches, counts a bollard action and raises 278; TFAULT_N raises 269 and leaves the regulator alone; a present berth's ERR raises the berth's own source and leaves the sluice alone. Rows that complete: PWRBRK_ASSERT, PWRBRK_RELEASE, VSEL_CHANGE, THERMAL_TRIP, STAGE_FAULT, BERTH_ERR. -/
def Obligations.PinInputs : Prop :=
  ∀ (t : Fin 250) (s : State),
    let g0 := s.gov.reach t
    s.gov.up = true →
    (Completes (.pwrbrkAssert t) s fun g => g.pins = { s.gov.pins with pwrbrk := false } ∧ g0.onlyWords g [] ∧ g0.sameBeside (g.withPins g0.pins)) ∧
    (Completes (.pwrbrkRelease t) s fun g => g.pins = { s.gov.pins with pwrbrk := true } ∧ g0.onlyWords g [] ∧ g0.sameBeside (g.withPins g0.pins)) ∧
    (∀ v : BitVec 4, (g0.byVsel = false ∨ g0.psRails = true) →
      Completes (.vselChange v t) s fun g => g.pins = { s.gov.pins with vsel := v.toNat } ∧ g.get F.GOV_STRAP_VSEL = v.toNat ∧ g0.onlyFields g [F.GOV_STRAP_VSEL] ∧ g0.sameBeside (g.withPins g0.pins)) ∧
    (∀ v : BitVec 4, g0.byVsel = true → g0.psRails = false →
      Completes (.vselChange v t) s fun g => g.pins = { s.gov.pins with vsel := v.toNat } ∧ g.get F.GOV_STRAP_VSEL = v.toNat ∧
        ∀ r : Fin 8, g.tgt r = g0.usable r (min v.toNat (g0.eMax r))) ∧
    (g0.asleep = false → s.keep.trip = false → ∃ g, exec (.thermalTrip t) s = .next { s with gov := g, keep := { s.keep with trip := true } } ∧
      g.get F.HLIM_ACT_CNT_COUNT = usat 32 (g0.get F.HLIM_ACT_CNT_COUNT + 1) ∧ g.flag (F.FLT_STATUS_bit 278) = true) ∧
    (g0.asleep = false → Completes (.stageFault t) s fun g => g.flag (F.FLT_STATUS_bit 269) = true ∧ g0.onlyFields g [F.FLT_STATUS_bit 269, F.SG1_CNT_VRFAULT_COUNT] ∧ g.reg = g0.reg) ∧
    (∀ b : Fin 256, g0.asleep = false → g0.present b = true →
      Completes (.berthErr b t) s fun g => g.flag (F.FLT_STATUS_bit b) = true ∧ g0.onlyFields g [F.FLT_STATUS_bit b, F.SG1_CNT_PARTITION_COUNT] ∧ g.fcu = g0.fcu)

/-- With the engine running and berth b present: a new FCST is the berth's own request and changes no other berth's and no register; an account toggle records the old account's count at that instant, marks a violation when it follows the last within 20 ns, shows the new account in BT_ACCT, and, if the account changed, writes one switch record whose third word packs the berth, the old and the new account and advances SW_HEAD; the same account writes no record. Rows that complete: FCST_CHANGE, ACCT_TOGGLE. -/
def Obligations.BerthInputs : Prop :=
  ∀ (b : Fin 256) (t : Fin 250) (s : State),
    let g0 := s.gov.reach t
    s.gov.engine = true → g0.present b = true →
    (∀ v : BitVec 4, Completes (.fcstChange b v t) s fun g => g.actSt b = { g0.actSt b with fcst := v.toNat } ∧ (∀ c : Fin 256, c ≠ b → g.actSt c = g0.actSt c) ∧ g0.onlyWords g []) ∧
    (∀ (a : Fin 256) (gray : BitVec 16),
      let old := g0.get (F.BT_ACCT_ACCT b)
      let near := (g0.tog b).near g0.now
      Completes (.acctToggle b a gray t) s fun g => g.get (F.BT_ACCT_ACCT b) = a ∧
        g.tog b = { caps := (g0.tog b).caps ++ [(old, grayToBin gray.toNat, g0.now)], viol := (g0.tog b).viol || near, lastAt := some g0.now } ∧
        (old = a → g0.onlyWords g [] ∧ g.led.ring = g0.led.ring ∧ g.led.written = g0.led.written) ∧
        (old ≠ a → g.led.written = g0.led.written + 1 ∧ g.get F.LDG_SW_HEAD_HEAD = (g0.led.written + 1) % 1024 ∧
          ((Tab.get (fun _ => []) g.led.ring (g0.led.written % 1024)).getD 2 0) % 2 ^ 24 = b.val + old * 2 ^ 8 + a.val * 2 ^ 16))

/-- At BASE_TICK the time is the next multiple of 250 ns; for each rail that is not OFF the energy accumulator gains VOUT times IOUT, and its overload bin gains IOUT and one count. The premises exclude a held late step and a power-state transition whose own step falls at that tick. Rows that complete: BASE_TICK. -/
def Obligations.BaseTicks : Prop :=
  ∀ s : State, s.gov.up = true →
    let next := (s.gov.now / 250 + 1) * 250
    let g1 := s.gov.moveTo (next - 1) (next - 1)
    g1.now < next → g1.asking = false → g1.pwr.step ≠ 5 →
    Completes .baseTick s fun g => g.now = next ∧
      ∀ r : Fin 8, g1.rstate r ≠ rOff →
        Tab.get (fun _ => 0) g.led.acc r = Tab.get (fun _ => 0) g1.led.acc r + g1.get (F.RAIL_TELE_VOUT r) * g1.get (F.RAIL_TELE_IOUT r) ∧
        (g.rail r).binSum = (g1.rail r).binSum + g1.get (F.RAIL_TELE_IOUT r) ∧ (g.rail r).binN = (g1.rail r).binN + 1

/-- At a due SAMPLE_TICK the sample's start is now, the sluice's tick count is 0, the engine runs, and the loops in progress are the enabled slots that are not held. Rows that complete: SAMPLE_TICK. -/
def Obligations.SampleTicks : Prop :=
  ∀ (inp : SampleIn) (s : State), s.gov.tickDue = true →
    Completes (.sampleTick inp) s fun g => g.led.tickAt = some g.now ∧ g.fcu.ticks = 0 ∧ g.fcu.gateSum = [] ∧
      (g.fcu.late = none → g.eng.ran = true ∧ g.eng.inProg.map (·.slot) = g.enabledSlots.filter fun k => !g.slotHeld k) ∧
      ∀ l, g.fcu.late = some l → g.eng.feeds.map (·.1) = g.enabledSlots.filter fun k => !g.slotHeld k

/-- At SLUICE_TICK, 10 ns or more after the last one: the tick is recorded and counted; every present berth with no parity upset has its gate at the value the slopes give and its OPENSLOPE flag as the slope used; a berth whose target word is upset holds its gate, takes the sample's former target, and its own source is raised. Rows that complete: SLUICE_TICK. -/
def Obligations.SluiceTicks : Prop :=
  ∀ (ups : List (Fin 256)) (t : Fin 250) (s : State),
    let g0 := s.gov.past t
    s.gov.engine = true → (∀ p, g0.fcu.tickAt = some p → p + 10 ≤ g0.now) → g0.asleep = false →
    ∃ g : Gov, exec (.sluiceTick ups t) s = .next { s with gov := g.reach t } ∧ g.fcu.tickAt = some g0.now ∧ g.fcu.ticks = g0.fcu.ticks + 1 ∧ g.now = g0.now ∧ g.fcu.late = g0.fcu.late ∧
      ∀ b : Fin 256, g0.present b = true →
        (b ∉ ups → g.get (F.BT_GATE_GATE b) = g0.nextGate b % 2 ^ 12 ∧ g.flag (F.BT_GATE_OPENSLOPE b) = g0.openSlope b) ∧
        (b ∈ ups → g.get (F.BT_GATE_GATE b) = g0.get (F.BT_GATE_GATE b) ∧ g.get (F.BT_GATE_TARGET b) = Tab.get (fun _ => 0) g0.fcu.prevTgt b % 2 ^ 12 ∧ g.flag (F.FLT_STATUS_bit 259) = true) ∧
        (g0.clocked (g0.regionOf b) = true → Tab.get (fun _ => 0) g.fcu.gateOut b = g.get (F.BT_GATE_GATE b)) ∧
        (g0.clocked (g0.regionOf b) = false → Tab.get (fun _ => 0) g.fcu.gateOut b = Tab.get (fun _ => 0) g0.fcu.gateOut b)

/-- A retiring berth that is written absent and whose gate is 0 ends its retirement: RETIRING is 0, the berth is absent and its reservations are gone. A due period change puts the programmed period in force and clears PER_PEND. Rows that complete: BERTH_RETIRE_COMPLETE, PERIOD_CHANGE. -/
def Obligations.BerthsAndPeriods : Prop :=
  ∀ (t : Fin 250) (s : State),
    let g0 := s.gov.reach t
    s.gov.engine = true →
    (∀ b : Fin 256, g0.flag (F.BT_CFG_RETIRING b) = true → g0.actFlag (F.BT_CFG_PRESENT b) = false → g0.get (F.BT_GATE_GATE b) = 0 →
      Completes (.berthRetireComplete b t) s fun g => g.flag (F.BT_CFG_RETIRING b) = false ∧ g.present b = false ∧ g.fcu.table = g0.fcu.table.filter (fun e => e.berth != b.val)) ∧
    (s.gov.periodDue = true → Completes .periodChange s fun g => g.get F.ENG_CFG_PER_ACT = s.gov.get F.ENG_CFG_PERIOD ∧ g.flag F.ENG_CFG_PER_PEND = false)

/-- With the hint word at the turn's head: a no-operation word only leaves its FIFO; RESERVE of a new key that passes its checks appends one entry with its start, its deadline and its activity, and counts it; CONFIRM confirms the live entry and bounds its lifetime; RETRACT and RELEASE remove the entries of their range and count them. Each takes exactly its word from the FIFO and leaves the phase hints alone. Rows that complete: NOP, HINT_NOP, RESERVE, CONFIRM, RETRACT, RELEASE. -/
def Obligations.HintEntries : Prop :=
  ∀ (n : Nat) (w : BitVec 64) (t : Fin 250) (s : State),
    let g0 := s.gov.reach t
    s.gov.engine = true → g0.nothingDue →
    let b := bits w.toNat 48 8
    let a := bits w.toNat 40 8
    let i := bits w.toNat 24 16
    let old := g0.fcu.table
    let taken := fun (g : Gov) => g.fcu.fifos = g0.fcu.fifos.set n (g0.fcu.fifos.getD n []).tail ∧ g.fcu.turn = n ∧ g.fcu.hints = g0.fcu.hints
    (g0.nextHint = some (n, w, .nop) → Completes (.hintNop t) s fun g => taken g ∧ g.fcu.table = old ∧ g0.onlyFields g []) ∧
    (g0.nextHint = some (n, w, .reserve) → (old.find? fun e => e.hasKey b a i) = none → old.length < resCapacity → g0.reserveBad b a (bits w.toNat 4 8) (bits w.toNat 12 12) = none →
      Completes (.reserve t) s fun g => taken g ∧
        g.fcu.table = old ++ [{ berth := b, acct := a, igid := i, act := bits w.toNat 12 12, start := g0.tick + bits w.toNat 4 8, deadline := g0.tick + g0.act F.FCU_CFG_HORIZON + 1, st := if bits w.toNat 4 8 = 0 then .opened else .pending, confEnd := 0 }] ∧
        g.get F.FCU_LIVE_LIVE = old.length + 1 ∧ g.get F.FCU_CNT_ACCEPT_COUNT = usat 32 (g0.get F.FCU_CNT_ACCEPT_COUNT + 1)) ∧
    (g0.nextHint = some (n, w, .confirm) → (old.any fun e => e.hasKey b a i && e.st != .confirmed) = true →
      Completes (.confirm t) s fun g => taken g ∧
        g.fcu.table = old.map (fun e => if e.hasKey b a i then { e with st := .confirmed, confEnd := g0.now + 1000 * g0.act F.FCU_CONF_MAX_CONF_MAX } else e) ∧
        g.get F.FCU_CNT_CONFIRM_COUNT = usat 32 (g0.get F.FCU_CNT_CONFIRM_COUNT + 1)) ∧
    (g0.nextHint = some (n, w, .retract) → 0 < old.countP (rangeHit w) →
      Completes (.retract t) s fun g => taken g ∧ g.fcu.table = old.filter (fun e => !rangeHit w e) ∧
        g.get F.FCU_CNT_RETRACT_COUNT = usat 32 (g0.get F.FCU_CNT_RETRACT_COUNT + old.countP (rangeHit w))) ∧
    (g0.nextHint = some (n, w, .release) → (∀ e ∈ old, rangeHit w e = true → e.st = .confirmed) → 0 < old.countP (rangeHit w) →
      Completes (.release t) s fun g => taken g ∧ g.fcu.table = old.filter (fun e => !rangeHit w e) ∧
        g.get F.FCU_CNT_RELEASE_COUNT = usat 32 (g0.get F.FCU_CNT_RELEASE_COUNT + old.countP (rangeHit w)))

/-- HINT of a class with a rail mask records its activation instant and its end, shows it pending, or active at once when the lead is within PRE, and counts it; CANCEL removes it; at its activation instant it shows active; at its end it is removed. Activation, expiry and cancel touch only that class's two status bits. Rows that complete: HINT, CANCEL, HINT_ACTIVATE, HINT_EXPIRE. -/
def Obligations.HintClasses : Prop :=
  ∀ (n : Nat) (w : BitVec 64) (t : Fin 250) (s : State),
    let g0 := s.gov.reach t
    s.gov.engine = true → g0.nothingDue →
    let k := bits w.toNat 56 4
    let lead := bits w.toNat 44 12
    let dur := bits w.toNat 28 16
    let now := g0.now
    (g0.nextHint = some (n, w, .hint) → g0.act (F.FCU_CLS_CFG_RAILMASK k) ≠ 0 →
      Completes (.hint t) s fun g => g.fcu.table = g0.fcu.table ∧
        g.hintOf k = some { cls := k, upAt := now + 1000 * (lead - g0.act (F.FCU_CLS_CFG_PRE k)), till := if dur = 0 then none else some (now + 1000 * (lead + dur)) } ∧
        g.get ⟨W.FCU_HINT_STAT, 16 + k, 1⟩ = 1 ∧ g.get ⟨W.FCU_HINT_STAT, k, 1⟩ = b2n (decide (lead ≤ g0.act (F.FCU_CLS_CFG_PRE k))) ∧
        g.get F.FCU_CNT_HINT_COUNT = usat 32 (g0.get F.FCU_CNT_HINT_COUNT + 1)) ∧
    (g0.nextHint = some (n, w, .cancel) → g0.hintOf k ≠ none →
      Completes (.cancel t) s fun g => g.hintOf k = none ∧ g.get ⟨W.FCU_HINT_STAT, k, 1⟩ = 0 ∧ g.get ⟨W.FCU_HINT_STAT, 16 + k, 1⟩ = 0 ∧
        g0.onlyFields g [⟨W.FCU_HINT_STAT, k, 1⟩, ⟨W.FCU_HINT_STAT, 16 + k, 1⟩]) ∧
    (∀ (c : Fin 16) (h : PhaseHint), g0.hintOf c = some h → h.upAt ≤ now →
      Completes (.hintActivate c t) s fun g => g.get ⟨W.FCU_HINT_STAT, c, 1⟩ = 1 ∧ g.fcu = g0.fcu ∧ g0.onlyFields g [⟨W.FCU_HINT_STAT, c, 1⟩]) ∧
    (∀ (c : Fin 16) (h : PhaseHint) (e : Nat), g0.hintOf c = some h → h.till = some e → e ≤ now →
      Completes (.hintExpire c t) s fun g => g.hintOf c = none ∧ g.get ⟨W.FCU_HINT_STAT, c, 1⟩ = 0 ∧ g.get ⟨W.FCU_HINT_STAT, 16 + c, 1⟩ = 0 ∧
        g0.onlyFields g [⟨W.FCU_HINT_STAT, c, 1⟩, ⟨W.FCU_HINT_STAT, 16 + c, 1⟩])

/-- On a ready enabled input a word joins its FIFO and no register changes; on a disabled input nothing changes; a bad word leaves the reservations alone, raises the hint-port source if its parity was wrong, and counts as a bad word otherwise. Rows that complete: HINT_WORD_ARRIVAL, BAD_HINT_WORD. -/
def Obligations.HintPort : Prop :=
  ∀ (t : Fin 250) (s : State),
    let g0 := s.gov.reach t
    s.gov.engine = true →
    (∀ (n : Fin 4) (w : BitVec 64) (p : BitVec 8), g0.hintReady n = true → g0.hintEnabled n = true →
      Completes (.hintWordArrival n w p t) s fun g =>
        g.fcu.fifos = g0.fcu.fifos.set n (g0.fcu.fifos.getD n [] ++ [(w, p)]) ∧ g0.onlyFields g []) ∧
    (∀ (n : Fin 4) (w : BitVec 64) (p : BitVec 8), g0.hintReady n = true → g0.hintEnabled n = false →
      Completes (.hintWordArrival n w p t) s fun g => g.fcu = g0.fcu ∧ g0.onlyFields g []) ∧
    (∀ (n : Nat) (w : BitVec 64), g0.nothingDue → g0.asleep = false → g0.nextHint = some (n, w, .bad) →
      Completes (.badHintWord t) s fun g => g.fcu.table = g0.fcu.table ∧
        (hintKind w ≠ .bad → g.flag (F.FLT_STATUS_bit 264) = true) ∧
        ((g0.fcu.fifos.getD n []).head? = some (w, hintParity w) → g.get F.FCU_CNT_BADWORD_COUNT = usat 32 (g0.get F.FCU_CNT_BADWORD_COUNT + 1)))

/-- RESERVATION_EXPIRE removes exactly the due unconfirmed entries of its key and counts them; CONFIRMED_LIFETIME_END removes exactly the due confirmed entries of its key and counts them; in both, every other entry stays, open once its start has come. Rows that complete: RESERVATION_EXPIRE, CONFIRMED_LIFETIME_END. -/
def Obligations.EntryEnds : Prop :=
  ∀ (b a : Fin 256) (i : BitVec 16) (t : Fin 250) (s : State),
    let g0 := s.gov.reach t
    s.gov.engine = true →
    let mine := fun (confirmed : Bool) (e : Entry) => g0.entryDue e && e.hasKey b a i.toNat && (e.st == .confirmed) == confirmed
    let rest := fun (confirmed : Bool) => g0.fcu.table.filter fun e => !mine confirmed e
    (Completes (.reservationExpire b a i t) s fun g => g.fcu.table = rest false ∧
      (g0.fcu.table.any (mine false) = true → g.get F.FCU_CNT_EXPIRE_COUNT = usat 32 (g0.get F.FCU_CNT_EXPIRE_COUNT + g0.fcu.table.countP (mine false)))) ∧
    (Completes (.confirmedLifetimeEnd b a i t) s fun g => g.fcu.table = rest true ∧
      (g0.fcu.table.any (mine true) = true → g.get F.FCU_CNT_CONFEND_COUNT = usat 32 (g0.get F.FCU_CNT_CONFEND_COUNT + g0.fcu.table.countP (mine true))))

/-- At RAIL_PERIOD_START of a rail that no trip and no power state stops: enabled and OFF it goes to ON_DLY, enabled and in OFF_DLY it returns to ON, disabled in RAMP or ON it goes to OFF_DLY. In each case the state's time is now, the compensator's next on-time is in force, and committed coefficients become active. Rows that complete: RAIL_PERIOD_START. -/
def Obligations.RailPeriodStarts : Prop :=
  ∀ (r : Fin 8) (t : Fin 250) (s : State),
    let g0 := s.gov.reach t
    s.gov.up = true → g0.flag F.FLT_CTRL_TRIPPED = false → (g0.rail r).psStop = false →
    let started := fun (st : Nat) (g : Gov) => g.rstate r = st ∧ (g.rail r).stateAt = g0.now ∧ (g.rail r).onTime = (g0.rail r).nextOn ∧
      (g.rail r).commit = false ∧ (g.rail r).coef = if (g0.rail r).commit then g0.coefShadow r else (g0.rail r).coef
    (g0.flag (F.RAIL_CTRL_EN r) = true → g0.flag (F.RAIL_STATE_FSTOP r) = false → g0.rstate r = rOff → Completes (.railPeriodStart r t) s (started rOnDly)) ∧
    (g0.flag (F.RAIL_CTRL_EN r) = true → g0.flag (F.RAIL_STATE_FSTOP r) = false → g0.rstate r = rOffDly → Completes (.railPeriodStart r t) s (started rOn)) ∧
    (g0.flag (F.RAIL_CTRL_EN r) = false → g0.rstate r = rRamp ∨ g0.rstate r = rOn → Completes (.railPeriodStart r t) s (started rOffDly))

/-- After ON_DLY the rail ramps from the sensed voltage, or its target's if lower; after OFF_DLY it ramps down; after T_DIS it is OFF with FSTOP clear and no overload bins; after PG_DLY within the window it is good. The last two of the state changes touch only the fields named. Rows that complete: RAIL_ON_DELAY_EXPIRY, RAIL_OFF_DELAY_EXPIRY, RAIL_DISCHARGE_EXPIRY, RAIL_PGOOD_DELAY_EXPIRY. -/
def Obligations.RailTimedSteps : Prop :=
  ∀ (r : Fin 8) (t : Fin 250) (s : State),
    let g0 := s.gov.reach t
    s.gov.up = true →
    (g0.rstate r = rOnDly → (g0.rail r).stateAt + g0.act (F.RAIL_DLY_ON_DLY r) * 1000 ≤ g0.now →
      Completes (.railOnDelayExpiry r t) s fun g => g.rstate r = rRamp ∧ (g.rail r).stateAt = g0.now ∧
        g.vcmd r = min (g0.sensed r) (g0.volts r (g0.tgt r)) ∧ (g.rail r).good = false) ∧
    (g0.rstate r = rOffDly → (g0.rail r).stateAt + g0.act (F.RAIL_DLY_OFF_DLY r) * 1000 ≤ g0.now →
      Completes (.railOffDelayExpiry r t) s fun g => g.rstate r = rRampDn ∧ (g.rail r).stateAt = g0.now ∧
        (g.rail r).good = false ∧ g0.onlyFields g [F.RAIL_STATE_STATE r]) ∧
    (g0.rstate r = rDisch → (g0.rail r).stateAt + g0.act (F.RAIL_STOP_T_DIS r) * 1000 ≤ g0.now →
      Completes (.railDischargeExpiry r t) s fun g => g.rstate r = rOff ∧ (g.rail r).stateAt = g0.now ∧
        g.flag (F.RAIL_STATE_FSTOP r) = false ∧ (g.rail r).bins = []) ∧
    (∀ a, g0.rstate r = rOn → (g0.rail r).goodAt = some a → a + g0.act (F.RAIL_WIN_PG_DLY r) * 1000 ≤ g0.now →
      Completes (.railPgoodDelayExpiry r t) s fun g => (g.rail r).good = true ∧ g0.onlyFields g [])

/-- COMPENSATOR_REQUEST with a good read shifts the error history, computes the saturating error and the saturated sum of the products in the order of the registers, and clamps the new control value to its two limits; a bad read holds every value and raises 274. FEED_FORWARD_REQUEST sets VIN from the code, its gain and offset, saturated, and the rail's feed-forward factor, and changes no other field; while the rail is held the input voltage of its feed-forward stays as it was. Rows that complete: COMPENSATOR_REQUEST, FEED_FORWARD_REQUEST. -/
def Obligations.CompensatorSteps : Prop :=
  ∀ (r : Fin 8) (t : Fin 250) (s : State),
    let g0 := s.gov.reach t
    s.gov.up = true → g0.asleep = false →
    (g0.rstate r = rOn → Completes (.compensatorRequest r true t) s fun g => (g.rail r).nextOn = (g0.rail r).nextOn ∧ (g.rail r).u1 = (g0.rail r).u1 ∧
      (g.rail r).e1 = (g0.rail r).e1 ∧ (g.rail r).w1 = (g0.rail r).w1 ∧ g.flag (F.FLT_STATUS_bit 274) = true) ∧
    (g0.rstate r = rOn → Completes (.compensatorRequest r false t) s fun g =>
      let x := g0.rail r
      let e := if g.flag (F.SNS_RS_STAT_BROKEN r) then 0 else satSub (g.vcmd r) (s32 ((x.sense : Int) * 8192))
      let w := s32 (([e, x.e1, x.e2, x.e3, x.w1, x.w2].zipIdx).foldl (fun a p => (satMac a (x.coef.getD p.2 0) p.1).val) 0)
      (g.rail r).e1 = e ∧ (g.rail r).e2 = x.e1 ∧ (g.rail r).e3 = x.e2 ∧ (g.rail r).w1 = w ∧ (g.rail r).w2 = x.w1 ∧
      (g.rail r).u1 = clampI (satAdd x.u1 w) (x.coef.getD 6 0) (x.coef.getD 7 0)) ∧
    (∀ code : BitVec 16, Completes (.feedForwardRequest r code t) s fun g =>
      g.sget F.REG_VIN_VIN = ssat 32 ((code.toNat : Int) * g0.sact F.REG_VIN_GAIN_VIN_GAIN + g0.sact F.REG_VIN_OFS_VIN_OFS) ∧
      g.rail r = { g0.rail r with kff := g.kffFor r (g0.rail r).hold, ffVin := if (g0.rail r).hold then (g0.rail r).ffVin else g.ffVin } ∧ g0.onlyFields g [F.REG_VIN_VIN])

/-- At a phase zero the effective period moves by at most 0.5 %, and only PER_EFF and SYNC_LOCK change; a rail whose RDIV count is full starts its period after its phase offset RPH, another counts on. With SYNC_EN 0 an edge restarts the count and no more. A SYNC_IN edge is valid exactly when its period is within 90 % to 110 % of the programmed one, within the range of frequencies; valid edges count to 16 and acquire; an invalid one restarts the count. After 20 effective periods without an edge the lock is lost, counted and source 273 raised. Rows that complete: TIMEBASE_PHASE_ZERO, SYNC_IN_EDGE, SYNC_LOSS. -/
def Obligations.SyncInput : Prop :=
  ∀ (t : Fin 250) (s : State),
    let g0 := s.gov.reach t
    s.gov.up = true →
    (g0.perEff + g0.perEff / 200 < 2 ^ 18 → ∀ since : BitVec 18, Completes (.timebasePhaseZero since t) s fun g =>
      g.perEff ≤ g0.perEff + g0.perEff / 200 ∧ g0.perEff ≤ g.perEff + g0.perEff / 200 ∧ g.reg.zeroAt = some (pwmTicks g0.now) ∧
      (∀ r : Fin 8, g0.act (F.RAIL_CTRL_RDIV r) ≤ (g0.rail r).tbCount → (g.rail r).tbCount = 0 ∧ (g.rail r).startAt = some (pwmTicks g0.now + g0.act (F.RAIL_CTRL_RPH r) * g.perRail r / 256)) ∧
      (∀ r : Fin 8, (g0.rail r).tbCount < g0.act (F.RAIL_CTRL_RDIV r) → g.rail r = { g0.rail r with tbCount := (g0.rail r).tbCount + 1 }) ∧
      g0.onlyFields g [F.REG_TB_STAT_PER_EFF, F.REG_TB_STAT_SYNC_LOCK]) ∧
    (g0.actFlag F.REG_SYNC_SYNC_EN = false → ∀ period : BitVec 20, Completes (.syncInEdge period t) s fun g => g.reg = { g0.reg with edges := 0, acquired := false } ∧ g0.onlyWords g []) ∧
    (g0.actFlag F.REG_SYNC_SYNC_EN = true → ∀ period : BitVec 20, Completes (.syncInEdge period t) s fun g =>
      g0.onlyFields g [F.REG_TB_STAT_SYNC_VALID] ∧
      (g.flag F.REG_TB_STAT_SYNC_VALID = true ↔ g0.per * 9 ≤ period.toNat * 10 ∧ period.toNat * 10 ≤ g0.per * 11 ∧ 25600 ≤ period.toNat ∧ period.toNat * 300 ≤ 51200000) ∧
      (g.flag F.REG_TB_STAT_SYNC_VALID = true → g.reg.edges = g0.reg.edges + 1 ∧ g.reg.measured = period.toNat ∧ g.reg.edgeAt = g0.now ∧ (15 ≤ g0.reg.edges → g.reg.acquired = true)) ∧
      (g.flag F.REG_TB_STAT_SYNC_VALID = false → g.reg.edges = 0)) ∧
    (g0.asleep = false → g0.reg.acquired = true → g0.actFlag F.REG_SYNC_SYNC_EN = true → 20 * g0.perEff ≤ (g0.now - g0.reg.edgeAt) * 512 →
      Completes (.syncLoss t) s fun g => g.reg.acquired = false ∧ g.flag F.REG_TB_STAT_SYNC_LOCK = false ∧ g.flag F.REG_TB_STAT_SYNC_LOST = true ∧
        g.get F.REG_SYNC_CNT_COUNT = usat 32 (g0.get F.REG_SYNC_CNT_COUNT + 1) ∧ g.flag (F.FLT_STATUS_bit 273) = true)

/-- An over-current forces its phase low, extends the run, and, at the run's start, counts the episode and a bollard action and raises 278; after OCF_N consecutive cycles the phase goes out of service with PFAULT; the VCORE clamp forces every phase of rail 0 low and counts one bollard action. Rows that complete: PHASE_OVERCURRENT, PHASE_FAULT, VCORE_CLAMP_ENGAGE. -/
def Obligations.FastLimits : Prop :=
  ∀ (t : Fin 250) (s : State),
    let g0 := s.gov.reach t
    s.gov.up = true → g0.asleep = false →
    (∀ p : Fin 64, g0.phaseOn p = true → (g0.ph p).ocNow = false → (g0.ph p).shed ≠ 2 →
      Completes (.phaseOvercurrent p t) s fun g => (g.ph p).pulse = false ∧ (g.ph p).ocRun = (g0.ph p).ocRun + 1 ∧ g.flag (F.PH_STAT_OC_NOW p) = true ∧
        ((g0.ph p).ocRun = 0 → g.get (F.PH_CNT_OC_COUNT p) = usat 32 (g0.get (F.PH_CNT_OC_COUNT p) + 1) ∧
          g.get F.HLIM_ACT_CNT_COUNT = usat 32 (g0.get F.HLIM_ACT_CNT_COUNT + 1) ∧ g.flag (F.FLT_STATUS_bit 278) = true) ∧
        (0 < (g0.ph p).ocRun → g0.onlyFields g [F.PH_STAT_OC_NOW p])) ∧
    (∀ p : Fin 64, g0.phaseOn p = true → 0 < (g0.ph p).ocRun → g0.act (F.PH_OCF_OCF_N p) ≤ (g0.ph p).ocRun →
      Completes (.phaseFault p t) s fun g => g.flag (F.PH_CTRL_OOS p) = true ∧ g.flag (F.PH_STAT_PFAULT p) = true ∧ g.phaseOn p = false) ∧
    (g0.reg.clamp = false →
      Completes (.vcoreClampEngage t) s fun g => g.reg.clamp = true ∧ (∀ p ∈ g0.railPhases 0, (g.ph p).pulse = false) ∧
        g.get F.HLIM_ACT_CNT_COUNT = usat 32 (g0.get F.HLIM_ACT_CNT_COUNT + 1))

/-- At PHASE_PERIOD_START an enabled phase of a rail that is not clamped starts a pulse exactly when the rail's on-time is positive; a phase asked to shed starts its last period; one in its last period is off after it. SHED_COMPLETE turns the phase off and counts one shed of its rail. Rows that complete: PHASE_PERIOD_START, SHED_COMPLETE. -/
def Obligations.PhasePeriods : Prop :=
  ∀ (p : Fin 64) (t : Fin 250) (s : State),
    let g0 := s.gov.reach t
    s.gov.up = true →
    (g0.flag (F.PH_CTRL_ASSIGNED p) = true → (g0.ph p).oosPend = false →
      ((g0.ph p).shed = 0 → Completes (.phasePeriodStart p t) s fun g =>
        (g.ph p).pulse = (g0.phaseOn p && !(g0.get (F.PH_CTRL_RAIL p) == 0 && g0.reg.clamp) && decide (0 < (g0.rail (g0.get (F.PH_CTRL_RAIL p))).onTime)) ∧
        (g.ph p).riseAt = g0.tickOf (g0.ph p).startAt ∧ (g.ph p).fallAt = (g.ph p).riseAt + (g0.rail (g0.get (F.PH_CTRL_RAIL p))).onTime ∧
        (g.ph p).ocNow = false ∧ g0.onlyFields g [F.PH_STAT_OC_NOW p]) ∧
      ((g0.ph p).shed = 1 → Completes (.phasePeriodStart p t) s fun g => (g.ph p).shed = 2 ∧ (g.ph p).pulse = false ∧ g0.onlyFields g [F.PH_STAT_OC_NOW p]) ∧
      ((g0.ph p).shed = 2 → Completes (.phasePeriodStart p t) s fun g => g.phaseOn p = false ∧ g.flag (F.PH_STAT_SHEDDING p) = false)) ∧
    ((g0.ph p).shed = 2 → Completes (.shedComplete p t) s fun g => g.phaseOn p = false ∧ g.flag (F.PH_STAT_SHEDDING p) = false ∧ (g.ph p).shed = 0 ∧
      g.get (F.RAIL_CNT_SHED_COUNT (g0.get (F.PH_CTRL_RAIL p))) = usat 32 (g0.get (F.RAIL_CNT_SHED_COUNT (g0.get (F.PH_CTRL_RAIL p))) + 1))

/-- At OVERLOAD_BIN_END of a full bin the bin joins the window of 16, the next bin is empty, and the overload flag sets when the mean is above ILIM_SLOW, with its source, and clears when the mean is at or below fifteen sixteenths of it. Rows that complete: OVERLOAD_BIN_END. -/
def Obligations.OverloadBins : Prop :=
  ∀ (r : Fin 8) (t : Fin 250) (s : State),
    let g0 := s.gov.reach t
    s.gov.up = true → g0.asleep = false → g0.rstate r ≠ rOff → g0.act (F.RAIL_OL_OL_WIN r) * 25 ≤ (g0.rail r).binN →
    Completes (.overloadBinEnd r t) s fun g => (g.rail r).binSum = 0 ∧ (g.rail r).binN = 0 ∧ (g.rail r).bins.length ≤ max 16 (g0.rail r).bins.length ∧
      (g.rail r).bins.getLast? = some ((g0.rail r).binSum, (g0.rail r).binN) ∧
      (g0.flag (F.RAIL_FLAGS_OL r) = false → (g.flag (F.RAIL_FLAGS_OL r) = true ↔ g0.act (F.RAIL_OL_ILIM_SLOW r) < g.get (F.RAIL_POUT_IOL_MEAN r)) ∧
        (g.flag (F.RAIL_FLAGS_OL r) = true → g.flag (F.RAIL_FLAGS_OL_SEEN r) = true ∧ g.flag (F.FLT_STATUS_bit 271) = true)) ∧
      (g0.flag (F.RAIL_FLAGS_OL r) = true → (g.flag (F.RAIL_FLAGS_OL r) = true ↔ g0.act (F.RAIL_OL_ILIM_SLOW r) * 15 < g.get (F.RAIL_POUT_IOL_MEAN r) * 16))

/-- A remote-sense conversion, in any state of its rail, sets VOUT and the sense value (where the rail does not leave its window in state ON, whose reaction may act on it) and ends the VCORE clamp when rail 0 is at or below its maximum. In RAMP to RAMPDN it counts inside or outside of the window, sets INWIN after 8 inside and clears it after 8 outside in a row or with BROKEN, and leaving it in ON sets WIN_LOST and raises 272; only the rail's telemetry and INWIN change otherwise. The phase-current conversions of one instant, each phase once, stamp each phase, and give it its calibrated current, add it to the sample's sum and peak, or keep the last at a calibration slot; other phases keep theirs. Rows that complete: REMOTE_SENSE_CONVERSION, PHASE_CURRENT_CONVERSION. -/
def Obligations.Conversions : Prop :=
  ∀ (t : Fin 250) (s : State),
    let g0 := s.gov.reach t
    s.gov.up = true →
    (∀ (r : Fin 8) (code : BitVec 14),
      let tele := [F.RAIL_TELE_VOUT r, F.RAIL_TELE_IOUT r, F.RAIL_POUT_POUT r]
      let windowed := rRamp ≤ g0.rstate r ∧ g0.rstate r ≤ rRampDn
      let away := ((code.toNat : Int) * 8192 - g0.vcmd r)
      let inside := -((g0.act (F.RAIL_WIN_UV_WIN r) : Int) * 163840) ≤ away ∧ away ≤ (g0.act (F.RAIL_WIN_OV_WIN r) : Int) * 163840
      let was := g0.flag (F.RAIL_STATE_INWIN r)
      let isIn := g0.flag (F.SNS_RS_STAT_BROKEN r) = false ∧ (if was = true then inside ∨ (g0.rail r).outCnt + 1 < 8 else inside ∧ 8 ≤ (g0.rail r).inCnt + 1)
      let leaves := windowed ∧ was = true ∧ ¬ isIn
      Completes (.remoteSenseConversion r code t) s fun g =>
        (r = 0 → code.toNat ≤ 4 * g0.get F.HLIM_VCORE_MAX → g.reg.clamp = false) ∧
        (¬ windowed → g.get (F.RAIL_TELE_VOUT r) = code.toNat / 4 ∧ (g.rail r).sense = code.toNat ∧ g0.onlyFields g tele) ∧
        (windowed → ¬ (leaves ∧ g0.rstate r = rOn) → g.get (F.RAIL_TELE_VOUT r) = code.toNat / 4 ∧ (g.rail r).sense = code.toNat ∧
          (inside → (g.rail r).inCnt = (g0.rail r).inCnt + 1 ∧ (g.rail r).outCnt = 0) ∧ (¬ inside → (g.rail r).inCnt = 0 ∧ (g.rail r).outCnt = (g0.rail r).outCnt + 1) ∧
          (g.flag (F.RAIL_STATE_INWIN r) = true ↔ isIn) ∧ (leaves → (g.rail r).goodAt = none ∧ (g.rail r).good = false) ∧ g0.onlyFields g (F.RAIL_STATE_INWIN r :: tele)) ∧
        (leaves → g0.rstate r = rOn → g.flag (F.RAIL_FLAGS_WIN_LOST r) = true ∧ g.flag (F.FLT_STATUS_bit 272) = true)) ∧
    (∀ codes : List (Fin 64 × BitVec 12), (codes.map (·.1)).Nodup →
      Completes (.phaseCurrentConversion codes t) s fun g =>
        (∀ c ∈ codes, let i := g0.phaseCurrent c.1 c.2.toNat
          (g.ph c.1).convAt = some g0.now ∧ (g.ph c.1).cal = g0.calSlot c.1 ∧
          (g0.calSlot c.1 = true → (g.ph c.1).cur = (g0.ph c.1).cur ∧ (g.ph c.1).sum = (g0.ph c.1).sum ∧ (g.ph c.1).n = (g0.ph c.1).n) ∧
          (g0.calSlot c.1 = false → (g.ph c.1).cur = i ∧ (g.ph c.1).sum = (g0.ph c.1).sum + i ∧ (g.ph c.1).n = (g0.ph c.1).n + 1 ∧ g.get (F.PH_I_IPK c.1) = max (g0.get (F.PH_I_IPK c.1)) i)) ∧
        ∀ p : Fin 64, p ∉ codes.map (·.1) → (g.ph p).cur = (g0.ph p).cur ∧ (g.ph p).sum = (g0.ph p).sum ∧ g.get (F.PH_I_IPK p) = g0.get (F.PH_I_IPK p))

/-- Outside a handshake a berth's answer is only noted. In an entry: an acceptance with others outstanding is recorded, with HELD set by a hold; the last acceptance ends the asking; a refusal aborts the entry, with the requested code reverted to the present state, RESULT ABORT and the refusal counted. An entry's T_HOLD running out with a berth outstanding aborts it. At an exit's or a revert's T_HOLD the transition proceeds, and a berth without an acceptance sets EXIT_FAULT and raises 280. Rows that complete: PS_ANSWER, PS_HOLD_TIMEOUT, PS_EXIT_ACK_TIMEOUT. -/
def Obligations.HandshakeAnswers : Prop :=
  ∀ (t : Fin 250) (s : State),
    let g0 := s.gov.reach t
    s.gov.up = true →
    let aborted := fun (g : Gov) => g.pwr.step = 9 ∧ g.pwr.psReq = g0.state ∧ g.get F.PS_STAT_PHASE = 5 ∧ g.get F.PS_STAT_RESULT = 2 ∧ g.flag F.PS_STAT_BUSY = g0.flag F.PS_STAT_BUSY ∧
      g.get F.PS_CNT_ABORT_COUNT = usat 32 (g0.get F.PS_CNT_ABORT_COUNT + 1) ∧ g.flag F.GOV_IRQ_SRC_PS = true
    let accepted := fun (b : Nat) => (g0.ans b).answer = some none
    (∀ (b : Fin 256) (ack nak hold : Bool) (rsn : BitVec 4), g0.present b = true → g0.asking = false →
      Completes (.psAnswer b ack nak hold rsn t) s fun g => g.ans b = { g0.ans b with ack := ack, nak := nak, hold := hold, rsn := rsn.toNat, wasLow := (g0.ans b).wasLow || !ack } ∧ g0.onlyWords g [] ∧ ∀ c, c ≠ b.val → g.ans c = g0.ans c) ∧
    (∀ (b : Fin 256) (rsn : BitVec 4), g0.pwr.step = 1 → b.val ∈ g0.asked → g0.now ≠ g0.pwr.reqAt → (g0.ans b).sawLow = true → (g0.ans b).answer = none →
      (∀ c ∈ g0.asked, (g0.ans c).answer = none ∨ accepted c) →
      ((∃ c ∈ g0.asked, c ≠ b.val ∧ (g0.ans c).answer = none) → ∀ hold : Bool,
        Completes (.psAnswer b true false hold rsn t) s fun g => (g.ans b).answer = some none ∧ g.pwr.step = 1 ∧ g0.onlyFields g [F.PS_STAT_HELD] ∧ (hold = true → g.flag F.PS_STAT_HELD = true)) ∧
      ((∀ c ∈ g0.asked, c ≠ b.val → accepted c) → ∀ hold : Bool,
        Completes (.psAnswer b true false hold rsn t) s fun g => g.pwr.step = 2 ∧ (g0.psTo ≠ stIdle → g.get F.PS_STAT_PHASE = 2)) ∧
      (∀ hold : Bool, Completes (.psAnswer b false true hold rsn t) s fun g => aborted g ∧ g.get F.PS_CNT_REFUSE_COUNT = usat 32 (g0.get F.PS_CNT_REFUSE_COUNT + 1))) ∧
    (g0.pwr.step = 1 → g0.pwr.reqAt + g0.tHold ≤ g0.now → (∃ c ∈ g0.asked, (g0.ans c).answer = none) →
      Completes (.psHoldTimeout t) s aborted) ∧
    (g0.asleep = false → g0.pwr.reqAt + g0.tHold ≤ g0.now → g0.pwr.step = 9 ∨ g0.pwr.step = 13 → (g0.pwr.step = 9 → g0.state ≠ stIdle ∨ g0.get F.PS_WAKE_STAT_LATCH = 0) →
      Completes (.psExitAckTimeout t) s fun g => g.pwr.step = 0 ∧ g.flag F.PS_STAT_BUSY = false ∧ g.get F.PS_STAT_PHASE = 0 ∧
        (g0.pwr.step = 13 → g.state = stRun ∧ g.get F.PS_CNT_WAKE_COUNT = usat 32 (g0.get F.PS_CNT_WAKE_COUNT + 1)) ∧
        ((∃ c ∈ g0.asked, ¬ accepted c) → g.flag F.PS_WAKE_STAT_EXIT_FAULT = true ∧ g.flag (F.FLT_STATUS_bit 280) = true))

/-- With the closing gates at 0 the regions stop; DEEP then waits for RET; RET is asserted after 100 ns; the bias settles; and the entry completes at a base tick with rails and bias settled: STATE is the target, BUSY, PHASE and TO are 0, RESULT is DONE and counted, SLEEP and DEEP lose the PLL, and OFF leaves a notice. The OFF notice repeats after 100 ms until acknowledged. Rows that complete: ENTRY_GATES_CLOSED, RET_ASSERT, BIAS_SETTLE_EXPIRY, ENTRY_COMPLETE, OFF_NOTICE_REPEAT. -/
def Obligations.EntrySteps : Prop :=
  ∀ (t : Fin 250) (s : State),
    let g0 := s.gov.reach t
    (s.gov.engine = true → g0.pwr.step = 3 → (∀ b ∈ g0.closing, g0.get (F.BT_GATE_GATE b) = 0) →
      Completes (.entryGatesClosed t) s fun g => (∀ rg : Fin 16, bit g0.offMask rg = true → bit g.pwr.stopped rg = true) ∧
        (g0.psTo = stDeep → g.pwr.step = 4 ∧ g.pwr.stepAt = g.now) ∧
        (g0.psTo ≠ stDeep → g.pwr.step = 5 ∧ (g0.psTo ≠ stIdle → g.get F.PS_STAT_PHASE = 3))) ∧
    (s.gov.engine = true → g0.pwr.step = 4 → g0.pwr.stepAt + 100 ≤ g0.now →
      Completes (.retAssert t) s fun g => g.pwr.ret = true ∧ g.pwr.step = 5 ∧ (g0.psTo ≠ stIdle → g.get F.PS_STAT_PHASE = 3)) ∧
    (s.gov.engine = true → g0.pwr.step = 5 ∨ g0.pwr.step = 11 → g0.pwr.settled = false → g0.pwr.settleAt ≤ g0.now →
      Completes (.biasSettleExpiry t) s fun g => g.pwr = { g0.pwr with settled := true } ∧ g0.onlyWords g [] ∧ g0.sameBeside (g.withPwr g0.pwr)) ∧
    (s.gov.engine = true → g0.pwr.step = 5 → g0.pwr.settled = true → g0.onTick = true → g0.railsSettled = true → g0.psTo = stOff ∨ g0.get F.PS_WAKE_STAT_LATCH = 0 →
      Completes (.entryComplete t) s fun g => g.state = g0.psTo ∧ g.get F.PS_STAT_TO = 0 ∧ g.flag F.PS_STAT_BUSY = false ∧ g.get F.PS_STAT_PHASE = 0 ∧ g.get F.PS_STAT_RESULT = 1 ∧ g.pwr.step = 0 ∧
        g.get F.PS_CNT_DONE_COUNT = usat 32 (g0.get F.PS_CNT_DONE_COUNT + 1) ∧
        (g0.psTo = stSleep ∨ g0.psTo = stDeep → g.pll = false ∧ g.led.tickAt = none) ∧
        (g0.psTo = stOff → g.pwr.notice = some (g0.now, g0.get F.PS_WAKE_STAT_LATCH != 0, if g0.powered && g0.running && g0.pilotUp 2 then some g0.now else none))) ∧
    (∀ time wake last, g0.pwr.notice = some (time, wake, last) → s.gov.powered = true → g0.powered = true → g0.running = true → g0.pilotUp 2 = true → (∀ p, last = some p → p + 100000000 ≤ g0.now) →
      Completes (.offNoticeRepeat t) s fun g => g.pwr = { g0.pwr with notice := some (time, wake, some g0.now) } ∧ g.flt = { g0.flt with event := some (g0.noticeEvent time wake) } ∧ g0.onlyWords g [])

/-- PLL_LOCK during an exit goes on to the settling of the bias; otherwise it only locks. RET is released when the rails and bias are ready; the regions are restored 100 ns later, after which the berths are asked for RUN, or the exit ends if none is to be asked. A loss of the PLL ends the samples and raises 297. Rows that complete: PLL_LOCK, RET_RELEASE, EXIT_REGIONS_RESTORE, PLL_LOCK_LOSS. -/
def Obligations.ExitSteps : Prop :=
  ∀ (t : Fin 250) (s : State),
    let g0 := s.gov.reach t
    (s.gov.up = true → s.gov.pll = false → g0.pwr.step = 10 → Completes (.pllLock t) s fun g => g.pll = true ∧ g.pwr.step = 11 ∧ g.pwr.settled = false) ∧
    (s.gov.up = true → s.gov.pll = false → g0.pwr.step ≠ 10 → g0.asleep = false → Completes (.pllLock t) s fun g => g.pll = true ∧ g0.onlyWords g [] ∧ g0.sameBeside (g.withPll false)) ∧
    (s.gov.engine = true → g0.settlePower.pwr.step = 12 → g0.settlePower.pwr.ret = true →
      Completes (.retRelease t) s fun g => g.pwr = { g0.settlePower.pwr with ret := false } ∧ g0.onlyWords g []) ∧
    (s.gov.engine = true → g0.pwr.step = 12 → g0.pwr.ret = false → g0.pwr.stepAt + 100 ≤ g0.now → g0.savedLocked = true →
      let restored := fun (g : Gov) => g.pwr.stopped = 0 ∧ g.pwr.movedRef = 0 ∧ g.pwr.psReq = 0 ∧
        ((∃ b : Fin 256, g.present b = true ∧ g.quar b = false) → g.pwr.step = 13) ∧ ((∀ b : Fin 256, g.present b = true → g.quar b = true) → g.pwr.step = 0 ∧ g.state = stRun)
      (g0.pwr.movedRef = 0 → (∀ rg : Fin 16, bit g0.pwr.stopped rg = true → (g0.rgn rg).out = .off) → Completes (.exitRegionsRestore t) s restored) ∧
      Completes (.exitRegionsRestore t) s fun g => restored g ∨ (g.pwr.step = 14 ∧ ∃ rg : Fin 16, bit g.pwr.movedRef rg = true ∧ g.flag (F.DRP_RGN_MUX_BUSY rg) = true)) ∧
    (s.gov.engine = true → g0.asleep = false → Completes (.pllLockLoss t) s fun g => g.pll = false ∧ g.led.tickAt = none ∧ g.flag (F.FLT_STATUS_bit 297) = true ∧ g.flt.pending = [])

/-- Each wake source, when enabled, adds its bit to CAUSE during an exit, latches during an entry, and otherwise, where it acts in the present state, starts an exit with CAUSE its bit alone. When disabled it changes no register. WAKE_N is kept through OFF. The timer also clears its own enable. AUTO_IDLE_REQUEST starts an entry to IDLE after IDLE_SMP idle samples. Rows that complete: LINK_ACT_RISE, WAKE_N_ASSERT, HAWSER_WAKE_DETECT, WAKE_TIMER_FIRE, AUTO_IDLE_REQUEST. -/
def Obligations.Wakes : Prop :=
  ∀ (t : Fin 250) (s : State),
    let g0 := s.gov.reach t
    let woken := fun (src : Nat) (g : Gov) =>
      (g0.flag F.PS_STAT_BUSY = true → 10 ≤ g0.pwr.step → g.get F.PS_WAKE_STAT_CAUSE = g0.get F.PS_WAKE_STAT_CAUSE ||| 2 ^ src) ∧
      (g0.flag F.PS_STAT_BUSY = true → g0.pwr.step < 10 → g.get F.PS_WAKE_STAT_LATCH = g0.get F.PS_WAKE_STAT_LATCH ||| 2 ^ src) ∧
      (g0.flag F.PS_STAT_BUSY = false → g0.wakeActs src = true → g.flag F.PS_STAT_BUSY = true ∧ g.get F.PS_STAT_PHASE = 4 ∧ g.get F.PS_WAKE_STAT_CAUSE = 2 ^ src ∧ g.get F.PS_WAKE_STAT_LATCH = 0 ∧
        g.flag F.PS_WAKE_STAT_REPLAYED = false ∧ g.pwr.step = if g0.asleep = true then 10 else 11)
    let enabled := fun (src : Nat) => bit (g0.get F.PS_WAKE_EN_EN) src = true
    (∀ stays : Bool, s.gov.up = true → Completes (.linkActRise stays t) s fun g => g.pins = { s.gov.pins with linkAct := stays } ∧ (enabled 0 → woken 0 g) ∧ (¬ enabled 0 → g0.onlyWords g [])) ∧
    (s.gov.up = true → Completes (.wakeNAssert t) s fun g => (enabled 3 → woken 3 g) ∧ (¬ enabled 3 → g0.onlyWords g [])) ∧
    (s.gov.dark = true ∨ s.gov.powered = true ∧ s.gov.state = stOff → exec (.wakeNAssert t) s = .next { s with keep := { s.keep with wakeN := true } }) ∧
    (∀ p : Fin 2, s.gov.up = true → g0.asleep = true → g0.flag (portEnable p) = true →
      Completes (.hawserWakeDetect p t) s fun g => (enabled (1 + p) → woken (1 + p) g) ∧ (¬ enabled (1 + p) → g0.onlyWords g [])) ∧
    (s.gov.up = true → enabled 5 → g0.get64 W.PS_WAKE_TIME_LO ≤ g0.now →
      Completes (.wakeTimerFire t) s fun g => woken 5 g ∧ g.get F.PS_WAKE_EN_EN = g0.get F.PS_WAKE_EN_EN % 32) ∧
    (s.gov.engine = true → g0.flag F.PS_CFG_IDLE_AUTO = true → g0.state = stRun → 0 < g0.pwr.idle → g0.get F.PS_IDLE_IDLE_SMP ≤ g0.pwr.idle → g0.flag F.PS_STAT_BUSY = false → g0.flag F.LIM_STEADY_STAT_ACTIVE = false →
      (∃ b : Fin 256, g0.present b = true ∧ g0.quar b = false) →
      Completes (.autoIdleRequest t) s fun g => g.flag F.PS_STAT_BUSY = true ∧ g.psTo = stIdle ∧ g.get F.PS_STAT_PHASE = 1 ∧ g.pwr.step = 1 ∧ g.pwr.psReq = 1 ∧ g.get F.PS_STAT_ATTEMPT = (g0.get F.PS_STAT_ATTEMPT + 1) % 2 ^ 16)

/-- A thermal sweep takes the converted values and moves the soft-throttle step K by the hottest of them: up to KMAX at or above T_SD, down below T_SD less T_HYS, else held, 0 when disabled. A path-monitor sweep in RUN or IDLE keeps the values of the running regions' monitors, and each enabled one of these reads FAIL exactly when its value is at or below PM_FAIL, raising 262. Rows that complete: THERMAL_SWEEP_COMPLETE, PATH_MONITOR_SWEEP. -/
def Obligations.SensorSweeps : Prop :=
  ∀ (t : Fin 250) (s : State),
    let g0 := s.gov.reach t
    s.gov.up = true → g0.asleep = false →
    (∀ codes : List (Fin 384 × BitVec 16),
      let vals := (codes.filter fun c => !g0.thermalCal g0.sns.tCount c.1).map fun c => (c.1.val, c.2.toInt)
      let hot := g0.hottestNow vals
      let k := g0.get F.LIM_TSD_STAT_K
      let thr := g0.sact F.LIM_TSD_THR_T_SD
      Completes (.thermalSweepComplete codes t) s fun g => g.sns = { g0.sns with tSweeps := g0.sns.tSweeps ++ [⟨g0.now, g0.state != stSleep, vals⟩], tCount := g0.sns.tCount + 1 } ∧
        g.get F.LIM_TSD_STAT_K =
          if g0.actFlag F.LIM_CFG_TSD_EN = false then 0
          else if thr ≤ hot then (if k < g0.act F.LIM_TSD_STEP_KMAX then k + 1 else k)
          else if hot < thr - (g0.act F.LIM_TSD_THR_T_HYS : Int) then k - 1 else k) ∧
    (∀ codes : List (Fin 128 × BitVec 16), (codes.map (·.1)).Nodup → g0.state = stRun ∨ g0.state = stIdle →
      let measured := codes.filter fun c => g0.clocked (g0.pmRegion c.1) && !g0.pathCal g0.sns.pCount c.1
      Completes (.pathMonitorSweep codes t) s fun g =>
        g.sns.pSweeps = g0.sns.pSweeps ++ [⟨g0.now, true, measured.map fun c => (c.1.val, (c.2.toNat : Int))⟩] ∧ g.sns.pCount = g0.sns.pCount + 1 ∧
        ∀ c ∈ measured, g0.actFlag (F.SNS_P_CFG_EN c.1) = true →
          (g.flag (F.SNS_P_VAL_FAIL c.1) = true ↔ c.2.toNat ≤ g0.act F.SNS_PM_PM_FAIL) ∧ (g.flag (F.SNS_P_VAL_FAIL c.1) = true → g.flag (F.FLT_STATUS_bit 262) = true))

/-- A write that sets a lock bit (GOV_LOCK.BT, HLIM_CTRL.LOCK, LIM_HARBOUR.LOCK, FLT_CTRL.LOCK, FWP_WDT.LOCK) answers 0, sets the lock, acts on the rest of its word by the access codes, and changes no other word; once LIM_HARBOUR or FWP_WDT is locked, a write of it keeps every field and sets LOCKED_WR. Rows that complete: GOV_LOCK_WRITE, HLIM_LOCK_WRITE, HARBOUR_LOCK_WRITE, FLT_LOCK_WRITE, WDT_LOCK_WRITE. -/
def Obligations.LockWrites : Prop :=
  ∀ (wr : PortWrite) (t : Fin 250) (s : State),
    let g0 := s.gov.reach t
    let locks := fun (lock : Fld) (g : Gov) => g.resp = 0 ∧ g.flag lock = true ∧ g0.onlyWords g [lock.off] ∧ g.word lock.off = g0.merged lock.off wr.data
    let ignored := fun (lock : Fld) (g : Gov) => g.resp = 0 ∧ g.flag lock = true ∧ g.flag F.GOV_LOCK_STAT_LOCKED_WR = true ∧ g0.onlyWords g [lock.off, W.GOV_LOCK_STAT] ∧
      ∀ f ∈ fieldsAt lock.off, g.get ⟨lock.off, f.lo, f.w⟩ = g0.get ⟨lock.off, f.lo, f.w⟩
    (bit wr.data.toNat 0 = true → s.gov.writesNow t W.GOV_LOCK wr → Completes (.govLockWrite wr t) s (locks F.GOV_LOCK_BT)) ∧
    (bit wr.data.toNat 0 = true → s.gov.writesNow t W.HLIM_CTRL wr → Completes (.hlimLockWrite wr t) s (locks F.HLIM_CTRL_LOCK)) ∧
    (bit wr.data.toNat 31 = true → s.gov.writesNow t W.LIM_HARBOUR wr → g0.flag F.LIM_HARBOUR_LOCK = false → Completes (.harbourLockWrite wr t) s (locks F.LIM_HARBOUR_LOCK)) ∧
    (bit wr.data.toNat 31 = true → s.gov.writesNow t W.LIM_HARBOUR wr → g0.flag F.LIM_HARBOUR_LOCK = true → Completes (.harbourLockWrite wr t) s (ignored F.LIM_HARBOUR_LOCK)) ∧
    (bit wr.data.toNat 0 = true → bit wr.data.toNat 5 = false → s.gov.writesNow t W.FLT_CTRL wr → Completes (.fltLockWrite wr t) s (locks F.FLT_CTRL_LOCK)) ∧
    (bit wr.data.toNat 31 = true → s.gov.writesNow t W.FWP_WDT wr → g0.flag F.FWP_WDT_LOCK = false → (∀ k : Fin 3, 1 ≤ field wr.data (8 * k) 8 ∧ field wr.data (8 * k) 8 ≤ 100) →
      Completes (.wdtLockWrite wr t) s (locks F.FWP_WDT_LOCK)) ∧
    (bit wr.data.toNat 31 = true → s.gov.writesNow t W.FWP_WDT wr → g0.flag F.FWP_WDT_LOCK = true → Completes (.wdtLockWrite wr t) s (ignored F.FWP_WDT_LOCK))

/-- Each CLR bit (FCU, DRP, REG, SNS, IDL, PS, FLT, CMD and TRC) answers 0 and sets the counters and records that its rule names to 0; no field outside them and outside the written word changes. CMD_CFG.CLR also takes WAIT_TMO; TRC_CTRL.CLR empties the four trace buffers and clears FULL and LOST. Rows that complete: FCU_CTRL_CLR, DRP_CTRL_CLR, REG_CTRL_CLR, SNS_CTRL_CLR, IDL_CTRL_CLR, PS_CTRL_CLR, FLT_CTRL_CLR, CMD_CFG_CLR, TRC_CTRL_CLR. -/
def Obligations.CounterClears : Prop :=
  ∀ (wr : PortWrite) (t : Fin 250) (s : State),
    let g0 := s.gov.reach t
    let clears := fun (ctrl : Nat) (fs : List Fld) (g : Gov) => g.resp = 0 ∧ (∀ f ∈ fs, g.get f = 0) ∧ ∀ h : Fld, h.off ≠ ctrl → fs.all h.apart = true → g.get h = g0.get h
    let words := fun (offs : List Nat) => offs.map fun o => (⟨o, 0, 32⟩ : Fld)
    (bit wr.data.toNat 0 = true → s.gov.writesNow t W.FCU_CTRL wr → Completes (.fcuCtrlClr wr t) s (clears W.FCU_CTRL (F.FCU_LIVE_LIVE_PEAK :: words ((List.range 13).map fun k => W.FCU_CNT_ACCEPT + 4 * k)))) ∧
    (bit wr.data.toNat 0 = true → s.gov.writesNow t W.DRP_CTRL wr →
      Completes (.drpCtrlClr wr t) s (clears W.DRP_CTRL (words (((List.range 16).flatMap fun k => [W.FSYN_CNT_COAST k, W.DRP_RGN_EPI k, W.DRP_RGN_STIME_LO k, W.DRP_RGN_STIME_HI k]) ++ (List.range 256).map W.DRP_DET_CNT)))) ∧
    (bit wr.data.toNat 0 = true → s.gov.writesNow t W.REG_CTRL wr →
      Completes (.regCtrlClr wr t) s (clears W.REG_CTRL (F.REG_SYNC_CNT_COUNT :: ((List.range 8).flatMap fun r => [F.RAIL_CNT_SHED_COUNT r, F.RAIL_CNT_ABORT_COUNT r, F.RAIL_CNT_OL_COUNT r, F.RAIL_FLAGS_OL_SEEN r]) ++ (List.range 64).flatMap fun p => [F.PH_CNT_OC_COUNT p, F.PH_I_IPK p]))) ∧
    (bit wr.data.toNat 0 = true → s.gov.writesNow t W.SNS_CTRL wr → Completes (.snsCtrlClr wr t) s (clears W.SNS_CTRL [F.SNS_CNT_STALE_COUNT, F.SNS_CNT_BROKEN_COUNT, F.SNS_CNT_PARITY_COUNT])) ∧
    (field wr.data 0 4 = 4 → s.gov.writesNow t W.IDL_CTRL wr → Completes (.idlCtrlClr wr t) s (clears W.IDL_CTRL [F.IDL_CNT_CRC_COUNT, F.IDL_CNT_MISS_COUNT, F.IDL_CNT_LINKDN_COUNT])) ∧
    (field wr.data 4 3 = 4 → s.gov.writesNow t W.PS_CTRL wr →
      Completes (.psCtrlClr wr t) s (clears W.PS_CTRL (words ([W.PS_CNT_DONE, W.PS_CNT_ABORT, W.PS_CNT_REFUSE, W.PS_CNT_HOLD, W.PS_CNT_WAKE, W.PS_LOG_HEAD] ++ (List.range 64).map fun k => 0x700 + 4 * k)))) ∧
    (bit wr.data.toNat 5 = true → s.gov.writesNow t W.FLT_CTRL wr → Completes (.fltCtrlClr wr t) s (clears W.FLT_CTRL (words ([W.FLT_CNT_DEFER, W.FLT_REC_DROP] ++ (List.range 12).map W.FLT_ECC_CE)))) ∧
    (bit wr.data.toNat 16 = true → s.gov.writesNow t W.CMD_CFG wr → Completes (.cmdCfgClr wr t) s fun g => g.get F.CMD_CFG_WAIT_TMO = field wr.data 0 16 ∧ clears W.CMD_CFG (words ((List.range 16).flatMap fun n => [W.CMD_CNT_CRC n, W.CMD_CNT_TAKEN n])) g) ∧
    (bit wr.data.toNat 0 = true → s.gov.writesNow t W.TRC_CTRL wr →
      Completes (.trcCtrlClr wr t) s fun g => (∀ n : Fin 4, (g.buf n).recs = [] ∧ (g.buf n).lost = false ∧ g.flag (F.TRC_STAT_FULL n) = false ∧ g.get (F.TRC_LOST_COUNT n) = 0) ∧
        g0.onlyWords g (W.TRC_CTRL :: (List.range 4).flatMap fun n => [W.TRC_STAT n, W.TRC_LOST n]))

/-- Outside anchor mode a write that enables a loop slot or its feedback is stored, to be active from the next sample, when the capacity, the limits, the pole, the slot's shape and the cap hold; when the capacity does not hold, CAP_REF, the slot's REFUSED and REF_SLOT are set and nothing else. In anchor mode it is refused with LAW_REF (log entry 111). A state word is stored for the next sample. A period code within range and capacity is programmed, pending until it differs no more; else it is refused with CAP_REF alone. Rows that complete: LOOP_SLOT_ENABLE, STATE_WORD_WRITE, PERIOD_WRITE. -/
def Obligations.EngineWrites : Prop :=
  ∀ (k : Fin 1024) (wr : PortWrite) (t : Fin 250) (s : State),
    let g0 := s.gov.reach t
    (∀ fb : Bool, let off := if fb then W.LS_FB k else W.LS_CTRL k
      let new := g0.plain off wr.data
      s.gov.writesNow t off wr → (if fb then g0.flag (F.LS_CTRL_EN k) else bit wr.data.toNat 0) = true →
      (g0.anchored = true → Completes (.loopSlotEnable k fb wr t) s fun g => g0.refuses g F.ENG_STATUS_LAW_REF [F.LS_STAT_REFUSED k, F.ENG_STATUS_REF_SLOT] ∧ g.get F.ENG_STATUS_REF_SLOT = k) ∧
      (g0.anchored = false → new.capacityOk new.periodCodes = true → new.limitsCross k = false → new.poleBad k = false → new.slotShape k = true → (g0.capHolds = true → new.capHolds = true) →
        Completes (.loopSlotEnable k fb wr t) s fun g => g0.storesLater g off wr.data ∧ g.flag (F.LS_CTRL_EN k) = true) ∧
      (g0.anchored = false → g0.flag (F.LS_CTRL_EN k) = false → new.capacityOk new.periodCodes = false →
        Completes (.loopSlotEnable k fb wr t) s fun g => g0.refuses g F.ENG_STATUS_CAP_REF [F.LS_STAT_REFUSED k, F.ENG_STATUS_REF_SLOT] ∧ g.get F.ENG_STATUS_REF_SLOT = k)) ∧
    (∀ half : Fin 3, s.gov.writesNow t (W.LS_S1 k + 4 * half) wr → Completes (.stateWordWrite k half wr t) s fun g => g0.storesLater g (W.LS_S1 k + 4 * half) wr.data) ∧
    (s.gov.writesNow t W.ENG_CFG wr → field wr.data 0 4 ≤ 6 → g0.capacityOk [field wr.data 0 4] = true →
      Completes (.periodWrite wr t) s fun g => g.resp = 0 ∧ g.get F.ENG_CFG_PERIOD = field wr.data 0 4 ∧ (g.flag F.ENG_CFG_PER_PEND = true ↔ field wr.data 0 4 ≠ g0.get F.ENG_CFG_PER_ACT) ∧
        g0.onlyFields g [F.ENG_CFG_PERIOD, F.ENG_CFG_PER_PEND]) ∧
    (s.gov.writesNow t W.ENG_CFG wr → 6 < field wr.data 0 4 ∨ g0.capacityOk [field wr.data 0 4] = false → Completes (.periodWrite wr t) s fun g => g0.refuses g F.ENG_STATUS_CAP_REF [])

/-- A write of LIM_CFG that meets R109 and R121 is stored for the next sample, with the steady request recorded; one that does not sets REFUSED alone. A locked bollard word is refused with LOCKED_WR; an unlocked one may lower a limit to its fused maximum or below, and a synthesizer above its new maximum comes down to it at once; above the fused maximum it is refused. Rows that complete: PCAP_ENABLE, STEADY_ENABLE, HLIM_WRITE. -/
def Obligations.LimitWrites : Prop :=
  ∀ (wr : PortWrite) (t : Fin 250) (s : State),
    let g0 := s.gov.reach t
    let capOk := bit wr.data.toNat 0 = true → g0.capSlotsOk (g0.get F.LIM_SLOTS_PCAP_SLOT) (g0.get F.LIM_SLOTS_BE_SLOT) (bit wr.data.toNat 3) = true
    let sets := bit wr.data.toNat 5 = true ∧ g0.flag F.LIM_CFG_STEADY = false
    let taken := fun (g : Gov) => g0.storesLater g W.LIM_CFG wr.data ∧ g.lim = { g0.lim with steadyReq := bit wr.data.toNat 5 && (g0.lim.steadyReq || !g0.flag F.LIM_CFG_STEADY), harbour := g0.lim.harbour && g0.flag F.SUP_STAT_HARBOUR }
    (s.gov.writesNow t W.LIM_CFG wr → bit wr.data.toNat 0 = true ∨ bit wr.data.toNat 3 = true → capOk → (sets → g0.steadyOk = true) → Completes (.pcapEnable wr t) s taken) ∧
    (s.gov.writesNow t W.LIM_CFG wr → bit wr.data.toNat 0 = true → ¬ capOk → Completes (.pcapEnable wr t) s fun g => g0.refuses g F.LIM_STATUS_REFUSED []) ∧
    (s.gov.writesNow t W.LIM_CFG wr → bit wr.data.toNat 5 = true → capOk → (sets → g0.steadyOk = true) → Completes (.steadyEnable wr t) s taken) ∧
    (s.gov.writesNow t W.LIM_CFG wr → sets → g0.steadyOk = false → Completes (.steadyEnable wr t) s fun g => g0.refuses g F.LIM_STATUS_REFUSED []) ∧
    (∀ i : Fin 19, let off := 0xD00 + 4 * i.val
      s.gov.writesNow t off wr →
      (g0.flag F.HLIM_CTRL_LOCK = true → Completes (.hlimWrite i wr t) s fun g => g0.refuses g F.GOV_LOCK_STAT_LOCKED_WR []) ∧
      (g0.flag F.HLIM_CTRL_LOCK = false → i.val < 18 → field wr.data 16 (if i.val = 0 then 12 else 16) ≤ g0.get ⟨off, 0, if i.val = 0 then 12 else 16⟩ →
        Completes (.hlimWrite i wr t) s fun g => g.resp = 0 ∧ g.word off = g0.merged off wr.data ∧ g.get ⟨off, 16, if i.val = 0 then 12 else 16⟩ = field wr.data 16 (if i.val = 0 then 12 else 16) ∧
          (i.val = 1 → g0.onlyWords g [off]) ∧ (∀ q : Fin 16, i.val = q + 2 → g.get (F.FSYN_FREQ_CUR q) ≤ max (field wr.data 16 16) (g0.get (F.FSYN_FREQ_CUR q)))) ∧
      (g0.flag F.HLIM_CTRL_LOCK = false → i.val < 18 → g0.get ⟨off, 0, if i.val = 0 then 12 else 16⟩ < field wr.data 16 (if i.val = 0 then 12 else 16) →
        Completes (.hlimWrite i wr t) s fun g => g0.refuses g F.HLIM_CTRL_REFUSED []) ∧
      (g0.flag F.HLIM_CTRL_LOCK = false → i.val = 18 → toSigned 16 (field wr.data 0 16) ≤ 0x1F40 → Completes (.hlimWrite i wr t) s fun g => g0.stores g off wr.data))

/-- What writes of a rail's control and selection words do: enable and disable, the commit of coefficients, entry and selection writes, and the refusals, each with the fields that may change. Rows that complete: RAIL_ENABLE, RAIL_DISABLE, RAIL_COMMIT. -/
def Obligations.RailWrites : Prop :=
  ∀ (r : Fin 8) (wr : PortWrite) (t : Fin 250) (s : State),
    let g0 := s.gov.reach t
    s.gov.writesNow t (W.RAIL_CTRL r) wr →
    let w := insertField wr.data 31 1 0
    let new := g0.plain (W.RAIL_CTRL r) w
    let en := bit wr.data.toNat 0
    let commit := bit wr.data.toNat 31
    let was := g0.flag (F.RAIL_CTRL_EN r)
    let accepts := (en = true → g0.flag F.FLT_CTRL_TRIPPED = false) ∧ (en = true → was = false → new.railFit r = true ∧ new.rateFit r g0.perEff = true ∧ coefFit (g0.rail r).coef = true) ∧
      (en = true → was = true → field wr.data 1 2 = g0.get (F.RAIL_CTRL_RDIV r) ∨ new.rateFit r g0.perEff = true) ∧ (commit = true → coefFit (g0.coefShadow r) = true)
    let taken := fun (g : Gov) => g0.storesLater g (W.RAIL_CTRL r) w ∧ g.flag (F.RAIL_CTRL_EN r) = en ∧ g.flag (F.RAIL_CTRL_COMMIT r) = false ∧ g.rail r = { g0.rail r with commit := commit || (g0.rail r).commit }
    let refused := fun (g : Gov) => g0.refuses g (F.RAIL_FLAGS_REFUSED r) []
    (en = true → accepts → Completes (.railEnable r wr t) s taken) ∧ (en = true → ¬ accepts → Completes (.railEnable r wr t) s refused) ∧
    (en = false → accepts → Completes (.railDisable r wr t) s taken) ∧ (en = false → ¬ accepts → Completes (.railDisable r wr t) s refused) ∧
    (commit = true → accepts → Completes (.railCommit r wr t) s taken) ∧ (commit = true → ¬ accepts → Completes (.railCommit r wr t) s refused)

/-- What writes of a phase's control word, a region's multiplexer and a synthesizer's control do: out of service, glitch-free switch, force, enable and disable, and the refusals. Rows that complete: PHASE_OOS_WRITE, FSYN_ENABLE, REGION_SWITCH, REGION_FORCE. -/
def Obligations.PhaseAndClockWrites : Prop :=
  ∀ (wr : PortWrite) (t : Fin 250) (s : State),
    let g0 := s.gov.reach t
    (∀ p : Fin 64, s.gov.writesNow t (W.PH_CTRL p) wr → field (g0.merged (W.PH_CTRL p) wr.data) 0 10 = field (g0.word (W.PH_CTRL p)) 0 10 →
      let new := g0.plain (W.PH_CTRL p) wr.data
      (bit wr.data.toNat 16 = false → Completes (.phaseOosWrite p wr t) s fun g => g0.stores g (W.PH_CTRL p) wr.data ∧ g.flag (F.PH_CTRL_OOS p) = false ∧ (g.ph p).oosPend = false) ∧
      (bit wr.data.toNat 16 = true → g0.flag (F.PH_CTRL_OOS p) = false → (g0.flag (F.PH_CTRL_ASSIGNED p) = true → g0.get (F.RAIL_SHED_NPH_READY (g0.get (F.PH_CTRL_RAIL p))) ≤ (new.inService (g0.get (F.PH_CTRL_RAIL p))).length) →
        Completes (.phaseOosWrite p wr t) s fun g => g0.stores g (W.PH_CTRL p) wr.data ∧ g.flag (F.PH_CTRL_OOS p) = true ∧ (g.ph p).oosPend = g0.phaseOn p) ∧
      (bit wr.data.toNat 16 = true → g0.flag (F.PH_CTRL_OOS p) = false → g0.flag (F.PH_CTRL_ASSIGNED p) = true → (new.inService (g0.get (F.PH_CTRL_RAIL p))).length < g0.get (F.RAIL_SHED_NPH_READY (g0.get (F.PH_CTRL_RAIL p))) →
        Completes (.phaseOosWrite p wr t) s fun g => g0.refuses g (F.PH_STAT_REFUSED p) [])) ∧
    (∀ k : Fin 16, s.gov.writesNow t (W.FSYN_CTRL k) wr →
      let used := ∃ rg : Fin 16, g0.source rg = .syn k ∨ (g0.rgn rg).out = .syn k
      ((if bit wr.data.toNat 0 then 200 ≤ g0.get (F.HLIM_FSYN_FUSE k) else ¬ used) → Completes (.fsynEnable k wr t) s fun g => g0.storesLater g (W.FSYN_CTRL k) wr.data) ∧
      ((if bit wr.data.toNat 0 then g0.get (F.HLIM_FSYN_FUSE k) < 200 else used) → Completes (.fsynEnable k wr t) s fun g => g0.refuses g (F.FSYN_STAT_REFUSED k) [])) ∧
    (∀ rg : Fin 16, s.gov.writesNow t (W.DRP_RGN_MUX rg) wr →
      let new := sourceOf rg (field wr.data 0 2) (field wr.data 4 4)
      let selects := fun (g : Gov) => g.resp = 0 ∧ g.get (F.DRP_RGN_MUX_SEL rg) = field wr.data 0 2 ∧ g.get (F.DRP_RGN_MUX_ALT rg) = field wr.data 4 4
      (bit wr.data.toNat 24 = false → new = g0.source rg → Completes (.regionSwitch rg wr t) s fun g => selects g ∧ g.flag (F.DRP_RGN_MUX_BUSY rg) = g0.flag (F.DRP_RGN_MUX_BUSY rg) ∧ g.rgn rg = g0.rgn rg ∧ g0.onlyWords g [W.DRP_RGN_MUX rg]) ∧
      (bit wr.data.toNat 24 = false → new ≠ g0.source rg → g0.anchored = false → g0.switchBad rg new = false →
        Completes (.regionSwitch rg wr t) s fun g => selects g ∧ g.flag (F.DRP_RGN_MUX_BUSY rg) = true ∧ (g.rgn rg).swAt = g0.now ∧ (g.rgn rg).out = (g0.rgn rg).out) ∧
      (bit wr.data.toNat 24 = false → new ≠ g0.source rg → g0.anchored = true ∨ g0.switchBad rg new = true → Completes (.regionSwitch rg wr t) s fun g => g0.refuses g (F.DRP_RGN_MUX_REFUSED rg) []) ∧
      (bit wr.data.toNat 24 = true → g0.anchored = false ∨ new = g0.source rg → g0.sourcePresent (g0.rgn rg).out = false → g0.sourcePresent new = true →
        Completes (.regionForce rg wr t) s fun g => selects g ∧ g.flag (F.DRP_RGN_MUX_BUSY rg) = false ∧ (g.rgn rg).out = new ∧ (g.rgn rg).goneAt = none) ∧
      (bit wr.data.toNat 24 = true → g0.sourcePresent (g0.rgn rg).out = true ∨ g0.sourcePresent new = false → Completes (.regionForce rg wr t) s fun g => g0.refuses g (F.DRP_RGN_MUX_REFUSED rg) []))

/-- What writes of a table's LOAD and of the margin-trim words do: a checked table awaits the next sample, a failed check sets REFUSED with its reason; trim steps, restarts and the one restore after reset. Rows that complete: TBL_LOAD, MT_RAISE, MT_LOWER, MT_RESTART_WINDOW, MT_RESTORE, MT_HELD_STEP_APPLY, MT_WINDOW_DECISION. -/
def Obligations.TrimAndTables : Prop :=
  ∀ (wr : PortWrite) (t : Fin 250) (s : State),
    let g0 := s.gov.reach t
    (∀ k : Fin 64, bit wr.data.toNat 0 = true → s.gov.writesNow t (W.TBL_CTRL k) wr →
      let pts := (List.range (g0.get (F.TBL_HDR_NBP k))).map fun j => (g0.sget (F.TBL_X_X k j), g0.sget (F.TBL_Y_Y k j))
      let fault := tableFault (g0.get (F.TBL_HDR_NBP k)) (g0.flag (F.TBL_HDR_INC k)) (g0.flag (F.TBL_HDR_DEC k)) pts
      (fault = none → Completes (.tblLoad k wr t) s fun g => g0.stores g (W.TBL_CTRL k) wr.data ∧
        g.sns = { g0.sns with load := (g0.sns.load.filter fun p => p.1 != k.val) ++ [(k.val, ⟨pts, g0.flag (F.TBL_HDR_INC k), g0.flag (F.TBL_HDR_DEC k)⟩)] }) ∧
      (∀ n, fault = some n → Completes (.tblLoad k wr t) s fun g => g.flag (F.TBL_CTRL_REFUSED k) = true ∧ g.get (F.TBL_CTRL_RSN k) = n ∧ g.sns = g0.sns ∧ g0.onlyWords g [W.TBL_CTRL k])) ∧
    (∀ (r : Fin 8) (up : Bool), let step := if up then 1 else 2
      let row := if up then Instr.mtRaise r wr t else Instr.mtLower r wr t
      let now := g0.now
      field wr.data 0 2 = step → s.gov.writesNow t (W.MT_REQ r) wr →
      (g0.flag F.LIM_STEADY_STAT_ACTIVE = true → Completes row s fun g => Tab.get (fun _ => 0) g.sns.heldStep r = step ∧ g.flag (F.MT_REQ_HELD r) = true ∧ g0.onlyWords g [W.MT_REQ r]) ∧
      (g0.flag F.LIM_STEADY_STAT_ACTIVE = false → g0.trimOk r step = true →
        Completes row s fun g => g.sns.guard = g0.sns.guard ++ [(r.val, (g0.trimGuard r step).toNat, 0)] ∧ g.get64 (W.MT_LAST_LO r) = now % 2 ^ 64 ∧ g.get (F.MT_PMMIN_PMMIN r) = 0xFFFF ∧ g.flag (F.MT_PMMIN_FAILSEEN r) = false ∧
          g0.onlyWords g [W.MT_REQ r, W.MT_LAST_LO r, W.MT_LAST_LO r + 4, W.MT_PMMIN r]) ∧
      (g0.flag F.LIM_STEADY_STAT_ACTIVE = false → g0.trimOk r step = false → Completes row s fun g => g.flag (F.MT_REQ_REFUSED r) = true ∧ g.sns = g0.sns ∧ g0.onlyWords g [W.MT_REQ r])) ∧
    (∀ r : Fin 8, field wr.data 0 2 = 3 → s.gov.writesNow t (W.MT_REQ r) wr →
      Completes (.mtRestartWindow r wr t) s fun g => g.get64 (W.MT_LAST_LO r) = g0.now % 2 ^ 64 ∧ g.get (F.MT_PMMIN_PMMIN r) = 0xFFFF ∧ g.flag (F.MT_PMMIN_FAILSEEN r) = false ∧ g.sns = g0.sns) ∧
    (∀ r : Fin 8, s.gov.writesNow t (W.MT_RESTORE r) wr → r.val ∉ g0.sns.restored →
      (g0.get (F.MT_GUARD_FLOOR r) ≤ field wr.data 0 12 → field wr.data 0 12 ≤ g0.act (F.MT_CFG_GMAX r) →
        Completes (.mtRestore r wr t) s fun g => g0.stores g (W.MT_RESTORE r) wr.data ∧ g.sns = { g0.sns with guard := g0.sns.guard ++ [(r.val, field wr.data 0 12, 1)], restored := r :: g0.sns.restored }) ∧
      (field wr.data 0 12 < g0.get (F.MT_GUARD_FLOOR r) ∨ g0.act (F.MT_CFG_GMAX r) < field wr.data 0 12 → Completes (.mtRestore r wr t) s fun g => g0.refuses g F.SNS_STATUS_REFUSED [])) ∧
    (∀ r : Fin 8, s.gov.writesNow t (W.MT_RESTORE r) wr → r.val ∈ g0.sns.restored → Completes (.mtRestore r wr t) s fun g => g.resp = 0 ∧ g.sns = g0.sns ∧ g0.onlyWords g []) ∧
    (∀ r : Fin 8, s.gov.engine = true → g0.flag F.LIM_STEADY_STAT_ACTIVE = false → Tab.get (fun _ => 0) g0.sns.heldStep r ≠ 0 →
      let step := Tab.get (fun _ => 0) g0.sns.heldStep r
      Completes (.mtHeldStepApply r t) s fun g => Tab.get (fun _ => 0) g.sns.heldStep r = 0 ∧ g.flag (F.MT_REQ_HELD r) = false ∧
        (g0.trimOk r step = true → g.get (F.MT_GUARD_GUARD r) = (g0.trimGuard r step).toNat % 2 ^ 12 ∧ g.get64 (W.MT_LAST_LO r) = g0.now % 2 ^ 64) ∧
        (g0.trimOk r step = false → g.flag (F.MT_REQ_REFUSED r) = true ∧ g0.onlyWords g [W.MT_REQ r])) ∧
    (∀ r : Fin 8, s.gov.engine = true → g0.running = true → g0.pilotUp 2 = true → g0.actFlag (F.MT_CFG_EN r) = true → g0.get64 (W.MT_LAST_LO r) + 86400000000000 ≤ g0.now → g0.flag F.LIM_STEADY_STAT_ACTIVE = false →
      let pm := g0.get (F.MT_PMMIN_PMMIN r)
      let low := decide (pm < g0.act (F.MT_THR_MT_LO r))
      let high := decide (g0.act (F.MT_THR_MT_HI r) ≤ pm) && !g0.flag (F.MT_PMMIN_FAILSEEN r)
      let guard := g0.get (F.MT_GUARD_GUARD r)
      (low = true → guard + 5 ≤ g0.act (F.MT_CFG_GMAX r) → Completes (.mtWindowDecision r t) s fun g => g.sns.guard = g0.sns.guard ++ [(r.val, guard + 5, 0)]) ∧
      (low = false → high = true → g0.get (F.MT_GUARD_FLOOR r) + 5 ≤ guard → Completes (.mtWindowDecision r t) s fun g => g.sns.guard = g0.sns.guard ++ [(r.val, guard - 5, 0)]) ∧
      (low = false → high = false → Completes (.mtWindowDecision r t) s fun g => g.sns = g0.sns ∧ g.get64 (W.MT_LAST_LO r) = g0.now % 2 ^ 64 ∧ g.get (F.MT_PMMIN_PMMIN r) = 0xFFFF))

/-- A written HBM temperature records its raw value, its timeout and its time; in range and outside the group rule it becomes the value, fresh and with no substitution; the sixteenth reading out of range in a row declares the sensor broken and raises 261. A timeout makes the value stale and counts it, and the fifth in a row breaks the sensor. Writing 1 to BROKEN clears it and its counts. Rows that complete: HBM_TEMP_WRITE, HBM_TEMP_TIMEOUT, SENSOR_BROKEN_CLEAR. -/
def Obligations.SensorRows : Prop :=
  ∀ (wr : PortWrite) (t : Fin 250) (s : State),
    let g0 := s.gov.reach t
    let now := g0.now
    (∀ k : Fin 16, s.gov.writesNow t (W.SNS_HBM_WR k) wr → g0.sns.stuck = [] →
      let temp := toSigned 16 (field wr.data 0 16)
      let out := temp < -2560 ∨ 9600 < temp
      (Completes (.hbmTempWrite k wr t) s fun g => g.resp = 0 ∧ g.get (F.SNS_HBM_WR_TMO k) = field wr.data 16 16 ∧ Tab.get (fun _ => 0) g.sns.hbmAt k = now ∧ g.sget (F.SNS_H_RAW_RAW k) = temp) ∧
      (g0.actFlag (F.SNS_H_CFG_EN k) = true → g0.flag (F.SNS_H_VAL_BROKEN k) = false → g0.actFlag (F.SNS_H_CFG_NOGRP k) = true → ¬ out → g0.get (F.SNS_H_VAL_RCNT k) < 16 →
        Completes (.hbmTempWrite k wr t) s fun g => g.sget (F.SNS_H_VAL_VAL k) = temp ∧ g.flag (F.SNS_H_VAL_STALE k) = false ∧ g.get (F.SNS_H_VAL_STALE_CNT k) = 0 ∧ g.flag (F.SNS_H_VAL_SUBST k) = false ∧ g.flag (F.SNS_H_VAL_NA k) = true ∧
          g.get (F.SNS_H_VAL_RCNT k) = g0.get (F.SNS_H_VAL_RCNT k) ∧ g0.onlyWords g [W.SNS_HBM_WR k, W.SNS_H_RAW k, W.SNS_H_VAL k]) ∧
      (g0.actFlag (F.SNS_H_CFG_EN k) = true → g0.flag (F.SNS_H_VAL_BROKEN k) = false → g0.actFlag (F.SNS_H_CFG_NOGRP k) = true → out → g0.get (F.SNS_H_VAL_RCNT k) = 15 →
        Completes (.hbmTempWrite k wr t) s fun g => g.flag (F.SNS_H_VAL_BROKEN k) = true ∧ g.flag (F.FLT_STATUS_bit 261) = true)) ∧
    (∀ k : Fin 16, s.gov.engine = true → g0.asleep = false → g0.act (F.SNS_HBM_WR_TMO k) ≠ 0 → Tab.get (fun _ => 0) g0.sns.hbmAt k + g0.act (F.SNS_HBM_WR_TMO k) * 1000 ≤ now →
      g0.actFlag (F.SNS_H_CFG_EN k) = true → g0.flag (F.SNS_H_VAL_BROKEN k) = false →
      Completes (.hbmTempTimeout k t) s fun g => Tab.get (fun _ => 0) g.sns.hbmAt k = Tab.get (fun _ => 0) g0.sns.hbmAt k + g0.act (F.SNS_HBM_WR_TMO k) * 1000 ∧ g.flag (F.SNS_H_VAL_STALE k) = true ∧
        g.get (F.SNS_H_VAL_STALE_CNT k) = usat 3 (g0.get (F.SNS_H_VAL_STALE_CNT k) + 1) ∧ g.get F.SNS_CNT_STALE_COUNT = usat 32 (g0.get F.SNS_CNT_STALE_COUNT + 1) ∧
        (g0.get (F.SNS_H_VAL_STALE_CNT k) = 4 → g.flag (F.SNS_H_VAL_BROKEN k) = true ∧ g.flag (F.FLT_STATUS_bit 261) = true)) ∧
    (∀ (addr : BitVec 18) (k : Nat), let off := 4 * addr.toNat
      brokenBit off = some k → bit wr.data.toNat k = true → s.gov.writesNow t off wr → g0.get ⟨off, k, 1⟩ = 1 → g0.sns.stuck = [] →
      Completes (.sensorBrokenClear addr wr t) s fun g => g.get ⟨off, k, 1⟩ = 0 ∧ g0.onlyWords g [off] ∧
        (off < 0x32100 → g.get ⟨off, 24, 5⟩ = 0 ∧ g.get ⟨off, 20, 3⟩ = 0) ∧ (0x32100 ≤ off → off < 0x32300 → g.get ⟨off, 8, 5⟩ = 0 ∧ g.get ⟨off, 2, 3⟩ = 0) ∧
        (0x32300 ≤ off → off < 0x32400 → g.get ⟨off, 8, 5⟩ = 0) ∧ (0x32800 ≤ off → g.get ⟨off, 4, 5⟩ = 0 ∧ g.get ⟨off, 1, 3⟩ = 0))

/-- Setting PRESENT is refused with reason 1, 2 or 3 as its rule says, ignored with LOCKED_WR under the lock, and else stored for the next sample, or ends a retirement; clearing it begins one. Quarantine, collector and suspect bits clear where written 1, under their refusals; reactions are stored where legal; the ledger's window and freeze controls act or are refused. Rows that complete: BERTH_PRESENT_SET, BERTH_PRESENT_CLEAR, QUARANTINE_RELEASE, COLLECTOR_BIT_CLEAR, REACTION_WRITE, SUSPECT_CLEAR, FREEZE_WRITE, WINDOW_ENABLE, WINDOW_DISABLE. -/
def Obligations.BerthAndFaultWrites : Prop :=
  ∀ (wr : PortWrite) (t : Fin 250) (s : State),
    let g0 := s.gov.reach t
    (∀ b : Fin 256,
      let off := W.BT_CFG b
      let fits := g0.get (F.BT_PEAK_CNT_PEAK_CNT b) ≠ 0 ∧ slopeBad (g0.word (W.BT_SLOPE b)) (g0.word (W.BT_OPEN b)) = false ∧ g0.get F.ASL_CFG_PRESS < g0.get (F.BT_OPEN_HEAD b)
      let refused := fun (rsn : Nat) (g : Gov) => g0.refuses g F.GOV_BT_REF_REFUSED [F.GOV_BT_REF_BERTH, F.GOV_BT_REF_RSN] ∧ g.get F.GOV_BT_REF_BERTH = b ∧ g.get F.GOV_BT_REF_RSN = rsn
      let same := field wr.data 1 7 = field (g0.word off) 1 7
      s.gov.writesNow t off wr →
      (g0.flag F.GOV_LOCK_BT = true → Completes (if bit wr.data.toNat 0 then .berthPresentSet b wr t else .berthPresentClear b wr t) s fun g => g0.refuses g F.GOV_LOCK_STAT_LOCKED_WR []) ∧
      (g0.flag F.GOV_LOCK_BT = false →
      ((bit wr.data.toNat 0 = true → g0.flag (F.BT_CFG_PRESENT b) = false →
        (g0.present b = true → ¬ same → Completes (.berthPresentSet b wr t) s (refused 2)) ∧
        (g0.present b = false ∨ same → ¬ fits → Completes (.berthPresentSet b wr t) s (refused 1)) ∧
        (g0.present b = false ∨ same → fits → g0.flag F.PS_STAT_BUSY = true → Completes (.berthPresentSet b wr t) s (refused 3)) ∧
        (g0.present b = false ∨ same → fits → g0.flag F.PS_STAT_BUSY = false → g0.flag (F.BT_CFG_RETIRING b) = false → Completes (.berthPresentSet b wr t) s fun g => g0.storesLater g off wr.data) ∧
        (same → fits → g0.flag F.PS_STAT_BUSY = false → g0.flag (F.BT_CFG_RETIRING b) = true →
          Completes (.berthPresentSet b wr t) s fun g => g.resp = 0 ∧ g.flag (F.BT_CFG_PRESENT b) = true ∧ g.flag (F.BT_CFG_RETIRING b) = false ∧ g0.onlyWords g [off] ∧ g.fcu = g0.fcu)) ∧
      (bit wr.data.toNat 0 = false → g0.flag (F.BT_CFG_PRESENT b) = true →
        (same → g0.flag F.PS_STAT_BUSY = false →
          Completes (.berthPresentClear b wr t) s fun g => g.resp = 0 ∧ g.flag (F.BT_CFG_PRESENT b) = false ∧ g.flag (F.BT_CFG_RETIRING b) = true ∧ g0.onlyWords g [off] ∧ ∀ o, g.actWord o = g0.actWord o) ∧
        (same → g0.flag F.PS_STAT_BUSY = true → Completes (.berthPresentClear b wr t) s (refused 3)) ∧ (¬ same → Completes (.berthPresentClear b wr t) s (refused 2)))))) ∧
    (∀ i : Fin 8, s.gov.writesNow t (W.FLT_QUAR i) wr →
      let stands := ∃ k : Fin 32, bit wr.data.toNat k = true ∧ g0.flag (F.FLT_STATUS_bit (32 * i + k)) = true
      (¬ stands → Completes (.quarantineRelease i wr t) s fun g => g.resp = 0 ∧ g.word (W.FLT_QUAR i) = g0.word (W.FLT_QUAR i) &&& ~~~wr.data ∧ g0.onlyWords g [W.FLT_QUAR i]) ∧
      (stands → Completes (.quarantineRelease i wr t) s fun g => g0.refuses g F.FLT_CTRL_REFUSED [])) ∧
    (∀ i : Fin 10, s.gov.writesNow t (W.FLT_STATUS i) wr →
      Completes (.collectorBitClear i wr t) s fun g => g.resp = 0 ∧ g.word (W.FLT_STATUS i) = g0.word (W.FLT_STATUS i) &&& ~~~wr.data ∧ g0.onlyWords g [W.FLT_STATUS i]) ∧
    (∀ i : Fin 40, s.gov.writesNow t (W.FLT_REACT i) wr →
      let legal := ∀ k : Fin 8, reactionOk (8 * i + k) (field wr.data (4 * k) 3) = true
      (g0.flag F.FLT_CTRL_LOCK = true → Completes (.reactionWrite i wr t) s fun g => g0.refuses g F.GOV_LOCK_STAT_LOCKED_WR []) ∧
      (g0.flag F.FLT_CTRL_LOCK = false → legal → Completes (.reactionWrite i wr t) s fun g => g0.stores g (W.FLT_REACT i) wr.data) ∧
      (g0.flag F.FLT_CTRL_LOCK = false → ¬ legal → Completes (.reactionWrite i wr t) s fun g => g0.refuses g F.FLT_CTRL_REFUSED [])) ∧
    (∀ i : Fin 8, s.gov.writesNow t (W.FLT_SUSPECT i) wr →
      Completes (.suspectClear i wr t) s fun g => g.resp = 0 ∧ g.word (W.FLT_SUSPECT i) = g0.word (W.FLT_SUSPECT i) &&& ~~~wr.data ∧
        ∀ k : Fin 32, g.get (F.FLT_SIL_CNT_CNT (32 * i + k)) = if bit wr.data.toNat k && g0.flag (F.FLT_SUSPECT_bit (32 * i + k)) then 0 else g0.get (F.FLT_SIL_CNT_CNT (32 * i + k))) ∧
    (s.gov.writesNow t W.LDG_CTRL wr →
      let refused := (bit wr.data.toNat 2 ≠ g0.flag F.LDG_CTRL_SG1_MODE ∧ (g0.flag F.LDG_CTRL_WIN_EN = true ∨ bit wr.data.toNat 1 = true)) ∨ (bit wr.data.toNat 1 = true ∧ g0.flag F.LDG_CTRL_WIN_EN = false ∧ g0.flag F.IDL_STAT_ALIGN_PEND = true)
      let hold := if bit wr.data.toNat 0 = false then none else if g0.flag F.LDG_CTRL_FREEZE = true then g0.led.frozen else some g0.led.commit
      let cut := g0.led.winCut || (g0.flag F.LDG_CTRL_WIN_EN && !bit wr.data.toNat 1 && g0.led.winOn)
      let taken := fun (g : Gov) => g0.stores g W.LDG_CTRL wr.data ∧ g.led = { g0.led with frozen := hold, winCut := cut }
      let turnedAway := fun (g : Gov) => g0.refuses g F.LDG_STATUS_REFUSED []
      (¬ refused → Completes (.freezeWrite wr t) s taken ∧ (bit wr.data.toNat 1 = true → Completes (.windowEnable wr t) s taken) ∧ (bit wr.data.toNat 1 = false → Completes (.windowDisable wr t) s taken)) ∧
      (refused → Completes (.freezeWrite wr t) s turnedAway ∧ (bit wr.data.toNat 1 = true → Completes (.windowEnable wr t) s turnedAway) ∧ (bit wr.data.toNat 1 = false → Completes (.windowDisable wr t) s turnedAway)))

/-- A write that enables the Hawser is refused while a window or an account is open, else stored with alignment pending. Enumeration begins at the root with both links up, and is an error with a link down; WAKE begins the wake pattern; a stop takes the next ID; a stop without an action is refused; a progress write publishes JOB, PROG and STEP at its time. Rows that complete: HAWSER_ENABLE, ENUMERATE, IDL_WAKE, GLOBAL_STOP_WRITE, PROGRESS_PUBLISH. -/
def Obligations.HawserWrites : Prop :=
  ∀ (wr : PortWrite) (t : Fin 250) (s : State),
    let g0 := s.gov.reach t
    let now := g0.now
    let refused := fun (g : Gov) => g0.refuses g F.IDL_EVT_REFUSED []
    (bit wr.data.toNat 2 = true → s.gov.writesNow t W.IDL_CFG wr →
      (g0.flag F.IDL_CFG_EN = false → g0.flag F.LDG_CTRL_WIN_EN = false → g0.anyOpen = false →
        Completes (.hawserEnable wr t) s fun g => g.resp = 0 ∧ g.flag F.IDL_CFG_EN = true ∧ g.word W.IDL_CFG = g0.merged W.IDL_CFG wr.data ∧ g.flag F.IDL_STAT_ALIGN_PEND = !bit wr.data.toNat 3 ∧
          (g.get F.IDL_STAT_MODE = 1 ∨ g.get F.IDL_STAT_MODE = 2) ∧ g.hws.compared = false ∧ g0.onlyWords g [W.IDL_CFG, W.IDL_STAT]) ∧
      (g0.flag F.IDL_CFG_EN = false → g0.flag F.LDG_CTRL_WIN_EN = true ∨ g0.anyOpen = true → Completes (.hawserEnable wr t) s refused) ∧
      (g0.flag F.IDL_CFG_EN = true → Completes (.hawserEnable wr t) s fun g => g.resp = 0 ∧ g.word W.IDL_CFG = g0.merged W.IDL_CFG wr.data ∧ g.get F.IDL_STAT_MODE = g0.get F.IDL_STAT_MODE ∧ g.flag F.IDL_STAT_ALIGN_PEND = g0.flag F.IDL_STAT_ALIGN_PEND)) ∧
    (s.gov.writesNow t W.IDL_CTRL wr →
      (field wr.data 0 4 = 1 → g0.isRoot = true → g0.get F.IDL_STAT_UP_LINK = 2 → g0.get F.IDL_STAT_DN_LINK = 2 →
        Completes (.enumerate wr t) s fun g => g.resp = 0 ∧ g.hws = { g0.hws with enum := 1 } ∧ g0.onlyWords g [W.IDL_CTRL]) ∧
      (field wr.data 0 4 = 1 → g0.isRoot = true → g0.get F.IDL_STAT_UP_LINK ≠ 2 ∨ g0.get F.IDL_STAT_DN_LINK ≠ 2 →
        Completes (.enumerate wr t) s fun g => g.flag F.IDL_EVT_ENUM_ERR = true ∧ g.hws = g0.hws ∧ g0.onlyWords g [W.IDL_CTRL, W.IDL_EVT]) ∧
      (field wr.data 0 4 = 1 → g0.isRoot = false → Completes (.enumerate wr t) s refused) ∧
      (field wr.data 0 4 = 2 → Completes (.idlWake wr t) s fun g => g.resp = 0 ∧ g.hws = { g0.hws with waking := some (now, g0.portsOn [0, 1]) } ∧ g0.onlyWords g [W.IDL_CTRL]) ∧
      (let last := match g0.hws.stopReq with | some (id, _) => id | none => g0.get F.IDL_STOP_REC_ID
       field wr.data 0 4 = 8 → field wr.data 4 2 ≠ 0 → Completes (.globalStopWrite wr t) s fun g => g.resp = 0 ∧ g.hws = { g0.hws with stopReq := some ((last + 1) % 256, field wr.data 4 2) } ∧ g0.onlyWords g [W.IDL_CTRL]) ∧
      (bit wr.data.toNat 3 = true → field wr.data 4 2 = 0 → Completes (.globalStopWrite wr t) s refused)) ∧
    (s.gov.writesNow t W.IDL_PROG_STEP wr →
      Completes (.progressPublish wr t) s fun g => g0.stores g W.IDL_PROG_STEP wr.data ∧ g.hws = { g0.hws with prog := (g0.get F.IDL_PROG_POS_JOB, g0.get F.IDL_PROG_POS_PROG, wr.data.toNat), progAt := some now } ∧
        g.led = { g0.led with step := wr.data.toNat, stepNew := g0.led.stepNew || decide (g0.led.step ≠ wr.data.toNat) })

/-- An entry that may begin sets BUSY, its target, phase 1, the attempt count and the requested code; one that may not shows RESULT REFUSED and nothing else. An exit begins with its own phase and causes cleared. A cancel of a handshake reverts it, with RESULT ABORT, the abort counted and GOV_IRQ_SRC.PS. PS_REQUEST does the same and answers; GLOBAL_STOP takes the next stop ID and answers it, deferred unless it releases. Rows that complete: PS_ENTRY_REQUEST, PS_EXIT_REQUEST, PS_CANCEL, PS_REQUEST, GLOBAL_STOP. -/
def Obligations.StopAndPowerRequests : Prop :=
  ∀ (t : Fin 250) (s : State),
    let g0 := s.gov.reach t
    let fits := fun (target : Nat) => (g0.state = stRun ∨ g0.state = stIdle) ∧ 1 ≤ target ∧ target ≤ 4 ∧ target ≠ g0.state ∧ g0.flag F.PS_STAT_BUSY = false ∧ g0.flag F.LIM_STEADY_STAT_ACTIVE = false
    let someone := ∃ b : Fin 256, g0.present b = true ∧ g0.quar b = false
    let entered := fun (target : Nat) (g : Gov) => g.flag F.PS_STAT_BUSY = true ∧ g.psTo = target ∧ g.get F.PS_STAT_PHASE = 1 ∧ g.get F.PS_STAT_ATTEMPT = (g0.get F.PS_STAT_ATTEMPT + 1) % 2 ^ 16 ∧
      g.get F.PS_WAKE_STAT_LATCH = 0 ∧ g.pwr.step = 1 ∧ g.pwr.psReq = target ∧ g.state = g0.state
    let leaves := fun (g : Gov) => g.flag F.PS_STAT_BUSY = true ∧ g.psTo = 0 ∧ g.get F.PS_STAT_PHASE = 4 ∧ g.get F.PS_WAKE_STAT_CAUSE = 0 ∧ g.get F.PS_WAKE_STAT_LATCH = 0 ∧ g.pwr.step = if g0.asleep = true then 10 else 11
    let cancelled := fun (g : Gov) => g.pwr.step = 9 ∧ g.pwr.psReq = g0.state ∧ g.get F.PS_STAT_PHASE = 5 ∧ g.get F.PS_STAT_RESULT = 2 ∧ g.get F.PS_CNT_ABORT_COUNT = usat 32 (g0.get F.PS_CNT_ABORT_COUNT + 1) ∧ g.flag F.GOV_IRQ_SRC_PS = true
    (∀ wr : PortWrite, s.gov.writesNow t W.PS_CTRL wr → let target := field wr.data 0 3
      (field wr.data 4 3 = 1 → target ≠ 0 → fits target → someone → Completes (.psEntryRequest wr t) s (entered target)) ∧
      (field wr.data 4 3 = 1 → target ≠ 0 → ¬ fits target → Completes (.psEntryRequest wr t) s fun g => g.resp = 0 ∧ g.get F.PS_STAT_RESULT = 3 ∧ g.pwr = g0.pwr ∧ g0.onlyWords g [W.PS_CTRL, W.PS_STAT]) ∧
      (field wr.data 4 3 = 1 → target = 0 → g0.state ≠ stRun → g0.state ≠ stOff → g0.flag F.PS_STAT_BUSY = false → Completes (.psExitRequest wr t) s leaves) ∧
      (field wr.data 4 3 = 1 → target = 0 → g0.state = stRun ∨ g0.state = stOff ∨ g0.flag F.PS_STAT_BUSY = true → Completes (.psExitRequest wr t) s fun g => g.resp = 0 ∧ g.get F.PS_STAT_RESULT = 3 ∧ g.pwr = g0.pwr ∧ g0.onlyWords g [W.PS_CTRL, W.PS_STAT]) ∧
      (field wr.data 4 3 = 2 → g0.pwr.step = 1 → someone → Completes (.psCancel wr t) s cancelled) ∧
      (field wr.data 4 3 = 2 → g0.pwr.step ≠ 1 → Completes (.psCancel wr t) s fun g => g.resp = 0 ∧ g.pwr = g0.pwr ∧ g0.onlyWords g [W.PS_CTRL])) ∧
    (∀ (n : Fin 16) (ws : List Nat), s.gov.serves t n 0x15 ws → paramCount ws (· == 1) = true →
      let target := bits (param ws 0) 0 3
      (bit (param ws 0) 8 = true → g0.pwr.step = 1 → g0.pwr.cmdChan = none → someone → Completes (.psRequest n t) s fun g => cancelled g ∧ g.replied n ws stOk [2]) ∧
      (bit (param ws 0) 8 = true → g0.pwr.step ≠ 1 → Completes (.psRequest n t) s fun g => g.pwr = g0.pwr ∧ g.replied n ws stOk [g0.get F.PS_STAT_RESULT]) ∧
      (bit (param ws 0) 8 = false → target = 0 → g0.state = stIdle → g0.flag F.PS_STAT_BUSY = false → Completes (.psRequest n t) s fun g => leaves g ∧ g.replied n ws stDeferred [g0.get F.PS_STAT_RESULT]) ∧
      (bit (param ws 0) 8 = false → fits target → someone →
        Completes (.psRequest n t) s fun g => entered target g ∧ g.pwr.cmdChan = some n ∧ ∃ r, g.req n = some r ∧ r.words = ws ∧ r.phase = .serving) ∧
      (bit (param ws 0) 8 = false → ¬ fits target → ¬ (target = 0 ∧ g0.state = stIdle ∧ g0.flag F.PS_STAT_BUSY = false) →
        Completes (.psRequest n t) s fun g => g.replied n ws stState [] ∧ g.get F.PS_STAT_RESULT = 3 ∧ g.pwr = g0.pwr)) ∧
    (∀ (n : Fin 16) (ws : List Nat), s.gov.serves t n 0x16 ws → paramCount ws (· == 1) = true →
      let action := bits (param ws 0) 0 2
      let last := match g0.hws.stopReq with | some (id, _) => id | none => g0.get F.IDL_STOP_REC_ID
      let id := (last + 1) % 256
      (action ≠ 0 → g0.flag F.IDL_CFG_EN = true → Completes (.globalStop n t) s fun g => g.hws = { g0.hws with stopReq := some (id, action) } ∧ g.replied n ws (if action = 3 then stOk else stDeferred) [id]) ∧
      (action ≠ 0 → g0.flag F.IDL_CFG_EN = false → Completes (.globalStop n t) s fun g => g.hws = g0.hws ∧ g.replied n ws stState []) ∧
      (action = 0 → Completes (.globalStop n t) s fun g => g.hws = g0.hws ∧ g.replied n ws stParam []))

/-- A watchdog expiry, a trap, a panic or an uncorrectable SRAM word of a running pilot restarts it: RESTARTING, counted, its cause recorded, its source raised, reloaded now or in turn. A requested restart has cause 5, and is refused during an update. A completed reload runs the pilot where the flash still holds its section, else it is HELD; the next waiting pilot follows. A kick records its time; a lapse enters harbour mode. Rows that complete: WATCHDOG_EXPIRY, PILOT_TRAP, PILOT_PANIC, PILOT_SRAM_UNCORRECTABLE, PILOT_RESTART_REQUEST, PILOT_RESTART_COMPLETE, HEARTBEAT, HEARTBEAT_LAPSE. -/
def Obligations.PilotEvents : Prop :=
  ∀ (k : Fin 3) (t : Fin 250) (s : State),
    let g0 := s.gov.reach t
    let now := g0.now
    let restarted := fun (j : Fin 3) (cause : Nat) (g : Gov) => g.get (F.FWP_PSTATE_STATE j) = 3 ∧ g.get (F.FWP_RST_CNT_COUNT j) = usat 32 (g0.get (F.FWP_RST_CNT_COUNT j) + 1) ∧ g.get F.FWP_RST_LAST_PILOT = j ∧ g.get F.FWP_RST_LAST_CAUSE = cause
    let failed := fun (cause src : Nat) (g : Gov) => restarted k cause g ∧ g.flag (F.FLT_STATUS_bit src) = true ∧ (g0.firm.cur = none → g.firm.cur = some k.val) ∧ (∀ j, g0.firm.cur = some j → g.firm.cur = some j ∧ k.val ∈ g.firm.waiting)
    (g0.pilotsOn = true → g0.pilotUp k = true → ∀ pc : Word,
      Completes (.watchdogExpiry k pc t) s (failed 1 (281 + k)) ∧ Completes (.pilotTrap k pc t) s (failed 3 (281 + k)) ∧ Completes (.pilotPanic k pc t) s (failed 6 (281 + k)) ∧
        ∀ addr : Nat, Completes (.pilotSramUncorrectable k addr t) s (failed 2 (285 + k))) ∧
    (∀ wr : PortWrite, s.gov.writesNow t W.FWP_RST_REQ wr → field wr.data 0 3 = 2 ^ k.val →
      (g0.pilotsOn = true → g0.pilotUp k = true → g0.get F.FWP_UPD_USTATE ≠ 1 → g0.get F.FWP_UPD_USTATE ≠ 2 → Completes (.pilotRestartRequest wr t) s fun g => g.resp = 0 ∧ restarted k 5 g) ∧
      (g0.get F.FWP_UPD_USTATE = 1 ∨ g0.get F.FWP_UPD_USTATE = 2 → Completes (.pilotRestartRequest wr t) s fun g => g0.refuses g F.SUP_STAT_REFUSED [])) ∧
    (g0.pilotsOn = true → g0.firm.cur = some k.val → g0.firm.rolling.head? ≠ some k.val →
      let kept := g0.get F.FWP_UPD_USTATE ≠ 1 ∧ g0.get F.FWP_UPD_USTATE ≠ 2 ∧ sectionDigest s.keep.flash k = g0.firm.image.secDig.getD k 0
      (kept → Completes (.pilotRestartComplete k t) s fun g => g.get (F.FWP_PSTATE_STATE k) = 2 ∧ (g0.firm.waiting = [] → g0.firm.rolling = [] → g.firm.cur = none) ∧ ∀ j rest, g0.firm.waiting = j :: rest → g.firm.cur = some j ∧ g.firm.waiting = rest) ∧
      (¬ kept → Completes (.pilotRestartComplete k t) s fun g => g.get (F.FWP_PSTATE_STATE k) = 4 ∧ ∀ j rest, g0.firm.waiting = j :: rest → g.firm.cur = some j ∧ g.firm.waiting = rest)) ∧
    (∀ wr : PortWrite, s.gov.writesNow t W.SUP_HB_KICK wr → Completes (.heartbeat wr t) s fun g => g.resp = 0 ∧ g.firm = { g0.firm with lastKick := now } ∧ g0.onlyWords g []) ∧
    (s.gov.up = true → g0.firm.watched = true → g0.get F.SUP_HB_HB_TMO ≠ 0 → g0.flag F.SUP_STAT_HARBOUR = false → g0.firm.lastKick + g0.get F.SUP_HB_HB_TMO * 1000000 ≤ now →
      Completes (.heartbeatLapse t) s fun g => g.flag F.SUP_STAT_HARBOUR = true ∧ g.flag F.SUP_STAT_HB_LAPSE = true ∧ g.flag F.GOV_IRQ_SRC_HARBOUR = true ∧ g.lim = { g0.lim with harbour := true } ∧
        g0.onlyFields g [F.SUP_STAT_HARBOUR, F.SUP_STAT_HB_LAPSE, F.GOV_IRQ_SRC_HARBOUR])

/-- A read of an SG-1 counter answers it and clears it. A drain read of an empty buffer answers 0; else the next word of its oldest record, and the fourth word removes the record and clears FULL. Arming the watch stores its word and clears its result; an unknown variable is refused. A watch hit shows MISSED, ABANDONED, or its value, place and writer count. Rows that complete: SG1_COUNTER_READ, TRACE_DRAIN_READ, WATCH_ARM, WATCH_HIT. -/
def Obligations.TraceReads : Prop :=
  ∀ (t : Fin 250) (s : State),
    let g0 := s.gov.reach t
    (∀ k : Fin 11, s.gov.up = true → g0.asleep = false → Completes (.sg1CounterRead k t) s fun g => g.resp = 0 ∧ g.rdata = g0.view (W.SG1_CNT k) ∧ g.word (W.SG1_CNT k) = 0 ∧ g0.onlyWords g [W.SG1_CNT k]) ∧
    (∀ (n : Fin 4) (i : Fin 256), s.gov.up = true → g0.asleep = false →
      let b := g0.buf n
      (b.recs = [] → Completes (.traceDrainRead n i t) s fun g => g.resp = 0 ∧ g.rdata = 0 ∧ g.trc = g0.trc ∧ g0.onlyWords g []) ∧
      (∀ r rest, b.recs = r :: rest → b.word ≠ 3 → Completes (.traceDrainRead n i t) s fun g => g.resp = 0 ∧ g.rdata = BitVec.ofNat 32 (r.getD b.word 0) ∧ g.buf n = { b with word := b.word + 1 } ∧ (∀ m : Fin 4, m ≠ n → g.buf m = g0.buf m) ∧ g0.onlyWords g [W.TRC_STAT n]) ∧
      (∀ r rest, b.recs = r :: rest → b.word = 3 → Completes (.traceDrainRead n i t) s fun g => g.resp = 0 ∧ g.rdata = BitVec.ofNat 32 (r.getD 3 0) ∧ g.buf n = { b with recs := rest, word := 0 } ∧ g.flag (F.TRC_STAT_FULL n) = false ∧
        (∀ m : Fin 4, m ≠ n → g.buf m = g0.buf m) ∧ g0.onlyWords g [W.TRC_STAT n])) ∧
    (∀ wr : PortWrite, s.gov.writesNow t W.TRC_WATCH_CFG wr →
      (watchVar (field wr.data 10 6) = true → Completes (.watchArm wr t) s fun g => g.resp = 0 ∧ g.word W.TRC_WATCH_CFG = g0.merged W.TRC_WATCH_CFG wr.data ∧ g.flag F.TRC_WATCH_STAT_ARMED = bit wr.data.toNat 16 ∧
        g.trc = { g0.trc with hit := none, stream := false, relNew := bit wr.data.toNat 16 && bit wr.data.toNat 17, target := if bit wr.data.toNat 16 && !bit wr.data.toNat 17 then some (g0.word W.TRC_WATCH_SNUM).toNat else none } ∧ g0.onlyWords g [W.TRC_WATCH_CFG, W.TRC_WATCH_STAT]) ∧
      (watchVar (field wr.data 10 6) = false → Completes (.watchArm wr t) s fun g => g0.refuses g F.TRC_CTRL_REFUSED [])) ∧
    (∀ h : WatchHit, s.gov.engine = true → g0.trc.hit = some h →
      (h.missed = true → Completes (.watchHit t) s fun g => g.flag F.TRC_WATCH_STAT_MISSED = true ∧ g.flag F.TRC_WATCH_STAT_ARMED = false ∧ g.trc.hit = none ∧ g0.onlyWords g [W.TRC_WATCH_STAT]) ∧
      (h.missed = false → h.res = none → Completes (.watchHit t) s fun g => g.flag F.TRC_WATCH_STAT_ABANDONED = true ∧ g.flag F.TRC_WATCH_STAT_ARMED = false ∧ g.trc.hit = none ∧ g0.onlyWords g [W.TRC_WATCH_STAT]) ∧
      (∀ r, h.missed = false → h.res = some r → g0.get F.TRC_WATCH_CFG_VAR = 0x18 →
        Completes (.watchHit t) s fun g => g.flag F.TRC_WATCH_STAT_DONE = true ∧ g.get F.TRC_WATCH_STAT_WRITTEN = r.wrote % 2 ^ 8 ∧ g.get64 W.TRC_WATCH_VAL = ofSigned 48 h.out % 2 ^ 48 ∧ g.get64 W.TRC_WATCH_HIT = h.idx % 2 ^ 48 ∧
          (g.flag F.TRC_WATCH_STAT_ARMED = true ↔ g0.flag F.TRC_WATCH_STAT_ARMED = true ∧ g0.flag F.TRC_WATCH_CFG_STREAM = true)))

/-- A request word written while the window is busy sets OVR alone; else it is stored, and a trailer whose length fits takes the packet where its CRC is right, or counts a CRC failure. A taken packet meets the checks in the order of R357, each with its own status and no other word than the channel's changed; a duplicate is answered from the journal with DUP; a packet that passes waits on its unsignalled fence or is ready. Writing RDY frees the window; ABORT and the timeout end a fence wait with their statuses; CLEAR empties an untaken window. Rows that complete: COMMAND_TAKE, REPLY_RELEASE, FENCE_WAIT_ABORT, REQUEST_WINDOW_CLEAR, FENCE_WAIT_TIMEOUT. -/
def Obligations.Packets : Prop :=
  ∀ (n : Fin 16) (t : Fin 250) (s : State),
    let g0 := s.gov.reach t
    let taken := fun (g : Gov) => g.get (F.CMD_CNT_TAKEN_COUNT n) = usat 32 (g0.get (F.CMD_CNT_TAKEN_COUNT n) + 1)
    let window := (List.range 64).map fun i => W.CMD_REQ n i
    let emptied := fun (g : Gov) => ∀ i : Fin 64, g.word (W.CMD_REQ n i) = 0
    (∀ (i : Fin 64) (wr : PortWrite), s.gov.writesNow t (W.CMD_REQ n i) wr →
      let ws := (g0.setWord (W.CMD_REQ n i) wr.data).window n
      let len := pkLen ws
      let pk := ws.take len
      let good := 3 ≤ len ∧ len ≤ 64 ∧ wr.data.toNat = crcWords (ws.take (len - 1))
      (g0.windowBusy n = true → Completes (.commandTake n i wr t) s fun g => g0.refuses g (F.CMD_STAT_OVR n) [] ∧ g.cmd = g0.cmd) ∧
      (g0.windowBusy n = false → len ≠ i + 1 → Completes (.commandTake n i wr t) s fun g => g.resp = 0 ∧ g.word (W.CMD_REQ n i) = wr.data ∧ g0.onlyWords g [W.CMD_REQ n i] ∧ g.cmd = g0.cmd) ∧
      (g0.windowBusy n = false → len = i + 1 → ¬ good → Completes (.commandTake n i wr t) s fun g => g.resp = 0 ∧ g.word (W.CMD_REQ n i) = wr.data ∧ g.flag (F.CMD_STAT_CRC_FAIL n) = true ∧
        g.get (F.CMD_CNT_CRC_COUNT n) = usat 32 (g0.get (F.CMD_CNT_CRC_COUNT n) + 1) ∧ g0.onlyWords g [W.CMD_REQ n i, W.CMD_STAT n, W.CMD_CNT_CRC n] ∧ g.cmd = g0.cmd) ∧
      (g0.windowBusy n = false → len = i + 1 → good →
        let turnedAway := fun (status : Nat) => Completes (.commandTake n i wr t) s fun g => taken g ∧ g.get (F.CMD_STAT_LAST_SEQ n) = pkSeq pk ∧ g.replied n pk status [] ∧ g0.onlyChannel g n [W.CMD_CNT_TAKEN n]
        if g0.anchored then turnedAway stAnchor
        else match channelPilot n with
          | none => turnedAway stBadChannel
          | some k =>
            if bits (pw pk 0) 0 8 ≠ 0 ∨ pkChannel pk ≠ n ∨ 3 ≤ pkClass pk then turnedAway stMalformed
            else match g0.seqNew n (pkSeq pk) with
              | none => turnedAway stStaleSeq
              | some false => Completes (.commandTake n i wr t) s fun g => taken g ∧ g.flag (F.CMD_STAT_DUP n) = true ∧ g.replied n pk (g0.get (F.SUP_JOURNAL_RESULT n)) [] ∧ g.word (W.SUP_JOURNAL n) = g0.word (W.SUP_JOURNAL n)
              | some true =>
                if g0.pilotRestarts k = true then turnedAway stPilotRestarting
                else if g0.flag F.SUP_STAT_SESSION = false ∧ pkOpcode pk ≠ 0 ∧ pkOpcode pk ≠ 1 ∧ pkOpcode pk ≠ 2 then turnedAway stNoSession
                else if n.val ≤ 1 ∧ g0.flag F.SUP_STAT_SESSION = true ∧ g0.firm.major = false then turnedAway stVersion
                else if opcodeListed (pkOpcode pk) = false then Completes (.commandTake n i wr t) s fun g => taken g ∧ g0.answered g n pk stBadOpcode [] [W.CMD_CNT_TAKEN n]
                else Completes (.commandTake n i wr t) s fun g => taken g ∧ g.get (F.CMD_STAT_LAST_SEQ n) = pkSeq pk ∧ g.flag (F.CMD_STAT_TAKEN n) = true ∧ g0.onlyChannel g n [W.CMD_CNT_TAKEN n] ∧
                  ∃ r, g.req n = some r ∧ r.words = pk ∧ r.doom = none ∧ r.taken = g0.now ∧
                    let waits := pkFwait pk = true ∧ check7 n pk = none ∧ g0.check8 pk = none ∧ g0.flag (F.FENCE_STATE_bit (pkFence pk)) = false
                    (waits → r.phase = .waiting ∧ g.flag (F.CMD_STAT_WAIT n) = true) ∧ (¬ waits → r.phase = .ready ∨ r.phase = .begun))) ∧
    (∀ wr : PortWrite, s.gov.writesNow t (W.CMD_STAT n) wr → bit wr.data.toNat 2 = true →
      (g0.flag (F.CMD_STAT_RDY n) = true → Completes (.replyRelease n wr t) s fun g => g.resp = 0 ∧ g.flag (F.CMD_STAT_RDY n) = false ∧ emptied g ∧ g0.onlyWords g (W.CMD_STAT n :: window)) ∧
      (g0.flag (F.CMD_STAT_RDY n) = false → Completes (.replyRelease n wr t) s fun g => g0.stores g (W.CMD_STAT n) wr.data)) ∧
    (∀ wr : PortWrite, s.gov.writesNow t (W.CMD_CTRL n) wr →
      (bit wr.data.toNat 0 = true → bit wr.data.toNat 1 = false →
        (∀ r, g0.req n = some r → r.phase = .waiting → Completes (.fenceWaitAbort n wr t) s fun g => g.resp = 0 ∧ g0.answered g n r.words stAborted [] []) ∧
        ((∀ r, g0.req n = some r → r.phase ≠ .waiting) → Completes (.fenceWaitAbort n wr t) s fun g => g.resp = 0 ∧ g0.onlyWords g [] ∧ g.cmd = g0.cmd)) ∧
      (bit wr.data.toNat 1 = true → bit wr.data.toNat 0 = false →
        (g0.flag (F.CMD_STAT_TAKEN n) = false → Completes (.requestWindowClear n wr t) s fun g => g.resp = 0 ∧ emptied g ∧ g0.onlyWords g window) ∧
        (g0.flag (F.CMD_STAT_TAKEN n) = true → Completes (.requestWindowClear n wr t) s fun g => g.resp = 0 ∧ g0.onlyWords g []))) ∧
    (∀ r, s.gov.up = true → g0.req n = some r → r.phase = .waiting → r.doom = none → g0.get F.CMD_CFG_WAIT_TMO ≠ 0 → r.taken + g0.get F.CMD_CFG_WAIT_TMO * 1000000 ≤ g0.now →
      Completes (.fenceWaitTimeout n t) s fun g => g0.answered g n r.words stFenceTimeout [] [])

/-- For a request its pilot serves, with the right number of parameters: NOP answers OK (and PARAM with the wrong number); SESSION_OPEN takes the next ID, the common features and the major version, ends harbour mode, starts the supervision clock and ends what the earlier session left unbegun; VERSION_QUERY, TELEM_READ and FENCE_QUERY answer the words named; FENCE_RESET clears its range of fences. A bad parameter answers PARAM. Where the command signals no fence, only its channel's words and those named change. Rows that complete: NOP, SESSION_OPEN, VERSION_QUERY, TELEM_READ, FENCE_RESET, FENCE_QUERY. -/
def Obligations.SessionAndFences : Prop :=
  ∀ (n : Fin 16) (ws : List Nat) (t : Fin 250) (s : State),
    let g0 := s.gov.reach t
    let count := fun (k : Nat) => paramCount ws (· == k) = true
    (s.gov.serves t n 0x00 ws → count 0 → Completes (.nop n t) s fun g => g0.answered g n ws stOk [] []) ∧
    (s.gov.serves t n 0x00 ws → ¬ count 0 → Completes (.nop n t) s fun g => g0.answered g n ws stParam [] []) ∧
    (s.gov.serves t n 0x01 ws → count 3 → param ws 0 < 2 ^ 16 → Completes (.sessionOpen n t) s fun g =>
      let id := (g0.get F.SUP_SESSION_ID + 1) % 2 ^ 16
      let feat := (param ws 1 + 2 ^ 32 * param ws 2) &&& g0.get64 W.FWP_FEAT
      let major := decide (param ws 0 = g0.get64 W.FWP_VER / 2 ^ 48)
      g.replied n ws stOk (words64 (g0.get64 W.FWP_VER) ++ words64 (g0.get64 W.FWP_FEAT) ++ words64 feat ++ [id]) ∧ g.get F.SUP_SESSION_ID = id ∧ g.flag F.SUP_STAT_SESSION = true ∧ g.flag F.SUP_STAT_HARBOUR = false ∧
        g.firm = { g0.firm with feat := feat, major := major, lastKick := g0.now, watched := true } ∧
        (∀ m : Fin 16, (g.flag (F.CMD_STAT_STARTED m) = true ↔ (channelPilot m).isSome = true ∧ (major = true ∨ 2 ≤ m.val))) ∧
        (pkFsig ws = false → ∀ (m : Fin 16) (r : Req), m.val ≠ 2 → g0.req m = some r → r.phase = .waiting ∨ r.phase = .ready → g.req m = none ∧ g.flag (F.CMD_STAT_TAKEN m) = false ∧ g.flag (F.CMD_STAT_RDY m) = true)) ∧
    (s.gov.serves t n 0x01 ws → count 3 → 2 ^ 16 ≤ param ws 0 → Completes (.sessionOpen n t) s fun g => g0.answered g n ws stParam [] []) ∧
    (s.gov.serves t n 0x02 ws → count 0 → Completes (.versionQuery n t) s fun g =>
      g0.answered g n ws stOk (g0.wordsAt ([W.FWP_VER, W.FWP_VER + 4, W.FWP_SVN] ++ (List.range 12).map W.FWP_DIGEST)) []) ∧
    (s.gov.serves t n 0x40 ws → count 1 →
      (∀ offs, telemetry (bits (param ws 0) 0 4) (bits (param ws 0) 8 8) = some offs → Completes (.telemRead n t) s fun g => g0.answered g n ws stOk (g0.wordsAt offs) []) ∧
      (telemetry (bits (param ws 0) 0 4) (bits (param ws 0) 8 8) = none → Completes (.telemRead n t) s fun g => g0.answered g n ws stParam [] [])) ∧
    (s.gov.serves t n 0x48 ws → count 1 →
      let first := bits (param ws 0) 0 12
      let last := bits (param ws 0) 16 12
      (first ≤ last → Completes (.fenceReset n t) s fun g => g0.answered g n ws stOk [] ((List.range 128).map W.FENCE_STATE) ∧
        ∀ f : Fin 4096, ¬ (pkFsig ws = true ∧ f.val = pkSigFence ws) → g.flag (F.FENCE_STATE_bit f) = if first ≤ f.val ∧ f.val ≤ last then false else g0.flag (F.FENCE_STATE_bit f)) ∧
      (last < first → Completes (.fenceReset n t) s fun g => g0.answered g n ws stParam [] [])) ∧
    (s.gov.serves t n 0x49 ws → count 1 → let f := bits (param ws 0) 0 12
      Completes (.fenceQuery n t) s fun g => g0.answered g n ws stOk [g0.get (F.FENCE_STATE_bit f) + 2 * b2n (g0.cmd.reqs.any fun p => p.2.phase == .waiting && pkFence p.2.words == f)] [])

/-- For every command: the fuses never fall and change by an acceptable SVN_COMMIT alone, and a latched thermal trip stays latched unless the always-on supply is removed (R72); at most 64 fuses stay at most 64 and never fall, and if they change the command is SVN_COMMIT, they then show the smaller of 64 and the running image's SVN, that SVN was above the fused value and all three pilots were RUNNING. SVN_COMMIT itself, when acceptable, blows the fuses to that value, shows it in FUSE_SVN and answers it, else answers STATE with nothing blown; it is acceptable exactly when the image's SVN is above the fused value, every pilot runs and no update is in progress. Rows that complete: SVN_COMMIT. -/
def Obligations.SecurityVersion : Prop :=
  (∀ (c : Instr) (s s' : State), exec c s = .next s' →
    s.keep.svn ≤ s'.keep.svn ∧ (s'.keep.svn ≠ s.keep.svn → ∃ n t, c = .svnCommit n t ∧ (s.gov.reach t).svnOk = true) ∧
    (s.keep.trip = true → c ≠ .alwaysOnSupplyRemoval → s'.keep.trip = true)) ∧
  (∀ (c : Instr) (s s' : State), exec c s = .next s' → s.keep.svn ≤ 64 →
    s'.keep.svn ≤ 64 ∧ s.keep.svn ≤ s'.keep.svn ∧ (s'.keep.svn ≠ s.keep.svn → ∃ n t, c = .svnCommit n t ∧
      let g0 := s.gov.reach t
      s'.keep.svn = min 64 (g0.get F.FWP_SVN_IMG_SVN) ∧ g0.get F.FWP_SVN_FUSE_SVN < g0.get F.FWP_SVN_IMG_SVN ∧ g0.pilotUp 0 = true ∧ g0.pilotUp 1 = true ∧ g0.pilotUp 2 = true)) ∧
  (∀ (n : Fin 16) (ws : List Nat) (t : Fin 250) (s : State), s.gov.serves t n 0x06 ws →
    let g0 := s.gov.reach t
    paramCount ws (· == 0) = true →
    (g0.svnOk = true → s.keep.svn = g0.get F.FWP_SVN_FUSE_SVN → s.keep.svn ≤ 64 →
      let svn := min 64 (g0.get F.FWP_SVN_IMG_SVN)
      ∃ g, exec (.svnCommit n t) s = .next { s with gov := g, keep := { s.keep with svn := svn } } ∧ g.get F.FWP_SVN_FUSE_SVN = svn ∧ g0.answered g n ws stOk [svn] [W.FWP_SVN]) ∧
    (g0.svnOk = false → Completes (.svnCommit n t) s fun g => g0.answered g n ws stState [] []) ∧
    (g0.svnOk = true ↔ g0.get F.FWP_SVN_FUSE_SVN < g0.get F.FWP_SVN_IMG_SVN ∧ g0.pilotUp 0 = true ∧ g0.pilotUp 1 = true ∧ g0.pilotUp 2 = true ∧
      g0.get F.FWP_UPD_USTATE ≠ 1 ∧ g0.get F.FWP_UPD_USTATE ≠ 2 ∧ g0.get F.FWP_UPD_USTATE ≠ 3))

/-- REG_WRITE checks every pair before any is applied, answers the first bad one with its index and offset, and else applies all in order. REG_READ answers the words as a port read shows them. A law or table is kept until whole, then checked, and answered with the failed check's number, or installed (a table deferred, with its CRC). An unused law is unloaded. TRIM_STEP steps, restarts, or answers STATE where held or refused. RAIL_TARGET sets FORCE_ENTRY and FORCE_EN, deferred to the rail's arrival, or answers STATE. Which read offsets carry no effect of their own is a premise; the order of REG_WRITE's checks and that a refused slot write leaves no flag are the model's (log entries 63 and 93). Rows that complete: REG_WRITE, REG_READ, LAW_LOAD, LAW_UNLOAD, TABLE_LOAD, TRIM_STEP, RAIL_TARGET. -/
def Obligations.ControlCommands : Prop :=
  ∀ (n : Fin 16) (ws : List Nat) (t : Fin 250) (s : State),
    let g0 := s.gov.reach t
    let now := g0
    let p0 := param ws 0
    (s.gov.serves t n 0x10 ws → paramCount ws (fun c => decide (2 ≤ c) && decide (c ≤ 60) && c % 2 == 0) = true →
      let pairs := writePairs (pkParams ws)
      (∀ i o st, g0.firstBad n 0 pairs = some (i, o, st) → Completes (.regWrite n t) s fun g => g0.answered g n ws st [i, o] []) ∧
      (g0.firstBad n 0 pairs = none →
        (∀ i o, now.applyPairs 0 pairs = .error (i, o) → Completes (.regWrite n t) s fun g => g0.answered g n ws stParam [i, o] []) ∧
        (∀ g1, now.applyPairs 0 pairs = .ok g1 → ∃ g k, exec (.regWrite n t) s = .next { s with gov := g, keep := k } ∧ g1.answered g n ws stOk [] [] ∧
          k = { s.keep with wakeN := s.keep.wakeN && !(g0.flag F.PS_WAKE_STAT_OFF_WAKE && !g1.flag F.PS_WAKE_STAT_OFF_WAKE) }))) ∧
    (s.gov.serves t n 0x11 ws → paramCount ws (fun c => decide (1 ≤ c) && decide (c ≤ 60)) = true →
      let offs := pkParams ws
      let bad := ∃ o ∈ offs, o % 4 ≠ 0 ∨ 2 ^ 20 ≤ o ∨ findReg o = none
      (bad → Completes (.regRead n t) s fun g => g0.answered g n ws stParam [] []) ∧
      (¬ bad → (∀ o ∈ offs, (o < 0x61000 ∨ 0x62000 ≤ o) ∧ (o < 0x70000 ∨ 0x7002C ≤ o) ∧ pairLow o = false ∧ (o < 4 ∨ pairLow (o - 4) = false)) →
        Completes (.regRead n t) s fun g => g0.answered g n ws stOk (offs.map fun o => (now.view o).toNat) [])) ∧
    (s.gov.serves t n 0x12 ws → paramCount ws (fun c => decide (4 ≤ c) && decide (c ≤ 60) && c % 2 == 0) = true →
      let k := bits p0 0 6
      let len := bits p0 8 8
      let words := (pkParams ws).drop 2
      let clear := now.setBuf' n none
      (bits p0 6 2 ≠ 0 ∨ bits p0 23 9 ≠ 0 → Completes (.lawLoad n t) s fun g => g0.answered g n ws stParam [] [] ∧ g.loadBuf n = none) ∧
      (bits p0 6 2 = 0 → bits p0 23 9 = 0 → bits p0 16 7 = 0 →
        ((lawWords words).length < len → Completes (.lawLoad n t) s fun g => g0.answered g n ws stOk [] [] ∧ g.loadBuf n = some ⟨true, k, [len, param ws 1], words⟩) ∧
        (len < (lawWords words).length → Completes (.lawLoad n t) s fun g => g0.answered g n ws stParam (if len = 0 then [3] else []) [] ∧ g.loadBuf n = none) ∧
        ((lawWords words).length = len → (∀ c, clear.loadLaw k len (param ws 1) (lawWords words) = .inl c → Completes (.lawLoad n t) s fun g => g0.answered g n ws stParam [c] []) ∧
          (∀ start, clear.loadLaw k len (param ws 1) (lawWords words) = .inr start → Completes (.lawLoad n t) s fun g => g0.answered g n ws stOk [] [W.LAW_W0 k, W.LAW_W1 k] ∧
            g.flag (F.LAW_W0_VALID k) = true ∧ g.get (F.LAW_W0_START k) = start ∧ g.get (F.LAW_W0_LEN k) = len ∧ g.eng.prog = (clear.installLaw k start (lawWords words)).eng.prog)))) ∧
    (s.gov.serves t n 0x13 ws → paramCount ws (· == 1) = true →
      let k := bits p0 0 6
      (k < 2 ∨ g0.lawUse k ≠ 0 → Completes (.lawUnload n t) s fun g => g0.answered g n ws stParam [] []) ∧
      (2 ≤ k → g0.lawUse k = 0 → Completes (.lawUnload n t) s fun g => g0.answered g n ws stOk [] [W.LAW_W0 k, W.LAW_W1 k] ∧ g.word (W.LAW_W0 k) = 0 ∧ g.word (W.LAW_W1 k) = 0)) ∧
    (s.gov.serves t n 0x38 ws → paramCount ws (fun c => decide (3 ≤ c) && decide (c ≤ 59) && c % 2 == 1) = true → bits p0 24 6 = 0 →
      let k := bits p0 0 6
      let nbp := bits p0 8 6
      let words := (pkParams ws).drop 1
      let pts := tableWords words
      let shadow := W.TBL_HDR k :: (List.range (2 * pts.length)).map fun j => W.TBL_X k 0 + 4 * j
      (pts.length < nbp → Completes (.tableLoad n t) s fun g => g0.answered g n ws stOk [] [] ∧ g.loadBuf n = some ⟨false, k, [nbp, b2n (bit p0 16), b2n (bit p0 17)], words⟩) ∧
      (nbp < pts.length → nbp ≠ 0 → Completes (.tableLoad n t) s fun g => g0.answered g n ws stParam [] [] ∧ g.loadBuf n = none) ∧
      (pts.length = nbp ∨ nbp = 0 → (∀ c, tableFault nbp (bit p0 16) (bit p0 17) pts = some c → Completes (.tableLoad n t) s fun g => g0.answered g n ws stParam [c] [W.TBL_CTRL k] ∧ g.flag (F.TBL_CTRL_REFUSED k) = true ∧ g.get (F.TBL_CTRL_RSN k) = c) ∧
        (tableFault nbp (bit p0 16) (bit p0 17) pts = none → Completes (.tableLoad n t) s fun g => g0.deferred g n ws [tableCrc pts] shadow (.tblActive k) ∧
          g.get (F.TBL_HDR_NBP k) = nbp ∧ (k, ⟨pts, bit p0 16, bit p0 17⟩) ∈ g.sns.load))) ∧
    (s.gov.serves t n 0x39 ws → paramCount ws (· == 1) = true →
      let r := bits p0 0 3
      let step := bits p0 8 2
      (step = 0 → Completes (.trimStep n t) s fun g => g0.answered g n ws stParam [] []) ∧
      (step = 3 → Completes (.trimStep n t) s fun g => (now.restartWindow r).answered g n ws stOk [] []) ∧
      (step = 1 ∨ step = 2 →
        (g0.flag F.LIM_STEADY_STAT_ACTIVE = true → Completes (.trimStep n t) s fun g => g0.answered g n ws stState [] [W.MT_REQ r] ∧ g.flag (F.MT_REQ_HELD r) = true ∧ Tab.get (fun _ => 0) g.sns.heldStep r = step) ∧
        (g0.flag F.LIM_STEADY_STAT_ACTIVE = false → now.trimOk r step = false → Completes (.trimStep n t) s fun g => g0.answered g n ws stState [] [W.MT_REQ r] ∧ g.flag (F.MT_REQ_REFUSED r) = true) ∧
        (g0.flag F.LIM_STEADY_STAT_ACTIVE = false → now.trimOk r step = true → Completes (.trimStep n t) s fun g =>
          (now.restartWindow r).answered g n ws stOk [] [] ∧ (r, (now.trimGuard r step).toNat, 0) ∈ g.sns.guard))) ∧
    (s.gov.serves t n 0x14 ws → paramCount ws (· == 1) = true →
      let r := bits p0 0 3
      let no := g0.boardMode = true ∨ g0.flag F.LIM_STEADY_STAT_ACTIVE = true ∨ g0.railOn r = false
      let v := now.writeReg (W.RAIL_SEL r) (insertField (insertField (g0.word (W.RAIL_SEL r)) 8 4 (bits p0 8 4)) 12 1 (bits p0 16 1))
      (no ∨ v.ok = false → Completes (.railTarget n t) s fun g => g0.answered g n ws stState [] []) ∧
      (¬ no → v.ok = true → Completes (.railTarget n t) s fun g => v.gov.deferred g n ws [] [] (.railReached r) ∧ g.get (F.RAIL_SEL_FORCE_ENTRY r) = bits p0 8 4 ∧ g.get (F.RAIL_SEL_FORCE_EN r) = bits p0 16 1))

/-- ACCT_OPEN and ACCT_CLOSE are refused with STATE or RESOURCE as their rules say, else recorded and journalled with the request left in service; ACCT_QUERY answers the account's words, POISONED for a poisoned one. At its tick an accepted open starts the account afresh with its class, floors and start time, and answers. At its commit a close sets CLOSED, the end time and LDG_CLOSED_E, purges the account's reservations, queues the statement asked for, and answers. Rows that complete: ACCT_OPEN, ACCT_CLOSE, ACCT_QUERY, ACCOUNT_OPEN_TICK, ACCOUNT_CLOSE_COMMIT. -/
def Obligations.AccountCommands : Prop :=
  ∀ (n : Fin 16) (ws : List Nat) (t : Fin 250) (s : State),
    let g0 := s.gov.reach t
    let a := bits (param ws 0) 0 8
    let kept := fun (g : Gov) => g0.onlyWords g [W.SUP_JOURNAL n] ∧ g.get (F.SUP_JOURNAL_RESULT n) = stOk ∧ ∃ r, g.req n = some r ∧ r.words = ws ∧ r.phase = .serving
    (s.gov.serves t n 0x20 ws → paramCount ws (· == 6) = true →
      let o : OpenReq := { acct := a, cls := bits (param ws 0) 8 1, fact := bits (param ws 0) 16 12, fpwr := bits (param ws 1) 0 16, tag := (pkParams ws).drop 2, chan := n, due := none }
      let blocked := g0.get (F.ACC_STAT_STATE a) = 1 ∨ (∃ o ∈ g0.led.opens, o.acct = a) ∨ g0.flag F.IDL_STAT_ALIGN_PEND = true
      let fits := o.cls = 0 → g0.floorPower + o.fpwr ≤ g0.act F.LIM_LC_BUDGET_BUDGET
      (blocked → Completes (.acctOpen n t) s fun g => g0.answered g n ws stState [] [] ∧ g.led = g0.led) ∧
      (¬ blocked → ¬ fits → Completes (.acctOpen n t) s fun g => g0.answered g n ws stResource [] [] ∧ g.led = g0.led) ∧
      (¬ blocked → fits → Completes (.acctOpen n t) s fun g => g.led = { g0.led with opens := g0.led.opens ++ [o] } ∧ kept g ∧ (pkFsig ws = true → (.acctOpen a, pkSigFence ws) ∈ g.cmd.armed))) ∧
    (s.gov.serves t n 0x21 ws → paramCount ws (· == 1) = true →
      let c : CloseReq := { acct := a, stmt := bit (param ws 0) 8, chan := n, due := none }
      let blocked := g0.get (F.ACC_STAT_STATE a) ≠ 1 ∨ ∃ c ∈ g0.led.closes, c.acct = a
      let full := c.stmt = true ∧ 256 ≤ g0.led.stmts.length + g0.led.closes.countP (·.stmt)
      (blocked → Completes (.acctClose n t) s fun g => g0.answered g n ws stState [] [] ∧ g.led = g0.led) ∧
      (¬ blocked → full → Completes (.acctClose n t) s fun g => g0.answered g n ws stResource [] [] ∧ g.led = g0.led) ∧
      (¬ blocked → ¬ full → Completes (.acctClose n t) s fun g => g.led = { g0.led with closes := g0.led.closes ++ [c] } ∧ kept g ∧ (pkFsig ws = true → (.acctClose a, pkSigFence ws) ∈ g.cmd.armed))) ∧
    (s.gov.serves t n 0x22 ws → paramCount ws (· == 1) = true → Completes (.acctQuery n t) s fun g =>
      g0.answered g n ws (if g0.flag (F.ACC_STAT_POISON a) = true then stPoisoned else stOk) (g0.wordsAt [W.ACC_STAT a, W.ACC_ENERGY a, W.ACC_ENERGY a + 4, W.ACC_LEAK a, W.ACC_LEAK a + 4, W.ACC_TSTART a, W.ACC_TSTART a + 4, W.ACC_TEND a, W.ACC_TEND a + 4, W.ACC_SWITCH a]) []) ∧
    (∀ (a : Fin 256) (o : OpenReq) (tick : Nat), s.gov.engine = true → (g0.led.opens.find? fun o => o.acct == a.val) = some o → o.due = some tick ∨ (o.due = none ∧ g0.onTick = true ∧ tick = g0.now) →
      tick < 2 ^ 64 → o.cls < 2 → o.fact < 2 ^ 12 → o.fpwr < 2 ^ 16 → o.tag.length = 4 → (∀ p ∈ g0.cmd.armed, p.1 ≠ .acctOpen a) →
      Completes (.accountOpenTick a t) s fun g => g.get (F.ACC_STAT_STATE a) = 1 ∧ g.get (F.ACC_STAT_CLASS a) = o.cls ∧ g.get (F.ACC_FLOOR_FLOOR_ACT a) = o.fact ∧ g.get (F.ACC_FLOOR_FLOOR_PWR a) = o.fpwr ∧
        g.get64 (W.ACC_TSTART a) = tick ∧ g.get64 (W.ACC_ENERGY a) = 0 ∧ g.get64 (W.ACC_LEAK a) = 0 ∧ g.led.opens = g0.led.opens.filter (·.acct != a.val) ∧
        ∀ r, g0.req o.chan = some r → r.phase = .serving → pkOpcode r.words = 0x20 → r.doom = none → g.replied o.chan r.words stOk [tick % 2 ^ 32, tick / 2 ^ 32]) ∧
    (∀ (a : Fin 256) (c : CloseReq) (tick : Nat), s.gov.engine = true → (g0.led.closes.find? fun c => c.acct == a.val) = some c → c.due = some tick →
      tick < 2 ^ 64 → (∀ e ∈ g0.fcu.table, e.berth < 256) → (∀ p ∈ g0.cmd.armed, p.1 ≠ .acctClose a) →
      Completes (.accountCloseCommit a t) s fun g => g.get (F.ACC_STAT_STATE a) = 2 ∧ g.get64 (W.ACC_TEND a) = tick ∧ g.get (F.ACC_STAT_STMT_REQ a) = b2n c.stmt ∧ g.led.closes = g0.led.closes.filter (·.acct != a.val) ∧
        g.get64 W.LDG_CLOSED_E = (g0.get64 W.LDG_CLOSED_E + g0.closingAmount a) % 2 ^ 64 ∧ (∀ e ∈ g.fcu.table, e.acct ≠ a.val) ∧
        (c.stmt = false → g.led.stmts = g0.led.stmts) ∧ (c.stmt = true → ∃ x, g.led.stmts = g0.led.stmts ++ [x] ∧ x.acct = a.val ∧ x.sig = none ∧ x.slot = g0.freeSlot) ∧
        ∀ r, g0.req c.chan = some r → r.phase = .serving → pkOpcode r.words = 0x21 → r.doom = none →
          g.replied c.chan r.words stOk (g0.shownEnergy a (W.ACC_ENERGY a) ++ [tick % 2 ^ 32, tick / 2 ^ 32, if c.stmt = true then g0.freeSlot + 256 else 0]))

/-- With the key store good and the epoch settled, the oldest unsigned statement is given its flags, this boot's epoch and the digest of pilot B's image, signed over its body, and nothing else changes but its SIGNED flag and LDG_STMT. STMT_READ answers PARAM, NOT_READY, POISONED or the body with its signature; STMT_RELEASE frees a signed slot; STMT_LIST answers the two slot maps. ATTEST_KEY and ATTEST_QUOTE answer the public key and a signed quote, or STATE without a key; ATTEST_CERT answers a chunk of at most 232 bytes, or PARAM past the end. Rows that complete: STATEMENT_SIGN, STMT_READ, STMT_RELEASE, STMT_LIST, ATTEST_KEY, ATTEST_CERT, ATTEST_QUOTE. -/
def Obligations.StatementsAndKeys : Prop :=
  ∀ (n : Fin 16) (ws : List Nat) (t : Fin 250) (s : State),
    let g0 := s.gov.reach t
    let slot := bits (param ws 0) 0 8
    (∀ x, (sortBy (·.order) g0.led.stmts).find? (fun (x : Stmt) => x.sig.isNone) = some x → g0.pilotServes 1 = true → g0.keyOk = true → g0.led.epochUp = true ∨ g0.flag F.LDG_STATUS_EPOCH_BAD = true → x.acct < 256 →
      let flagged := stmtFlags x.body (b2n x.bad + 4 * g0.get F.LDG_STATUS_EPOCH_BAD) x.bad
      let body := flagged.take 0x1C ++ leBytes 4 (g0.word W.LDG_EPOCH).toNat ++ (flagged.drop 0x20).take 0x40 ++ g0.digestB
      Completes (.statementSign t) s fun g => g.led = { g0.led with stmts := g0.led.stmts.map fun (y : Stmt) => if y.slot = x.slot then { y with body := body, sig := some (ecdsaSign g0.fuses.devKey body) } else y } ∧
        (x.shown = true → g.flag (F.ACC_STMT_SIGNED x.acct) = true) ∧ g.get F.LDG_STMT_UNSIGNED = (g.led.stmts.countP fun x => x.sig.isNone) % 2 ^ F.LDG_STMT_UNSIGNED.w ∧ g0.onlyWords g [W.ACC_STMT x.acct, W.LDG_STMT]) ∧
    (s.gov.serves t n 0x28 ws → paramCount ws (· == 1) = true →
      (g0.stmtAt slot = none → Completes (.stmtRead n t) s fun g => g0.answered g n ws stParam [] []) ∧
      ∀ x, g0.stmtAt slot = some x →
        (x.sig = none → Completes (.stmtRead n t) s fun g => g0.answered g n ws stNotReady [] []) ∧
        ∀ sig, x.sig = some sig → (x.lost = true → Completes (.stmtRead n t) s fun g => g0.answered g n ws stPoisoned [] []) ∧
          (x.lost = false → Completes (.stmtRead n t) s fun g =>
            g0.answered g n ws (if bit (x.body.getD 0x22 0).toNat 0 = true then stPoisoned else stOk) (byteWords 60 (x.body ++ beBytes 48 sig.1 ++ beBytes 48 sig.2)) [])) ∧
    (s.gov.serves t n 0x29 ws → paramCount ws (· == 1) = true →
      (g0.stmtAt slot = none → Completes (.stmtRelease n t) s fun g => g0.answered g n ws stParam [] [] ∧ g.led = g0.led) ∧
      ∀ x, g0.stmtAt slot = some x → (x.sig = none → Completes (.stmtRelease n t) s fun g => g0.answered g n ws stState [] [] ∧ g.led = g0.led) ∧
        (x.sig ≠ none → Completes (.stmtRelease n t) s fun g => (g0.releaseStmt slot).answered g n ws stOk [] [] ∧ g.led = { g0.led with stmts := g0.led.stmts.filter fun (x : Stmt) => x.slot != slot })) ∧
    (s.gov.serves t n 0x2A ws → paramCount ws (· == 0) = true → Completes (.stmtList n t) s fun g =>
      g0.answered g n ws stOk (slotMap g0.led.stmts ++ slotMap (g0.led.stmts.filter fun (x : Stmt) => x.sig.isSome)) []) ∧
    (s.gov.serves t n 0x30 ws → paramCount ws (· == 0) = true → let q := publicKey g0.fuses.devKey
      (g0.keyOk = true → Completes (.attestKey n t) s fun g => g0.answered g n ws stOk (byteWords 24 (beBytes 48 q.1 ++ beBytes 48 q.2)) []) ∧
      (g0.keyOk = false → Completes (.attestKey n t) s fun g => g0.answered g n ws stState [] [])) ∧
    (s.gov.serves t n 0x31 ws → paramCount ws (· == 1) = true → let cert := g0.fuses.cert
      (param ws 0 ≤ cert.length → let chunk := (cert.drop (param ws 0)).take 232
        Completes (.attestCert n t) s fun g => g0.answered g n ws stOk ([cert.length, chunk.length] ++ byteWords 58 (chunk ++ List.replicate (232 - chunk.length) 0)) []) ∧
      (cert.length < param ws 0 → Completes (.attestCert n t) s fun g => g0.answered g n ws stParam [] [])) ∧
    (s.gov.serves t n 0x32 ws → paramCount ws (· == 12) = true → let body := g0.quoteBody (pkParams ws)
      let sig := ecdsaSign g0.fuses.devKey body
      (g0.keyOk = true → Completes (.attestQuote n t) s fun g => g0.answered g n ws stOk (byteWords 56 (body ++ beBytes 48 sig.1 ++ beBytes 48 sig.2)) []) ∧
      (g0.keyOk = false → Completes (.attestQuote n t) s fun g => g0.answered g n ws stState [] []))

/-- UPDATE_BEGIN within 0x200 to 0x100000 bytes and with no update running sets USTATE 1; UPDATE_DATA that continues the image writes its block to flash and answers the count; UPDATE_FINISH of a whole image sets USTATE 2 and stays in service; each otherwise answers PARAM or STATE and changes nothing. Verification ends FAILED with its reason and VERIFY_FAILED, or begins the rolling restart with pilot C. An abandoned flash operation fails the update with reason 6, or sets EPOCH_BAD. Rows that complete: UPDATE_BEGIN, UPDATE_DATA, UPDATE_FINISH, UPDATE_VERIFY_COMPLETE, FLASH_OPERATION_TIMEOUT. -/
def Obligations.Updates : Prop :=
  ∀ (n : Fin 16) (ws : List Nat) (t : Fin 250) (s : State),
    let g0 := s.gov.reach t
    let ust := g0.get F.FWP_UPD_USTATE
    let idle := ust ≠ 1 ∧ ust ≠ 2
    (s.gov.serves t n 0x03 ws → paramCount ws (· == 1) = true → let len := param ws 0
      let inRange := 0x200 ≤ len ∧ len ≤ 0x100000
      (¬ inRange → Completes (.updateBegin n t) s fun g => g0.answered g n ws stParam [] [] ∧ g.firm = g0.firm) ∧
      (inRange → ¬ idle → Completes (.updateBegin n t) s fun g => g0.answered g n ws stState [] [] ∧ g.firm = g0.firm) ∧
      (inRange → idle → Completes (.updateBegin n t) s fun g => g0.answered g n ws stOk [] [W.FWP_UPD] ∧ g.get F.FWP_UPD_USTATE = 1 ∧ g.firm = { g0.firm with imgLen := len, written := 0 })) ∧
    (s.gov.serves t n 0x04 ws → paramCount ws blockCount = true → let size := 4 * ((pkParams ws).length - 1)
      let follows := param ws 0 = g0.firm.written ∧ g0.firm.written + size ≤ g0.firm.imgLen
      (¬ follows → Completes (.updateData n t) s fun g => g0.answered g n ws stParam [] [] ∧ g.firm = g0.firm) ∧
      (follows → ust ≠ 1 → Completes (.updateData n t) s fun g => g0.answered g n ws stState [] [] ∧ g.firm = g0.firm) ∧
      (follows → ust = 1 → ∃ g, exec (.updateData n t) s = .next { s with gov := g, keep := { s.keep with flash := flashBlock s.keep.dev s.keep.flash g0.firm.written (blockBytes ws) } } ∧
        g0.answered g n ws stOk [g0.firm.written + size] [] ∧ g.firm = { g0.firm with written := g0.firm.written + size })) ∧
    (s.gov.serves t n 0x05 ws → paramCount ws (· == 0) = true → let whole := ust = 1 ∧ g0.firm.written = g0.firm.imgLen
      (¬ whole → Completes (.updateFinish n t) s fun g => g0.answered g n ws stState [] [] ∧ g.get F.FWP_UPD_USTATE = ust) ∧
      (whole → Completes (.updateFinish n t) s fun g => g.get F.FWP_UPD_USTATE = 2 ∧ g0.onlyWords g [W.FWP_UPD] ∧ ∃ r, g.req n = some r ∧ r.words = ws ∧ r.phase = .serving)) ∧
    (∀ readOk : Bool, g0.pilotsOn = true → ust = 2 →
      (∀ c, imageFault s.keep.flash g0.fuses.keyHash s.keep.svn readOk = some c → Completes (.updateVerifyComplete readOk t) s fun g => g.get F.FWP_UPD_USTATE = 4 ∧ g.get F.FWP_UPD_FAIL_RSN = c ∧ g.firm = g0.firm ∧
        ∀ r, g0.req 2 = some r → r.doom = none → pkOpcode r.words = 5 → g.replied 2 r.words stVerifyFailed [c]) ∧
      (imageFault s.keep.flash g0.fuses.keyHash s.keep.svn readOk = none → let m := readImage s.keep.flash
        (g0.firm.cur = none → g0.firm.waiting = [] → g0.get (F.FWP_PSTATE_STATE 2) ≠ 3 → Completes (.updateVerifyComplete readOk t) s fun g => g.get F.FWP_UPD_USTATE = 3 ∧ g.firm.next = m ∧ g.firm.rolling = [1, 0] ∧
          g.firm.cur = some 2 ∧ g.get (F.FWP_PSTATE_STATE 2) = 3 ∧ g.get F.FWP_RST_LAST_PILOT = 2 ∧ g.get F.FWP_RST_LAST_CAUSE = 4) ∧
        (g0.firm.cur ≠ none → Completes (.updateVerifyComplete readOk t) s fun g => g.get F.FWP_UPD_USTATE = 3 ∧ g.firm.next = m ∧ g.firm.rolling = [2, 1, 0] ∧ g.firm.cur = g0.firm.cur ∧ g0.onlyWords g [W.FWP_UPD]))) ∧
    (∀ (erase : Bool) (busy : Nat), g0.flashShut = false → flashLimit s.keep.dev erase < busy →
      (g0.running = true → g0.led.epochUp = false → Completes (.flashOperationTimeout ⟨true, erase, busy⟩ t) s fun g => g.flag F.LDG_STATUS_EPOCH_BAD = true ∧ g0.onlyWords g [W.LDG_EPOCH, W.LDG_STATUS]) ∧
      (ust = 1 → Completes (.flashOperationTimeout ⟨false, erase, busy⟩ t) s fun g => g.get F.FWP_UPD_USTATE = 4 ∧ g.get F.FWP_UPD_FAIL_RSN = 6 ∧ g0.onlyFields g [F.FWP_UPD_USTATE, F.FWP_UPD_FAIL_RSN]))

/-- ENTDAA and SETDASA give the port a dynamic address and RSTDAA takes it back; an endpoint ID is taken and answered, or refused with ERROR_INVALID_DATA where null or broadcast (log entry 67). A vendor request that is not for this endpoint is discarded; one whose server is not available answers BUSY, one reserved to the bus owner NOT_OWNER, a malformed one ERROR, one of an unlisted code INVALID_CODE. IDENTIFY, WAKE, FRU_WRITE, FRU_READ and FAULT_STATUS answer and act as their rules say. Reflash answers STATE outside anchor mode, and in it begins, writes and verifies an image. None of them changes another register. The order of the refusals is the model's reading (log entry 66). Rows that complete: ENTDAA, SETDASA, RSTDAA, SET_ENDPOINT_ID, IDENTIFY, WAKE, FRU_WRITE, FRU_READ, FAULT_STATUS, REFLASH_BEGIN, REFLASH_DATA, REFLASH_FINISH. -/
def Obligations.ManagementRequests : Prop :=
  ∀ (q : VendorReq) (t : Fin 250) (s : State),
    let g0 := s.gov.reach t
    s.gov.up = true →
    let said := fun (code cc : Nat) (payload : List Byte) (g : Gov) => g.mgmt = { g0.mgmt with answer := some ([q.rq &&& 0x1F, BitVec.ofNat 8 code, BitVec.ofNat 8 cc] ++ payload) }
    let only := fun (code cc : Nat) (payload : List Byte) (g : Gov) => said code cc payload g ∧ g0.onlyWords g []
    let heard := g0.mgmt.eid ≠ 0 ∧ q.pen.toNat = g0.fuses.pen ∧ 128 ≤ q.rq.toNat
    let served := heard ∧ g0.mgmtServes = true
    let formed := fun (size : Nat) => bits q.rq.toNat 5 2 = 0 ∧ q.payload.length = size
    let ust := g0.get F.FWP_UPD_USTATE
    (∀ addr : BitVec 7, (∀ c ∈ [Instr.entdaa addr t, Instr.setdasa addr t], Completes c s fun g => g.mgmt = { g0.mgmt with i3c := true, dynAddr := addr.toNat } ∧ g0.onlyWords g []) ∧
      Completes (.rstdaa t) s fun g => g.mgmt = { g0.mgmt with i3c := false, dynAddr := 0 } ∧ g0.onlyWords g []) ∧
    (∀ eid : BitVec 8, Completes (.setEndpointId eid t) s fun g => g.mgmt = (if eid = 0 ∨ eid = 0xFF then { g0.mgmt with answer := some [2] } else { g0.mgmt with eid := eid.toNat, answer := some [0, 0, eid, 0] }) ∧ g0.onlyWords g []) ∧
    (∀ c ∈ [(Instr.identify q t, 1), (Instr.wake q t, 2), (Instr.fruWrite q t, 3), (Instr.fruRead q t, 4), (Instr.faultStatus q t, 5), (Instr.reflashBegin q t, 0x10), (Instr.reflashData q t, 0x11), (Instr.reflashFinish q true t, 0x12)],
      (¬ heard → Completes c.1 s fun g => g.mgmt = { g0.mgmt with answer := none } ∧ g0.onlyWords g []) ∧
      (heard → q.code.toNat ∉ [1, 2, 3, 4, 5, 0x10, 0x11, 0x12] → Completes c.1 s (only q.code.toNat ccInvalidCode [])) ∧
      (heard → q.code.toNat ∈ [1, 2, 3, 4, 5, 0x10, 0x11, 0x12] → q.code.toNat ≠ c.2 → Completes c.1 s fun g => g.mgmt = g0.mgmt ∧ g0.onlyWords g [])) ∧
    (heard → g0.mgmtServes = false → ∀ c ∈ [(Instr.fruWrite q t, 3), (Instr.fruRead q t, 4), (Instr.reflashBegin q t, 0x10), (Instr.reflashData q t, 0x11), (Instr.reflashFinish q true t, 0x12)], q.code.toNat = c.2 → Completes c.1 s (only c.2 ccBusy [])) ∧
    (served → q.owner = false → ∀ c ∈ [(Instr.wake q t, 2), (Instr.fruWrite q t, 3), (Instr.reflashBegin q t, 0x10), (Instr.reflashData q t, 0x11), (Instr.reflashFinish q true t, 0x12)], q.code.toNat = c.2 → Completes c.1 s (only c.2 ccNotOwner [])) ∧
    (heard → formed 0 → (q.code = 1 → Completes (.identify q t) s (only 1 ccSuccess g0.identity)) ∧
      (q.code = 5 → Completes (.faultStatus q t) s (only 5 ccSuccess (leBytes 40 g0.collector ++ leBytes 1 (g0.get F.FLT_REC_QUEUED) ++ leBytes 4 (g0.word W.FLT_REC_DROP).toNat)))) ∧
    (heard → ¬ formed 0 → (q.code = 1 → Completes (.identify q t) s (only 1 ccError [])) ∧ (q.code = 5 → Completes (.faultStatus q t) s (only 5 ccError []))) ∧
    (heard → q.code = 2 → q.owner = true → formed 0 → (bit (g0.get F.PS_WAKE_EN_EN) 4 = false → Completes (.wake q t) s (only 2 ccState [])) ∧
      (bit (g0.get F.PS_WAKE_EN_EN) 4 = true → Completes (.wake q t) s fun g => said 2 ccSuccess [] g ∧ (g0.wake 4).onlyWords g [])) ∧
    (served → q.code = 4 → formed 0 → Completes (.fruRead q t) s (only 4 ccSuccess (g0.fruId ++ g0.fruText ++ leBytes 1 (g0.word W.FLT_FRU_VALID).toNat))) ∧
    (served → q.code = 3 → q.owner = true → formed 37 → let valid := (q.payload.getD 36 0).toNat
      (4 ≤ valid → Completes (.fruWrite q t) s (only 3 ccError [])) ∧ (valid < 4 → g0.flag F.FLT_CTRL_LOCK = true → Completes (.fruWrite q t) s (only 3 ccLocked [])) ∧
      (valid < 4 → g0.flag F.FLT_CTRL_LOCK = false → Completes (.fruWrite q t) s fun g => said 3 ccSuccess [] g ∧ g.fruId = q.payload.take 16 ∧ g.fruText = (q.payload.drop 16).take 20 ∧ (g.word W.FLT_FRU_VALID).toNat = valid ∧
        g0.onlyWords g ((List.range 4).map W.FLT_FRU_ID ++ (List.range 5).map W.FLT_FRU_TEXT ++ [W.FLT_FRU_VALID]))) ∧
    (served → q.owner = true → g0.anchored = false → (q.code = 0x10 → formed 4 → Completes (.reflashBegin q t) s (only 0x10 ccState [])) ∧ (q.code = 0x11 → formed 8 → Completes (.reflashData q t) s (only 0x11 ccState [])) ∧
      (q.code = 0x12 → formed 0 → ∀ readOk : Bool, Completes (.reflashFinish q readOk t) s (only 0x12 ccState []))) ∧
    (served → q.owner = true → g0.anchored = true →
      (q.code = 0x10 → formed 4 → let len := ofLeBytes q.payload
        (len < 0x200 ∨ 0x100000 < len → Completes (.reflashBegin q t) s (only 0x10 ccError [])) ∧ (0x200 ≤ len → len ≤ 0x100000 → ust = 1 ∨ ust = 2 → Completes (.reflashBegin q t) s (only 0x10 ccBusy [])) ∧
        (0x200 ≤ len → len ≤ 0x100000 → ust ≠ 1 → ust ≠ 2 → Completes (.reflashBegin q t) s fun g => said 0x10 ccSuccess [] g ∧ g.get F.FWP_UPD_USTATE = 1 ∧ g.firm = { g0.firm with imgLen := len, written := 0 } ∧ g0.onlyFields g [F.FWP_UPD_USTATE])) ∧
      (∀ size : Nat, 4 ≤ size → size ≤ 256 → q.code = 0x11 → formed (size + 4) → let total := g0.firm.written + size
        let follows := ofLeBytes (q.payload.take 4) = g0.firm.written ∧ total ≤ g0.firm.imgLen
        (ust ≠ 1 → Completes (.reflashData q t) s (only 0x11 ccState [])) ∧ (ust = 1 → ¬ follows → Completes (.reflashData q t) s (only 0x11 ccError [])) ∧
        (ust = 1 → follows → ∃ g, exec (.reflashData q t) s = .next { s with gov := g, keep := { s.keep with flash := flashBlock s.keep.dev s.keep.flash g0.firm.written (q.payload.drop 4) } } ∧ only 0x11 ccSuccess (leBytes 4 total) g ∧ g.firm = { g0.firm with written := total })) ∧
      (q.code = 0x12 → formed 0 → ∀ readOk : Bool, let res := imageFault s.keep.flash g0.fuses.keyHash s.keep.svn readOk
        (ust ≠ 1 ∨ g0.firm.written ≠ g0.firm.imgLen → Completes (.reflashFinish q readOk t) s (only 0x12 ccState [])) ∧
        (ust = 1 → g0.firm.written = g0.firm.imgLen → (∀ c, res = some c → Completes (.reflashFinish q readOk t) s fun g => said 0x12 ccVerifyFailed [4, BitVec.ofNat 8 c] g ∧ g.get F.FWP_UPD_USTATE = 4 ∧ g.get F.FWP_UPD_FAIL_RSN = c ∧ g0.onlyFields g [F.FWP_UPD_USTATE, F.FWP_UPD_FAIL_RSN]) ∧
          (res = none → Completes (.reflashFinish q readOk t) s fun g => said 0x12 ccSuccess [5, BitVec.ofNat 8 (g0.get F.FWP_UPD_FAIL_RSN)] g ∧ g.get F.FWP_UPD_USTATE = 5 ∧ g0.onlyFields g [F.FWP_UPD_USTATE]))))

/-- Without an endpoint ID no PLDM command is answered. With one, GET_TID, the versions, types and command maps, SET_EVENT_RECEIVER, the event messages, the PDR commands and the sensor readings answer as their rules give, NOT_READY where pilot C does not serve them. The message fields the spec leaves to DSP0248 are free values, and the layouts are presumed (log entry 68). An event poll gives the oldest waiting event; a fault record is sent when none is outstanding; the BMC's acceptance removes the section from the queue, or the notice. Rows that complete: GET_TID, GET_PLDM_VERSION, GET_PLDM_TYPES, GET_PLDM_COMMANDS, SET_EVENT_RECEIVER, EVENT_MESSAGE_SUPPORTED, EVENT_MESSAGE_BUFFER_SIZE, GET_SENSOR_READING, GET_PDR_REPOSITORY_INFO, GET_PDR, POLL_FOR_PLATFORM_EVENT_MESSAGE, FAULT_RECORD_SEND, EVENT_ACCEPTANCE. -/
def Obligations.PlatformMonitoring : Prop :=
  ∀ (t : Fin 250) (s : State),
    let g0 := s.gov.reach t
    s.gov.up = true →
    let said := fun (bs : List Byte) (g : Gov) => g.mgmt = { g0.mgmt with answer := some bs } ∧ g0.onlyWords g []
    let ready := g0.mgmtServes = true ∧ g0.anchored = false
    (g0.mgmt.eid = 0 → ∀ c ∈ [Instr.getTid t, .getPldmVersion 0 t, .getPldmTypes t, .getPldmCommands 0 t, .setEventReceiver 0 t, .eventMessageSupported t, .eventMessageBufferSize 0 t, .getSensorReading 0 t, .getPdrRepositoryInfo t, .getPdr 0 t, .pollForPlatformEventMessage true t],
      Completes c s fun g => g.mgmt = { g0.mgmt with answer := none } ∧ g0.onlyWords g []) ∧
    (g0.mgmt.eid ≠ 0 →
      Completes (.getTid t) s (said ([0] ++ leBytes 1 g0.mgmt.tid)) ∧ Completes (.getPldmTypes t) s (said ([0] ++ leBytes 8 5)) ∧
      (∀ type : BitVec 8, type = 0 ∨ type = 2 → Completes (.getPldmVersion type t) s fun g => g0.onlyWords g [] ∧ ∃ rest, g.mgmt = { g0.mgmt with answer := some (0 :: rest) }) ∧
      (∀ type : BitVec 8, type ≠ 0 → type ≠ 2 → Completes (.getPldmVersion type t) s (said [0x83]) ∧ Completes (.getPldmCommands type t) s (said [0x83])) ∧
      Completes (.getPldmCommands 0 t) s (said ([0] ++ leBytes 32 0x3C)) ∧ Completes (.getPldmCommands 2 t) s (said ([0] ++ leBytes 32 (2 ^ 0x04 + 2 ^ 0x0B + 2 ^ 0x0C + 2 ^ 0x0D + 2 ^ 0x11 + 2 ^ 0x50 + 2 ^ 0x51))) ∧
      (∀ r : BitVec 8, Completes (.setEventReceiver r t) s fun g => g.mgmt = { g0.mgmt with receiver := some r.toNat, answer := some [0] } ∧ g0.onlyWords g []) ∧
      Completes (.eventMessageSupported t) s (said ([0] ++ Config.pldmFields 0x0C 0 ++ [2, 0x07, 0xF0])) ∧
      (∀ size : BitVec 16, Completes (.eventMessageBufferSize size t) s (said ([0] ++ Config.pldmFields 0x0D size.toNat))) ∧
      Completes (.getPdrRepositoryInfo t) s (said ([0, 0] ++ Config.pldmFields 0x50 0 ++ leBytes 4 46 ++ Config.pldmFields 0x50 1)) ∧
      (∀ (id : BitVec 16) (h : BitVec 32),
        (¬ ready → Completes (.getSensorReading id t) s (said [pldmNotReady]) ∧ Completes (.getPdr h t) s (said [pldmNotReady])) ∧
        (ready → (∀ v on signed, g0.sensor id.toNat = some (v, on, signed) →
            Completes (.getSensorReading id t) s (said ([0, if signed = true then 3 else 2, if on = true then 0 else 1] ++ Config.pldmFields 0x11 id.toNat ++ leBytes 2 v))) ∧
          (g0.sensor id.toNat = none → Completes (.getSensorReading id t) s (said [0x80])) ∧
          (46 < h.toNat → Completes (.getPdr h t) s (said [0x82])) ∧ (h.toNat ≤ 1 → Completes (.getPdr h t) s (said ([0] ++ Config.pldmFields 0x51 0))) ∧
          (∀ x, 2 ≤ h.toNat → sensorIds[h.toNat - 2]? = some x → Completes (.getPdr h t) s (said ([0] ++ g0.numericPdr x))))) ∧
      (g0.mgmtServes = false → ∀ ack : Bool, Completes (.pollForPlatformEventMessage ack t) s (said [pldmNotReady])) ∧
      (g0.mgmtServes = true →
        (∀ e, g0.nextEvent = some e → Completes (.pollForPlatformEventMessage false t) s fun g => said ([0] ++ leBytes 1 g0.mgmt.tid ++ [eventClass e]) g ∧ g.flt = { g0.flt with event := some e }) ∧
        (g0.nextEvent = none → Completes (.pollForPlatformEventMessage false t) s fun g => said ([0] ++ leBytes 1 g0.mgmt.tid ++ [0, 0]) g ∧ g.flt = g0.flt))) ∧
    (∀ x rest, g0.flt.queue = x :: rest → g0.mgmtServes = true → g0.state ≠ stOff → g0.flt.event = none →
      Completes (.faultRecordSend t) s fun g => g.flt = { g0.flt with event := some (g0.recordEvent x) } ∧ g0.onlyWords g []) ∧
    (g0.powered = true →
      (∀ a b c d e f, g0.flt.event = some (.cper a b c d e f) → Completes (.eventAcceptance t) s fun g => g.flt = { g0.flt with queue := g0.flt.queue.drop 1, event := none } ∧
        (g0.flt.queue.length ≤ 32 → g.get F.FLT_REC_QUEUED = g0.flt.queue.length - 1) ∧ g0.onlyFields g [F.FLT_REC_QUEUED]) ∧
      (∀ d, g0.flt.event = some (.notice d) → Completes (.eventAcceptance t) s fun g => g.flt = { g0.flt with event := none } ∧ g.pwr = { g0.pwr with notice := none } ∧ g0.onlyWords g []))

/-- With the engine running: an enabled port whose link is down trains, its link comes up after four headers, and goes down after three silent frame periods with source 279. A received frame is counted, recorded and forwarded onward, or turned where the onward link is down. The root originates primary and secondary frames at multiples of 10 us, and an enumeration that met a link not UP or stayed out for three frames has failed. A node without root frames is a segment. A missing or faulty node is recorded once. The three frames after which an enumeration has failed are the model's reading (log entry 89). Rows that complete: LINK_TRAIN, LINK_UP, LINK_DOWN, FRAME_RECEIVE, SEGMENT_ENTRY, FRAME_ORIGINATE, NODE_MISSING. -/
def Obligations.HawserEvents : Prop :=
  ∀ (t : Fin 250) (s : State),
    let g0 := s.gov.reach t
    s.gov.engine = true →
    let now := g0.now
    (∀ p : Fin 2,
      (g0.flag (portEnable p) = true → g0.get (linkField p) = 0 → Completes (.linkTrain p t) s fun g => g.get (linkField p) = 1 ∧ g.port p = { g0.port p with run := 0, hdrAt := now, missed := 0, turned := false } ∧ g0.onlyFields g [linkField p]) ∧
      (g0.get (linkField p) = 1 → 4 ≤ (g0.port p).run → Completes (.linkUp p t) s fun g => g.get (linkField p) = 2 ∧ g0.onlyFields g [linkField p, F.IDL_STAT_MODE] ∧
        (g0.flag F.IDL_CFG_EN = true → g.get F.IDL_STAT_MODE = if g0.get (linkField (1 - p)) = 2 ∧ (g0.port 0).turned = false ∧ (g0.port 1).turned = false then 1 else 2)) ∧
      (g0.get (linkField p) ≠ 0 → (g0.port p).hdrAt + 30000 ≤ now → Completes (.linkDown p t) s fun g => g.get (linkField p) = 0 ∧ (g.port p).run = 0 ∧ g.get F.IDL_CNT_LINKDN_COUNT = usat 32 (g0.get F.IDL_CNT_LINKDN_COUNT + 1) ∧
        g.flag F.IDL_EVT_LINK_DOWN = true ∧ g.flag F.GOV_IRQ_SRC_IDL = true ∧ g.flag (F.FLT_STATUS_bit 279) = true ∧ (g0.get F.IDL_STAT_MODE = 3 → g.get F.IDL_STAT_MODE = 3) ∧ (g0.flag F.IDL_CFG_EN = true → g0.get F.IDL_STAT_MODE ≠ 3 → g.get F.IDL_STAT_MODE = 2)) ∧
      (∀ (fr : Frame) (dt : Fin 17), g0.flag (portEnable p) = true → g0.get (linkField p) ≠ 0 → Completes (.frameReceive p fr dt t) s fun g =>
        g.get F.IDL_CNT_CRC_COUNT = usat 32 (g0.get F.IDL_CNT_CRC_COUNT + failedSegments fr) ∧ (fr.hdrOk = false → (g.port p).run = 0) ∧
        (fr.hdrOk = true → (g.port p).run = (g0.port p).run + 1 ∧ (g.port p).hdrAt = now ∧ (g.port p).missed = 0 ∧ (g.port p).turned = fr.turned ∧ g.word W.IDL_FCTR = BitVec.ofNat 32 fr.fctr ∧ g.hws.rootAt = now) ∧
        (g0.isRoot = false → ∃ x, (g.port (if g0.get (linkField (1 - p)) = 0 then p else 1 - p)).sent = some x ∧ x.fctr = fr.fctr ∧ x.tmark = fr.tmark ∧ x.hdrOk = fr.hdrOk ∧ x.nodes = fr.nodes ∧
          x.turned = (fr.turned || decide (g0.get (linkField (1 - p)) = 0))))) ∧
    (g0.flag F.IDL_CFG_EN = true → g0.get F.IDL_STAT_MODE ≠ 3 → g0.hws.rootAt + 30000 ≤ now → Completes (.segmentEntry t) s fun g => g.get F.IDL_STAT_MODE = 3 ∧ g.flag F.IDL_STAT_LOCKED = false ∧
      (g0.flag F.IDL_STAT_LOCKED = true → g.flag F.IDL_EVT_LOCK_LOST = true) ∧ g.hws = { g0.hws with near := 0, far := 0, round := none } ∧ g0.onlyFields g [F.IDL_STAT_MODE, F.IDL_STAT_LOCKED, F.IDL_EVT_LOCK_LOST, F.GOV_IRQ_SRC_IDL]) ∧
    (g0.isRoot = true → now % 10000 = 0 → g0.hws.sentAt ≠ some now → let f := (g0.hws.fctr + 1) % 2 ^ 32
      let lost := (g0.hws.enum = 1 ∧ g0.bothUp = false) ∨ (g0.hws.enum = 2 ∧ (g0.bothUp = false ∨ 3 ≤ (g0.hws.fctr + 2 ^ 32 - g0.hws.enumAt) % 2 ^ 32))
      let asks := g0.hws.enum = 1 ∧ ¬ lost
      Completes (.frameOriginate t) s fun g => g.hws.fctr = f ∧ g.hws.sentAt = some now ∧ (lost → g.hws.enum = 0 ∧ g.flag F.IDL_EVT_ENUM_ERR = true) ∧ (asks → g.hws.enum = 2) ∧ (¬ lost → ¬ asks → g.hws.enum = g0.hws.enum) ∧
        (g0.flag F.IDL_CFG_DN_EN = true → ∃ x, (g.port 1).sent = some x ∧ x.hdrOk = true ∧ x.fctr = f ∧ x.tmark = now ∧ x.path = 0 ∧ x.turned = false ∧ (asks → x.hop = 1) ∧ (¬ asks → x.hop = 0)) ∧
        (g0.flag F.IDL_CFG_UP_EN = true → ∃ x, (g.port 0).sent = some x ∧ x.hdrOk = true ∧ x.fctr = f ∧ x.tmark = now ∧ x.path = 0 ∧ x.turned = false ∧ x.hop = 0 ∧ x.run = some noBlock)) ∧
    (∀ n : Fin 64, g0.takesPart = true → n.val ≠ g0.get F.IDL_STAT_NODE → n.val < g0.get F.IDL_STAT_NODES →
      (g0.gone n = true → g0.hws.told.contains (n.val, true) = false → Completes (.nodeMissing n t) s fun g => g.get64 W.IDL_NODE_MISS = g0.get64 W.IDL_NODE_MISS ||| 2 ^ n.val ∧ g.flag F.IDL_EVT_NODE_EVENT = true ∧
        g.hws = { g0.hws with told := g0.hws.told ++ [(n.val, true)] }) ∧
      (∀ x, g0.gone n = false → g0.lastSlot n = some x → bit x.flags 3 = true → g0.hws.told.contains (n.val, false) = false → Completes (.nodeMissing n t) s fun g => g.get64 W.IDL_NODE_FAULT = g0.get64 W.IDL_NODE_FAULT ||| 2 ^ n.val ∧
        g.flag F.IDL_EVT_NODE_EVENT = true ∧ g.hws = { g0.hws with told := g0.hws.told ++ [(n.val, false)] }))

/-- With the engine running: at a base tick a pending time step moves GOV_TIME and the times kept with it, ends ALIGN_PEND and sets STEPPED. A tug round applies its cap (APPLIED, DONOR, RECEIVER, and LIM_PCAP where it changes): the minimum of BASE and the last target out of the rounds or in SEGMENT mode, the minimum of the cap and BASE where the slots are not complete, else the minimum of the new and the last target. At a sample tick every due stop cut is taken: the sample index is latched, FREEZE set unless all are releases, and the last one holds or releases. Rows that complete: TIME_STEP, TUG_ROUND, STOP_CUT. -/
def Obligations.HawserRounds : Prop :=
  ∀ (t : Fin 250) (s : State),
    let g0 := s.gov.reach t
    s.gov.engine = true →
    let now := g0.now
    (let g1 := s.gov.reach 0
      ∀ d, g1.hws.step = some d → g1.now % 250 = 0 → Completes .timeStep s fun g => g.now = shiftBy d g1.now ∧ g.hws.step = none ∧ g.flag F.IDL_STAT_ALIGN_PEND = false ∧ g.flag F.IDL_EVT_STEPPED = true ∧ g.firm.lastKick = shiftBy d g1.firm.lastKick) ∧
    (g0.pilotUp 2 = true → g0.hws.tugging = true → let base := g0.get F.IDL_TUG_CAP_BASE
      let moved := fun (a : Nat) (g : Gov) => g.hws.cap = a ∧ g.get F.IDL_TUG_STAT_APPLIED = a % 2 ^ 16 ∧ (g.flag F.IDL_TUG_STAT_DONOR = true ↔ a < base) ∧ (g.flag F.IDL_TUG_STAT_RECEIVER = true ↔ base < a) ∧ (a ≠ g0.hws.cap → g.get F.LIM_PCAP_PCAP = a % 2 ^ 16)
      (g0.flag F.IDL_CFG_TUG_EN = false ∨ g0.get F.IDL_STAT_MODE = 3 → let a := min base g0.hws.tgt
        Completes (.tugRound t) s fun g => moved a g ∧ g.hws.tgt = base ∧ (g.hws.tugging = true ↔ g0.flag F.IDL_CFG_TUG_EN = true ∨ a ≠ base) ∧ g.flag F.IDL_TUG_STAT_PACED = false) ∧
      (∀ f, g0.flag F.IDL_CFG_TUG_EN = true → g0.get F.IDL_STAT_MODE ≠ 3 → g0.hws.round = some f →
        ((g0.roundMembers f).1 = false → let a := min g0.hws.cap base
          Completes (.tugRound t) s fun g => moved a g ∧ g.hws.tgt = a ∧ g.hws.frozen = true ∧ g.hws.round = none) ∧
        ((g0.roundMembers f).1 = true → let r := tugRound (g0.roundMembers f).2 (g0.get F.IDL_STAT_NODE) base (g0.get F.IDL_TUG_GAIN_TUG_GAIN) (g0.get F.IDL_TUG_GAIN_PACE_GAIN) (g0.get F.IDL_TUG_THR_LAG_THR)
          Completes (.tugRound t) s fun g => moved (min r.tgt g0.hws.tgt) g ∧ g.hws.tgt = r.tgt ∧ g.hws.frozen = false ∧ g.hws.round = none ∧ (g.flag F.IDL_TUG_STAT_PACED = true ↔ r.paced = true)))) ∧
    (let due := g0.hws.cuts.filter fun c => decide (c.2.2 < now)
     due ≠ [] → g0.onTick = true →
      Completes (.stopCut t) s fun g => g.hws.cuts = g0.hws.cuts.filter (fun c => !decide (c.2.2 < now)) ∧ (g.get64 W.IDL_STOP_CUT) % 2 ^ 48 = g0.idx ∧
        ((∃ c ∈ due, c.2.1 ≠ 3) → g.flag F.LDG_CTRL_FREEZE = true) ∧
        ∀ c, due.getLast? = some c → (c.2.1 = 3 → g.flag F.IDL_STOP_REC_HELD = false ∧ g.lim.quiesce = none) ∧ (c.2.1 = 2 → g.flag F.IDL_STOP_REC_HELD = true ∧ g.lim.quiesce = some 0))

/-- A crossing is shown and, where armed, counted and opens an episode at DEPTH0; episodes deepen, hold and release one step at a time, and the last step closes and counts one. A stuck detector is broken with source 261. A synthesizer locks at 200 MHz, glides by 1 MHz steps, coasts on a lost reference and returns from it. The monitors show a clock absent below 64 edges and present after two windows. A switch completes, hangs with source 276, or is forced to its fallback. A trim window moves TRIM by one step. The spacing at which frame marks count as present is the model's reading (log entry 88). Rows that complete: DROOP_CROSSING, DETECTOR_RELEASE, DETECTOR_STUCK, STRETCH_ESCALATE, STRETCH_HOLD_EXPIRY, STRETCH_RELEASE_STEP, REGION_SWITCH_COMPLETE, REGION_SWITCH_HANG, AUTO_FORCE, FSYN_LOCK, FSYN_GLIDE_STEP, COAST_ENTRY, COAST_EXIT, CLKMON_WINDOW, TRIM_WINDOW_END. -/
def Obligations.ClockEvents : Prop :=
  ∀ (t : Fin 250) (s : State),
    let g0 := s.gov.reach t
    s.gov.up = true →
    let now := g0.now
    (∀ d : Fin 256, let rg := g0.act (F.DRP_DET_CFG_REGION d)
      Completes (.droopCrossing d t) s (fun g => g.flag (F.DRP_DET_CFG_CROSS d) = true ∧ Tab.get (fun _ => none) g.clk.crossing d = some now ∧
        (g0.armed d = false → g0.onlyFields g [F.DRP_DET_CFG_CROSS d]) ∧ (g0.armed d = true → g.get (F.DRP_DET_CNT_COUNT d) = usat 32 (g0.get (F.DRP_DET_CNT_COUNT d) + 1)) ∧
        (g0.armed d = true → g0.episode rg = true → (g.rgn rg).falling = false ∧ g0.onlyFields g [F.DRP_DET_CFG_CROSS d, F.DRP_DET_CNT_COUNT d]) ∧
        (g0.armed d = true → g0.episode rg = false → g0.actFlag (F.DRP_RGN_STR_EN rg) = true → g0.regionRuns rg = true →
          g.flag (F.DRP_RGN_STAT_OPEN rg) = true ∧ g.get (F.DRP_RGN_STAT_DEPTH rg) = g0.act (F.DRP_RGN_STR_DEPTH0 rg) ∧ g.get (F.DRP_RGN_STAT_FIRST_DET rg) = d ∧ (g.rgn rg).openAt = now ∧ (g.rgn rg).changeAt = now ∧ g.framePos rg = 15)) ∧
      Completes (.detectorRelease d t) s (fun g => g.flag (F.DRP_DET_CFG_CROSS d) = false ∧ Tab.get (fun _ => none) g.clk.crossing d = none ∧ g0.onlyFields g [F.DRP_DET_CFG_CROSS d] ∧ ((g0.rgn rg).crossed = true → g.regionCrosses rg = false → (g.rgn rg).endAt = now ∧ (g.rgn rg).crossed = false)) ∧
      (∀ a c, Tab.get (fun _ => none) g0.clk.crossing d = some a → (g0.rail (g0.act (F.DRP_DET_CFG_RAIL d))).goodAt = some c → a + 10000 ≤ now → c + 10000 ≤ now → g0.rstate (g0.act (F.DRP_DET_CFG_RAIL d)) = rOn →
        g0.flag (F.SNS_DET_STAT_BROKEN d) = false → g0.actFlag (F.DRP_DET_CFG_EN d) = true → Completes (.detectorStuck d t) s fun g => g.flag (F.SNS_DET_STAT_BROKEN d) = true ∧ g.flag (F.FLT_STATUS_bit 261) = true ∧
          g.get F.SNS_CNT_BROKEN_COUNT = usat 32 (g0.get F.SNS_CNT_BROKEN_COUNT + 1))) ∧
    (∀ rg : Fin 16, let x := g0.rgn rg
      let depth := g0.get (F.DRP_RGN_STAT_DEPTH rg)
      let lowered := fun (g : Gov) => g.get (F.DRP_RGN_STAT_DEPTH rg) = depth - 1 ∧ (g.rgn rg).falling = true ∧ (g.rgn rg).changeAt = now ∧ (1 < depth → g0.onlyFields g [F.DRP_RGN_STAT_DEPTH rg]) ∧
        (depth = 1 → g.flag (F.DRP_RGN_STAT_OPEN rg) = false ∧ g.get (F.DRP_RGN_EPI_COUNT rg) = usat 32 (g0.get (F.DRP_RGN_EPI_COUNT rg) + 1))
      (g0.episode rg = true → g0.regionCrosses rg = true → x.changeAt + 10 * g0.act (F.DRP_RGN_STR_RLS rg) ≤ now → depth < g0.act (F.DRP_RGN_STR_DEPTH_MAX rg) →
        Completes (.stretchEscalate rg t) s fun g => g.get (F.DRP_RGN_STAT_DEPTH rg) = depth + 1 ∧ g.rgn rg = { x with changeAt := now, maxDepth := max x.maxDepth (depth + 1), falling := false } ∧ g0.onlyFields g [F.DRP_RGN_STAT_DEPTH rg]) ∧
      (g0.episode rg = true → g0.regionCrosses rg = false → x.falling = false → x.endAt + 10 * g0.act (F.DRP_RGN_STR_HOLD rg) ≤ now → 1 ≤ depth → Completes (.stretchHoldExpiry rg t) s lowered) ∧
      (g0.episode rg = true → g0.regionCrosses rg = false → x.falling = true → x.changeAt + 10 * g0.act (F.DRP_RGN_STR_RLS rg) ≤ now → 1 ≤ depth → Completes (.stretchReleaseStep rg t) s lowered) ∧
      (g0.flag (F.DRP_RGN_MUX_BUSY rg) = true → x.out = .off ∨ g0.sourceRuns x.out = true → g0.source rg = .off ∨ g0.sourceRuns (g0.source rg) = true →
        Completes (.regionSwitchComplete rg t) s fun g => g.flag (F.DRP_RGN_MUX_BUSY rg) = false ∧ (g.rgn rg).out = g0.source rg ∧ (g.rgn rg).goneAt = none ∧ g.source rg = g0.source rg) ∧
      (g0.flag (F.DRP_RGN_MUX_BUSY rg) = true → g0.flag (F.DRP_RGN_MUX_HANG rg) = false → x.swAt + 2000 ≤ now →
        Completes (.regionSwitchHang rg t) s fun g => g.flag (F.DRP_RGN_MUX_HANG rg) = true ∧ g.flag (F.DRP_RGN_MUX_BUSY rg) = true ∧ (g.rgn rg).goneAt = some (x.goneAt.getD now) ∧ g.flag (F.FLT_STATUS_bit 276) = true) ∧
      (let sel := g0.get (F.DRP_RGN_MUX_FB_SEL rg)
       let alt := if sel = 1 then g0.get (F.DRP_RGN_MUX_FB_SYN rg) else g0.get (F.DRP_RGN_MUX_ALT rg)
       ∀ a, x.goneAt = some a → a + 2000 ≤ now → g0.actFlag F.DRP_CFG_AUTO_FORCE = true → g0.sourcePresent (sourceOf rg sel alt) = true →
        Completes (.autoForce rg t) s fun g => g.source rg = sourceOf rg sel alt ∧ (g.rgn rg).out = sourceOf rg sel alt ∧ (g.rgn rg).goneAt = none ∧ g.flag (F.DRP_RGN_MUX_BUSY rg) = false)) ∧
    (∀ k : Fin 16,
      let coasts := fun (g : Gov) => g.flag (F.FSYN_STAT_COAST k) = true ∧ g.flag (F.FSYN_STAT_REF_LOST k) = true ∧ g.flag (F.FSYN_STAT_LOCK k) = false ∧ g.get (F.FSYN_CNT_COAST_COUNT k) = usat 32 (g0.get (F.FSYN_CNT_COAST_COUNT k) + 1)
      (g0.synOn k = true → g0.flag (F.FSYN_STAT_LOCK k) = false → g0.flag (F.FSYN_STAT_COAST k) = false → Completes (.fsynLock k t) s fun g => g.flag (F.FSYN_STAT_LOCK k) = true ∧ g.get (F.FSYN_FREQ_CUR k) = 200) ∧
      (g0.synOn k = true → let x := (g0.reglide k).syn k
        1000 ≤ x.credit →
        (x.dir = 1 → g0.get (F.FSYN_FREQ_CUR k) < 0xFFFF → Completes (.fsynGlideStep k t) s fun g => g.get (F.FSYN_FREQ_CUR k) = g0.get (F.FSYN_FREQ_CUR k) + 1 ∧ g0.onlyWords g [W.FSYN_FREQ k, W.FSYN_STAT k]) ∧
        (x.dir = 2 → Completes (.fsynGlideStep k t) s fun g => g.get (F.FSYN_FREQ_CUR k) = g0.get (F.FSYN_FREQ_CUR k) - 1 ∧ g0.onlyWords g [W.FSYN_FREQ k, W.FSYN_STAT k])) ∧
      (g0.synOn k = true → g0.flag (F.FSYN_STAT_COAST k) = false → Completes (.coastEntry (some k) t) s (fun g => coasts g ∧ g.flag (F.FLT_STATUS_bit 275) = true) ∧
        Completes (.coastEntry none t) s (fun g => coasts g ∧ g.clk.refSince = now ∧ (g0.clk.refLost = none ∨ g0.flag (F.FSYN_STAT_LOCK k) = true → g.flag (F.FLT_STATUS_bit 275) = true))) ∧
      (g0.synOn k = true → g0.flag (F.FSYN_STAT_COAST k) = true → g0.flag F.DRP_CLKMON_REF_PRESENT = true → g0.clk.refSince + 100000 ≤ now →
        Completes (.coastExit k t) s fun g => g.flag (F.FSYN_STAT_COAST k) = false ∧ g.flag (F.FSYN_STAT_LOCK k) = true ∧ g.get (F.FSYN_FREQ_CUR k) = 200)) ∧
    (∀ (ref : BitVec 12) (syns rgns : List (BitVec 12)) (mark : Bool), let before := fun (c : Nat) => Tab.get (fun _ => 0) g0.clk.counts c
      Completes (.clkmonWindow ref syns rgns mark t) s fun g =>
        (ref.toNat < 64 → g.flag F.DRP_CLKMON_REF_PRESENT = false) ∧ (64 ≤ ref.toNat → 1 ≤ before 0 → g.flag F.DRP_CLKMON_REF_PRESENT = true) ∧ (64 ≤ ref.toNat → before 0 = 0 → g.flag F.DRP_CLKMON_REF_PRESENT = g0.flag F.DRP_CLKMON_REF_PRESENT) ∧
        (∀ k : Fin 16, let n := (syns.getD k 0).toNat
          (n < 64 → bit (g.get F.DRP_CLKMON_FSYN_PRESENT) k = false) ∧ (64 ≤ n → 1 ≤ before (1 + k) → bit (g.get F.DRP_CLKMON_FSYN_PRESENT) k = true)) ∧
        (∀ k : Fin 16, let n := (rgns.getD k 0).toNat
          (n < 64 → g.flag (F.DRP_RGN_STAT_PRESENT k) = false ∧ (g0.flag (F.DRP_RGN_MUX_BUSY k) = false → g0.source k ≠ .off → (g.rgn k).goneAt = some ((g0.rgn k).goneAt.getD now))) ∧ (64 ≤ n → 1 ≤ before (32 + k) → g.flag (F.DRP_RGN_STAT_PRESENT k) = true ∧ (g0.flag (F.DRP_RGN_MUX_BUSY k) = false → (g.rgn k).goneAt = none))) ∧
        (mark = false → g0.clk.markAt = none → g.flag F.DRP_CLKMON_MARK_PRESENT = false) ∧
        (∀ a, mark = false → g0.clk.markAt = some a → g.flag F.DRP_CLKMON_MARK_PRESENT = (decide (now < a + 31000) && (g0.clk.markNear || g0.flag F.DRP_CLKMON_MARK_PRESENT))) ∧
        (mark = true → g.clk.markAt = some now ∧ g.clk.marks = g0.clk.marks ∧ g.flag F.DRP_CLKMON_MARK_PRESENT = ((g0.clk.markAt.any fun a => decide (a + 9000 ≤ now) && decide (now ≤ a + 11000)) || g0.flag F.DRP_CLKMON_MARK_PRESENT))) ∧
    (∀ (ref : Bool) (count : BitVec 24), g0.trimRef = some ref → ref = true ∨ 100 ≤ g0.clk.marks → let err : Int := (count.toNat : Int) - (if ref = true then 102400 else 4000)
      let slow := if ref = true then 41 < err else err < -2
      let fast := if ref = true then err < -41 else 2 < err
      Completes (.trimWindowEnd count t) s fun g => (slow → g.sget F.DRP_OSC_TRIM_TRIM = min (g0.sget F.DRP_OSC_TRIM_TRIM + 1) 63) ∧ (fast → g.sget F.DRP_OSC_TRIM_TRIM = max (g0.sget F.DRP_OSC_TRIM_TRIM - 1) (-64)) ∧ (¬ slow → ¬ fast → g.sget F.DRP_OSC_TRIM_TRIM = g0.sget F.DRP_OSC_TRIM_TRIM) ∧
        (g.flag F.DRP_OSC_TRIM_TRIMMED = true ↔ err.natAbs ≤ if ref = true then 102 else 4) ∧ g.flag F.DRP_OSC_TRIM_USED_REF = ref ∧ g.flag F.DRP_OSC_TRIM_USED_MARK = !ref ∧
        g0.onlyFields g [F.DRP_OSC_TRIM_TRIM, F.DRP_OSC_TRIM_TRIMMED, F.DRP_OSC_TRIM_USED_REF, F.DRP_OSC_TRIM_USED_MARK])

/-- A scrub pass counts corrected words by memory, raises 284 at its threshold, and raises each uncorrectable word's own source; a late pass sets LATE. A closed job step evaluates each modelled berth: its ratio, its count of far steps, and SUSPECT at 64. The TAP's instructions act while the debug fuse is open and select BYPASS after, IDCODE always; FINJ acts only in factory mode with GO; REGACC makes one privileged access and captures its result. Rows that complete: SCRUB_PASS, SCRUB_LATE, JOB_STEP_CLOSE, IDCODE, BYPASS, EXTEST, SAMPLE_PRELOAD, FTEST, FINJ, REGACC. -/
def Obligations.ScrubAndTap : Prop :=
  ∀ (t : Fin 250) (s : State),
    let g0 := s.gov.reach t
    let at0 := g0
    let now := at0.now
    let tapped := fun (x : TapSt) (g : Gov) => g.tap = x ∧ g0.onlyWords g []
    let bypassed := tapped { g0.tap with ir := 0x1F, dr := 0, extest := false }
    (∀ (fixed : List (Fin 12 × Nat)) (deferred : Nat), s.gov.engine = true → g0.tap.upsets = [] → Completes (.scrubPass fixed [] deferred t) s fun g =>
      let count := fun (m : Nat) => (fixed.filter fun p => p.1.val == m).foldl (fun a p => a + p.2) 0
      (∀ m : Fin 12, g.get (F.FLT_ECC_CE_COUNT m) = usat 32 (g0.get (F.FLT_ECC_CE_COUNT m) + count m) ∧ (0 < count m → g0.get F.FLT_SCRUB_CE_THR ≤ count m → g.flag (F.FLT_STATUS_bit 284) = true)) ∧
        g.get F.FLT_CNT_DEFER_COUNT = usat 32 (g0.get F.FLT_CNT_DEFER_COUNT + deferred) ∧ g.flt.passStart = now) ∧
    (∀ (m : Fin 12) (w item : Nat), s.gov.engine = true → g0.tap.upsets = [] → Completes (.scrubPass [] [(m, w, item)] 0 t) s fun g => g.flt.passStart = now ∧
      g.flag (F.FLT_STATUS_bit (if m.val < 3 then 285 + m else if m.val = 3 then 288 else if m.val = 4 then 289 else if m.val = 5 then 267 else if m.val = 6 then 290 else if m.val = 7 then 291 else if m.val = 8 then 292 else 293)) = true) ∧
    (s.gov.engine = true → g0.flt.passStart + 2000000 * g0.get F.FLT_SCRUB_PASS_MS ≤ now → Completes (.scrubLate t) s fun g => g.flag F.FLT_SCRUB_STAT_LATE = true ∧ g0.onlyFields g [F.FLT_SCRUB_STAT_LATE]) ∧
    (s.gov.engine = true → g0.led.stepDue = true → (g0.led.owned.map (·.1)).Nodup → (∀ p ∈ g0.led.owned, p.1 < 256) → Completes (.jobStepClose t) s fun g => g.led = { g0.led with silE := [], silM := [], stepDue := false } ∧
      (g0.flag F.FLT_SIL_CFG_EN = false → g0.onlyWords g []) ∧
      (g0.flag F.FLT_SIL_CFG_EN = true → ∀ p ∈ g0.led.owned, g0.actFlag (F.BT_MODEL_MODEL_EN p.1) = true →
        let e := Tab.get (fun _ => 0) g0.led.silE p.1
        let m := Tab.get (fun _ => 0) g0.led.silM p.1
        let was := g0.get (F.FLT_SIL_CNT_CNT p.1)
        let far := g0.get F.FLT_SIL_CFG_SIL_THR * m < ((e : Int) - m).natAbs * 1000
        (m < g0.get F.FLT_SIL_MIN_SIL_MIN ∨ m = 0 → g.word (W.FLT_SIL_CNT p.1) = g0.word (W.FLT_SIL_CNT p.1)) ∧
        (g0.get F.FLT_SIL_MIN_SIL_MIN ≤ m → m ≠ 0 → g.get (F.FLT_SIL_CNT_RATIO p.1) = min 0xFFFF (e * 4096 / m) ∧ (far → g.get (F.FLT_SIL_CNT_CNT p.1) = min (was + 1) 64 ∧ (was = 63 → g.flag (F.FLT_SUSPECT_bit p.1) = true)) ∧
          (¬ far → was ≠ 64 → g.get (F.FLT_SIL_CNT_CNT p.1) = 0)))) ∧
    (g0.tapOn = true →
      Completes (.idcode t) s (tapped { g0.tap with ir := 1, dr := g0.idcode, extest := false }) ∧ Completes (.bypass t) s bypassed ∧
      (g0.tapOpen = false → ∀ (d : Nat) (b : Bool) (src : BitVec 9) (detail : BitVec 32) (stage : BitVec 4), Completes (.extest d t) s bypassed ∧ Completes (.samplePreload d t) s bypassed ∧ Completes (.ftest b t) s bypassed ∧ Completes (.finj src detail stage b t) s bypassed) ∧
      (g0.tapOpen = true →
        (∀ d : Nat, Completes (.extest d t) s (tapped { g0.tap with ir := 0, dr := d, bound := d, extest := true }) ∧ Completes (.samplePreload d t) s (tapped { g0.tap with ir := 2, dr := d, bound := d, extest := false })) ∧
        (∀ b : Bool, Completes (.ftest b t) s (tapped { g0.tap with ir := 9, dr := b2n b, extest := false, factory := g0.tap.factory || b })) ∧
        (∀ (src : BitVec 9) (detail : BitVec 32) (stage : BitVec 4) (go : Bool),
          let x : TapSt := { g0.tap with ir := 0x0A, dr := src.toNat + detail.toNat * 2 ^ 9 + stage.toNat * 2 ^ 41 + b2n go * 2 ^ 45, extest := false }
          (g0.tap.factory = false ∨ go = false ∨ 4 ≤ stage.toNat → Completes (.finj src detail stage go t) s (tapped x)) ∧
          (g0.tap.factory = true → go = true →
            (stage = 0 → 256 ≤ src.toNat → src.toNat < 320 → Completes (.finj src detail stage go t) s fun g => g.tap = x ∧ g.flag (F.FLT_STATUS_bit src.toNat) = true) ∧
            (stage = 1 → Completes (.finj src detail stage go t) s (tapped { x with sensors := x.sensors ++ [detail.toNat % 2 ^ 16] })) ∧ (stage = 2 → Completes (.finj src detail stage go t) s (tapped { x with gateP := x.gateP ++ [detail.toNat % 256] })) ∧
            (stage = 3 → Completes (.finj src detail stage go t) s (tapped { x with upsets := x.upsets ++ [(detail.toNat % 16, detail.toNat / 16)] })))) ∧
        (∀ (addr : BitVec 18) (we : Bool) (data : Word), let off := 4 * addr.toNat
          let g1 := if we = true then at0.portWrite off { data := data, par := BitVec.ofNat 4 (wordParity data), priv := true } else at0.portRead off
          let x : TapSt := { g1.tap with ir := 8, dr := addr.toNat + b2n we * 2 ^ 18 + g1.rdata.toNat * 2 ^ 19 + g1.resp * 2 ^ 51 + 2 ^ 53, extest := false }
          exec (.regacc addr we data t) s = .next { s with gov := { g1 with tap := x }, keep := { s.keep with wakeN := s.keep.wakeN && !(g0.flag F.PS_WAKE_STAT_OFF_WAKE && !g1.flag F.PS_WAKE_STAT_OFF_WAKE) } })))
end

