-- ==== Sys2Proof/Laws/Table.lean ====
section
/-! SUPPORT. The laws of the sparse table: a read after a write, and the canonical form that every write keeps. -/

namespace Sys2Proof.Machine

variable {α : Type}

/-- The keys of a table strictly rise. -/
def Tab.sorted (m : Tab α) : Prop := m.Pairwise fun p q => p.1 < q.1

/-- The canonical form as a property: the keys rise and no listing holds its default. -/
def Tab.canon (d : Nat → α) (m : Tab α) : Prop := Tab.sorted m ∧ ∀ p ∈ m, p.2 ≠ d p.1

theorem Tab.wf_iff [DecidableEq α] (d : Nat → α) (m : Tab α) : Tab.wf d m = true ↔ Tab.canon d m := by
  induction m with
  | nil => simp [Tab.wf, Tab.canon, Tab.sorted]
  | cons p rest ih =>
    obtain ⟨k, v⟩ := p
    cases rest with
    | nil => simp [Tab.wf, Tab.canon, Tab.sorted]
    | cons q rest =>
      obtain ⟨k', v'⟩ := q
      simp only [Tab.wf, Bool.and_eq_true, decide_eq_true_eq, ih, Tab.canon, Tab.sorted, List.pairwise_cons, List.mem_cons, forall_eq_or_imp]
      constructor
      · rintro ⟨⟨hv, hk⟩, ⟨⟨h1, h2⟩, h3, h4⟩⟩
        exact ⟨⟨⟨hk, fun a ha => lt_trans hk (h1 a ha)⟩, h1, h2⟩, hv, h3, h4⟩
      · rintro ⟨⟨⟨hk, _⟩, h1, h2⟩, hv, h3, h4⟩
        exact ⟨⟨hv, hk⟩, ⟨h1, h2⟩, h3, h4⟩

theorem Tab.get_erase_self (d : Nat → α) (m : Tab α) (k : Nat) : Tab.get d (Tab.erase m k) k = d k := by
  induction m with
  | nil => rfl
  | cons p rest ih =>
    simp only [Tab.erase] at ih ⊢
    by_cases h : p.1 = k <;> simp [h, Tab.get, ih]

theorem Tab.get_erase_ne (d : Nat → α) (m : Tab α) {k j : Nat} (h : j ≠ k) : Tab.get d (Tab.erase m k) j = Tab.get d m j := by
  induction m with
  | nil => rfl
  | cons p rest ih =>
    simp only [Tab.erase] at ih ⊢
    by_cases h1 : p.1 = k
    · subst h1
      simp [Tab.get, ih, Ne.symm h]
    · simp [h1, Tab.get, ih]

theorem Tab.get_ins_self (d : Nat → α) (m : Tab α) (k : Nat) (v : α) (h : ∀ p ∈ m, p.1 ≠ k) : Tab.get d (Tab.ins k v m) k = v := by
  induction m with
  | nil => simp [Tab.ins, Tab.get]
  | cons p rest ih =>
    obtain ⟨k', v'⟩ := p
    have hne : k' ≠ k := h (k', v') (by simp)
    simp only [Tab.ins]
    split
    · simp [Tab.get]
    · simp [Tab.get, hne, ih fun q hq => h q (by simp [hq])]

theorem Tab.get_ins_ne (d : Nat → α) (m : Tab α) {k j : Nat} (v : α) (h : j ≠ k) : Tab.get d (Tab.ins k v m) j = Tab.get d m j := by
  induction m with
  | nil => simp [Tab.ins, Tab.get, Ne.symm h]
  | cons p rest ih =>
    obtain ⟨k', v'⟩ := p
    simp only [Tab.ins]
    split
    · simp [Tab.get, Ne.symm h]
    · simp [Tab.get, ih]

theorem Tab.erase_no_key (m : Tab α) (k : Nat) : ∀ p ∈ Tab.erase m k, p.1 ≠ k := by
  simp [Tab.erase]

/-- A read of the key just written gives the value written. -/
@[simp] theorem Tab.get_put_self [DecidableEq α] (d : Nat → α) (m : Tab α) (k : Nat) (v : α) : Tab.get d (Tab.put d m k v) k = v := by
  unfold Tab.put
  split
  · next h => rw [Tab.get_erase_self, h]
  · exact Tab.get_ins_self d _ k v (Tab.erase_no_key m k)

/-- A write leaves every other key alone. -/
theorem Tab.get_put_ne [DecidableEq α] (d : Nat → α) (m : Tab α) {k j : Nat} (v : α) (h : j ≠ k) : Tab.get d (Tab.put d m k v) j = Tab.get d m j := by
  unfold Tab.put
  split
  · exact Tab.get_erase_ne d m h
  · rw [Tab.get_ins_ne d _ v h, Tab.get_erase_ne d m h]

theorem Tab.get_put [DecidableEq α] (d : Nat → α) (m : Tab α) (k j : Nat) (v : α) : Tab.get d (Tab.put d m k v) j = if j = k then v else Tab.get d m j := by
  split
  · next h => rw [h, Tab.get_put_self]
  · next h => exact Tab.get_put_ne d m v h

theorem Tab.get_upd [DecidableEq α] (d : Nat → α) (m : Tab α) (k j : Nat) (f : α → α) : Tab.get d (Tab.upd d m k f) j = if j = k then f (Tab.get d m k) else Tab.get d m j := by
  rw [Tab.upd, Tab.get_put]

/-- A key whose listings are filtered out reads its default. -/
theorem Tab.get_filter_out (d : Nat → α) (m : Tab α) (p : Nat → Bool) {k : Nat} (h : p k = false) : Tab.get d (m.filter fun q => p q.1) k = d k := by
  induction m with
  | nil => rfl
  | cons q rest ih =>
    obtain ⟨k', v⟩ := q
    rw [List.filter_cons]
    split
    · next hq =>
      have : k' ≠ k := by rintro rfl; simp [h] at hq
      simp [Tab.get, this, ih]
    · exact ih

/-- A read gives a listed value, whatever the default, or the default. -/
theorem Tab.get_cases (m : Tab α) (k : Nat) : (∃ v, ∀ d : Nat → α, Tab.get d m k = v) ∨ ∀ d : Nat → α, Tab.get d m k = d k := by
  induction m with
  | nil => exact .inr fun d => rfl
  | cons q rest ih =>
    obtain ⟨k', v⟩ := q
    by_cases h : k' = k
    · exact .inl ⟨v, fun d => by simp [Tab.get, h]⟩
    · simpa [Tab.get, h] using ih

theorem Tab.filter_canon (d : Nat → α) {m : Tab α} (p : Nat × α → Bool) (h : Tab.canon d m) : Tab.canon d (m.filter p) :=
  ⟨h.1.filter _, fun q hq => h.2 q (List.mem_of_mem_filter hq)⟩

theorem Tab.mem_ins {m : Tab α} {k : Nat} {v : α} {p : Nat × α} (h : p ∈ Tab.ins k v m) : p = (k, v) ∨ p ∈ m := by
  induction m with
  | nil => exact .inl (by simpa [Tab.ins] using h)
  | cons q rest ih =>
    simp only [Tab.ins] at h
    split at h
    · simpa using h
    · rcases List.mem_cons.1 h with h | h
      · exact .inr (by simp [h])
      · rcases ih h with h | h
        · exact .inl h
        · exact .inr (by simp [h])

theorem Tab.ins_canon (d : Nat → α) {m : Tab α} {k : Nat} {v : α} (h : Tab.canon d m) (hk : ∀ p ∈ m, p.1 ≠ k) (hv : v ≠ d k) : Tab.canon d (Tab.ins k v m) := by
  refine ⟨?_, fun p hp => (Tab.mem_ins hp).elim (fun e => by rw [e]; exact hv) (h.2 p)⟩
  obtain ⟨hs, hd⟩ := h
  induction m with
  | nil => simp [Tab.ins, Tab.sorted]
  | cons q rest ih =>
    obtain ⟨k', v'⟩ := q
    have hne : k' ≠ k := hk (k', v') (by simp)
    have hc := List.pairwise_cons.1 hs
    simp only [Tab.ins]
    split
    · next hlt =>
      exact List.pairwise_cons.2 ⟨fun p hp => by
        rcases List.mem_cons.1 hp with e | e
        · rw [e]; exact hlt
        · exact lt_trans hlt (hc.1 p e), hs⟩
    · next hge =>
      refine List.pairwise_cons.2 ⟨fun p hp => ?_, ih (fun p hp => hk p (by simp [hp])) hc.2 fun p hp => hd p (by simp [hp])⟩
      rcases Tab.mem_ins hp with e | e
      · rw [e]; show k' < k; omega
      · exact hc.1 p e

/-- Every write keeps the canonical form. -/
theorem Tab.put_canon [DecidableEq α] (d : Nat → α) {m : Tab α} (k : Nat) (v : α) (h : Tab.canon d m) : Tab.canon d (Tab.put d m k v) := by
  unfold Tab.put
  split
  · exact Tab.filter_canon d _ h
  · next hv => exact Tab.ins_canon d (Tab.filter_canon d _ h) (Tab.erase_no_key m k) hv

/-! ### Sorted lists -/

theorem mem_insertBy (key : α → Nat) (x y : α) (l : List α) : y ∈ insertBy key x l ↔ y = x ∨ y ∈ l := by
  induction l with
  | nil => simp [insertBy]
  | cons z zs ih =>
    unfold insertBy
    split
    · simp
    · simp only [List.mem_cons, ih]; tauto

/-- Sorting keeps the elements. -/
theorem mem_sortBy (key : α → Nat) (y : α) (l : List α) : y ∈ sortBy key l ↔ y ∈ l := by
  have gen : ∀ (l acc : List α), y ∈ l.foldl (fun acc x => insertBy key x acc) acc ↔ y ∈ acc ∨ y ∈ l := by
    intro l
    induction l with
    | nil => simp
    | cons z zs ih =>
      intro acc
      simp only [List.foldl_cons, ih, mem_insertBy, List.mem_cons]; tauto
  simpa [sortBy] using gen l []

end Sys2Proof.Machine
end

