-- ==== Sys2Proof/Laws/State.lean ====
section
/-! SUPPORT. What each shared update leaves alone, field by field, and reads of the register window after a write of it. -/

namespace Sys2Proof.Machine

/-! ### setWord -/

@[simp] theorem Gov.setWord_fuses (g : Gov) (o : Nat) (w : Word) : (g.setWord o w).fuses = g.fuses := (rfl)
@[simp] theorem Gov.setWord_held (g : Gov) (o : Nat) (w : Word) : (g.setWord o w).held = g.held := (rfl)
@[simp] theorem Gov.setWord_pairs (g : Gov) (o : Nat) (w : Word) : (g.setWord o w).pairs = g.pairs := (rfl)
@[simp] theorem Gov.setWord_now (g : Gov) (o : Nat) (w : Word) : (g.setWord o w).now = g.now := (rfl)
@[simp] theorem Gov.setWord_rst (g : Gov) (o : Nat) (w : Word) : (g.setWord o w).rst = g.rst := (rfl)
@[simp] theorem Gov.setWord_brown (g : Gov) (o : Nat) (w : Word) : (g.setWord o w).brown = g.brown := (rfl)
@[simp] theorem Gov.setWord_dark (g : Gov) (o : Nat) (w : Word) : (g.setWord o w).dark = g.dark := (rfl)
@[simp] theorem Gov.setWord_pll (g : Gov) (o : Nat) (w : Word) : (g.setWord o w).pll = g.pll := (rfl)
@[simp] theorem Gov.setWord_pins (g : Gov) (o : Nat) (w : Word) : (g.setWord o w).pins = g.pins := (rfl)
@[simp] theorem Gov.setWord_resp (g : Gov) (o : Nat) (w : Word) : (g.setWord o w).resp = g.resp := (rfl)
@[simp] theorem Gov.setWord_rdata (g : Gov) (o : Nat) (w : Word) : (g.setWord o w).rdata = g.rdata := (rfl)
@[simp] theorem Gov.setWord_free (g : Gov) (o : Nat) (w : Word) : (g.setWord o w).free = g.free := (rfl)
@[simp] theorem Gov.setWord_flt (g : Gov) (o : Nat) (w : Word) : (g.setWord o w).flt = g.flt := (rfl)
@[simp] theorem Gov.setWord_firm (g : Gov) (o : Nat) (w : Word) : (g.setWord o w).firm = g.firm := (rfl)
@[simp] theorem Gov.setWord_cmd (g : Gov) (o : Nat) (w : Word) : (g.setWord o w).cmd = g.cmd := (rfl)
@[simp] theorem Gov.setWord_pwr (g : Gov) (o : Nat) (w : Word) : (g.setWord o w).pwr = g.pwr := (rfl)
@[simp] theorem Gov.setWord_mgmt (g : Gov) (o : Nat) (w : Word) : (g.setWord o w).mgmt = g.mgmt := (rfl)
@[simp] theorem Gov.setWord_eng (g : Gov) (o : Nat) (w : Word) : (g.setWord o w).eng = g.eng := (rfl)
@[simp] theorem Gov.setWord_lim (g : Gov) (o : Nat) (w : Word) : (g.setWord o w).lim = g.lim := (rfl)
@[simp] theorem Gov.setWord_fcu (g : Gov) (o : Nat) (w : Word) : (g.setWord o w).fcu = g.fcu := (rfl)
@[simp] theorem Gov.setWord_clk (g : Gov) (o : Nat) (w : Word) : (g.setWord o w).clk = g.clk := (rfl)
@[simp] theorem Gov.setWord_reg (g : Gov) (o : Nat) (w : Word) : (g.setWord o w).reg = g.reg := (rfl)
@[simp] theorem Gov.setWord_sns (g : Gov) (o : Nat) (w : Word) : (g.setWord o w).sns = g.sns := (rfl)
@[simp] theorem Gov.setWord_led (g : Gov) (o : Nat) (w : Word) : (g.setWord o w).led = g.led := (rfl)
@[simp] theorem Gov.setWord_hws (g : Gov) (o : Nat) (w : Word) : (g.setWord o w).hws = g.hws := (rfl)
@[simp] theorem Gov.setWord_trc (g : Gov) (o : Nat) (w : Word) : (g.setWord o w).trc = g.trc := (rfl)
@[simp] theorem Gov.setWord_tap (g : Gov) (o : Nat) (w : Word) : (g.setWord o w).tap = g.tap := (rfl)

/-! ### set -/

@[simp] theorem Gov.set_fuses (g : Gov) (f : Fld) (v : Nat) : (g.set f v).fuses = g.fuses := (rfl)
@[simp] theorem Gov.set_held (g : Gov) (f : Fld) (v : Nat) : (g.set f v).held = g.held := (rfl)
@[simp] theorem Gov.set_pairs (g : Gov) (f : Fld) (v : Nat) : (g.set f v).pairs = g.pairs := (rfl)
@[simp] theorem Gov.set_now (g : Gov) (f : Fld) (v : Nat) : (g.set f v).now = g.now := (rfl)
@[simp] theorem Gov.set_rst (g : Gov) (f : Fld) (v : Nat) : (g.set f v).rst = g.rst := (rfl)
@[simp] theorem Gov.set_brown (g : Gov) (f : Fld) (v : Nat) : (g.set f v).brown = g.brown := (rfl)
@[simp] theorem Gov.set_dark (g : Gov) (f : Fld) (v : Nat) : (g.set f v).dark = g.dark := (rfl)
@[simp] theorem Gov.set_pll (g : Gov) (f : Fld) (v : Nat) : (g.set f v).pll = g.pll := (rfl)
@[simp] theorem Gov.set_pins (g : Gov) (f : Fld) (v : Nat) : (g.set f v).pins = g.pins := (rfl)
@[simp] theorem Gov.set_resp (g : Gov) (f : Fld) (v : Nat) : (g.set f v).resp = g.resp := (rfl)
@[simp] theorem Gov.set_rdata (g : Gov) (f : Fld) (v : Nat) : (g.set f v).rdata = g.rdata := (rfl)
@[simp] theorem Gov.set_free (g : Gov) (f : Fld) (v : Nat) : (g.set f v).free = g.free := (rfl)
@[simp] theorem Gov.set_flt (g : Gov) (f : Fld) (v : Nat) : (g.set f v).flt = g.flt := (rfl)
@[simp] theorem Gov.set_firm (g : Gov) (f : Fld) (v : Nat) : (g.set f v).firm = g.firm := (rfl)
@[simp] theorem Gov.set_cmd (g : Gov) (f : Fld) (v : Nat) : (g.set f v).cmd = g.cmd := (rfl)
@[simp] theorem Gov.set_pwr (g : Gov) (f : Fld) (v : Nat) : (g.set f v).pwr = g.pwr := (rfl)
@[simp] theorem Gov.set_mgmt (g : Gov) (f : Fld) (v : Nat) : (g.set f v).mgmt = g.mgmt := (rfl)
@[simp] theorem Gov.set_eng (g : Gov) (f : Fld) (v : Nat) : (g.set f v).eng = g.eng := (rfl)
@[simp] theorem Gov.set_lim (g : Gov) (f : Fld) (v : Nat) : (g.set f v).lim = g.lim := (rfl)
@[simp] theorem Gov.set_fcu (g : Gov) (f : Fld) (v : Nat) : (g.set f v).fcu = g.fcu := (rfl)
@[simp] theorem Gov.set_clk (g : Gov) (f : Fld) (v : Nat) : (g.set f v).clk = g.clk := (rfl)
@[simp] theorem Gov.set_reg (g : Gov) (f : Fld) (v : Nat) : (g.set f v).reg = g.reg := (rfl)
@[simp] theorem Gov.set_sns (g : Gov) (f : Fld) (v : Nat) : (g.set f v).sns = g.sns := (rfl)
@[simp] theorem Gov.set_led (g : Gov) (f : Fld) (v : Nat) : (g.set f v).led = g.led := (rfl)
@[simp] theorem Gov.set_hws (g : Gov) (f : Fld) (v : Nat) : (g.set f v).hws = g.hws := (rfl)
@[simp] theorem Gov.set_trc (g : Gov) (f : Fld) (v : Nat) : (g.set f v).trc = g.trc := (rfl)
@[simp] theorem Gov.set_tap (g : Gov) (f : Fld) (v : Nat) : (g.set f v).tap = g.tap := (rfl)

/-! ### mark -/

@[simp] theorem Gov.mark_fuses (g : Gov) (f : Fld) : (g.mark f).fuses = g.fuses := (rfl)
@[simp] theorem Gov.mark_held (g : Gov) (f : Fld) : (g.mark f).held = g.held := (rfl)
@[simp] theorem Gov.mark_pairs (g : Gov) (f : Fld) : (g.mark f).pairs = g.pairs := (rfl)
@[simp] theorem Gov.mark_now (g : Gov) (f : Fld) : (g.mark f).now = g.now := (rfl)
@[simp] theorem Gov.mark_rst (g : Gov) (f : Fld) : (g.mark f).rst = g.rst := (rfl)
@[simp] theorem Gov.mark_brown (g : Gov) (f : Fld) : (g.mark f).brown = g.brown := (rfl)
@[simp] theorem Gov.mark_dark (g : Gov) (f : Fld) : (g.mark f).dark = g.dark := (rfl)
@[simp] theorem Gov.mark_pll (g : Gov) (f : Fld) : (g.mark f).pll = g.pll := (rfl)
@[simp] theorem Gov.mark_pins (g : Gov) (f : Fld) : (g.mark f).pins = g.pins := (rfl)
@[simp] theorem Gov.mark_resp (g : Gov) (f : Fld) : (g.mark f).resp = g.resp := (rfl)
@[simp] theorem Gov.mark_rdata (g : Gov) (f : Fld) : (g.mark f).rdata = g.rdata := (rfl)
@[simp] theorem Gov.mark_free (g : Gov) (f : Fld) : (g.mark f).free = g.free := (rfl)
@[simp] theorem Gov.mark_flt (g : Gov) (f : Fld) : (g.mark f).flt = g.flt := (rfl)
@[simp] theorem Gov.mark_firm (g : Gov) (f : Fld) : (g.mark f).firm = g.firm := (rfl)
@[simp] theorem Gov.mark_cmd (g : Gov) (f : Fld) : (g.mark f).cmd = g.cmd := (rfl)
@[simp] theorem Gov.mark_pwr (g : Gov) (f : Fld) : (g.mark f).pwr = g.pwr := (rfl)
@[simp] theorem Gov.mark_mgmt (g : Gov) (f : Fld) : (g.mark f).mgmt = g.mgmt := (rfl)
@[simp] theorem Gov.mark_eng (g : Gov) (f : Fld) : (g.mark f).eng = g.eng := (rfl)
@[simp] theorem Gov.mark_lim (g : Gov) (f : Fld) : (g.mark f).lim = g.lim := (rfl)
@[simp] theorem Gov.mark_fcu (g : Gov) (f : Fld) : (g.mark f).fcu = g.fcu := (rfl)
@[simp] theorem Gov.mark_clk (g : Gov) (f : Fld) : (g.mark f).clk = g.clk := (rfl)
@[simp] theorem Gov.mark_reg (g : Gov) (f : Fld) : (g.mark f).reg = g.reg := (rfl)
@[simp] theorem Gov.mark_sns (g : Gov) (f : Fld) : (g.mark f).sns = g.sns := (rfl)
@[simp] theorem Gov.mark_led (g : Gov) (f : Fld) : (g.mark f).led = g.led := (rfl)
@[simp] theorem Gov.mark_hws (g : Gov) (f : Fld) : (g.mark f).hws = g.hws := (rfl)
@[simp] theorem Gov.mark_trc (g : Gov) (f : Fld) : (g.mark f).trc = g.trc := (rfl)
@[simp] theorem Gov.mark_tap (g : Gov) (f : Fld) : (g.mark f).tap = g.tap := (rfl)

/-! ### upd -/

@[simp] theorem Gov.upd_fuses (g : Gov) (f : Fld) (h : Nat → Nat) : (g.upd f h).fuses = g.fuses := (rfl)
@[simp] theorem Gov.upd_held (g : Gov) (f : Fld) (h : Nat → Nat) : (g.upd f h).held = g.held := (rfl)
@[simp] theorem Gov.upd_pairs (g : Gov) (f : Fld) (h : Nat → Nat) : (g.upd f h).pairs = g.pairs := (rfl)
@[simp] theorem Gov.upd_now (g : Gov) (f : Fld) (h : Nat → Nat) : (g.upd f h).now = g.now := (rfl)
@[simp] theorem Gov.upd_rst (g : Gov) (f : Fld) (h : Nat → Nat) : (g.upd f h).rst = g.rst := (rfl)
@[simp] theorem Gov.upd_brown (g : Gov) (f : Fld) (h : Nat → Nat) : (g.upd f h).brown = g.brown := (rfl)
@[simp] theorem Gov.upd_dark (g : Gov) (f : Fld) (h : Nat → Nat) : (g.upd f h).dark = g.dark := (rfl)
@[simp] theorem Gov.upd_pll (g : Gov) (f : Fld) (h : Nat → Nat) : (g.upd f h).pll = g.pll := (rfl)
@[simp] theorem Gov.upd_pins (g : Gov) (f : Fld) (h : Nat → Nat) : (g.upd f h).pins = g.pins := (rfl)
@[simp] theorem Gov.upd_resp (g : Gov) (f : Fld) (h : Nat → Nat) : (g.upd f h).resp = g.resp := (rfl)
@[simp] theorem Gov.upd_rdata (g : Gov) (f : Fld) (h : Nat → Nat) : (g.upd f h).rdata = g.rdata := (rfl)
@[simp] theorem Gov.upd_free (g : Gov) (f : Fld) (h : Nat → Nat) : (g.upd f h).free = g.free := (rfl)
@[simp] theorem Gov.upd_flt (g : Gov) (f : Fld) (h : Nat → Nat) : (g.upd f h).flt = g.flt := (rfl)
@[simp] theorem Gov.upd_firm (g : Gov) (f : Fld) (h : Nat → Nat) : (g.upd f h).firm = g.firm := (rfl)
@[simp] theorem Gov.upd_cmd (g : Gov) (f : Fld) (h : Nat → Nat) : (g.upd f h).cmd = g.cmd := (rfl)
@[simp] theorem Gov.upd_pwr (g : Gov) (f : Fld) (h : Nat → Nat) : (g.upd f h).pwr = g.pwr := (rfl)
@[simp] theorem Gov.upd_mgmt (g : Gov) (f : Fld) (h : Nat → Nat) : (g.upd f h).mgmt = g.mgmt := (rfl)
@[simp] theorem Gov.upd_eng (g : Gov) (f : Fld) (h : Nat → Nat) : (g.upd f h).eng = g.eng := (rfl)
@[simp] theorem Gov.upd_lim (g : Gov) (f : Fld) (h : Nat → Nat) : (g.upd f h).lim = g.lim := (rfl)
@[simp] theorem Gov.upd_fcu (g : Gov) (f : Fld) (h : Nat → Nat) : (g.upd f h).fcu = g.fcu := (rfl)
@[simp] theorem Gov.upd_clk (g : Gov) (f : Fld) (h : Nat → Nat) : (g.upd f h).clk = g.clk := (rfl)
@[simp] theorem Gov.upd_reg (g : Gov) (f : Fld) (h : Nat → Nat) : (g.upd f h).reg = g.reg := (rfl)
@[simp] theorem Gov.upd_sns (g : Gov) (f : Fld) (h : Nat → Nat) : (g.upd f h).sns = g.sns := (rfl)
@[simp] theorem Gov.upd_led (g : Gov) (f : Fld) (h : Nat → Nat) : (g.upd f h).led = g.led := (rfl)
@[simp] theorem Gov.upd_hws (g : Gov) (f : Fld) (h : Nat → Nat) : (g.upd f h).hws = g.hws := (rfl)
@[simp] theorem Gov.upd_trc (g : Gov) (f : Fld) (h : Nat → Nat) : (g.upd f h).trc = g.trc := (rfl)
@[simp] theorem Gov.upd_tap (g : Gov) (f : Fld) (h : Nat → Nat) : (g.upd f h).tap = g.tap := (rfl)

/-! ### inc -/

@[simp] theorem Gov.inc_fuses (g : Gov) (f : Fld) (n : Nat) : (g.inc f n).fuses = g.fuses := (rfl)
@[simp] theorem Gov.inc_held (g : Gov) (f : Fld) (n : Nat) : (g.inc f n).held = g.held := (rfl)
@[simp] theorem Gov.inc_pairs (g : Gov) (f : Fld) (n : Nat) : (g.inc f n).pairs = g.pairs := (rfl)
@[simp] theorem Gov.inc_now (g : Gov) (f : Fld) (n : Nat) : (g.inc f n).now = g.now := (rfl)
@[simp] theorem Gov.inc_rst (g : Gov) (f : Fld) (n : Nat) : (g.inc f n).rst = g.rst := (rfl)
@[simp] theorem Gov.inc_brown (g : Gov) (f : Fld) (n : Nat) : (g.inc f n).brown = g.brown := (rfl)
@[simp] theorem Gov.inc_dark (g : Gov) (f : Fld) (n : Nat) : (g.inc f n).dark = g.dark := (rfl)
@[simp] theorem Gov.inc_pll (g : Gov) (f : Fld) (n : Nat) : (g.inc f n).pll = g.pll := (rfl)
@[simp] theorem Gov.inc_pins (g : Gov) (f : Fld) (n : Nat) : (g.inc f n).pins = g.pins := (rfl)
@[simp] theorem Gov.inc_resp (g : Gov) (f : Fld) (n : Nat) : (g.inc f n).resp = g.resp := (rfl)
@[simp] theorem Gov.inc_rdata (g : Gov) (f : Fld) (n : Nat) : (g.inc f n).rdata = g.rdata := (rfl)
@[simp] theorem Gov.inc_free (g : Gov) (f : Fld) (n : Nat) : (g.inc f n).free = g.free := (rfl)
@[simp] theorem Gov.inc_flt (g : Gov) (f : Fld) (n : Nat) : (g.inc f n).flt = g.flt := (rfl)
@[simp] theorem Gov.inc_firm (g : Gov) (f : Fld) (n : Nat) : (g.inc f n).firm = g.firm := (rfl)
@[simp] theorem Gov.inc_cmd (g : Gov) (f : Fld) (n : Nat) : (g.inc f n).cmd = g.cmd := (rfl)
@[simp] theorem Gov.inc_pwr (g : Gov) (f : Fld) (n : Nat) : (g.inc f n).pwr = g.pwr := (rfl)
@[simp] theorem Gov.inc_mgmt (g : Gov) (f : Fld) (n : Nat) : (g.inc f n).mgmt = g.mgmt := (rfl)
@[simp] theorem Gov.inc_eng (g : Gov) (f : Fld) (n : Nat) : (g.inc f n).eng = g.eng := (rfl)
@[simp] theorem Gov.inc_lim (g : Gov) (f : Fld) (n : Nat) : (g.inc f n).lim = g.lim := (rfl)
@[simp] theorem Gov.inc_fcu (g : Gov) (f : Fld) (n : Nat) : (g.inc f n).fcu = g.fcu := (rfl)
@[simp] theorem Gov.inc_clk (g : Gov) (f : Fld) (n : Nat) : (g.inc f n).clk = g.clk := (rfl)
@[simp] theorem Gov.inc_reg (g : Gov) (f : Fld) (n : Nat) : (g.inc f n).reg = g.reg := (rfl)
@[simp] theorem Gov.inc_sns (g : Gov) (f : Fld) (n : Nat) : (g.inc f n).sns = g.sns := (rfl)
@[simp] theorem Gov.inc_led (g : Gov) (f : Fld) (n : Nat) : (g.inc f n).led = g.led := (rfl)
@[simp] theorem Gov.inc_hws (g : Gov) (f : Fld) (n : Nat) : (g.inc f n).hws = g.hws := (rfl)
@[simp] theorem Gov.inc_trc (g : Gov) (f : Fld) (n : Nat) : (g.inc f n).trc = g.trc := (rfl)
@[simp] theorem Gov.inc_tap (g : Gov) (f : Fld) (n : Nat) : (g.inc f n).tap = g.tap := (rfl)

/-! ### sset -/

@[simp] theorem Gov.sset_fuses (g : Gov) (f : Fld) (v : Int) : (g.sset f v).fuses = g.fuses := (rfl)
@[simp] theorem Gov.sset_held (g : Gov) (f : Fld) (v : Int) : (g.sset f v).held = g.held := (rfl)
@[simp] theorem Gov.sset_pairs (g : Gov) (f : Fld) (v : Int) : (g.sset f v).pairs = g.pairs := (rfl)
@[simp] theorem Gov.sset_now (g : Gov) (f : Fld) (v : Int) : (g.sset f v).now = g.now := (rfl)
@[simp] theorem Gov.sset_rst (g : Gov) (f : Fld) (v : Int) : (g.sset f v).rst = g.rst := (rfl)
@[simp] theorem Gov.sset_brown (g : Gov) (f : Fld) (v : Int) : (g.sset f v).brown = g.brown := (rfl)
@[simp] theorem Gov.sset_dark (g : Gov) (f : Fld) (v : Int) : (g.sset f v).dark = g.dark := (rfl)
@[simp] theorem Gov.sset_pll (g : Gov) (f : Fld) (v : Int) : (g.sset f v).pll = g.pll := (rfl)
@[simp] theorem Gov.sset_pins (g : Gov) (f : Fld) (v : Int) : (g.sset f v).pins = g.pins := (rfl)
@[simp] theorem Gov.sset_resp (g : Gov) (f : Fld) (v : Int) : (g.sset f v).resp = g.resp := (rfl)
@[simp] theorem Gov.sset_rdata (g : Gov) (f : Fld) (v : Int) : (g.sset f v).rdata = g.rdata := (rfl)
@[simp] theorem Gov.sset_free (g : Gov) (f : Fld) (v : Int) : (g.sset f v).free = g.free := (rfl)
@[simp] theorem Gov.sset_flt (g : Gov) (f : Fld) (v : Int) : (g.sset f v).flt = g.flt := (rfl)
@[simp] theorem Gov.sset_firm (g : Gov) (f : Fld) (v : Int) : (g.sset f v).firm = g.firm := (rfl)
@[simp] theorem Gov.sset_cmd (g : Gov) (f : Fld) (v : Int) : (g.sset f v).cmd = g.cmd := (rfl)
@[simp] theorem Gov.sset_pwr (g : Gov) (f : Fld) (v : Int) : (g.sset f v).pwr = g.pwr := (rfl)
@[simp] theorem Gov.sset_mgmt (g : Gov) (f : Fld) (v : Int) : (g.sset f v).mgmt = g.mgmt := (rfl)
@[simp] theorem Gov.sset_eng (g : Gov) (f : Fld) (v : Int) : (g.sset f v).eng = g.eng := (rfl)
@[simp] theorem Gov.sset_lim (g : Gov) (f : Fld) (v : Int) : (g.sset f v).lim = g.lim := (rfl)
@[simp] theorem Gov.sset_fcu (g : Gov) (f : Fld) (v : Int) : (g.sset f v).fcu = g.fcu := (rfl)
@[simp] theorem Gov.sset_clk (g : Gov) (f : Fld) (v : Int) : (g.sset f v).clk = g.clk := (rfl)
@[simp] theorem Gov.sset_reg (g : Gov) (f : Fld) (v : Int) : (g.sset f v).reg = g.reg := (rfl)
@[simp] theorem Gov.sset_sns (g : Gov) (f : Fld) (v : Int) : (g.sset f v).sns = g.sns := (rfl)
@[simp] theorem Gov.sset_led (g : Gov) (f : Fld) (v : Int) : (g.sset f v).led = g.led := (rfl)
@[simp] theorem Gov.sset_hws (g : Gov) (f : Fld) (v : Int) : (g.sset f v).hws = g.hws := (rfl)
@[simp] theorem Gov.sset_trc (g : Gov) (f : Fld) (v : Int) : (g.sset f v).trc = g.trc := (rfl)
@[simp] theorem Gov.sset_tap (g : Gov) (f : Fld) (v : Int) : (g.sset f v).tap = g.tap := (rfl)

/-! ### adv -/

@[simp] theorem Gov.adv_fuses (g : Gov) (t : Fin 250) : (g.adv t).fuses = g.fuses := (rfl)
@[simp] theorem Gov.adv_regs (g : Gov) (t : Fin 250) : (g.adv t).regs = g.regs := (rfl)
@[simp] theorem Gov.adv_held (g : Gov) (t : Fin 250) : (g.adv t).held = g.held := (rfl)
@[simp] theorem Gov.adv_pairs (g : Gov) (t : Fin 250) : (g.adv t).pairs = g.pairs := (rfl)
@[simp] theorem Gov.adv_rst (g : Gov) (t : Fin 250) : (g.adv t).rst = g.rst := (rfl)
@[simp] theorem Gov.adv_brown (g : Gov) (t : Fin 250) : (g.adv t).brown = g.brown := (rfl)
@[simp] theorem Gov.adv_dark (g : Gov) (t : Fin 250) : (g.adv t).dark = g.dark := (rfl)
@[simp] theorem Gov.adv_pll (g : Gov) (t : Fin 250) : (g.adv t).pll = g.pll := (rfl)
@[simp] theorem Gov.adv_pins (g : Gov) (t : Fin 250) : (g.adv t).pins = g.pins := (rfl)
@[simp] theorem Gov.adv_resp (g : Gov) (t : Fin 250) : (g.adv t).resp = g.resp := (rfl)
@[simp] theorem Gov.adv_rdata (g : Gov) (t : Fin 250) : (g.adv t).rdata = g.rdata := (rfl)
@[simp] theorem Gov.adv_free (g : Gov) (t : Fin 250) : (g.adv t).free = g.free := (rfl)
@[simp] theorem Gov.adv_flt (g : Gov) (t : Fin 250) : (g.adv t).flt = g.flt := (rfl)
@[simp] theorem Gov.adv_firm (g : Gov) (t : Fin 250) : (g.adv t).firm = g.firm := (rfl)
@[simp] theorem Gov.adv_cmd (g : Gov) (t : Fin 250) : (g.adv t).cmd = g.cmd := (rfl)
@[simp] theorem Gov.adv_pwr (g : Gov) (t : Fin 250) : (g.adv t).pwr = g.pwr := (rfl)
@[simp] theorem Gov.adv_mgmt (g : Gov) (t : Fin 250) : (g.adv t).mgmt = g.mgmt := (rfl)
@[simp] theorem Gov.adv_eng (g : Gov) (t : Fin 250) : (g.adv t).eng = g.eng := (rfl)
@[simp] theorem Gov.adv_lim (g : Gov) (t : Fin 250) : (g.adv t).lim = g.lim := (rfl)
@[simp] theorem Gov.adv_fcu (g : Gov) (t : Fin 250) : (g.adv t).fcu = g.fcu := (rfl)
@[simp] theorem Gov.adv_clk (g : Gov) (t : Fin 250) : (g.adv t).clk = g.clk := (rfl)
@[simp] theorem Gov.adv_reg (g : Gov) (t : Fin 250) : (g.adv t).reg = g.reg := (rfl)
@[simp] theorem Gov.adv_sns (g : Gov) (t : Fin 250) : (g.adv t).sns = g.sns := (rfl)
@[simp] theorem Gov.adv_led (g : Gov) (t : Fin 250) : (g.adv t).led = g.led := (rfl)
@[simp] theorem Gov.adv_hws (g : Gov) (t : Fin 250) : (g.adv t).hws = g.hws := (rfl)
@[simp] theorem Gov.adv_trc (g : Gov) (t : Fin 250) : (g.adv t).trc = g.trc := (rfl)
@[simp] theorem Gov.adv_tap (g : Gov) (t : Fin 250) : (g.adv t).tap = g.tap := (rfl)
@[simp] theorem Gov.adv_word (g : Gov) (t : Fin 250) (off : Nat) : (g.adv t).word off = g.word off := (rfl)
@[simp] theorem Gov.adv_get (g : Gov) (t : Fin 250) (h' : Fld) : (g.adv t).get h' = g.get h' := (rfl)
@[simp] theorem Gov.adv_flag (g : Gov) (t : Fin 250) (h' : Fld) : (g.adv t).flag h' = g.flag h' := (rfl)
@[simp] theorem Gov.adv_sget (g : Gov) (t : Fin 250) (h' : Fld) : (g.adv t).sget h' = g.sget h' := (rfl)

/-! ### respond -/

@[simp] theorem Gov.respond_fuses (g : Gov) (c : Nat) (d : Word) : (g.respond c d).fuses = g.fuses := (rfl)
@[simp] theorem Gov.respond_regs (g : Gov) (c : Nat) (d : Word) : (g.respond c d).regs = g.regs := (rfl)
@[simp] theorem Gov.respond_held (g : Gov) (c : Nat) (d : Word) : (g.respond c d).held = g.held := (rfl)
@[simp] theorem Gov.respond_pairs (g : Gov) (c : Nat) (d : Word) : (g.respond c d).pairs = g.pairs := (rfl)
@[simp] theorem Gov.respond_now (g : Gov) (c : Nat) (d : Word) : (g.respond c d).now = g.now := (rfl)
@[simp] theorem Gov.respond_rst (g : Gov) (c : Nat) (d : Word) : (g.respond c d).rst = g.rst := (rfl)
@[simp] theorem Gov.respond_brown (g : Gov) (c : Nat) (d : Word) : (g.respond c d).brown = g.brown := (rfl)
@[simp] theorem Gov.respond_dark (g : Gov) (c : Nat) (d : Word) : (g.respond c d).dark = g.dark := (rfl)
@[simp] theorem Gov.respond_pll (g : Gov) (c : Nat) (d : Word) : (g.respond c d).pll = g.pll := (rfl)
@[simp] theorem Gov.respond_pins (g : Gov) (c : Nat) (d : Word) : (g.respond c d).pins = g.pins := (rfl)
@[simp] theorem Gov.respond_free (g : Gov) (c : Nat) (d : Word) : (g.respond c d).free = g.free := (rfl)
@[simp] theorem Gov.respond_flt (g : Gov) (c : Nat) (d : Word) : (g.respond c d).flt = g.flt := (rfl)
@[simp] theorem Gov.respond_firm (g : Gov) (c : Nat) (d : Word) : (g.respond c d).firm = g.firm := (rfl)
@[simp] theorem Gov.respond_cmd (g : Gov) (c : Nat) (d : Word) : (g.respond c d).cmd = g.cmd := (rfl)
@[simp] theorem Gov.respond_pwr (g : Gov) (c : Nat) (d : Word) : (g.respond c d).pwr = g.pwr := (rfl)
@[simp] theorem Gov.respond_mgmt (g : Gov) (c : Nat) (d : Word) : (g.respond c d).mgmt = g.mgmt := (rfl)
@[simp] theorem Gov.respond_eng (g : Gov) (c : Nat) (d : Word) : (g.respond c d).eng = g.eng := (rfl)
@[simp] theorem Gov.respond_lim (g : Gov) (c : Nat) (d : Word) : (g.respond c d).lim = g.lim := (rfl)
@[simp] theorem Gov.respond_fcu (g : Gov) (c : Nat) (d : Word) : (g.respond c d).fcu = g.fcu := (rfl)
@[simp] theorem Gov.respond_clk (g : Gov) (c : Nat) (d : Word) : (g.respond c d).clk = g.clk := (rfl)
@[simp] theorem Gov.respond_reg (g : Gov) (c : Nat) (d : Word) : (g.respond c d).reg = g.reg := (rfl)
@[simp] theorem Gov.respond_sns (g : Gov) (c : Nat) (d : Word) : (g.respond c d).sns = g.sns := (rfl)
@[simp] theorem Gov.respond_led (g : Gov) (c : Nat) (d : Word) : (g.respond c d).led = g.led := (rfl)
@[simp] theorem Gov.respond_hws (g : Gov) (c : Nat) (d : Word) : (g.respond c d).hws = g.hws := (rfl)
@[simp] theorem Gov.respond_trc (g : Gov) (c : Nat) (d : Word) : (g.respond c d).trc = g.trc := (rfl)
@[simp] theorem Gov.respond_tap (g : Gov) (c : Nat) (d : Word) : (g.respond c d).tap = g.tap := (rfl)
@[simp] theorem Gov.respond_word (g : Gov) (c : Nat) (d : Word) (off : Nat) : (g.respond c d).word off = g.word off := (rfl)
@[simp] theorem Gov.respond_get (g : Gov) (c : Nat) (d : Word) (h' : Fld) : (g.respond c d).get h' = g.get h' := (rfl)
@[simp] theorem Gov.respond_flag (g : Gov) (c : Nat) (d : Word) (h' : Fld) : (g.respond c d).flag h' = g.flag h' := (rfl)
@[simp] theorem Gov.respond_sget (g : Gov) (c : Nat) (d : Word) (h' : Fld) : (g.respond c d).sget h' = g.sget h' := (rfl)

/-! ### withFlt -/

@[simp] theorem Gov.withFlt_fuses (g : Gov) (x : FaultSt) : (g.withFlt x).fuses = g.fuses := (rfl)
@[simp] theorem Gov.withFlt_regs (g : Gov) (x : FaultSt) : (g.withFlt x).regs = g.regs := (rfl)
@[simp] theorem Gov.withFlt_held (g : Gov) (x : FaultSt) : (g.withFlt x).held = g.held := (rfl)
@[simp] theorem Gov.withFlt_pairs (g : Gov) (x : FaultSt) : (g.withFlt x).pairs = g.pairs := (rfl)
@[simp] theorem Gov.withFlt_now (g : Gov) (x : FaultSt) : (g.withFlt x).now = g.now := (rfl)
@[simp] theorem Gov.withFlt_rst (g : Gov) (x : FaultSt) : (g.withFlt x).rst = g.rst := (rfl)
@[simp] theorem Gov.withFlt_brown (g : Gov) (x : FaultSt) : (g.withFlt x).brown = g.brown := (rfl)
@[simp] theorem Gov.withFlt_dark (g : Gov) (x : FaultSt) : (g.withFlt x).dark = g.dark := (rfl)
@[simp] theorem Gov.withFlt_pll (g : Gov) (x : FaultSt) : (g.withFlt x).pll = g.pll := (rfl)
@[simp] theorem Gov.withFlt_pins (g : Gov) (x : FaultSt) : (g.withFlt x).pins = g.pins := (rfl)
@[simp] theorem Gov.withFlt_resp (g : Gov) (x : FaultSt) : (g.withFlt x).resp = g.resp := (rfl)
@[simp] theorem Gov.withFlt_rdata (g : Gov) (x : FaultSt) : (g.withFlt x).rdata = g.rdata := (rfl)
@[simp] theorem Gov.withFlt_free (g : Gov) (x : FaultSt) : (g.withFlt x).free = g.free := (rfl)
@[simp] theorem Gov.withFlt_firm (g : Gov) (x : FaultSt) : (g.withFlt x).firm = g.firm := (rfl)
@[simp] theorem Gov.withFlt_cmd (g : Gov) (x : FaultSt) : (g.withFlt x).cmd = g.cmd := (rfl)
@[simp] theorem Gov.withFlt_pwr (g : Gov) (x : FaultSt) : (g.withFlt x).pwr = g.pwr := (rfl)
@[simp] theorem Gov.withFlt_mgmt (g : Gov) (x : FaultSt) : (g.withFlt x).mgmt = g.mgmt := (rfl)
@[simp] theorem Gov.withFlt_eng (g : Gov) (x : FaultSt) : (g.withFlt x).eng = g.eng := (rfl)
@[simp] theorem Gov.withFlt_lim (g : Gov) (x : FaultSt) : (g.withFlt x).lim = g.lim := (rfl)
@[simp] theorem Gov.withFlt_fcu (g : Gov) (x : FaultSt) : (g.withFlt x).fcu = g.fcu := (rfl)
@[simp] theorem Gov.withFlt_clk (g : Gov) (x : FaultSt) : (g.withFlt x).clk = g.clk := (rfl)
@[simp] theorem Gov.withFlt_reg (g : Gov) (x : FaultSt) : (g.withFlt x).reg = g.reg := (rfl)
@[simp] theorem Gov.withFlt_sns (g : Gov) (x : FaultSt) : (g.withFlt x).sns = g.sns := (rfl)
@[simp] theorem Gov.withFlt_led (g : Gov) (x : FaultSt) : (g.withFlt x).led = g.led := (rfl)
@[simp] theorem Gov.withFlt_hws (g : Gov) (x : FaultSt) : (g.withFlt x).hws = g.hws := (rfl)
@[simp] theorem Gov.withFlt_trc (g : Gov) (x : FaultSt) : (g.withFlt x).trc = g.trc := (rfl)
@[simp] theorem Gov.withFlt_tap (g : Gov) (x : FaultSt) : (g.withFlt x).tap = g.tap := (rfl)
@[simp] theorem Gov.withFlt_flt (g : Gov) (x : FaultSt) : (g.withFlt x).flt = x := (rfl)
@[simp] theorem Gov.withFlt_word (g : Gov) (x : FaultSt) (off : Nat) : (g.withFlt x).word off = g.word off := (rfl)
@[simp] theorem Gov.withFlt_get (g : Gov) (x : FaultSt) (h' : Fld) : (g.withFlt x).get h' = g.get h' := (rfl)
@[simp] theorem Gov.withFlt_flag (g : Gov) (x : FaultSt) (h' : Fld) : (g.withFlt x).flag h' = g.flag h' := (rfl)
@[simp] theorem Gov.withFlt_sget (g : Gov) (x : FaultSt) (h' : Fld) : (g.withFlt x).sget h' = g.sget h' := (rfl)

/-! ### withFirm -/

@[simp] theorem Gov.withFirm_fuses (g : Gov) (x : FirmSt) : (g.withFirm x).fuses = g.fuses := (rfl)
@[simp] theorem Gov.withFirm_regs (g : Gov) (x : FirmSt) : (g.withFirm x).regs = g.regs := (rfl)
@[simp] theorem Gov.withFirm_held (g : Gov) (x : FirmSt) : (g.withFirm x).held = g.held := (rfl)
@[simp] theorem Gov.withFirm_pairs (g : Gov) (x : FirmSt) : (g.withFirm x).pairs = g.pairs := (rfl)
@[simp] theorem Gov.withFirm_now (g : Gov) (x : FirmSt) : (g.withFirm x).now = g.now := (rfl)
@[simp] theorem Gov.withFirm_rst (g : Gov) (x : FirmSt) : (g.withFirm x).rst = g.rst := (rfl)
@[simp] theorem Gov.withFirm_brown (g : Gov) (x : FirmSt) : (g.withFirm x).brown = g.brown := (rfl)
@[simp] theorem Gov.withFirm_dark (g : Gov) (x : FirmSt) : (g.withFirm x).dark = g.dark := (rfl)
@[simp] theorem Gov.withFirm_pll (g : Gov) (x : FirmSt) : (g.withFirm x).pll = g.pll := (rfl)
@[simp] theorem Gov.withFirm_pins (g : Gov) (x : FirmSt) : (g.withFirm x).pins = g.pins := (rfl)
@[simp] theorem Gov.withFirm_resp (g : Gov) (x : FirmSt) : (g.withFirm x).resp = g.resp := (rfl)
@[simp] theorem Gov.withFirm_rdata (g : Gov) (x : FirmSt) : (g.withFirm x).rdata = g.rdata := (rfl)
@[simp] theorem Gov.withFirm_free (g : Gov) (x : FirmSt) : (g.withFirm x).free = g.free := (rfl)
@[simp] theorem Gov.withFirm_flt (g : Gov) (x : FirmSt) : (g.withFirm x).flt = g.flt := (rfl)
@[simp] theorem Gov.withFirm_cmd (g : Gov) (x : FirmSt) : (g.withFirm x).cmd = g.cmd := (rfl)
@[simp] theorem Gov.withFirm_pwr (g : Gov) (x : FirmSt) : (g.withFirm x).pwr = g.pwr := (rfl)
@[simp] theorem Gov.withFirm_mgmt (g : Gov) (x : FirmSt) : (g.withFirm x).mgmt = g.mgmt := (rfl)
@[simp] theorem Gov.withFirm_eng (g : Gov) (x : FirmSt) : (g.withFirm x).eng = g.eng := (rfl)
@[simp] theorem Gov.withFirm_lim (g : Gov) (x : FirmSt) : (g.withFirm x).lim = g.lim := (rfl)
@[simp] theorem Gov.withFirm_fcu (g : Gov) (x : FirmSt) : (g.withFirm x).fcu = g.fcu := (rfl)
@[simp] theorem Gov.withFirm_clk (g : Gov) (x : FirmSt) : (g.withFirm x).clk = g.clk := (rfl)
@[simp] theorem Gov.withFirm_reg (g : Gov) (x : FirmSt) : (g.withFirm x).reg = g.reg := (rfl)
@[simp] theorem Gov.withFirm_sns (g : Gov) (x : FirmSt) : (g.withFirm x).sns = g.sns := (rfl)
@[simp] theorem Gov.withFirm_led (g : Gov) (x : FirmSt) : (g.withFirm x).led = g.led := (rfl)
@[simp] theorem Gov.withFirm_hws (g : Gov) (x : FirmSt) : (g.withFirm x).hws = g.hws := (rfl)
@[simp] theorem Gov.withFirm_trc (g : Gov) (x : FirmSt) : (g.withFirm x).trc = g.trc := (rfl)
@[simp] theorem Gov.withFirm_tap (g : Gov) (x : FirmSt) : (g.withFirm x).tap = g.tap := (rfl)
@[simp] theorem Gov.withFirm_firm (g : Gov) (x : FirmSt) : (g.withFirm x).firm = x := (rfl)
@[simp] theorem Gov.withFirm_word (g : Gov) (x : FirmSt) (off : Nat) : (g.withFirm x).word off = g.word off := (rfl)
@[simp] theorem Gov.withFirm_get (g : Gov) (x : FirmSt) (h' : Fld) : (g.withFirm x).get h' = g.get h' := (rfl)
@[simp] theorem Gov.withFirm_flag (g : Gov) (x : FirmSt) (h' : Fld) : (g.withFirm x).flag h' = g.flag h' := (rfl)
@[simp] theorem Gov.withFirm_sget (g : Gov) (x : FirmSt) (h' : Fld) : (g.withFirm x).sget h' = g.sget h' := (rfl)

/-! ### withCmd -/

@[simp] theorem Gov.withCmd_fuses (g : Gov) (x : CmdSt) : (g.withCmd x).fuses = g.fuses := (rfl)
@[simp] theorem Gov.withCmd_regs (g : Gov) (x : CmdSt) : (g.withCmd x).regs = g.regs := (rfl)
@[simp] theorem Gov.withCmd_held (g : Gov) (x : CmdSt) : (g.withCmd x).held = g.held := (rfl)
@[simp] theorem Gov.withCmd_pairs (g : Gov) (x : CmdSt) : (g.withCmd x).pairs = g.pairs := (rfl)
@[simp] theorem Gov.withCmd_now (g : Gov) (x : CmdSt) : (g.withCmd x).now = g.now := (rfl)
@[simp] theorem Gov.withCmd_rst (g : Gov) (x : CmdSt) : (g.withCmd x).rst = g.rst := (rfl)
@[simp] theorem Gov.withCmd_brown (g : Gov) (x : CmdSt) : (g.withCmd x).brown = g.brown := (rfl)
@[simp] theorem Gov.withCmd_dark (g : Gov) (x : CmdSt) : (g.withCmd x).dark = g.dark := (rfl)
@[simp] theorem Gov.withCmd_pll (g : Gov) (x : CmdSt) : (g.withCmd x).pll = g.pll := (rfl)
@[simp] theorem Gov.withCmd_pins (g : Gov) (x : CmdSt) : (g.withCmd x).pins = g.pins := (rfl)
@[simp] theorem Gov.withCmd_resp (g : Gov) (x : CmdSt) : (g.withCmd x).resp = g.resp := (rfl)
@[simp] theorem Gov.withCmd_rdata (g : Gov) (x : CmdSt) : (g.withCmd x).rdata = g.rdata := (rfl)
@[simp] theorem Gov.withCmd_free (g : Gov) (x : CmdSt) : (g.withCmd x).free = g.free := (rfl)
@[simp] theorem Gov.withCmd_flt (g : Gov) (x : CmdSt) : (g.withCmd x).flt = g.flt := (rfl)
@[simp] theorem Gov.withCmd_firm (g : Gov) (x : CmdSt) : (g.withCmd x).firm = g.firm := (rfl)
@[simp] theorem Gov.withCmd_pwr (g : Gov) (x : CmdSt) : (g.withCmd x).pwr = g.pwr := (rfl)
@[simp] theorem Gov.withCmd_mgmt (g : Gov) (x : CmdSt) : (g.withCmd x).mgmt = g.mgmt := (rfl)
@[simp] theorem Gov.withCmd_eng (g : Gov) (x : CmdSt) : (g.withCmd x).eng = g.eng := (rfl)
@[simp] theorem Gov.withCmd_lim (g : Gov) (x : CmdSt) : (g.withCmd x).lim = g.lim := (rfl)
@[simp] theorem Gov.withCmd_fcu (g : Gov) (x : CmdSt) : (g.withCmd x).fcu = g.fcu := (rfl)
@[simp] theorem Gov.withCmd_clk (g : Gov) (x : CmdSt) : (g.withCmd x).clk = g.clk := (rfl)
@[simp] theorem Gov.withCmd_reg (g : Gov) (x : CmdSt) : (g.withCmd x).reg = g.reg := (rfl)
@[simp] theorem Gov.withCmd_sns (g : Gov) (x : CmdSt) : (g.withCmd x).sns = g.sns := (rfl)
@[simp] theorem Gov.withCmd_led (g : Gov) (x : CmdSt) : (g.withCmd x).led = g.led := (rfl)
@[simp] theorem Gov.withCmd_hws (g : Gov) (x : CmdSt) : (g.withCmd x).hws = g.hws := (rfl)
@[simp] theorem Gov.withCmd_trc (g : Gov) (x : CmdSt) : (g.withCmd x).trc = g.trc := (rfl)
@[simp] theorem Gov.withCmd_tap (g : Gov) (x : CmdSt) : (g.withCmd x).tap = g.tap := (rfl)
@[simp] theorem Gov.withCmd_cmd (g : Gov) (x : CmdSt) : (g.withCmd x).cmd = x := (rfl)
@[simp] theorem Gov.withCmd_word (g : Gov) (x : CmdSt) (off : Nat) : (g.withCmd x).word off = g.word off := (rfl)
@[simp] theorem Gov.withCmd_get (g : Gov) (x : CmdSt) (h' : Fld) : (g.withCmd x).get h' = g.get h' := (rfl)
@[simp] theorem Gov.withCmd_flag (g : Gov) (x : CmdSt) (h' : Fld) : (g.withCmd x).flag h' = g.flag h' := (rfl)
@[simp] theorem Gov.withCmd_sget (g : Gov) (x : CmdSt) (h' : Fld) : (g.withCmd x).sget h' = g.sget h' := (rfl)

/-! ### withPwr -/

@[simp] theorem Gov.withPwr_fuses (g : Gov) (x : PowerSt) : (g.withPwr x).fuses = g.fuses := (rfl)
@[simp] theorem Gov.withPwr_regs (g : Gov) (x : PowerSt) : (g.withPwr x).regs = g.regs := (rfl)
@[simp] theorem Gov.withPwr_held (g : Gov) (x : PowerSt) : (g.withPwr x).held = g.held := (rfl)
@[simp] theorem Gov.withPwr_pairs (g : Gov) (x : PowerSt) : (g.withPwr x).pairs = g.pairs := (rfl)
@[simp] theorem Gov.withPwr_now (g : Gov) (x : PowerSt) : (g.withPwr x).now = g.now := (rfl)
@[simp] theorem Gov.withPwr_rst (g : Gov) (x : PowerSt) : (g.withPwr x).rst = g.rst := (rfl)
@[simp] theorem Gov.withPwr_brown (g : Gov) (x : PowerSt) : (g.withPwr x).brown = g.brown := (rfl)
@[simp] theorem Gov.withPwr_dark (g : Gov) (x : PowerSt) : (g.withPwr x).dark = g.dark := (rfl)
@[simp] theorem Gov.withPwr_pll (g : Gov) (x : PowerSt) : (g.withPwr x).pll = g.pll := (rfl)
@[simp] theorem Gov.withPwr_pins (g : Gov) (x : PowerSt) : (g.withPwr x).pins = g.pins := (rfl)
@[simp] theorem Gov.withPwr_resp (g : Gov) (x : PowerSt) : (g.withPwr x).resp = g.resp := (rfl)
@[simp] theorem Gov.withPwr_rdata (g : Gov) (x : PowerSt) : (g.withPwr x).rdata = g.rdata := (rfl)
@[simp] theorem Gov.withPwr_free (g : Gov) (x : PowerSt) : (g.withPwr x).free = g.free := (rfl)
@[simp] theorem Gov.withPwr_flt (g : Gov) (x : PowerSt) : (g.withPwr x).flt = g.flt := (rfl)
@[simp] theorem Gov.withPwr_firm (g : Gov) (x : PowerSt) : (g.withPwr x).firm = g.firm := (rfl)
@[simp] theorem Gov.withPwr_cmd (g : Gov) (x : PowerSt) : (g.withPwr x).cmd = g.cmd := (rfl)
@[simp] theorem Gov.withPwr_mgmt (g : Gov) (x : PowerSt) : (g.withPwr x).mgmt = g.mgmt := (rfl)
@[simp] theorem Gov.withPwr_eng (g : Gov) (x : PowerSt) : (g.withPwr x).eng = g.eng := (rfl)
@[simp] theorem Gov.withPwr_lim (g : Gov) (x : PowerSt) : (g.withPwr x).lim = g.lim := (rfl)
@[simp] theorem Gov.withPwr_fcu (g : Gov) (x : PowerSt) : (g.withPwr x).fcu = g.fcu := (rfl)
@[simp] theorem Gov.withPwr_clk (g : Gov) (x : PowerSt) : (g.withPwr x).clk = g.clk := (rfl)
@[simp] theorem Gov.withPwr_reg (g : Gov) (x : PowerSt) : (g.withPwr x).reg = g.reg := (rfl)
@[simp] theorem Gov.withPwr_sns (g : Gov) (x : PowerSt) : (g.withPwr x).sns = g.sns := (rfl)
@[simp] theorem Gov.withPwr_led (g : Gov) (x : PowerSt) : (g.withPwr x).led = g.led := (rfl)
@[simp] theorem Gov.withPwr_hws (g : Gov) (x : PowerSt) : (g.withPwr x).hws = g.hws := (rfl)
@[simp] theorem Gov.withPwr_trc (g : Gov) (x : PowerSt) : (g.withPwr x).trc = g.trc := (rfl)
@[simp] theorem Gov.withPwr_tap (g : Gov) (x : PowerSt) : (g.withPwr x).tap = g.tap := (rfl)
@[simp] theorem Gov.withPwr_pwr (g : Gov) (x : PowerSt) : (g.withPwr x).pwr = x := (rfl)
@[simp] theorem Gov.withPwr_word (g : Gov) (x : PowerSt) (off : Nat) : (g.withPwr x).word off = g.word off := (rfl)
@[simp] theorem Gov.withPwr_get (g : Gov) (x : PowerSt) (h' : Fld) : (g.withPwr x).get h' = g.get h' := (rfl)
@[simp] theorem Gov.withPwr_flag (g : Gov) (x : PowerSt) (h' : Fld) : (g.withPwr x).flag h' = g.flag h' := (rfl)
@[simp] theorem Gov.withPwr_sget (g : Gov) (x : PowerSt) (h' : Fld) : (g.withPwr x).sget h' = g.sget h' := (rfl)

/-! ### withMgmt -/

@[simp] theorem Gov.withMgmt_fuses (g : Gov) (x : MgmtSt) : (g.withMgmt x).fuses = g.fuses := (rfl)
@[simp] theorem Gov.withMgmt_regs (g : Gov) (x : MgmtSt) : (g.withMgmt x).regs = g.regs := (rfl)
@[simp] theorem Gov.withMgmt_held (g : Gov) (x : MgmtSt) : (g.withMgmt x).held = g.held := (rfl)
@[simp] theorem Gov.withMgmt_pairs (g : Gov) (x : MgmtSt) : (g.withMgmt x).pairs = g.pairs := (rfl)
@[simp] theorem Gov.withMgmt_now (g : Gov) (x : MgmtSt) : (g.withMgmt x).now = g.now := (rfl)
@[simp] theorem Gov.withMgmt_rst (g : Gov) (x : MgmtSt) : (g.withMgmt x).rst = g.rst := (rfl)
@[simp] theorem Gov.withMgmt_brown (g : Gov) (x : MgmtSt) : (g.withMgmt x).brown = g.brown := (rfl)
@[simp] theorem Gov.withMgmt_dark (g : Gov) (x : MgmtSt) : (g.withMgmt x).dark = g.dark := (rfl)
@[simp] theorem Gov.withMgmt_pll (g : Gov) (x : MgmtSt) : (g.withMgmt x).pll = g.pll := (rfl)
@[simp] theorem Gov.withMgmt_pins (g : Gov) (x : MgmtSt) : (g.withMgmt x).pins = g.pins := (rfl)
@[simp] theorem Gov.withMgmt_resp (g : Gov) (x : MgmtSt) : (g.withMgmt x).resp = g.resp := (rfl)
@[simp] theorem Gov.withMgmt_rdata (g : Gov) (x : MgmtSt) : (g.withMgmt x).rdata = g.rdata := (rfl)
@[simp] theorem Gov.withMgmt_free (g : Gov) (x : MgmtSt) : (g.withMgmt x).free = g.free := (rfl)
@[simp] theorem Gov.withMgmt_flt (g : Gov) (x : MgmtSt) : (g.withMgmt x).flt = g.flt := (rfl)
@[simp] theorem Gov.withMgmt_firm (g : Gov) (x : MgmtSt) : (g.withMgmt x).firm = g.firm := (rfl)
@[simp] theorem Gov.withMgmt_cmd (g : Gov) (x : MgmtSt) : (g.withMgmt x).cmd = g.cmd := (rfl)
@[simp] theorem Gov.withMgmt_pwr (g : Gov) (x : MgmtSt) : (g.withMgmt x).pwr = g.pwr := (rfl)
@[simp] theorem Gov.withMgmt_eng (g : Gov) (x : MgmtSt) : (g.withMgmt x).eng = g.eng := (rfl)
@[simp] theorem Gov.withMgmt_lim (g : Gov) (x : MgmtSt) : (g.withMgmt x).lim = g.lim := (rfl)
@[simp] theorem Gov.withMgmt_fcu (g : Gov) (x : MgmtSt) : (g.withMgmt x).fcu = g.fcu := (rfl)
@[simp] theorem Gov.withMgmt_clk (g : Gov) (x : MgmtSt) : (g.withMgmt x).clk = g.clk := (rfl)
@[simp] theorem Gov.withMgmt_reg (g : Gov) (x : MgmtSt) : (g.withMgmt x).reg = g.reg := (rfl)
@[simp] theorem Gov.withMgmt_sns (g : Gov) (x : MgmtSt) : (g.withMgmt x).sns = g.sns := (rfl)
@[simp] theorem Gov.withMgmt_led (g : Gov) (x : MgmtSt) : (g.withMgmt x).led = g.led := (rfl)
@[simp] theorem Gov.withMgmt_hws (g : Gov) (x : MgmtSt) : (g.withMgmt x).hws = g.hws := (rfl)
@[simp] theorem Gov.withMgmt_trc (g : Gov) (x : MgmtSt) : (g.withMgmt x).trc = g.trc := (rfl)
@[simp] theorem Gov.withMgmt_tap (g : Gov) (x : MgmtSt) : (g.withMgmt x).tap = g.tap := (rfl)
@[simp] theorem Gov.withMgmt_mgmt (g : Gov) (x : MgmtSt) : (g.withMgmt x).mgmt = x := (rfl)
@[simp] theorem Gov.withMgmt_word (g : Gov) (x : MgmtSt) (off : Nat) : (g.withMgmt x).word off = g.word off := (rfl)
@[simp] theorem Gov.withMgmt_get (g : Gov) (x : MgmtSt) (h' : Fld) : (g.withMgmt x).get h' = g.get h' := (rfl)
@[simp] theorem Gov.withMgmt_flag (g : Gov) (x : MgmtSt) (h' : Fld) : (g.withMgmt x).flag h' = g.flag h' := (rfl)
@[simp] theorem Gov.withMgmt_sget (g : Gov) (x : MgmtSt) (h' : Fld) : (g.withMgmt x).sget h' = g.sget h' := (rfl)

/-! ### withEng -/

@[simp] theorem Gov.withEng_fuses (g : Gov) (x : EngSt) : (g.withEng x).fuses = g.fuses := (rfl)
@[simp] theorem Gov.withEng_regs (g : Gov) (x : EngSt) : (g.withEng x).regs = g.regs := (rfl)
@[simp] theorem Gov.withEng_held (g : Gov) (x : EngSt) : (g.withEng x).held = g.held := (rfl)
@[simp] theorem Gov.withEng_pairs (g : Gov) (x : EngSt) : (g.withEng x).pairs = g.pairs := (rfl)
@[simp] theorem Gov.withEng_now (g : Gov) (x : EngSt) : (g.withEng x).now = g.now := (rfl)
@[simp] theorem Gov.withEng_rst (g : Gov) (x : EngSt) : (g.withEng x).rst = g.rst := (rfl)
@[simp] theorem Gov.withEng_brown (g : Gov) (x : EngSt) : (g.withEng x).brown = g.brown := (rfl)
@[simp] theorem Gov.withEng_dark (g : Gov) (x : EngSt) : (g.withEng x).dark = g.dark := (rfl)
@[simp] theorem Gov.withEng_pll (g : Gov) (x : EngSt) : (g.withEng x).pll = g.pll := (rfl)
@[simp] theorem Gov.withEng_pins (g : Gov) (x : EngSt) : (g.withEng x).pins = g.pins := (rfl)
@[simp] theorem Gov.withEng_resp (g : Gov) (x : EngSt) : (g.withEng x).resp = g.resp := (rfl)
@[simp] theorem Gov.withEng_rdata (g : Gov) (x : EngSt) : (g.withEng x).rdata = g.rdata := (rfl)
@[simp] theorem Gov.withEng_free (g : Gov) (x : EngSt) : (g.withEng x).free = g.free := (rfl)
@[simp] theorem Gov.withEng_flt (g : Gov) (x : EngSt) : (g.withEng x).flt = g.flt := (rfl)
@[simp] theorem Gov.withEng_firm (g : Gov) (x : EngSt) : (g.withEng x).firm = g.firm := (rfl)
@[simp] theorem Gov.withEng_cmd (g : Gov) (x : EngSt) : (g.withEng x).cmd = g.cmd := (rfl)
@[simp] theorem Gov.withEng_pwr (g : Gov) (x : EngSt) : (g.withEng x).pwr = g.pwr := (rfl)
@[simp] theorem Gov.withEng_mgmt (g : Gov) (x : EngSt) : (g.withEng x).mgmt = g.mgmt := (rfl)
@[simp] theorem Gov.withEng_lim (g : Gov) (x : EngSt) : (g.withEng x).lim = g.lim := (rfl)
@[simp] theorem Gov.withEng_fcu (g : Gov) (x : EngSt) : (g.withEng x).fcu = g.fcu := (rfl)
@[simp] theorem Gov.withEng_clk (g : Gov) (x : EngSt) : (g.withEng x).clk = g.clk := (rfl)
@[simp] theorem Gov.withEng_reg (g : Gov) (x : EngSt) : (g.withEng x).reg = g.reg := (rfl)
@[simp] theorem Gov.withEng_sns (g : Gov) (x : EngSt) : (g.withEng x).sns = g.sns := (rfl)
@[simp] theorem Gov.withEng_led (g : Gov) (x : EngSt) : (g.withEng x).led = g.led := (rfl)
@[simp] theorem Gov.withEng_hws (g : Gov) (x : EngSt) : (g.withEng x).hws = g.hws := (rfl)
@[simp] theorem Gov.withEng_trc (g : Gov) (x : EngSt) : (g.withEng x).trc = g.trc := (rfl)
@[simp] theorem Gov.withEng_tap (g : Gov) (x : EngSt) : (g.withEng x).tap = g.tap := (rfl)
@[simp] theorem Gov.withEng_eng (g : Gov) (x : EngSt) : (g.withEng x).eng = x := (rfl)
@[simp] theorem Gov.withEng_word (g : Gov) (x : EngSt) (off : Nat) : (g.withEng x).word off = g.word off := (rfl)
@[simp] theorem Gov.withEng_get (g : Gov) (x : EngSt) (h' : Fld) : (g.withEng x).get h' = g.get h' := (rfl)
@[simp] theorem Gov.withEng_flag (g : Gov) (x : EngSt) (h' : Fld) : (g.withEng x).flag h' = g.flag h' := (rfl)
@[simp] theorem Gov.withEng_sget (g : Gov) (x : EngSt) (h' : Fld) : (g.withEng x).sget h' = g.sget h' := (rfl)

/-! ### withLim -/

@[simp] theorem Gov.withLim_fuses (g : Gov) (x : LimSt) : (g.withLim x).fuses = g.fuses := (rfl)
@[simp] theorem Gov.withLim_regs (g : Gov) (x : LimSt) : (g.withLim x).regs = g.regs := (rfl)
@[simp] theorem Gov.withLim_held (g : Gov) (x : LimSt) : (g.withLim x).held = g.held := (rfl)
@[simp] theorem Gov.withLim_pairs (g : Gov) (x : LimSt) : (g.withLim x).pairs = g.pairs := (rfl)
@[simp] theorem Gov.withLim_now (g : Gov) (x : LimSt) : (g.withLim x).now = g.now := (rfl)
@[simp] theorem Gov.withLim_rst (g : Gov) (x : LimSt) : (g.withLim x).rst = g.rst := (rfl)
@[simp] theorem Gov.withLim_brown (g : Gov) (x : LimSt) : (g.withLim x).brown = g.brown := (rfl)
@[simp] theorem Gov.withLim_dark (g : Gov) (x : LimSt) : (g.withLim x).dark = g.dark := (rfl)
@[simp] theorem Gov.withLim_pll (g : Gov) (x : LimSt) : (g.withLim x).pll = g.pll := (rfl)
@[simp] theorem Gov.withLim_pins (g : Gov) (x : LimSt) : (g.withLim x).pins = g.pins := (rfl)
@[simp] theorem Gov.withLim_resp (g : Gov) (x : LimSt) : (g.withLim x).resp = g.resp := (rfl)
@[simp] theorem Gov.withLim_rdata (g : Gov) (x : LimSt) : (g.withLim x).rdata = g.rdata := (rfl)
@[simp] theorem Gov.withLim_free (g : Gov) (x : LimSt) : (g.withLim x).free = g.free := (rfl)
@[simp] theorem Gov.withLim_flt (g : Gov) (x : LimSt) : (g.withLim x).flt = g.flt := (rfl)
@[simp] theorem Gov.withLim_firm (g : Gov) (x : LimSt) : (g.withLim x).firm = g.firm := (rfl)
@[simp] theorem Gov.withLim_cmd (g : Gov) (x : LimSt) : (g.withLim x).cmd = g.cmd := (rfl)
@[simp] theorem Gov.withLim_pwr (g : Gov) (x : LimSt) : (g.withLim x).pwr = g.pwr := (rfl)
@[simp] theorem Gov.withLim_mgmt (g : Gov) (x : LimSt) : (g.withLim x).mgmt = g.mgmt := (rfl)
@[simp] theorem Gov.withLim_eng (g : Gov) (x : LimSt) : (g.withLim x).eng = g.eng := (rfl)
@[simp] theorem Gov.withLim_fcu (g : Gov) (x : LimSt) : (g.withLim x).fcu = g.fcu := (rfl)
@[simp] theorem Gov.withLim_clk (g : Gov) (x : LimSt) : (g.withLim x).clk = g.clk := (rfl)
@[simp] theorem Gov.withLim_reg (g : Gov) (x : LimSt) : (g.withLim x).reg = g.reg := (rfl)
@[simp] theorem Gov.withLim_sns (g : Gov) (x : LimSt) : (g.withLim x).sns = g.sns := (rfl)
@[simp] theorem Gov.withLim_led (g : Gov) (x : LimSt) : (g.withLim x).led = g.led := (rfl)
@[simp] theorem Gov.withLim_hws (g : Gov) (x : LimSt) : (g.withLim x).hws = g.hws := (rfl)
@[simp] theorem Gov.withLim_trc (g : Gov) (x : LimSt) : (g.withLim x).trc = g.trc := (rfl)
@[simp] theorem Gov.withLim_tap (g : Gov) (x : LimSt) : (g.withLim x).tap = g.tap := (rfl)
@[simp] theorem Gov.withLim_lim (g : Gov) (x : LimSt) : (g.withLim x).lim = x := (rfl)
@[simp] theorem Gov.withLim_word (g : Gov) (x : LimSt) (off : Nat) : (g.withLim x).word off = g.word off := (rfl)
@[simp] theorem Gov.withLim_get (g : Gov) (x : LimSt) (h' : Fld) : (g.withLim x).get h' = g.get h' := (rfl)
@[simp] theorem Gov.withLim_flag (g : Gov) (x : LimSt) (h' : Fld) : (g.withLim x).flag h' = g.flag h' := (rfl)
@[simp] theorem Gov.withLim_sget (g : Gov) (x : LimSt) (h' : Fld) : (g.withLim x).sget h' = g.sget h' := (rfl)

/-! ### withFcu -/

@[simp] theorem Gov.withFcu_fuses (g : Gov) (x : FcuSt) : (g.withFcu x).fuses = g.fuses := (rfl)
@[simp] theorem Gov.withFcu_regs (g : Gov) (x : FcuSt) : (g.withFcu x).regs = g.regs := (rfl)
@[simp] theorem Gov.withFcu_held (g : Gov) (x : FcuSt) : (g.withFcu x).held = g.held := (rfl)
@[simp] theorem Gov.withFcu_pairs (g : Gov) (x : FcuSt) : (g.withFcu x).pairs = g.pairs := (rfl)
@[simp] theorem Gov.withFcu_now (g : Gov) (x : FcuSt) : (g.withFcu x).now = g.now := (rfl)
@[simp] theorem Gov.withFcu_rst (g : Gov) (x : FcuSt) : (g.withFcu x).rst = g.rst := (rfl)
@[simp] theorem Gov.withFcu_brown (g : Gov) (x : FcuSt) : (g.withFcu x).brown = g.brown := (rfl)
@[simp] theorem Gov.withFcu_dark (g : Gov) (x : FcuSt) : (g.withFcu x).dark = g.dark := (rfl)
@[simp] theorem Gov.withFcu_pll (g : Gov) (x : FcuSt) : (g.withFcu x).pll = g.pll := (rfl)
@[simp] theorem Gov.withFcu_pins (g : Gov) (x : FcuSt) : (g.withFcu x).pins = g.pins := (rfl)
@[simp] theorem Gov.withFcu_resp (g : Gov) (x : FcuSt) : (g.withFcu x).resp = g.resp := (rfl)
@[simp] theorem Gov.withFcu_rdata (g : Gov) (x : FcuSt) : (g.withFcu x).rdata = g.rdata := (rfl)
@[simp] theorem Gov.withFcu_free (g : Gov) (x : FcuSt) : (g.withFcu x).free = g.free := (rfl)
@[simp] theorem Gov.withFcu_flt (g : Gov) (x : FcuSt) : (g.withFcu x).flt = g.flt := (rfl)
@[simp] theorem Gov.withFcu_firm (g : Gov) (x : FcuSt) : (g.withFcu x).firm = g.firm := (rfl)
@[simp] theorem Gov.withFcu_cmd (g : Gov) (x : FcuSt) : (g.withFcu x).cmd = g.cmd := (rfl)
@[simp] theorem Gov.withFcu_pwr (g : Gov) (x : FcuSt) : (g.withFcu x).pwr = g.pwr := (rfl)
@[simp] theorem Gov.withFcu_mgmt (g : Gov) (x : FcuSt) : (g.withFcu x).mgmt = g.mgmt := (rfl)
@[simp] theorem Gov.withFcu_eng (g : Gov) (x : FcuSt) : (g.withFcu x).eng = g.eng := (rfl)
@[simp] theorem Gov.withFcu_lim (g : Gov) (x : FcuSt) : (g.withFcu x).lim = g.lim := (rfl)
@[simp] theorem Gov.withFcu_clk (g : Gov) (x : FcuSt) : (g.withFcu x).clk = g.clk := (rfl)
@[simp] theorem Gov.withFcu_reg (g : Gov) (x : FcuSt) : (g.withFcu x).reg = g.reg := (rfl)
@[simp] theorem Gov.withFcu_sns (g : Gov) (x : FcuSt) : (g.withFcu x).sns = g.sns := (rfl)
@[simp] theorem Gov.withFcu_led (g : Gov) (x : FcuSt) : (g.withFcu x).led = g.led := (rfl)
@[simp] theorem Gov.withFcu_hws (g : Gov) (x : FcuSt) : (g.withFcu x).hws = g.hws := (rfl)
@[simp] theorem Gov.withFcu_trc (g : Gov) (x : FcuSt) : (g.withFcu x).trc = g.trc := (rfl)
@[simp] theorem Gov.withFcu_tap (g : Gov) (x : FcuSt) : (g.withFcu x).tap = g.tap := (rfl)
@[simp] theorem Gov.withFcu_fcu (g : Gov) (x : FcuSt) : (g.withFcu x).fcu = x := (rfl)
@[simp] theorem Gov.withFcu_word (g : Gov) (x : FcuSt) (off : Nat) : (g.withFcu x).word off = g.word off := (rfl)
@[simp] theorem Gov.withFcu_get (g : Gov) (x : FcuSt) (h' : Fld) : (g.withFcu x).get h' = g.get h' := (rfl)
@[simp] theorem Gov.withFcu_flag (g : Gov) (x : FcuSt) (h' : Fld) : (g.withFcu x).flag h' = g.flag h' := (rfl)
@[simp] theorem Gov.withFcu_sget (g : Gov) (x : FcuSt) (h' : Fld) : (g.withFcu x).sget h' = g.sget h' := (rfl)

/-! ### withClk -/

@[simp] theorem Gov.withClk_fuses (g : Gov) (x : ClkSt) : (g.withClk x).fuses = g.fuses := (rfl)
@[simp] theorem Gov.withClk_regs (g : Gov) (x : ClkSt) : (g.withClk x).regs = g.regs := (rfl)
@[simp] theorem Gov.withClk_held (g : Gov) (x : ClkSt) : (g.withClk x).held = g.held := (rfl)
@[simp] theorem Gov.withClk_pairs (g : Gov) (x : ClkSt) : (g.withClk x).pairs = g.pairs := (rfl)
@[simp] theorem Gov.withClk_now (g : Gov) (x : ClkSt) : (g.withClk x).now = g.now := (rfl)
@[simp] theorem Gov.withClk_rst (g : Gov) (x : ClkSt) : (g.withClk x).rst = g.rst := (rfl)
@[simp] theorem Gov.withClk_brown (g : Gov) (x : ClkSt) : (g.withClk x).brown = g.brown := (rfl)
@[simp] theorem Gov.withClk_dark (g : Gov) (x : ClkSt) : (g.withClk x).dark = g.dark := (rfl)
@[simp] theorem Gov.withClk_pll (g : Gov) (x : ClkSt) : (g.withClk x).pll = g.pll := (rfl)
@[simp] theorem Gov.withClk_pins (g : Gov) (x : ClkSt) : (g.withClk x).pins = g.pins := (rfl)
@[simp] theorem Gov.withClk_resp (g : Gov) (x : ClkSt) : (g.withClk x).resp = g.resp := (rfl)
@[simp] theorem Gov.withClk_rdata (g : Gov) (x : ClkSt) : (g.withClk x).rdata = g.rdata := (rfl)
@[simp] theorem Gov.withClk_free (g : Gov) (x : ClkSt) : (g.withClk x).free = g.free := (rfl)
@[simp] theorem Gov.withClk_flt (g : Gov) (x : ClkSt) : (g.withClk x).flt = g.flt := (rfl)
@[simp] theorem Gov.withClk_firm (g : Gov) (x : ClkSt) : (g.withClk x).firm = g.firm := (rfl)
@[simp] theorem Gov.withClk_cmd (g : Gov) (x : ClkSt) : (g.withClk x).cmd = g.cmd := (rfl)
@[simp] theorem Gov.withClk_pwr (g : Gov) (x : ClkSt) : (g.withClk x).pwr = g.pwr := (rfl)
@[simp] theorem Gov.withClk_mgmt (g : Gov) (x : ClkSt) : (g.withClk x).mgmt = g.mgmt := (rfl)
@[simp] theorem Gov.withClk_eng (g : Gov) (x : ClkSt) : (g.withClk x).eng = g.eng := (rfl)
@[simp] theorem Gov.withClk_lim (g : Gov) (x : ClkSt) : (g.withClk x).lim = g.lim := (rfl)
@[simp] theorem Gov.withClk_fcu (g : Gov) (x : ClkSt) : (g.withClk x).fcu = g.fcu := (rfl)
@[simp] theorem Gov.withClk_reg (g : Gov) (x : ClkSt) : (g.withClk x).reg = g.reg := (rfl)
@[simp] theorem Gov.withClk_sns (g : Gov) (x : ClkSt) : (g.withClk x).sns = g.sns := (rfl)
@[simp] theorem Gov.withClk_led (g : Gov) (x : ClkSt) : (g.withClk x).led = g.led := (rfl)
@[simp] theorem Gov.withClk_hws (g : Gov) (x : ClkSt) : (g.withClk x).hws = g.hws := (rfl)
@[simp] theorem Gov.withClk_trc (g : Gov) (x : ClkSt) : (g.withClk x).trc = g.trc := (rfl)
@[simp] theorem Gov.withClk_tap (g : Gov) (x : ClkSt) : (g.withClk x).tap = g.tap := (rfl)
@[simp] theorem Gov.withClk_clk (g : Gov) (x : ClkSt) : (g.withClk x).clk = x := (rfl)
@[simp] theorem Gov.withClk_word (g : Gov) (x : ClkSt) (off : Nat) : (g.withClk x).word off = g.word off := (rfl)
@[simp] theorem Gov.withClk_get (g : Gov) (x : ClkSt) (h' : Fld) : (g.withClk x).get h' = g.get h' := (rfl)
@[simp] theorem Gov.withClk_flag (g : Gov) (x : ClkSt) (h' : Fld) : (g.withClk x).flag h' = g.flag h' := (rfl)
@[simp] theorem Gov.withClk_sget (g : Gov) (x : ClkSt) (h' : Fld) : (g.withClk x).sget h' = g.sget h' := (rfl)

/-! ### withReg -/

@[simp] theorem Gov.withReg_fuses (g : Gov) (x : RegSt) : (g.withReg x).fuses = g.fuses := (rfl)
@[simp] theorem Gov.withReg_regs (g : Gov) (x : RegSt) : (g.withReg x).regs = g.regs := (rfl)
@[simp] theorem Gov.withReg_held (g : Gov) (x : RegSt) : (g.withReg x).held = g.held := (rfl)
@[simp] theorem Gov.withReg_pairs (g : Gov) (x : RegSt) : (g.withReg x).pairs = g.pairs := (rfl)
@[simp] theorem Gov.withReg_now (g : Gov) (x : RegSt) : (g.withReg x).now = g.now := (rfl)
@[simp] theorem Gov.withReg_rst (g : Gov) (x : RegSt) : (g.withReg x).rst = g.rst := (rfl)
@[simp] theorem Gov.withReg_brown (g : Gov) (x : RegSt) : (g.withReg x).brown = g.brown := (rfl)
@[simp] theorem Gov.withReg_dark (g : Gov) (x : RegSt) : (g.withReg x).dark = g.dark := (rfl)
@[simp] theorem Gov.withReg_pll (g : Gov) (x : RegSt) : (g.withReg x).pll = g.pll := (rfl)
@[simp] theorem Gov.withReg_pins (g : Gov) (x : RegSt) : (g.withReg x).pins = g.pins := (rfl)
@[simp] theorem Gov.withReg_resp (g : Gov) (x : RegSt) : (g.withReg x).resp = g.resp := (rfl)
@[simp] theorem Gov.withReg_rdata (g : Gov) (x : RegSt) : (g.withReg x).rdata = g.rdata := (rfl)
@[simp] theorem Gov.withReg_free (g : Gov) (x : RegSt) : (g.withReg x).free = g.free := (rfl)
@[simp] theorem Gov.withReg_flt (g : Gov) (x : RegSt) : (g.withReg x).flt = g.flt := (rfl)
@[simp] theorem Gov.withReg_firm (g : Gov) (x : RegSt) : (g.withReg x).firm = g.firm := (rfl)
@[simp] theorem Gov.withReg_cmd (g : Gov) (x : RegSt) : (g.withReg x).cmd = g.cmd := (rfl)
@[simp] theorem Gov.withReg_pwr (g : Gov) (x : RegSt) : (g.withReg x).pwr = g.pwr := (rfl)
@[simp] theorem Gov.withReg_mgmt (g : Gov) (x : RegSt) : (g.withReg x).mgmt = g.mgmt := (rfl)
@[simp] theorem Gov.withReg_eng (g : Gov) (x : RegSt) : (g.withReg x).eng = g.eng := (rfl)
@[simp] theorem Gov.withReg_lim (g : Gov) (x : RegSt) : (g.withReg x).lim = g.lim := (rfl)
@[simp] theorem Gov.withReg_fcu (g : Gov) (x : RegSt) : (g.withReg x).fcu = g.fcu := (rfl)
@[simp] theorem Gov.withReg_clk (g : Gov) (x : RegSt) : (g.withReg x).clk = g.clk := (rfl)
@[simp] theorem Gov.withReg_sns (g : Gov) (x : RegSt) : (g.withReg x).sns = g.sns := (rfl)
@[simp] theorem Gov.withReg_led (g : Gov) (x : RegSt) : (g.withReg x).led = g.led := (rfl)
@[simp] theorem Gov.withReg_hws (g : Gov) (x : RegSt) : (g.withReg x).hws = g.hws := (rfl)
@[simp] theorem Gov.withReg_trc (g : Gov) (x : RegSt) : (g.withReg x).trc = g.trc := (rfl)
@[simp] theorem Gov.withReg_tap (g : Gov) (x : RegSt) : (g.withReg x).tap = g.tap := (rfl)
@[simp] theorem Gov.withReg_reg (g : Gov) (x : RegSt) : (g.withReg x).reg = x := (rfl)
@[simp] theorem Gov.withReg_word (g : Gov) (x : RegSt) (off : Nat) : (g.withReg x).word off = g.word off := (rfl)
@[simp] theorem Gov.withReg_get (g : Gov) (x : RegSt) (h' : Fld) : (g.withReg x).get h' = g.get h' := (rfl)
@[simp] theorem Gov.withReg_flag (g : Gov) (x : RegSt) (h' : Fld) : (g.withReg x).flag h' = g.flag h' := (rfl)
@[simp] theorem Gov.withReg_sget (g : Gov) (x : RegSt) (h' : Fld) : (g.withReg x).sget h' = g.sget h' := (rfl)

/-! ### withSns -/

@[simp] theorem Gov.withSns_fuses (g : Gov) (x : SnsSt) : (g.withSns x).fuses = g.fuses := (rfl)
@[simp] theorem Gov.withSns_regs (g : Gov) (x : SnsSt) : (g.withSns x).regs = g.regs := (rfl)
@[simp] theorem Gov.withSns_held (g : Gov) (x : SnsSt) : (g.withSns x).held = g.held := (rfl)
@[simp] theorem Gov.withSns_pairs (g : Gov) (x : SnsSt) : (g.withSns x).pairs = g.pairs := (rfl)
@[simp] theorem Gov.withSns_now (g : Gov) (x : SnsSt) : (g.withSns x).now = g.now := (rfl)
@[simp] theorem Gov.withSns_rst (g : Gov) (x : SnsSt) : (g.withSns x).rst = g.rst := (rfl)
@[simp] theorem Gov.withSns_brown (g : Gov) (x : SnsSt) : (g.withSns x).brown = g.brown := (rfl)
@[simp] theorem Gov.withSns_dark (g : Gov) (x : SnsSt) : (g.withSns x).dark = g.dark := (rfl)
@[simp] theorem Gov.withSns_pll (g : Gov) (x : SnsSt) : (g.withSns x).pll = g.pll := (rfl)
@[simp] theorem Gov.withSns_pins (g : Gov) (x : SnsSt) : (g.withSns x).pins = g.pins := (rfl)
@[simp] theorem Gov.withSns_resp (g : Gov) (x : SnsSt) : (g.withSns x).resp = g.resp := (rfl)
@[simp] theorem Gov.withSns_rdata (g : Gov) (x : SnsSt) : (g.withSns x).rdata = g.rdata := (rfl)
@[simp] theorem Gov.withSns_free (g : Gov) (x : SnsSt) : (g.withSns x).free = g.free := (rfl)
@[simp] theorem Gov.withSns_flt (g : Gov) (x : SnsSt) : (g.withSns x).flt = g.flt := (rfl)
@[simp] theorem Gov.withSns_firm (g : Gov) (x : SnsSt) : (g.withSns x).firm = g.firm := (rfl)
@[simp] theorem Gov.withSns_cmd (g : Gov) (x : SnsSt) : (g.withSns x).cmd = g.cmd := (rfl)
@[simp] theorem Gov.withSns_pwr (g : Gov) (x : SnsSt) : (g.withSns x).pwr = g.pwr := (rfl)
@[simp] theorem Gov.withSns_mgmt (g : Gov) (x : SnsSt) : (g.withSns x).mgmt = g.mgmt := (rfl)
@[simp] theorem Gov.withSns_eng (g : Gov) (x : SnsSt) : (g.withSns x).eng = g.eng := (rfl)
@[simp] theorem Gov.withSns_lim (g : Gov) (x : SnsSt) : (g.withSns x).lim = g.lim := (rfl)
@[simp] theorem Gov.withSns_fcu (g : Gov) (x : SnsSt) : (g.withSns x).fcu = g.fcu := (rfl)
@[simp] theorem Gov.withSns_clk (g : Gov) (x : SnsSt) : (g.withSns x).clk = g.clk := (rfl)
@[simp] theorem Gov.withSns_reg (g : Gov) (x : SnsSt) : (g.withSns x).reg = g.reg := (rfl)
@[simp] theorem Gov.withSns_led (g : Gov) (x : SnsSt) : (g.withSns x).led = g.led := (rfl)
@[simp] theorem Gov.withSns_hws (g : Gov) (x : SnsSt) : (g.withSns x).hws = g.hws := (rfl)
@[simp] theorem Gov.withSns_trc (g : Gov) (x : SnsSt) : (g.withSns x).trc = g.trc := (rfl)
@[simp] theorem Gov.withSns_tap (g : Gov) (x : SnsSt) : (g.withSns x).tap = g.tap := (rfl)
@[simp] theorem Gov.withSns_sns (g : Gov) (x : SnsSt) : (g.withSns x).sns = x := (rfl)
@[simp] theorem Gov.withSns_word (g : Gov) (x : SnsSt) (off : Nat) : (g.withSns x).word off = g.word off := (rfl)
@[simp] theorem Gov.withSns_get (g : Gov) (x : SnsSt) (h' : Fld) : (g.withSns x).get h' = g.get h' := (rfl)
@[simp] theorem Gov.withSns_flag (g : Gov) (x : SnsSt) (h' : Fld) : (g.withSns x).flag h' = g.flag h' := (rfl)
@[simp] theorem Gov.withSns_sget (g : Gov) (x : SnsSt) (h' : Fld) : (g.withSns x).sget h' = g.sget h' := (rfl)

/-! ### withLed -/

@[simp] theorem Gov.withLed_fuses (g : Gov) (x : LedSt) : (g.withLed x).fuses = g.fuses := (rfl)
@[simp] theorem Gov.withLed_regs (g : Gov) (x : LedSt) : (g.withLed x).regs = g.regs := (rfl)
@[simp] theorem Gov.withLed_held (g : Gov) (x : LedSt) : (g.withLed x).held = g.held := (rfl)
@[simp] theorem Gov.withLed_pairs (g : Gov) (x : LedSt) : (g.withLed x).pairs = g.pairs := (rfl)
@[simp] theorem Gov.withLed_now (g : Gov) (x : LedSt) : (g.withLed x).now = g.now := (rfl)
@[simp] theorem Gov.withLed_rst (g : Gov) (x : LedSt) : (g.withLed x).rst = g.rst := (rfl)
@[simp] theorem Gov.withLed_brown (g : Gov) (x : LedSt) : (g.withLed x).brown = g.brown := (rfl)
@[simp] theorem Gov.withLed_dark (g : Gov) (x : LedSt) : (g.withLed x).dark = g.dark := (rfl)
@[simp] theorem Gov.withLed_pll (g : Gov) (x : LedSt) : (g.withLed x).pll = g.pll := (rfl)
@[simp] theorem Gov.withLed_pins (g : Gov) (x : LedSt) : (g.withLed x).pins = g.pins := (rfl)
@[simp] theorem Gov.withLed_resp (g : Gov) (x : LedSt) : (g.withLed x).resp = g.resp := (rfl)
@[simp] theorem Gov.withLed_rdata (g : Gov) (x : LedSt) : (g.withLed x).rdata = g.rdata := (rfl)
@[simp] theorem Gov.withLed_free (g : Gov) (x : LedSt) : (g.withLed x).free = g.free := (rfl)
@[simp] theorem Gov.withLed_flt (g : Gov) (x : LedSt) : (g.withLed x).flt = g.flt := (rfl)
@[simp] theorem Gov.withLed_firm (g : Gov) (x : LedSt) : (g.withLed x).firm = g.firm := (rfl)
@[simp] theorem Gov.withLed_cmd (g : Gov) (x : LedSt) : (g.withLed x).cmd = g.cmd := (rfl)
@[simp] theorem Gov.withLed_pwr (g : Gov) (x : LedSt) : (g.withLed x).pwr = g.pwr := (rfl)
@[simp] theorem Gov.withLed_mgmt (g : Gov) (x : LedSt) : (g.withLed x).mgmt = g.mgmt := (rfl)
@[simp] theorem Gov.withLed_eng (g : Gov) (x : LedSt) : (g.withLed x).eng = g.eng := (rfl)
@[simp] theorem Gov.withLed_lim (g : Gov) (x : LedSt) : (g.withLed x).lim = g.lim := (rfl)
@[simp] theorem Gov.withLed_fcu (g : Gov) (x : LedSt) : (g.withLed x).fcu = g.fcu := (rfl)
@[simp] theorem Gov.withLed_clk (g : Gov) (x : LedSt) : (g.withLed x).clk = g.clk := (rfl)
@[simp] theorem Gov.withLed_reg (g : Gov) (x : LedSt) : (g.withLed x).reg = g.reg := (rfl)
@[simp] theorem Gov.withLed_sns (g : Gov) (x : LedSt) : (g.withLed x).sns = g.sns := (rfl)
@[simp] theorem Gov.withLed_hws (g : Gov) (x : LedSt) : (g.withLed x).hws = g.hws := (rfl)
@[simp] theorem Gov.withLed_trc (g : Gov) (x : LedSt) : (g.withLed x).trc = g.trc := (rfl)
@[simp] theorem Gov.withLed_tap (g : Gov) (x : LedSt) : (g.withLed x).tap = g.tap := (rfl)
@[simp] theorem Gov.withLed_led (g : Gov) (x : LedSt) : (g.withLed x).led = x := (rfl)
@[simp] theorem Gov.withLed_word (g : Gov) (x : LedSt) (off : Nat) : (g.withLed x).word off = g.word off := (rfl)
@[simp] theorem Gov.withLed_get (g : Gov) (x : LedSt) (h' : Fld) : (g.withLed x).get h' = g.get h' := (rfl)
@[simp] theorem Gov.withLed_flag (g : Gov) (x : LedSt) (h' : Fld) : (g.withLed x).flag h' = g.flag h' := (rfl)
@[simp] theorem Gov.withLed_sget (g : Gov) (x : LedSt) (h' : Fld) : (g.withLed x).sget h' = g.sget h' := (rfl)

/-! ### withHws -/

@[simp] theorem Gov.withHws_fuses (g : Gov) (x : HwsSt) : (g.withHws x).fuses = g.fuses := (rfl)
@[simp] theorem Gov.withHws_regs (g : Gov) (x : HwsSt) : (g.withHws x).regs = g.regs := (rfl)
@[simp] theorem Gov.withHws_held (g : Gov) (x : HwsSt) : (g.withHws x).held = g.held := (rfl)
@[simp] theorem Gov.withHws_pairs (g : Gov) (x : HwsSt) : (g.withHws x).pairs = g.pairs := (rfl)
@[simp] theorem Gov.withHws_now (g : Gov) (x : HwsSt) : (g.withHws x).now = g.now := (rfl)
@[simp] theorem Gov.withHws_rst (g : Gov) (x : HwsSt) : (g.withHws x).rst = g.rst := (rfl)
@[simp] theorem Gov.withHws_brown (g : Gov) (x : HwsSt) : (g.withHws x).brown = g.brown := (rfl)
@[simp] theorem Gov.withHws_dark (g : Gov) (x : HwsSt) : (g.withHws x).dark = g.dark := (rfl)
@[simp] theorem Gov.withHws_pll (g : Gov) (x : HwsSt) : (g.withHws x).pll = g.pll := (rfl)
@[simp] theorem Gov.withHws_pins (g : Gov) (x : HwsSt) : (g.withHws x).pins = g.pins := (rfl)
@[simp] theorem Gov.withHws_resp (g : Gov) (x : HwsSt) : (g.withHws x).resp = g.resp := (rfl)
@[simp] theorem Gov.withHws_rdata (g : Gov) (x : HwsSt) : (g.withHws x).rdata = g.rdata := (rfl)
@[simp] theorem Gov.withHws_free (g : Gov) (x : HwsSt) : (g.withHws x).free = g.free := (rfl)
@[simp] theorem Gov.withHws_flt (g : Gov) (x : HwsSt) : (g.withHws x).flt = g.flt := (rfl)
@[simp] theorem Gov.withHws_firm (g : Gov) (x : HwsSt) : (g.withHws x).firm = g.firm := (rfl)
@[simp] theorem Gov.withHws_cmd (g : Gov) (x : HwsSt) : (g.withHws x).cmd = g.cmd := (rfl)
@[simp] theorem Gov.withHws_pwr (g : Gov) (x : HwsSt) : (g.withHws x).pwr = g.pwr := (rfl)
@[simp] theorem Gov.withHws_mgmt (g : Gov) (x : HwsSt) : (g.withHws x).mgmt = g.mgmt := (rfl)
@[simp] theorem Gov.withHws_eng (g : Gov) (x : HwsSt) : (g.withHws x).eng = g.eng := (rfl)
@[simp] theorem Gov.withHws_lim (g : Gov) (x : HwsSt) : (g.withHws x).lim = g.lim := (rfl)
@[simp] theorem Gov.withHws_fcu (g : Gov) (x : HwsSt) : (g.withHws x).fcu = g.fcu := (rfl)
@[simp] theorem Gov.withHws_clk (g : Gov) (x : HwsSt) : (g.withHws x).clk = g.clk := (rfl)
@[simp] theorem Gov.withHws_reg (g : Gov) (x : HwsSt) : (g.withHws x).reg = g.reg := (rfl)
@[simp] theorem Gov.withHws_sns (g : Gov) (x : HwsSt) : (g.withHws x).sns = g.sns := (rfl)
@[simp] theorem Gov.withHws_led (g : Gov) (x : HwsSt) : (g.withHws x).led = g.led := (rfl)
@[simp] theorem Gov.withHws_trc (g : Gov) (x : HwsSt) : (g.withHws x).trc = g.trc := (rfl)
@[simp] theorem Gov.withHws_tap (g : Gov) (x : HwsSt) : (g.withHws x).tap = g.tap := (rfl)
@[simp] theorem Gov.withHws_hws (g : Gov) (x : HwsSt) : (g.withHws x).hws = x := (rfl)
@[simp] theorem Gov.withHws_word (g : Gov) (x : HwsSt) (off : Nat) : (g.withHws x).word off = g.word off := (rfl)
@[simp] theorem Gov.withHws_get (g : Gov) (x : HwsSt) (h' : Fld) : (g.withHws x).get h' = g.get h' := (rfl)
@[simp] theorem Gov.withHws_flag (g : Gov) (x : HwsSt) (h' : Fld) : (g.withHws x).flag h' = g.flag h' := (rfl)
@[simp] theorem Gov.withHws_sget (g : Gov) (x : HwsSt) (h' : Fld) : (g.withHws x).sget h' = g.sget h' := (rfl)

/-! ### withTrc -/

@[simp] theorem Gov.withTrc_fuses (g : Gov) (x : TrcSt) : (g.withTrc x).fuses = g.fuses := (rfl)
@[simp] theorem Gov.withTrc_regs (g : Gov) (x : TrcSt) : (g.withTrc x).regs = g.regs := (rfl)
@[simp] theorem Gov.withTrc_held (g : Gov) (x : TrcSt) : (g.withTrc x).held = g.held := (rfl)
@[simp] theorem Gov.withTrc_pairs (g : Gov) (x : TrcSt) : (g.withTrc x).pairs = g.pairs := (rfl)
@[simp] theorem Gov.withTrc_now (g : Gov) (x : TrcSt) : (g.withTrc x).now = g.now := (rfl)
@[simp] theorem Gov.withTrc_rst (g : Gov) (x : TrcSt) : (g.withTrc x).rst = g.rst := (rfl)
@[simp] theorem Gov.withTrc_brown (g : Gov) (x : TrcSt) : (g.withTrc x).brown = g.brown := (rfl)
@[simp] theorem Gov.withTrc_dark (g : Gov) (x : TrcSt) : (g.withTrc x).dark = g.dark := (rfl)
@[simp] theorem Gov.withTrc_pll (g : Gov) (x : TrcSt) : (g.withTrc x).pll = g.pll := (rfl)
@[simp] theorem Gov.withTrc_pins (g : Gov) (x : TrcSt) : (g.withTrc x).pins = g.pins := (rfl)
@[simp] theorem Gov.withTrc_resp (g : Gov) (x : TrcSt) : (g.withTrc x).resp = g.resp := (rfl)
@[simp] theorem Gov.withTrc_rdata (g : Gov) (x : TrcSt) : (g.withTrc x).rdata = g.rdata := (rfl)
@[simp] theorem Gov.withTrc_free (g : Gov) (x : TrcSt) : (g.withTrc x).free = g.free := (rfl)
@[simp] theorem Gov.withTrc_flt (g : Gov) (x : TrcSt) : (g.withTrc x).flt = g.flt := (rfl)
@[simp] theorem Gov.withTrc_firm (g : Gov) (x : TrcSt) : (g.withTrc x).firm = g.firm := (rfl)
@[simp] theorem Gov.withTrc_cmd (g : Gov) (x : TrcSt) : (g.withTrc x).cmd = g.cmd := (rfl)
@[simp] theorem Gov.withTrc_pwr (g : Gov) (x : TrcSt) : (g.withTrc x).pwr = g.pwr := (rfl)
@[simp] theorem Gov.withTrc_mgmt (g : Gov) (x : TrcSt) : (g.withTrc x).mgmt = g.mgmt := (rfl)
@[simp] theorem Gov.withTrc_eng (g : Gov) (x : TrcSt) : (g.withTrc x).eng = g.eng := (rfl)
@[simp] theorem Gov.withTrc_lim (g : Gov) (x : TrcSt) : (g.withTrc x).lim = g.lim := (rfl)
@[simp] theorem Gov.withTrc_fcu (g : Gov) (x : TrcSt) : (g.withTrc x).fcu = g.fcu := (rfl)
@[simp] theorem Gov.withTrc_clk (g : Gov) (x : TrcSt) : (g.withTrc x).clk = g.clk := (rfl)
@[simp] theorem Gov.withTrc_reg (g : Gov) (x : TrcSt) : (g.withTrc x).reg = g.reg := (rfl)
@[simp] theorem Gov.withTrc_sns (g : Gov) (x : TrcSt) : (g.withTrc x).sns = g.sns := (rfl)
@[simp] theorem Gov.withTrc_led (g : Gov) (x : TrcSt) : (g.withTrc x).led = g.led := (rfl)
@[simp] theorem Gov.withTrc_hws (g : Gov) (x : TrcSt) : (g.withTrc x).hws = g.hws := (rfl)
@[simp] theorem Gov.withTrc_tap (g : Gov) (x : TrcSt) : (g.withTrc x).tap = g.tap := (rfl)
@[simp] theorem Gov.withTrc_trc (g : Gov) (x : TrcSt) : (g.withTrc x).trc = x := (rfl)
@[simp] theorem Gov.withTrc_word (g : Gov) (x : TrcSt) (off : Nat) : (g.withTrc x).word off = g.word off := (rfl)
@[simp] theorem Gov.withTrc_get (g : Gov) (x : TrcSt) (h' : Fld) : (g.withTrc x).get h' = g.get h' := (rfl)
@[simp] theorem Gov.withTrc_flag (g : Gov) (x : TrcSt) (h' : Fld) : (g.withTrc x).flag h' = g.flag h' := (rfl)
@[simp] theorem Gov.withTrc_sget (g : Gov) (x : TrcSt) (h' : Fld) : (g.withTrc x).sget h' = g.sget h' := (rfl)

/-! ### withTap -/

@[simp] theorem Gov.withTap_fuses (g : Gov) (x : TapSt) : (g.withTap x).fuses = g.fuses := (rfl)
@[simp] theorem Gov.withTap_regs (g : Gov) (x : TapSt) : (g.withTap x).regs = g.regs := (rfl)
@[simp] theorem Gov.withTap_held (g : Gov) (x : TapSt) : (g.withTap x).held = g.held := (rfl)
@[simp] theorem Gov.withTap_pairs (g : Gov) (x : TapSt) : (g.withTap x).pairs = g.pairs := (rfl)
@[simp] theorem Gov.withTap_now (g : Gov) (x : TapSt) : (g.withTap x).now = g.now := (rfl)
@[simp] theorem Gov.withTap_rst (g : Gov) (x : TapSt) : (g.withTap x).rst = g.rst := (rfl)
@[simp] theorem Gov.withTap_brown (g : Gov) (x : TapSt) : (g.withTap x).brown = g.brown := (rfl)
@[simp] theorem Gov.withTap_dark (g : Gov) (x : TapSt) : (g.withTap x).dark = g.dark := (rfl)
@[simp] theorem Gov.withTap_pll (g : Gov) (x : TapSt) : (g.withTap x).pll = g.pll := (rfl)
@[simp] theorem Gov.withTap_pins (g : Gov) (x : TapSt) : (g.withTap x).pins = g.pins := (rfl)
@[simp] theorem Gov.withTap_resp (g : Gov) (x : TapSt) : (g.withTap x).resp = g.resp := (rfl)
@[simp] theorem Gov.withTap_rdata (g : Gov) (x : TapSt) : (g.withTap x).rdata = g.rdata := (rfl)
@[simp] theorem Gov.withTap_free (g : Gov) (x : TapSt) : (g.withTap x).free = g.free := (rfl)
@[simp] theorem Gov.withTap_flt (g : Gov) (x : TapSt) : (g.withTap x).flt = g.flt := (rfl)
@[simp] theorem Gov.withTap_firm (g : Gov) (x : TapSt) : (g.withTap x).firm = g.firm := (rfl)
@[simp] theorem Gov.withTap_cmd (g : Gov) (x : TapSt) : (g.withTap x).cmd = g.cmd := (rfl)
@[simp] theorem Gov.withTap_pwr (g : Gov) (x : TapSt) : (g.withTap x).pwr = g.pwr := (rfl)
@[simp] theorem Gov.withTap_mgmt (g : Gov) (x : TapSt) : (g.withTap x).mgmt = g.mgmt := (rfl)
@[simp] theorem Gov.withTap_eng (g : Gov) (x : TapSt) : (g.withTap x).eng = g.eng := (rfl)
@[simp] theorem Gov.withTap_lim (g : Gov) (x : TapSt) : (g.withTap x).lim = g.lim := (rfl)
@[simp] theorem Gov.withTap_fcu (g : Gov) (x : TapSt) : (g.withTap x).fcu = g.fcu := (rfl)
@[simp] theorem Gov.withTap_clk (g : Gov) (x : TapSt) : (g.withTap x).clk = g.clk := (rfl)
@[simp] theorem Gov.withTap_reg (g : Gov) (x : TapSt) : (g.withTap x).reg = g.reg := (rfl)
@[simp] theorem Gov.withTap_sns (g : Gov) (x : TapSt) : (g.withTap x).sns = g.sns := (rfl)
@[simp] theorem Gov.withTap_led (g : Gov) (x : TapSt) : (g.withTap x).led = g.led := (rfl)
@[simp] theorem Gov.withTap_hws (g : Gov) (x : TapSt) : (g.withTap x).hws = g.hws := (rfl)
@[simp] theorem Gov.withTap_trc (g : Gov) (x : TapSt) : (g.withTap x).trc = g.trc := (rfl)
@[simp] theorem Gov.withTap_tap (g : Gov) (x : TapSt) : (g.withTap x).tap = x := (rfl)
@[simp] theorem Gov.withTap_word (g : Gov) (x : TapSt) (off : Nat) : (g.withTap x).word off = g.word off := (rfl)
@[simp] theorem Gov.withTap_get (g : Gov) (x : TapSt) (h' : Fld) : (g.withTap x).get h' = g.get h' := (rfl)
@[simp] theorem Gov.withTap_flag (g : Gov) (x : TapSt) (h' : Fld) : (g.withTap x).flag h' = g.flag h' := (rfl)
@[simp] theorem Gov.withTap_sget (g : Gov) (x : TapSt) (h' : Fld) : (g.withTap x).sget h' = g.sget h' := (rfl)

/-! ### withFree -/

@[simp] theorem Gov.withFree_fuses (g : Gov) (x : Nat) : (g.withFree x).fuses = g.fuses := (rfl)
@[simp] theorem Gov.withFree_regs (g : Gov) (x : Nat) : (g.withFree x).regs = g.regs := (rfl)
@[simp] theorem Gov.withFree_held (g : Gov) (x : Nat) : (g.withFree x).held = g.held := (rfl)
@[simp] theorem Gov.withFree_pairs (g : Gov) (x : Nat) : (g.withFree x).pairs = g.pairs := (rfl)
@[simp] theorem Gov.withFree_now (g : Gov) (x : Nat) : (g.withFree x).now = g.now := (rfl)
@[simp] theorem Gov.withFree_rst (g : Gov) (x : Nat) : (g.withFree x).rst = g.rst := (rfl)
@[simp] theorem Gov.withFree_brown (g : Gov) (x : Nat) : (g.withFree x).brown = g.brown := (rfl)
@[simp] theorem Gov.withFree_dark (g : Gov) (x : Nat) : (g.withFree x).dark = g.dark := (rfl)
@[simp] theorem Gov.withFree_pll (g : Gov) (x : Nat) : (g.withFree x).pll = g.pll := (rfl)
@[simp] theorem Gov.withFree_pins (g : Gov) (x : Nat) : (g.withFree x).pins = g.pins := (rfl)
@[simp] theorem Gov.withFree_resp (g : Gov) (x : Nat) : (g.withFree x).resp = g.resp := (rfl)
@[simp] theorem Gov.withFree_rdata (g : Gov) (x : Nat) : (g.withFree x).rdata = g.rdata := (rfl)
@[simp] theorem Gov.withFree_flt (g : Gov) (x : Nat) : (g.withFree x).flt = g.flt := (rfl)
@[simp] theorem Gov.withFree_firm (g : Gov) (x : Nat) : (g.withFree x).firm = g.firm := (rfl)
@[simp] theorem Gov.withFree_cmd (g : Gov) (x : Nat) : (g.withFree x).cmd = g.cmd := (rfl)
@[simp] theorem Gov.withFree_pwr (g : Gov) (x : Nat) : (g.withFree x).pwr = g.pwr := (rfl)
@[simp] theorem Gov.withFree_mgmt (g : Gov) (x : Nat) : (g.withFree x).mgmt = g.mgmt := (rfl)
@[simp] theorem Gov.withFree_eng (g : Gov) (x : Nat) : (g.withFree x).eng = g.eng := (rfl)
@[simp] theorem Gov.withFree_lim (g : Gov) (x : Nat) : (g.withFree x).lim = g.lim := (rfl)
@[simp] theorem Gov.withFree_fcu (g : Gov) (x : Nat) : (g.withFree x).fcu = g.fcu := (rfl)
@[simp] theorem Gov.withFree_clk (g : Gov) (x : Nat) : (g.withFree x).clk = g.clk := (rfl)
@[simp] theorem Gov.withFree_reg (g : Gov) (x : Nat) : (g.withFree x).reg = g.reg := (rfl)
@[simp] theorem Gov.withFree_sns (g : Gov) (x : Nat) : (g.withFree x).sns = g.sns := (rfl)
@[simp] theorem Gov.withFree_led (g : Gov) (x : Nat) : (g.withFree x).led = g.led := (rfl)
@[simp] theorem Gov.withFree_hws (g : Gov) (x : Nat) : (g.withFree x).hws = g.hws := (rfl)
@[simp] theorem Gov.withFree_trc (g : Gov) (x : Nat) : (g.withFree x).trc = g.trc := (rfl)
@[simp] theorem Gov.withFree_tap (g : Gov) (x : Nat) : (g.withFree x).tap = g.tap := (rfl)
@[simp] theorem Gov.withFree_free (g : Gov) (x : Nat) : (g.withFree x).free = x := (rfl)
@[simp] theorem Gov.withFree_word (g : Gov) (x : Nat) (off : Nat) : (g.withFree x).word off = g.word off := (rfl)
@[simp] theorem Gov.withFree_get (g : Gov) (x : Nat) (h' : Fld) : (g.withFree x).get h' = g.get h' := (rfl)
@[simp] theorem Gov.withFree_flag (g : Gov) (x : Nat) (h' : Fld) : (g.withFree x).flag h' = g.flag h' := (rfl)
@[simp] theorem Gov.withFree_sget (g : Gov) (x : Nat) (h' : Fld) : (g.withFree x).sget h' = g.sget h' := (rfl)

/-! ### setPhase -/

@[simp] theorem Gov.setPhase_fuses (g : Gov) (n : Nat) (x : ReqPhase) : (g.setPhase n x).fuses = g.fuses := (rfl)
@[simp] theorem Gov.setPhase_regs (g : Gov) (n : Nat) (x : ReqPhase) : (g.setPhase n x).regs = g.regs := (rfl)
@[simp] theorem Gov.setPhase_held (g : Gov) (n : Nat) (x : ReqPhase) : (g.setPhase n x).held = g.held := (rfl)
@[simp] theorem Gov.setPhase_pairs (g : Gov) (n : Nat) (x : ReqPhase) : (g.setPhase n x).pairs = g.pairs := (rfl)
@[simp] theorem Gov.setPhase_now (g : Gov) (n : Nat) (x : ReqPhase) : (g.setPhase n x).now = g.now := (rfl)
@[simp] theorem Gov.setPhase_rst (g : Gov) (n : Nat) (x : ReqPhase) : (g.setPhase n x).rst = g.rst := (rfl)
@[simp] theorem Gov.setPhase_brown (g : Gov) (n : Nat) (x : ReqPhase) : (g.setPhase n x).brown = g.brown := (rfl)
@[simp] theorem Gov.setPhase_dark (g : Gov) (n : Nat) (x : ReqPhase) : (g.setPhase n x).dark = g.dark := (rfl)
@[simp] theorem Gov.setPhase_pll (g : Gov) (n : Nat) (x : ReqPhase) : (g.setPhase n x).pll = g.pll := (rfl)
@[simp] theorem Gov.setPhase_pins (g : Gov) (n : Nat) (x : ReqPhase) : (g.setPhase n x).pins = g.pins := (rfl)
@[simp] theorem Gov.setPhase_resp (g : Gov) (n : Nat) (x : ReqPhase) : (g.setPhase n x).resp = g.resp := (rfl)
@[simp] theorem Gov.setPhase_rdata (g : Gov) (n : Nat) (x : ReqPhase) : (g.setPhase n x).rdata = g.rdata := (rfl)
@[simp] theorem Gov.setPhase_free (g : Gov) (n : Nat) (x : ReqPhase) : (g.setPhase n x).free = g.free := (rfl)
@[simp] theorem Gov.setPhase_flt (g : Gov) (n : Nat) (x : ReqPhase) : (g.setPhase n x).flt = g.flt := (rfl)
@[simp] theorem Gov.setPhase_firm (g : Gov) (n : Nat) (x : ReqPhase) : (g.setPhase n x).firm = g.firm := (rfl)
@[simp] theorem Gov.setPhase_pwr (g : Gov) (n : Nat) (x : ReqPhase) : (g.setPhase n x).pwr = g.pwr := (rfl)
@[simp] theorem Gov.setPhase_mgmt (g : Gov) (n : Nat) (x : ReqPhase) : (g.setPhase n x).mgmt = g.mgmt := (rfl)
@[simp] theorem Gov.setPhase_eng (g : Gov) (n : Nat) (x : ReqPhase) : (g.setPhase n x).eng = g.eng := (rfl)
@[simp] theorem Gov.setPhase_lim (g : Gov) (n : Nat) (x : ReqPhase) : (g.setPhase n x).lim = g.lim := (rfl)
@[simp] theorem Gov.setPhase_fcu (g : Gov) (n : Nat) (x : ReqPhase) : (g.setPhase n x).fcu = g.fcu := (rfl)
@[simp] theorem Gov.setPhase_clk (g : Gov) (n : Nat) (x : ReqPhase) : (g.setPhase n x).clk = g.clk := (rfl)
@[simp] theorem Gov.setPhase_reg (g : Gov) (n : Nat) (x : ReqPhase) : (g.setPhase n x).reg = g.reg := (rfl)
@[simp] theorem Gov.setPhase_sns (g : Gov) (n : Nat) (x : ReqPhase) : (g.setPhase n x).sns = g.sns := (rfl)
@[simp] theorem Gov.setPhase_led (g : Gov) (n : Nat) (x : ReqPhase) : (g.setPhase n x).led = g.led := (rfl)
@[simp] theorem Gov.setPhase_hws (g : Gov) (n : Nat) (x : ReqPhase) : (g.setPhase n x).hws = g.hws := (rfl)
@[simp] theorem Gov.setPhase_trc (g : Gov) (n : Nat) (x : ReqPhase) : (g.setPhase n x).trc = g.trc := (rfl)
@[simp] theorem Gov.setPhase_tap (g : Gov) (n : Nat) (x : ReqPhase) : (g.setPhase n x).tap = g.tap := (rfl)
@[simp] theorem Gov.setPhase_word (g : Gov) (n : Nat) (x : ReqPhase) (off : Nat) : (g.setPhase n x).word off = g.word off := (rfl)
@[simp] theorem Gov.setPhase_get (g : Gov) (n : Nat) (x : ReqPhase) (h' : Fld) : (g.setPhase n x).get h' = g.get h' := (rfl)
@[simp] theorem Gov.setPhase_flag (g : Gov) (n : Nat) (x : ReqPhase) (h' : Fld) : (g.setPhase n x).flag h' = g.flag h' := (rfl)
@[simp] theorem Gov.setPhase_sget (g : Gov) (n : Nat) (x : ReqPhase) (h' : Fld) : (g.setPhase n x).sget h' = g.sget h' := (rfl)

/-! ### setRail -/

@[simp] theorem Gov.setRail_fuses (g : Gov) (r : Nat) (f : RailSt → RailSt) : (g.setRail r f).fuses = g.fuses := (rfl)
@[simp] theorem Gov.setRail_regs (g : Gov) (r : Nat) (f : RailSt → RailSt) : (g.setRail r f).regs = g.regs := (rfl)
@[simp] theorem Gov.setRail_held (g : Gov) (r : Nat) (f : RailSt → RailSt) : (g.setRail r f).held = g.held := (rfl)
@[simp] theorem Gov.setRail_pairs (g : Gov) (r : Nat) (f : RailSt → RailSt) : (g.setRail r f).pairs = g.pairs := (rfl)
@[simp] theorem Gov.setRail_now (g : Gov) (r : Nat) (f : RailSt → RailSt) : (g.setRail r f).now = g.now := (rfl)
@[simp] theorem Gov.setRail_rst (g : Gov) (r : Nat) (f : RailSt → RailSt) : (g.setRail r f).rst = g.rst := (rfl)
@[simp] theorem Gov.setRail_brown (g : Gov) (r : Nat) (f : RailSt → RailSt) : (g.setRail r f).brown = g.brown := (rfl)
@[simp] theorem Gov.setRail_dark (g : Gov) (r : Nat) (f : RailSt → RailSt) : (g.setRail r f).dark = g.dark := (rfl)
@[simp] theorem Gov.setRail_pll (g : Gov) (r : Nat) (f : RailSt → RailSt) : (g.setRail r f).pll = g.pll := (rfl)
@[simp] theorem Gov.setRail_pins (g : Gov) (r : Nat) (f : RailSt → RailSt) : (g.setRail r f).pins = g.pins := (rfl)
@[simp] theorem Gov.setRail_resp (g : Gov) (r : Nat) (f : RailSt → RailSt) : (g.setRail r f).resp = g.resp := (rfl)
@[simp] theorem Gov.setRail_rdata (g : Gov) (r : Nat) (f : RailSt → RailSt) : (g.setRail r f).rdata = g.rdata := (rfl)
@[simp] theorem Gov.setRail_free (g : Gov) (r : Nat) (f : RailSt → RailSt) : (g.setRail r f).free = g.free := (rfl)
@[simp] theorem Gov.setRail_flt (g : Gov) (r : Nat) (f : RailSt → RailSt) : (g.setRail r f).flt = g.flt := (rfl)
@[simp] theorem Gov.setRail_firm (g : Gov) (r : Nat) (f : RailSt → RailSt) : (g.setRail r f).firm = g.firm := (rfl)
@[simp] theorem Gov.setRail_cmd (g : Gov) (r : Nat) (f : RailSt → RailSt) : (g.setRail r f).cmd = g.cmd := (rfl)
@[simp] theorem Gov.setRail_pwr (g : Gov) (r : Nat) (f : RailSt → RailSt) : (g.setRail r f).pwr = g.pwr := (rfl)
@[simp] theorem Gov.setRail_mgmt (g : Gov) (r : Nat) (f : RailSt → RailSt) : (g.setRail r f).mgmt = g.mgmt := (rfl)
@[simp] theorem Gov.setRail_eng (g : Gov) (r : Nat) (f : RailSt → RailSt) : (g.setRail r f).eng = g.eng := (rfl)
@[simp] theorem Gov.setRail_lim (g : Gov) (r : Nat) (f : RailSt → RailSt) : (g.setRail r f).lim = g.lim := (rfl)
@[simp] theorem Gov.setRail_fcu (g : Gov) (r : Nat) (f : RailSt → RailSt) : (g.setRail r f).fcu = g.fcu := (rfl)
@[simp] theorem Gov.setRail_clk (g : Gov) (r : Nat) (f : RailSt → RailSt) : (g.setRail r f).clk = g.clk := (rfl)
@[simp] theorem Gov.setRail_sns (g : Gov) (r : Nat) (f : RailSt → RailSt) : (g.setRail r f).sns = g.sns := (rfl)
@[simp] theorem Gov.setRail_led (g : Gov) (r : Nat) (f : RailSt → RailSt) : (g.setRail r f).led = g.led := (rfl)
@[simp] theorem Gov.setRail_hws (g : Gov) (r : Nat) (f : RailSt → RailSt) : (g.setRail r f).hws = g.hws := (rfl)
@[simp] theorem Gov.setRail_trc (g : Gov) (r : Nat) (f : RailSt → RailSt) : (g.setRail r f).trc = g.trc := (rfl)
@[simp] theorem Gov.setRail_tap (g : Gov) (r : Nat) (f : RailSt → RailSt) : (g.setRail r f).tap = g.tap := (rfl)
@[simp] theorem Gov.setRail_word (g : Gov) (r : Nat) (f : RailSt → RailSt) (off : Nat) : (g.setRail r f).word off = g.word off := (rfl)
@[simp] theorem Gov.setRail_get (g : Gov) (r : Nat) (f : RailSt → RailSt) (h' : Fld) : (g.setRail r f).get h' = g.get h' := (rfl)
@[simp] theorem Gov.setRail_flag (g : Gov) (r : Nat) (f : RailSt → RailSt) (h' : Fld) : (g.setRail r f).flag h' = g.flag h' := (rfl)
@[simp] theorem Gov.setRail_sget (g : Gov) (r : Nat) (f : RailSt → RailSt) (h' : Fld) : (g.setRail r f).sget h' = g.sget h' := (rfl)

/-! ### setPh -/

@[simp] theorem Gov.setPh_fuses (g : Gov) (p : Nat) (f : PhaseSt → PhaseSt) : (g.setPh p f).fuses = g.fuses := (rfl)
@[simp] theorem Gov.setPh_regs (g : Gov) (p : Nat) (f : PhaseSt → PhaseSt) : (g.setPh p f).regs = g.regs := (rfl)
@[simp] theorem Gov.setPh_held (g : Gov) (p : Nat) (f : PhaseSt → PhaseSt) : (g.setPh p f).held = g.held := (rfl)
@[simp] theorem Gov.setPh_pairs (g : Gov) (p : Nat) (f : PhaseSt → PhaseSt) : (g.setPh p f).pairs = g.pairs := (rfl)
@[simp] theorem Gov.setPh_now (g : Gov) (p : Nat) (f : PhaseSt → PhaseSt) : (g.setPh p f).now = g.now := (rfl)
@[simp] theorem Gov.setPh_rst (g : Gov) (p : Nat) (f : PhaseSt → PhaseSt) : (g.setPh p f).rst = g.rst := (rfl)
@[simp] theorem Gov.setPh_brown (g : Gov) (p : Nat) (f : PhaseSt → PhaseSt) : (g.setPh p f).brown = g.brown := (rfl)
@[simp] theorem Gov.setPh_dark (g : Gov) (p : Nat) (f : PhaseSt → PhaseSt) : (g.setPh p f).dark = g.dark := (rfl)
@[simp] theorem Gov.setPh_pll (g : Gov) (p : Nat) (f : PhaseSt → PhaseSt) : (g.setPh p f).pll = g.pll := (rfl)
@[simp] theorem Gov.setPh_pins (g : Gov) (p : Nat) (f : PhaseSt → PhaseSt) : (g.setPh p f).pins = g.pins := (rfl)
@[simp] theorem Gov.setPh_resp (g : Gov) (p : Nat) (f : PhaseSt → PhaseSt) : (g.setPh p f).resp = g.resp := (rfl)
@[simp] theorem Gov.setPh_rdata (g : Gov) (p : Nat) (f : PhaseSt → PhaseSt) : (g.setPh p f).rdata = g.rdata := (rfl)
@[simp] theorem Gov.setPh_free (g : Gov) (p : Nat) (f : PhaseSt → PhaseSt) : (g.setPh p f).free = g.free := (rfl)
@[simp] theorem Gov.setPh_flt (g : Gov) (p : Nat) (f : PhaseSt → PhaseSt) : (g.setPh p f).flt = g.flt := (rfl)
@[simp] theorem Gov.setPh_firm (g : Gov) (p : Nat) (f : PhaseSt → PhaseSt) : (g.setPh p f).firm = g.firm := (rfl)
@[simp] theorem Gov.setPh_cmd (g : Gov) (p : Nat) (f : PhaseSt → PhaseSt) : (g.setPh p f).cmd = g.cmd := (rfl)
@[simp] theorem Gov.setPh_pwr (g : Gov) (p : Nat) (f : PhaseSt → PhaseSt) : (g.setPh p f).pwr = g.pwr := (rfl)
@[simp] theorem Gov.setPh_mgmt (g : Gov) (p : Nat) (f : PhaseSt → PhaseSt) : (g.setPh p f).mgmt = g.mgmt := (rfl)
@[simp] theorem Gov.setPh_eng (g : Gov) (p : Nat) (f : PhaseSt → PhaseSt) : (g.setPh p f).eng = g.eng := (rfl)
@[simp] theorem Gov.setPh_lim (g : Gov) (p : Nat) (f : PhaseSt → PhaseSt) : (g.setPh p f).lim = g.lim := (rfl)
@[simp] theorem Gov.setPh_fcu (g : Gov) (p : Nat) (f : PhaseSt → PhaseSt) : (g.setPh p f).fcu = g.fcu := (rfl)
@[simp] theorem Gov.setPh_clk (g : Gov) (p : Nat) (f : PhaseSt → PhaseSt) : (g.setPh p f).clk = g.clk := (rfl)
@[simp] theorem Gov.setPh_sns (g : Gov) (p : Nat) (f : PhaseSt → PhaseSt) : (g.setPh p f).sns = g.sns := (rfl)
@[simp] theorem Gov.setPh_led (g : Gov) (p : Nat) (f : PhaseSt → PhaseSt) : (g.setPh p f).led = g.led := (rfl)
@[simp] theorem Gov.setPh_hws (g : Gov) (p : Nat) (f : PhaseSt → PhaseSt) : (g.setPh p f).hws = g.hws := (rfl)
@[simp] theorem Gov.setPh_trc (g : Gov) (p : Nat) (f : PhaseSt → PhaseSt) : (g.setPh p f).trc = g.trc := (rfl)
@[simp] theorem Gov.setPh_tap (g : Gov) (p : Nat) (f : PhaseSt → PhaseSt) : (g.setPh p f).tap = g.tap := (rfl)
@[simp] theorem Gov.setPh_word (g : Gov) (p : Nat) (f : PhaseSt → PhaseSt) (off : Nat) : (g.setPh p f).word off = g.word off := (rfl)
@[simp] theorem Gov.setPh_get (g : Gov) (p : Nat) (f : PhaseSt → PhaseSt) (h' : Fld) : (g.setPh p f).get h' = g.get h' := (rfl)
@[simp] theorem Gov.setPh_flag (g : Gov) (p : Nat) (f : PhaseSt → PhaseSt) (h' : Fld) : (g.setPh p f).flag h' = g.flag h' := (rfl)
@[simp] theorem Gov.setPh_sget (g : Gov) (p : Nat) (f : PhaseSt → PhaseSt) (h' : Fld) : (g.setPh p f).sget h' = g.sget h' := (rfl)

/-! ### setSyn -/

@[simp] theorem Gov.setSyn_fuses (g : Gov) (k : Nat) (f : SynSt → SynSt) : (g.setSyn k f).fuses = g.fuses := (rfl)
@[simp] theorem Gov.setSyn_regs (g : Gov) (k : Nat) (f : SynSt → SynSt) : (g.setSyn k f).regs = g.regs := (rfl)
@[simp] theorem Gov.setSyn_held (g : Gov) (k : Nat) (f : SynSt → SynSt) : (g.setSyn k f).held = g.held := (rfl)
@[simp] theorem Gov.setSyn_pairs (g : Gov) (k : Nat) (f : SynSt → SynSt) : (g.setSyn k f).pairs = g.pairs := (rfl)
@[simp] theorem Gov.setSyn_now (g : Gov) (k : Nat) (f : SynSt → SynSt) : (g.setSyn k f).now = g.now := (rfl)
@[simp] theorem Gov.setSyn_rst (g : Gov) (k : Nat) (f : SynSt → SynSt) : (g.setSyn k f).rst = g.rst := (rfl)
@[simp] theorem Gov.setSyn_brown (g : Gov) (k : Nat) (f : SynSt → SynSt) : (g.setSyn k f).brown = g.brown := (rfl)
@[simp] theorem Gov.setSyn_dark (g : Gov) (k : Nat) (f : SynSt → SynSt) : (g.setSyn k f).dark = g.dark := (rfl)
@[simp] theorem Gov.setSyn_pll (g : Gov) (k : Nat) (f : SynSt → SynSt) : (g.setSyn k f).pll = g.pll := (rfl)
@[simp] theorem Gov.setSyn_pins (g : Gov) (k : Nat) (f : SynSt → SynSt) : (g.setSyn k f).pins = g.pins := (rfl)
@[simp] theorem Gov.setSyn_resp (g : Gov) (k : Nat) (f : SynSt → SynSt) : (g.setSyn k f).resp = g.resp := (rfl)
@[simp] theorem Gov.setSyn_rdata (g : Gov) (k : Nat) (f : SynSt → SynSt) : (g.setSyn k f).rdata = g.rdata := (rfl)
@[simp] theorem Gov.setSyn_free (g : Gov) (k : Nat) (f : SynSt → SynSt) : (g.setSyn k f).free = g.free := (rfl)
@[simp] theorem Gov.setSyn_flt (g : Gov) (k : Nat) (f : SynSt → SynSt) : (g.setSyn k f).flt = g.flt := (rfl)
@[simp] theorem Gov.setSyn_firm (g : Gov) (k : Nat) (f : SynSt → SynSt) : (g.setSyn k f).firm = g.firm := (rfl)
@[simp] theorem Gov.setSyn_cmd (g : Gov) (k : Nat) (f : SynSt → SynSt) : (g.setSyn k f).cmd = g.cmd := (rfl)
@[simp] theorem Gov.setSyn_pwr (g : Gov) (k : Nat) (f : SynSt → SynSt) : (g.setSyn k f).pwr = g.pwr := (rfl)
@[simp] theorem Gov.setSyn_mgmt (g : Gov) (k : Nat) (f : SynSt → SynSt) : (g.setSyn k f).mgmt = g.mgmt := (rfl)
@[simp] theorem Gov.setSyn_eng (g : Gov) (k : Nat) (f : SynSt → SynSt) : (g.setSyn k f).eng = g.eng := (rfl)
@[simp] theorem Gov.setSyn_lim (g : Gov) (k : Nat) (f : SynSt → SynSt) : (g.setSyn k f).lim = g.lim := (rfl)
@[simp] theorem Gov.setSyn_fcu (g : Gov) (k : Nat) (f : SynSt → SynSt) : (g.setSyn k f).fcu = g.fcu := (rfl)
@[simp] theorem Gov.setSyn_reg (g : Gov) (k : Nat) (f : SynSt → SynSt) : (g.setSyn k f).reg = g.reg := (rfl)
@[simp] theorem Gov.setSyn_sns (g : Gov) (k : Nat) (f : SynSt → SynSt) : (g.setSyn k f).sns = g.sns := (rfl)
@[simp] theorem Gov.setSyn_led (g : Gov) (k : Nat) (f : SynSt → SynSt) : (g.setSyn k f).led = g.led := (rfl)
@[simp] theorem Gov.setSyn_hws (g : Gov) (k : Nat) (f : SynSt → SynSt) : (g.setSyn k f).hws = g.hws := (rfl)
@[simp] theorem Gov.setSyn_trc (g : Gov) (k : Nat) (f : SynSt → SynSt) : (g.setSyn k f).trc = g.trc := (rfl)
@[simp] theorem Gov.setSyn_tap (g : Gov) (k : Nat) (f : SynSt → SynSt) : (g.setSyn k f).tap = g.tap := (rfl)
@[simp] theorem Gov.setSyn_word (g : Gov) (k : Nat) (f : SynSt → SynSt) (off : Nat) : (g.setSyn k f).word off = g.word off := (rfl)
@[simp] theorem Gov.setSyn_get (g : Gov) (k : Nat) (f : SynSt → SynSt) (h' : Fld) : (g.setSyn k f).get h' = g.get h' := (rfl)
@[simp] theorem Gov.setSyn_flag (g : Gov) (k : Nat) (f : SynSt → SynSt) (h' : Fld) : (g.setSyn k f).flag h' = g.flag h' := (rfl)
@[simp] theorem Gov.setSyn_sget (g : Gov) (k : Nat) (f : SynSt → SynSt) (h' : Fld) : (g.setSyn k f).sget h' = g.sget h' := (rfl)

/-! ### setAns -/

@[simp] theorem Gov.setAns_fuses (g : Gov) (b : Nat) (f : BerthAns → BerthAns) : (g.setAns b f).fuses = g.fuses := (rfl)
@[simp] theorem Gov.setAns_regs (g : Gov) (b : Nat) (f : BerthAns → BerthAns) : (g.setAns b f).regs = g.regs := (rfl)
@[simp] theorem Gov.setAns_held (g : Gov) (b : Nat) (f : BerthAns → BerthAns) : (g.setAns b f).held = g.held := (rfl)
@[simp] theorem Gov.setAns_pairs (g : Gov) (b : Nat) (f : BerthAns → BerthAns) : (g.setAns b f).pairs = g.pairs := (rfl)
@[simp] theorem Gov.setAns_now (g : Gov) (b : Nat) (f : BerthAns → BerthAns) : (g.setAns b f).now = g.now := (rfl)
@[simp] theorem Gov.setAns_rst (g : Gov) (b : Nat) (f : BerthAns → BerthAns) : (g.setAns b f).rst = g.rst := (rfl)
@[simp] theorem Gov.setAns_brown (g : Gov) (b : Nat) (f : BerthAns → BerthAns) : (g.setAns b f).brown = g.brown := (rfl)
@[simp] theorem Gov.setAns_dark (g : Gov) (b : Nat) (f : BerthAns → BerthAns) : (g.setAns b f).dark = g.dark := (rfl)
@[simp] theorem Gov.setAns_pll (g : Gov) (b : Nat) (f : BerthAns → BerthAns) : (g.setAns b f).pll = g.pll := (rfl)
@[simp] theorem Gov.setAns_pins (g : Gov) (b : Nat) (f : BerthAns → BerthAns) : (g.setAns b f).pins = g.pins := (rfl)
@[simp] theorem Gov.setAns_resp (g : Gov) (b : Nat) (f : BerthAns → BerthAns) : (g.setAns b f).resp = g.resp := (rfl)
@[simp] theorem Gov.setAns_rdata (g : Gov) (b : Nat) (f : BerthAns → BerthAns) : (g.setAns b f).rdata = g.rdata := (rfl)
@[simp] theorem Gov.setAns_free (g : Gov) (b : Nat) (f : BerthAns → BerthAns) : (g.setAns b f).free = g.free := (rfl)
@[simp] theorem Gov.setAns_flt (g : Gov) (b : Nat) (f : BerthAns → BerthAns) : (g.setAns b f).flt = g.flt := (rfl)
@[simp] theorem Gov.setAns_firm (g : Gov) (b : Nat) (f : BerthAns → BerthAns) : (g.setAns b f).firm = g.firm := (rfl)
@[simp] theorem Gov.setAns_cmd (g : Gov) (b : Nat) (f : BerthAns → BerthAns) : (g.setAns b f).cmd = g.cmd := (rfl)
@[simp] theorem Gov.setAns_mgmt (g : Gov) (b : Nat) (f : BerthAns → BerthAns) : (g.setAns b f).mgmt = g.mgmt := (rfl)
@[simp] theorem Gov.setAns_eng (g : Gov) (b : Nat) (f : BerthAns → BerthAns) : (g.setAns b f).eng = g.eng := (rfl)
@[simp] theorem Gov.setAns_lim (g : Gov) (b : Nat) (f : BerthAns → BerthAns) : (g.setAns b f).lim = g.lim := (rfl)
@[simp] theorem Gov.setAns_fcu (g : Gov) (b : Nat) (f : BerthAns → BerthAns) : (g.setAns b f).fcu = g.fcu := (rfl)
@[simp] theorem Gov.setAns_clk (g : Gov) (b : Nat) (f : BerthAns → BerthAns) : (g.setAns b f).clk = g.clk := (rfl)
@[simp] theorem Gov.setAns_reg (g : Gov) (b : Nat) (f : BerthAns → BerthAns) : (g.setAns b f).reg = g.reg := (rfl)
@[simp] theorem Gov.setAns_sns (g : Gov) (b : Nat) (f : BerthAns → BerthAns) : (g.setAns b f).sns = g.sns := (rfl)
@[simp] theorem Gov.setAns_led (g : Gov) (b : Nat) (f : BerthAns → BerthAns) : (g.setAns b f).led = g.led := (rfl)
@[simp] theorem Gov.setAns_hws (g : Gov) (b : Nat) (f : BerthAns → BerthAns) : (g.setAns b f).hws = g.hws := (rfl)
@[simp] theorem Gov.setAns_trc (g : Gov) (b : Nat) (f : BerthAns → BerthAns) : (g.setAns b f).trc = g.trc := (rfl)
@[simp] theorem Gov.setAns_tap (g : Gov) (b : Nat) (f : BerthAns → BerthAns) : (g.setAns b f).tap = g.tap := (rfl)
@[simp] theorem Gov.setAns_word (g : Gov) (b : Nat) (f : BerthAns → BerthAns) (off : Nat) : (g.setAns b f).word off = g.word off := (rfl)
@[simp] theorem Gov.setAns_get (g : Gov) (b : Nat) (f : BerthAns → BerthAns) (h' : Fld) : (g.setAns b f).get h' = g.get h' := (rfl)
@[simp] theorem Gov.setAns_flag (g : Gov) (b : Nat) (f : BerthAns → BerthAns) (h' : Fld) : (g.setAns b f).flag h' = g.flag h' := (rfl)
@[simp] theorem Gov.setAns_sget (g : Gov) (b : Nat) (f : BerthAns → BerthAns) (h' : Fld) : (g.setAns b f).sget h' = g.sget h' := (rfl)

/-! ### withNow -/

@[simp] theorem Gov.withNow_fuses (g : Gov) (x : Nat) : (g.withNow x).fuses = g.fuses := (rfl)
@[simp] theorem Gov.withNow_regs (g : Gov) (x : Nat) : (g.withNow x).regs = g.regs := (rfl)
@[simp] theorem Gov.withNow_held (g : Gov) (x : Nat) : (g.withNow x).held = g.held := (rfl)
@[simp] theorem Gov.withNow_pairs (g : Gov) (x : Nat) : (g.withNow x).pairs = g.pairs := (rfl)
@[simp] theorem Gov.withNow_rst (g : Gov) (x : Nat) : (g.withNow x).rst = g.rst := (rfl)
@[simp] theorem Gov.withNow_brown (g : Gov) (x : Nat) : (g.withNow x).brown = g.brown := (rfl)
@[simp] theorem Gov.withNow_dark (g : Gov) (x : Nat) : (g.withNow x).dark = g.dark := (rfl)
@[simp] theorem Gov.withNow_pll (g : Gov) (x : Nat) : (g.withNow x).pll = g.pll := (rfl)
@[simp] theorem Gov.withNow_pins (g : Gov) (x : Nat) : (g.withNow x).pins = g.pins := (rfl)
@[simp] theorem Gov.withNow_resp (g : Gov) (x : Nat) : (g.withNow x).resp = g.resp := (rfl)
@[simp] theorem Gov.withNow_rdata (g : Gov) (x : Nat) : (g.withNow x).rdata = g.rdata := (rfl)
@[simp] theorem Gov.withNow_free (g : Gov) (x : Nat) : (g.withNow x).free = g.free := (rfl)
@[simp] theorem Gov.withNow_flt (g : Gov) (x : Nat) : (g.withNow x).flt = g.flt := (rfl)
@[simp] theorem Gov.withNow_firm (g : Gov) (x : Nat) : (g.withNow x).firm = g.firm := (rfl)
@[simp] theorem Gov.withNow_cmd (g : Gov) (x : Nat) : (g.withNow x).cmd = g.cmd := (rfl)
@[simp] theorem Gov.withNow_pwr (g : Gov) (x : Nat) : (g.withNow x).pwr = g.pwr := (rfl)
@[simp] theorem Gov.withNow_mgmt (g : Gov) (x : Nat) : (g.withNow x).mgmt = g.mgmt := (rfl)
@[simp] theorem Gov.withNow_eng (g : Gov) (x : Nat) : (g.withNow x).eng = g.eng := (rfl)
@[simp] theorem Gov.withNow_lim (g : Gov) (x : Nat) : (g.withNow x).lim = g.lim := (rfl)
@[simp] theorem Gov.withNow_fcu (g : Gov) (x : Nat) : (g.withNow x).fcu = g.fcu := (rfl)
@[simp] theorem Gov.withNow_clk (g : Gov) (x : Nat) : (g.withNow x).clk = g.clk := (rfl)
@[simp] theorem Gov.withNow_reg (g : Gov) (x : Nat) : (g.withNow x).reg = g.reg := (rfl)
@[simp] theorem Gov.withNow_sns (g : Gov) (x : Nat) : (g.withNow x).sns = g.sns := (rfl)
@[simp] theorem Gov.withNow_led (g : Gov) (x : Nat) : (g.withNow x).led = g.led := (rfl)
@[simp] theorem Gov.withNow_hws (g : Gov) (x : Nat) : (g.withNow x).hws = g.hws := (rfl)
@[simp] theorem Gov.withNow_trc (g : Gov) (x : Nat) : (g.withNow x).trc = g.trc := (rfl)
@[simp] theorem Gov.withNow_tap (g : Gov) (x : Nat) : (g.withNow x).tap = g.tap := (rfl)
@[simp] theorem Gov.withNow_now (g : Gov) (x : Nat) : (g.withNow x).now = x := (rfl)
@[simp] theorem Gov.withNow_word (g : Gov) (x : Nat) (off : Nat) : (g.withNow x).word off = g.word off := (rfl)
@[simp] theorem Gov.withNow_get (g : Gov) (x : Nat) (h' : Fld) : (g.withNow x).get h' = g.get h' := (rfl)
@[simp] theorem Gov.withNow_flag (g : Gov) (x : Nat) (h' : Fld) : (g.withNow x).flag h' = g.flag h' := (rfl)
@[simp] theorem Gov.withNow_sget (g : Gov) (x : Nat) (h' : Fld) : (g.withNow x).sget h' = g.sget h' := (rfl)

/-! ### withPll -/

@[simp] theorem Gov.withPll_fuses (g : Gov) (x : Bool) : (g.withPll x).fuses = g.fuses := (rfl)
@[simp] theorem Gov.withPll_regs (g : Gov) (x : Bool) : (g.withPll x).regs = g.regs := (rfl)
@[simp] theorem Gov.withPll_held (g : Gov) (x : Bool) : (g.withPll x).held = g.held := (rfl)
@[simp] theorem Gov.withPll_pairs (g : Gov) (x : Bool) : (g.withPll x).pairs = g.pairs := (rfl)
@[simp] theorem Gov.withPll_now (g : Gov) (x : Bool) : (g.withPll x).now = g.now := (rfl)
@[simp] theorem Gov.withPll_rst (g : Gov) (x : Bool) : (g.withPll x).rst = g.rst := (rfl)
@[simp] theorem Gov.withPll_brown (g : Gov) (x : Bool) : (g.withPll x).brown = g.brown := (rfl)
@[simp] theorem Gov.withPll_dark (g : Gov) (x : Bool) : (g.withPll x).dark = g.dark := (rfl)
@[simp] theorem Gov.withPll_pins (g : Gov) (x : Bool) : (g.withPll x).pins = g.pins := (rfl)
@[simp] theorem Gov.withPll_resp (g : Gov) (x : Bool) : (g.withPll x).resp = g.resp := (rfl)
@[simp] theorem Gov.withPll_rdata (g : Gov) (x : Bool) : (g.withPll x).rdata = g.rdata := (rfl)
@[simp] theorem Gov.withPll_free (g : Gov) (x : Bool) : (g.withPll x).free = g.free := (rfl)
@[simp] theorem Gov.withPll_flt (g : Gov) (x : Bool) : (g.withPll x).flt = g.flt := (rfl)
@[simp] theorem Gov.withPll_firm (g : Gov) (x : Bool) : (g.withPll x).firm = g.firm := (rfl)
@[simp] theorem Gov.withPll_cmd (g : Gov) (x : Bool) : (g.withPll x).cmd = g.cmd := (rfl)
@[simp] theorem Gov.withPll_pwr (g : Gov) (x : Bool) : (g.withPll x).pwr = g.pwr := (rfl)
@[simp] theorem Gov.withPll_mgmt (g : Gov) (x : Bool) : (g.withPll x).mgmt = g.mgmt := (rfl)
@[simp] theorem Gov.withPll_eng (g : Gov) (x : Bool) : (g.withPll x).eng = g.eng := (rfl)
@[simp] theorem Gov.withPll_lim (g : Gov) (x : Bool) : (g.withPll x).lim = g.lim := (rfl)
@[simp] theorem Gov.withPll_fcu (g : Gov) (x : Bool) : (g.withPll x).fcu = g.fcu := (rfl)
@[simp] theorem Gov.withPll_clk (g : Gov) (x : Bool) : (g.withPll x).clk = g.clk := (rfl)
@[simp] theorem Gov.withPll_reg (g : Gov) (x : Bool) : (g.withPll x).reg = g.reg := (rfl)
@[simp] theorem Gov.withPll_sns (g : Gov) (x : Bool) : (g.withPll x).sns = g.sns := (rfl)
@[simp] theorem Gov.withPll_led (g : Gov) (x : Bool) : (g.withPll x).led = g.led := (rfl)
@[simp] theorem Gov.withPll_hws (g : Gov) (x : Bool) : (g.withPll x).hws = g.hws := (rfl)
@[simp] theorem Gov.withPll_trc (g : Gov) (x : Bool) : (g.withPll x).trc = g.trc := (rfl)
@[simp] theorem Gov.withPll_tap (g : Gov) (x : Bool) : (g.withPll x).tap = g.tap := (rfl)
@[simp] theorem Gov.withPll_pll (g : Gov) (x : Bool) : (g.withPll x).pll = x := (rfl)
@[simp] theorem Gov.withPll_word (g : Gov) (x : Bool) (off : Nat) : (g.withPll x).word off = g.word off := (rfl)
@[simp] theorem Gov.withPll_get (g : Gov) (x : Bool) (h' : Fld) : (g.withPll x).get h' = g.get h' := (rfl)
@[simp] theorem Gov.withPll_flag (g : Gov) (x : Bool) (h' : Fld) : (g.withPll x).flag h' = g.flag h' := (rfl)
@[simp] theorem Gov.withPll_sget (g : Gov) (x : Bool) (h' : Fld) : (g.withPll x).sget h' = g.sget h' := (rfl)

/-! ### withPins -/

@[simp] theorem Gov.withPins_fuses (g : Gov) (x : PinSt) : (g.withPins x).fuses = g.fuses := (rfl)
@[simp] theorem Gov.withPins_regs (g : Gov) (x : PinSt) : (g.withPins x).regs = g.regs := (rfl)
@[simp] theorem Gov.withPins_held (g : Gov) (x : PinSt) : (g.withPins x).held = g.held := (rfl)
@[simp] theorem Gov.withPins_pairs (g : Gov) (x : PinSt) : (g.withPins x).pairs = g.pairs := (rfl)
@[simp] theorem Gov.withPins_now (g : Gov) (x : PinSt) : (g.withPins x).now = g.now := (rfl)
@[simp] theorem Gov.withPins_rst (g : Gov) (x : PinSt) : (g.withPins x).rst = g.rst := (rfl)
@[simp] theorem Gov.withPins_brown (g : Gov) (x : PinSt) : (g.withPins x).brown = g.brown := (rfl)
@[simp] theorem Gov.withPins_dark (g : Gov) (x : PinSt) : (g.withPins x).dark = g.dark := (rfl)
@[simp] theorem Gov.withPins_pll (g : Gov) (x : PinSt) : (g.withPins x).pll = g.pll := (rfl)
@[simp] theorem Gov.withPins_resp (g : Gov) (x : PinSt) : (g.withPins x).resp = g.resp := (rfl)
@[simp] theorem Gov.withPins_rdata (g : Gov) (x : PinSt) : (g.withPins x).rdata = g.rdata := (rfl)
@[simp] theorem Gov.withPins_free (g : Gov) (x : PinSt) : (g.withPins x).free = g.free := (rfl)
@[simp] theorem Gov.withPins_flt (g : Gov) (x : PinSt) : (g.withPins x).flt = g.flt := (rfl)
@[simp] theorem Gov.withPins_firm (g : Gov) (x : PinSt) : (g.withPins x).firm = g.firm := (rfl)
@[simp] theorem Gov.withPins_cmd (g : Gov) (x : PinSt) : (g.withPins x).cmd = g.cmd := (rfl)
@[simp] theorem Gov.withPins_pwr (g : Gov) (x : PinSt) : (g.withPins x).pwr = g.pwr := (rfl)
@[simp] theorem Gov.withPins_mgmt (g : Gov) (x : PinSt) : (g.withPins x).mgmt = g.mgmt := (rfl)
@[simp] theorem Gov.withPins_eng (g : Gov) (x : PinSt) : (g.withPins x).eng = g.eng := (rfl)
@[simp] theorem Gov.withPins_lim (g : Gov) (x : PinSt) : (g.withPins x).lim = g.lim := (rfl)
@[simp] theorem Gov.withPins_fcu (g : Gov) (x : PinSt) : (g.withPins x).fcu = g.fcu := (rfl)
@[simp] theorem Gov.withPins_clk (g : Gov) (x : PinSt) : (g.withPins x).clk = g.clk := (rfl)
@[simp] theorem Gov.withPins_reg (g : Gov) (x : PinSt) : (g.withPins x).reg = g.reg := (rfl)
@[simp] theorem Gov.withPins_sns (g : Gov) (x : PinSt) : (g.withPins x).sns = g.sns := (rfl)
@[simp] theorem Gov.withPins_led (g : Gov) (x : PinSt) : (g.withPins x).led = g.led := (rfl)
@[simp] theorem Gov.withPins_hws (g : Gov) (x : PinSt) : (g.withPins x).hws = g.hws := (rfl)
@[simp] theorem Gov.withPins_trc (g : Gov) (x : PinSt) : (g.withPins x).trc = g.trc := (rfl)
@[simp] theorem Gov.withPins_tap (g : Gov) (x : PinSt) : (g.withPins x).tap = g.tap := (rfl)
@[simp] theorem Gov.withPins_pins (g : Gov) (x : PinSt) : (g.withPins x).pins = x := (rfl)
@[simp] theorem Gov.withPins_word (g : Gov) (x : PinSt) (off : Nat) : (g.withPins x).word off = g.word off := (rfl)
@[simp] theorem Gov.withPins_get (g : Gov) (x : PinSt) (h' : Fld) : (g.withPins x).get h' = g.get h' := (rfl)
@[simp] theorem Gov.withPins_flag (g : Gov) (x : PinSt) (h' : Fld) : (g.withPins x).flag h' = g.flag h' := (rfl)
@[simp] theorem Gov.withPins_sget (g : Gov) (x : PinSt) (h' : Fld) : (g.withPins x).sget h' = g.sget h' := (rfl)

/-! ### withHeld -/

@[simp] theorem Gov.withHeld_fuses (g : Gov) (x : Tab Word) : (g.withHeld x).fuses = g.fuses := (rfl)
@[simp] theorem Gov.withHeld_regs (g : Gov) (x : Tab Word) : (g.withHeld x).regs = g.regs := (rfl)
@[simp] theorem Gov.withHeld_pairs (g : Gov) (x : Tab Word) : (g.withHeld x).pairs = g.pairs := (rfl)
@[simp] theorem Gov.withHeld_now (g : Gov) (x : Tab Word) : (g.withHeld x).now = g.now := (rfl)
@[simp] theorem Gov.withHeld_rst (g : Gov) (x : Tab Word) : (g.withHeld x).rst = g.rst := (rfl)
@[simp] theorem Gov.withHeld_brown (g : Gov) (x : Tab Word) : (g.withHeld x).brown = g.brown := (rfl)
@[simp] theorem Gov.withHeld_dark (g : Gov) (x : Tab Word) : (g.withHeld x).dark = g.dark := (rfl)
@[simp] theorem Gov.withHeld_pll (g : Gov) (x : Tab Word) : (g.withHeld x).pll = g.pll := (rfl)
@[simp] theorem Gov.withHeld_pins (g : Gov) (x : Tab Word) : (g.withHeld x).pins = g.pins := (rfl)
@[simp] theorem Gov.withHeld_resp (g : Gov) (x : Tab Word) : (g.withHeld x).resp = g.resp := (rfl)
@[simp] theorem Gov.withHeld_rdata (g : Gov) (x : Tab Word) : (g.withHeld x).rdata = g.rdata := (rfl)
@[simp] theorem Gov.withHeld_free (g : Gov) (x : Tab Word) : (g.withHeld x).free = g.free := (rfl)
@[simp] theorem Gov.withHeld_flt (g : Gov) (x : Tab Word) : (g.withHeld x).flt = g.flt := (rfl)
@[simp] theorem Gov.withHeld_firm (g : Gov) (x : Tab Word) : (g.withHeld x).firm = g.firm := (rfl)
@[simp] theorem Gov.withHeld_cmd (g : Gov) (x : Tab Word) : (g.withHeld x).cmd = g.cmd := (rfl)
@[simp] theorem Gov.withHeld_pwr (g : Gov) (x : Tab Word) : (g.withHeld x).pwr = g.pwr := (rfl)
@[simp] theorem Gov.withHeld_mgmt (g : Gov) (x : Tab Word) : (g.withHeld x).mgmt = g.mgmt := (rfl)
@[simp] theorem Gov.withHeld_eng (g : Gov) (x : Tab Word) : (g.withHeld x).eng = g.eng := (rfl)
@[simp] theorem Gov.withHeld_lim (g : Gov) (x : Tab Word) : (g.withHeld x).lim = g.lim := (rfl)
@[simp] theorem Gov.withHeld_fcu (g : Gov) (x : Tab Word) : (g.withHeld x).fcu = g.fcu := (rfl)
@[simp] theorem Gov.withHeld_clk (g : Gov) (x : Tab Word) : (g.withHeld x).clk = g.clk := (rfl)
@[simp] theorem Gov.withHeld_reg (g : Gov) (x : Tab Word) : (g.withHeld x).reg = g.reg := (rfl)
@[simp] theorem Gov.withHeld_sns (g : Gov) (x : Tab Word) : (g.withHeld x).sns = g.sns := (rfl)
@[simp] theorem Gov.withHeld_led (g : Gov) (x : Tab Word) : (g.withHeld x).led = g.led := (rfl)
@[simp] theorem Gov.withHeld_hws (g : Gov) (x : Tab Word) : (g.withHeld x).hws = g.hws := (rfl)
@[simp] theorem Gov.withHeld_trc (g : Gov) (x : Tab Word) : (g.withHeld x).trc = g.trc := (rfl)
@[simp] theorem Gov.withHeld_tap (g : Gov) (x : Tab Word) : (g.withHeld x).tap = g.tap := (rfl)
@[simp] theorem Gov.withHeld_held (g : Gov) (x : Tab Word) : (g.withHeld x).held = x := (rfl)
@[simp] theorem Gov.withHeld_word (g : Gov) (x : Tab Word) (off : Nat) : (g.withHeld x).word off = g.word off := (rfl)
@[simp] theorem Gov.withHeld_get (g : Gov) (x : Tab Word) (h' : Fld) : (g.withHeld x).get h' = g.get h' := (rfl)
@[simp] theorem Gov.withHeld_flag (g : Gov) (x : Tab Word) (h' : Fld) : (g.withHeld x).flag h' = g.flag h' := (rfl)
@[simp] theorem Gov.withHeld_sget (g : Gov) (x : Tab Word) (h' : Fld) : (g.withHeld x).sget h' = g.sget h' := (rfl)

/-! ### withPairs -/

@[simp] theorem Gov.withPairs_fuses (g : Gov) (x : Tab Word) : (g.withPairs x).fuses = g.fuses := (rfl)
@[simp] theorem Gov.withPairs_regs (g : Gov) (x : Tab Word) : (g.withPairs x).regs = g.regs := (rfl)
@[simp] theorem Gov.withPairs_held (g : Gov) (x : Tab Word) : (g.withPairs x).held = g.held := (rfl)
@[simp] theorem Gov.withPairs_now (g : Gov) (x : Tab Word) : (g.withPairs x).now = g.now := (rfl)
@[simp] theorem Gov.withPairs_rst (g : Gov) (x : Tab Word) : (g.withPairs x).rst = g.rst := (rfl)
@[simp] theorem Gov.withPairs_brown (g : Gov) (x : Tab Word) : (g.withPairs x).brown = g.brown := (rfl)
@[simp] theorem Gov.withPairs_dark (g : Gov) (x : Tab Word) : (g.withPairs x).dark = g.dark := (rfl)
@[simp] theorem Gov.withPairs_pll (g : Gov) (x : Tab Word) : (g.withPairs x).pll = g.pll := (rfl)
@[simp] theorem Gov.withPairs_pins (g : Gov) (x : Tab Word) : (g.withPairs x).pins = g.pins := (rfl)
@[simp] theorem Gov.withPairs_resp (g : Gov) (x : Tab Word) : (g.withPairs x).resp = g.resp := (rfl)
@[simp] theorem Gov.withPairs_rdata (g : Gov) (x : Tab Word) : (g.withPairs x).rdata = g.rdata := (rfl)
@[simp] theorem Gov.withPairs_free (g : Gov) (x : Tab Word) : (g.withPairs x).free = g.free := (rfl)
@[simp] theorem Gov.withPairs_flt (g : Gov) (x : Tab Word) : (g.withPairs x).flt = g.flt := (rfl)
@[simp] theorem Gov.withPairs_firm (g : Gov) (x : Tab Word) : (g.withPairs x).firm = g.firm := (rfl)
@[simp] theorem Gov.withPairs_cmd (g : Gov) (x : Tab Word) : (g.withPairs x).cmd = g.cmd := (rfl)
@[simp] theorem Gov.withPairs_pwr (g : Gov) (x : Tab Word) : (g.withPairs x).pwr = g.pwr := (rfl)
@[simp] theorem Gov.withPairs_mgmt (g : Gov) (x : Tab Word) : (g.withPairs x).mgmt = g.mgmt := (rfl)
@[simp] theorem Gov.withPairs_eng (g : Gov) (x : Tab Word) : (g.withPairs x).eng = g.eng := (rfl)
@[simp] theorem Gov.withPairs_lim (g : Gov) (x : Tab Word) : (g.withPairs x).lim = g.lim := (rfl)
@[simp] theorem Gov.withPairs_fcu (g : Gov) (x : Tab Word) : (g.withPairs x).fcu = g.fcu := (rfl)
@[simp] theorem Gov.withPairs_clk (g : Gov) (x : Tab Word) : (g.withPairs x).clk = g.clk := (rfl)
@[simp] theorem Gov.withPairs_reg (g : Gov) (x : Tab Word) : (g.withPairs x).reg = g.reg := (rfl)
@[simp] theorem Gov.withPairs_sns (g : Gov) (x : Tab Word) : (g.withPairs x).sns = g.sns := (rfl)
@[simp] theorem Gov.withPairs_led (g : Gov) (x : Tab Word) : (g.withPairs x).led = g.led := (rfl)
@[simp] theorem Gov.withPairs_hws (g : Gov) (x : Tab Word) : (g.withPairs x).hws = g.hws := (rfl)
@[simp] theorem Gov.withPairs_trc (g : Gov) (x : Tab Word) : (g.withPairs x).trc = g.trc := (rfl)
@[simp] theorem Gov.withPairs_tap (g : Gov) (x : Tab Word) : (g.withPairs x).tap = g.tap := (rfl)
@[simp] theorem Gov.withPairs_pairs (g : Gov) (x : Tab Word) : (g.withPairs x).pairs = x := (rfl)
@[simp] theorem Gov.withPairs_word (g : Gov) (x : Tab Word) (off : Nat) : (g.withPairs x).word off = g.word off := (rfl)
@[simp] theorem Gov.withPairs_get (g : Gov) (x : Tab Word) (h' : Fld) : (g.withPairs x).get h' = g.get h' := (rfl)
@[simp] theorem Gov.withPairs_flag (g : Gov) (x : Tab Word) (h' : Fld) : (g.withPairs x).flag h' = g.flag h' := (rfl)
@[simp] theorem Gov.withPairs_sget (g : Gov) (x : Tab Word) (h' : Fld) : (g.withPairs x).sget h' = g.sget h' := (rfl)

/-! ### psStep -/

@[simp] theorem Gov.psStep_fuses (g : Gov) (n : Nat) : (g.psStep n).fuses = g.fuses := (rfl)
@[simp] theorem Gov.psStep_regs (g : Gov) (n : Nat) : (g.psStep n).regs = g.regs := (rfl)
@[simp] theorem Gov.psStep_held (g : Gov) (n : Nat) : (g.psStep n).held = g.held := (rfl)
@[simp] theorem Gov.psStep_pairs (g : Gov) (n : Nat) : (g.psStep n).pairs = g.pairs := (rfl)
@[simp] theorem Gov.psStep_now (g : Gov) (n : Nat) : (g.psStep n).now = g.now := (rfl)
@[simp] theorem Gov.psStep_rst (g : Gov) (n : Nat) : (g.psStep n).rst = g.rst := (rfl)
@[simp] theorem Gov.psStep_brown (g : Gov) (n : Nat) : (g.psStep n).brown = g.brown := (rfl)
@[simp] theorem Gov.psStep_dark (g : Gov) (n : Nat) : (g.psStep n).dark = g.dark := (rfl)
@[simp] theorem Gov.psStep_pll (g : Gov) (n : Nat) : (g.psStep n).pll = g.pll := (rfl)
@[simp] theorem Gov.psStep_pins (g : Gov) (n : Nat) : (g.psStep n).pins = g.pins := (rfl)
@[simp] theorem Gov.psStep_resp (g : Gov) (n : Nat) : (g.psStep n).resp = g.resp := (rfl)
@[simp] theorem Gov.psStep_rdata (g : Gov) (n : Nat) : (g.psStep n).rdata = g.rdata := (rfl)
@[simp] theorem Gov.psStep_free (g : Gov) (n : Nat) : (g.psStep n).free = g.free := (rfl)
@[simp] theorem Gov.psStep_flt (g : Gov) (n : Nat) : (g.psStep n).flt = g.flt := (rfl)
@[simp] theorem Gov.psStep_firm (g : Gov) (n : Nat) : (g.psStep n).firm = g.firm := (rfl)
@[simp] theorem Gov.psStep_cmd (g : Gov) (n : Nat) : (g.psStep n).cmd = g.cmd := (rfl)
@[simp] theorem Gov.psStep_mgmt (g : Gov) (n : Nat) : (g.psStep n).mgmt = g.mgmt := (rfl)
@[simp] theorem Gov.psStep_eng (g : Gov) (n : Nat) : (g.psStep n).eng = g.eng := (rfl)
@[simp] theorem Gov.psStep_lim (g : Gov) (n : Nat) : (g.psStep n).lim = g.lim := (rfl)
@[simp] theorem Gov.psStep_fcu (g : Gov) (n : Nat) : (g.psStep n).fcu = g.fcu := (rfl)
@[simp] theorem Gov.psStep_clk (g : Gov) (n : Nat) : (g.psStep n).clk = g.clk := (rfl)
@[simp] theorem Gov.psStep_reg (g : Gov) (n : Nat) : (g.psStep n).reg = g.reg := (rfl)
@[simp] theorem Gov.psStep_sns (g : Gov) (n : Nat) : (g.psStep n).sns = g.sns := (rfl)
@[simp] theorem Gov.psStep_led (g : Gov) (n : Nat) : (g.psStep n).led = g.led := (rfl)
@[simp] theorem Gov.psStep_hws (g : Gov) (n : Nat) : (g.psStep n).hws = g.hws := (rfl)
@[simp] theorem Gov.psStep_trc (g : Gov) (n : Nat) : (g.psStep n).trc = g.trc := (rfl)
@[simp] theorem Gov.psStep_tap (g : Gov) (n : Nat) : (g.psStep n).tap = g.tap := (rfl)
@[simp] theorem Gov.psStep_word (g : Gov) (n : Nat) (off : Nat) : (g.psStep n).word off = g.word off := (rfl)
@[simp] theorem Gov.psStep_get (g : Gov) (n : Nat) (h' : Fld) : (g.psStep n).get h' = g.get h' := (rfl)
@[simp] theorem Gov.psStep_flag (g : Gov) (n : Nat) (h' : Fld) : (g.psStep n).flag h' = g.flag h' := (rfl)
@[simp] theorem Gov.psStep_sget (g : Gov) (n : Nat) (h' : Fld) : (g.psStep n).sget h' = g.sget h' := (rfl)

end Sys2Proof.Machine
end

