-- ==== Sys2Proof/Laws/Ops.lean ====
section
/-! SUPPORT. Reads of fields and words after a write of a field or a word. -/

namespace Sys2Proof.Machine

/-! ### Fields of one word -/

theorem testBit_field (x : Word) (lo w i : Nat) : (field x lo w).testBit i = (decide (i < w) && x.toNat.testBit (lo + i)) := by
  simp [field, Nat.testBit_mod_two_pow, Nat.testBit_div_two_pow, Nat.add_comm]

theorem testBit_insertField (x : Word) (lo w v i : Nat) :
    (insertField x lo w v).toNat.testBit i = (decide (i < 32) && if i < lo then x.toNat.testBit i else if i < lo + w then v.testBit (i - lo) else x.toNat.testBit i) := by
  have h1 : x.toNat % 2 ^ lo + v % 2 ^ w * 2 ^ lo + x.toNat / 2 ^ (lo + w) * 2 ^ (lo + w) = 2 ^ lo * (2 ^ w * (x.toNat / 2 ^ (lo + w)) + v % 2 ^ w) + x.toNat % 2 ^ lo := by
    rw [Nat.pow_add]; ring
  rw [insertField, BitVec.toNat_ofNat, Nat.testBit_mod_two_pow, h1, Nat.testBit_two_pow_mul_add _ (Nat.mod_lt _ (by positivity)), Nat.testBit_two_pow_mul_add _ (Nat.mod_lt _ (by positivity))]
  congr 1
  split
  · next h => simp [Nat.testBit_mod_two_pow, h]
  · next h =>
    by_cases h2 : i < lo + w
    · have h3 : i - lo < w := by omega
      simp [h2, h3, Nat.testBit_mod_two_pow]
    · have h3 : ¬ i - lo < w := by omega
      simp only [h2, h3, if_false, Nat.testBit_div_two_pow]
      congr 1; omega

theorem field_insertField_same {x : Word} {lo w v : Nat} (h : lo + w ≤ 32) : field (insertField x lo w v) lo w = v % 2 ^ w := by
  refine Nat.eq_of_testBit_eq fun i => ?_
  rw [testBit_field, testBit_insertField, Nat.testBit_mod_two_pow]
  by_cases hi : i < w
  · have h1 : lo + i < 32 := by omega
    simp [hi, h1]
  · simp [hi]

theorem field_insertField_apart {x : Word} {lo w v lo' w' : Nat} (h : lo' + w' ≤ lo ∨ lo + w ≤ lo') : field (insertField x lo w v) lo' w' = field x lo' w' := by
  refine Nat.eq_of_testBit_eq fun i => ?_
  rw [testBit_field, testBit_field, testBit_insertField]
  by_cases hi : i < w'
  · by_cases h32 : lo' + i < 32
    · rcases h with h | h
      · have : lo' + i < lo := by omega
        simp [hi, h32, this]
      · have h1 : ¬ lo' + i < lo := by omega
        have h2 : ¬ lo' + i < lo + w := by omega
        simp [hi, h32, h1, h2]
    · have : x.toNat.testBit (lo' + i) = false := Nat.testBit_lt_two_pow (lt_of_lt_of_le x.isLt (Nat.pow_le_pow_right (by decide) (by omega)))
      simp [h32, this]
  · simp [hi]

theorem field_lt (x : Word) (lo w : Nat) : field x lo w < 2 ^ w := Nat.mod_lt _ (by positivity)

/-! ### Words of the window -/

@[simp] theorem Gov.word_setWord_self (g : Gov) (o : Nat) (w : Word) : (g.setWord o w).word o = w := by
  simp [Gov.word, Gov.setWord]

theorem Gov.word_setWord_ne (g : Gov) {o p : Nat} (w : Word) (h : p ≠ o) : (g.setWord o w).word p = g.word p := by
  simp [Gov.word, Gov.setWord, Tab.get_put_ne _ _ _ h]

theorem Gov.word_setWord (g : Gov) (o p : Nat) (w : Word) : (g.setWord o w).word p = if p = o then w else g.word p := by
  split
  · next h => rw [h, Gov.word_setWord_self]
  · next h => exact g.word_setWord_ne w h

/-- A field reads the value just stored in it, cut to its width. -/
theorem Gov.get_set_self (g : Gov) {f : Fld} (v : Nat) (h : f.lo + f.w ≤ 32) : (g.set f v).get f = v % 2 ^ f.w := by
  simp only [Gov.get, Gov.set, Gov.word_setWord_self]
  exact field_insertField_same h

/-- A store in one field leaves every field apart from it alone. -/
theorem Gov.get_set_apart (g : Gov) {f h : Fld} (v : Nat) (H : h.apart f = true) : (g.set f v).get h = g.get h := by
  simp only [Fld.apart, Bool.or_eq_true, bne_iff_ne, ne_eq, decide_eq_true_eq] at H
  simp only [Gov.get, Gov.set, Gov.word_setWord]
  split
  · next e =>
    rw [← e]
    refine field_insertField_apart ?_
    rcases H with (H | H) | H
    · exact absurd e H
    · exact .inl H
    · exact .inr H
  · rfl

theorem Gov.word_set_ne (g : Gov) {f : Fld} {o : Nat} (v : Nat) (h : o ≠ f.off) : (g.set f v).word o = g.word o := g.word_setWord_ne _ h

theorem Gov.flag_set_self (g : Gov) {f : Fld} (v : Nat) (h : f.lo + f.w ≤ 32) : (g.set f v).flag f = (v % 2 ^ f.w != 0) := by
  rw [Gov.flag, g.get_set_self v h]

theorem Gov.flag_set_apart (g : Gov) {f h : Fld} (v : Nat) (H : h.apart f = true) : (g.set f v).flag h = g.flag h := by
  rw [Gov.flag, Gov.flag, g.get_set_apart v H]

theorem Gov.get_lt (g : Gov) (f : Fld) : g.get f < 2 ^ f.w := field_lt _ _ _

theorem Gov.mark_eq (g : Gov) (f : Fld) : g.mark f = g.set f 1 := (rfl)
theorem Gov.upd_eq (g : Gov) (f : Fld) (h : Nat → Nat) : g.upd f h = g.set f (h (g.get f)) := (rfl)
theorem Gov.inc_eq (g : Gov) (f : Fld) (n : Nat) : g.inc f n = g.set f (usat f.w (g.get f + n)) := (rfl)
theorem Gov.sset_eq (g : Gov) (f : Fld) (v : Int) : g.sset f v = g.set f (ofSigned f.w (ssat f.w v)) := (rfl)

theorem usat_mod (w x : Nat) : usat w x % 2 ^ w = usat w x := by
  have : 0 < 2 ^ w := by positivity
  exact Nat.mod_eq_of_lt (by unfold usat umax; omega)

/-! ### Values in force -/

/-- Where no earlier word is kept, the field in force is the stored one. -/
theorem Gov.act_activate (g : Gov) (pick : Nat → Bool) {f : Fld} (h : pick f.off = true) : (g.activate pick).act f = g.get f := by
  unfold Gov.act Gov.actWord Gov.activate
  simp only [Gov.withHeld_held, Gov.withHeld_word]
  rw [Tab.get_filter_out _ _ (fun o => !pick o) (by simp [h])]
  rfl

theorem Gov.act_set_apart (g : Gov) {f h : Fld} (v : Nat) (H : h.apart f = true) : (g.set f v).act h = g.act h := by
  unfold Gov.act Gov.actWord
  rcases Tab.get_cases (α := Word) g.held h.off with ⟨w, hw⟩ | hd
  · simp only [Gov.set_held, hw]
  · simp only [Gov.set_held, hd]
    exact g.get_set_apart v H

@[simp] theorem Gov.activate_get (g : Gov) (p : Nat → Bool) (f : Fld) : (g.activate p).get f = g.get f := (rfl)
@[simp] theorem Gov.activate_now (g : Gov) (p : Nat → Bool) : (g.activate p).now = g.now := (rfl)
@[simp] theorem Gov.activate_reg (g : Gov) (p : Nat → Bool) : (g.activate p).reg = g.reg := (rfl)

/-! ### Only the listed fields -/

theorem Gov.onlyFields_refl (g : Gov) (fs : List Fld) : g.onlyFields g fs := fun _ _ => rfl

theorem Gov.onlyFields_trans {g h k : Gov} {fs : List Fld} (a : g.onlyFields h fs) (b : h.onlyFields k fs) : g.onlyFields k fs := fun f hf => (b f hf).trans (a f hf)

/-- A store in a listed field. -/
theorem Gov.onlyFields_set {g h : Gov} {fs : List Fld} {f : Fld} (v : Nat) (a : g.onlyFields h fs) (m : f ∈ fs) : g.onlyFields (h.set f v) fs := fun k hk =>
  (h.get_set_apart v (List.all_eq_true.1 hk f m)).trans (a k hk)

/-- A change beside the window. -/
theorem Gov.onlyFields_regs {g h k : Gov} {fs : List Fld} (a : g.onlyFields h fs) (e : k.fuses = h.fuses) (r : k.regs = h.regs) : g.onlyFields k fs := fun f hf => by
  rw [← a f hf]; simp only [Gov.get, Gov.word, e, r]

end Sys2Proof.Machine
end

