-- ==== Sys2Proof/Laws/Frames.lean ====
section
/-! SUPPORT. What the shared operations leave alone: changes over a list, the event log, raises and fences. -/

namespace Sys2Proof.Machine

/-! ### Changes over a list -/

/-- A property that every change of a list keeps holds after all of them. -/
theorem Gov.each_keeps_mem {α : Type} {f : Gov → α → Gov} {P : Gov → Prop} (xs : List α) (step : ∀ g, ∀ x ∈ xs, P g → P (f g x)) (g : Gov) (h : P g) : P (g.each xs f) := by
  induction xs generalizing g with
  | nil => exact h
  | cons x xs ih => exact ih (fun g y hy => step g y (by simp [hy])) (f g x) (step g x (by simp) h)

theorem Gov.each_keeps {α : Type} {f : Gov → α → Gov} {P : Gov → Prop} (step : ∀ g x, P g → P (f g x)) (xs : List α) (g : Gov) (h : P g) : P (g.each xs f) :=
  Gov.each_keeps_mem xs (fun g x _ => step g x) g h

@[simp] theorem Gov.each_nil {α : Type} (g : Gov) (f : Gov → α → Gov) : g.each [] f = g := (rfl)
@[simp] theorem Gov.each_cons {α : Type} (g : Gov) (f : Gov → α → Gov) (x : α) (xs : List α) : g.each (x :: xs) f = (f g x).each xs f := (rfl)

/-- A reading that every change of a list leaves alone reads as before. -/
theorem Gov.each_same_mem {α β : Type} {f : Gov → α → Gov} (rd : Gov → β) (xs : List α) (step : ∀ g, ∀ x ∈ xs, rd (f g x) = rd g) (g : Gov) : rd (g.each xs f) = rd g :=
  Gov.each_keeps_mem (P := fun h => rd h = rd g) xs (fun h x hx e => (step h x hx).trans e) g rfl

theorem Gov.each_same {α β : Type} {f : Gov → α → Gov} (rd : Gov → β) (step : ∀ g x, rd (f g x) = rd g) (xs : List α) (g : Gov) : rd (g.each xs f) = rd g :=
  Gov.each_same_mem rd xs (fun g x _ => step g x) g

@[simp] theorem Gov.each_append {α : Type} (g : Gov) (f : Gov → α → Gov) (xs ys : List α) : g.each (xs ++ ys) f = (g.each xs f).each ys f := List.foldl_append

/-- A change over a list without repeats, seen from one of its elements. -/
theorem Gov.each_split {α : Type} {f : Gov → α → Gov} {xs : List α} (nd : xs.Nodup) {x : α} (h : x ∈ xs) (g : Gov) :
    ∃ ys zs, g.each xs f = (f (g.each ys f) x).each zs f ∧ x ∉ ys ∧ x ∉ zs ∧ (∀ y ∈ ys, y ∈ xs) ∧ ∀ z ∈ zs, z ∈ xs := by
  obtain ⟨ys, zs, rfl⟩ := List.append_of_mem h
  refine ⟨ys, zs, by simp, ?_, ?_, by simp_all, by simp_all⟩
  · intro hy
    exact (List.nodup_append.1 nd).2.2 x hy x (by simp) rfl
  · exact (List.nodup_cons.1 (List.nodup_append.1 nd).2.1).1

/-- A reading that only one element's change moves reads as after that change, on a state that reads for every other reading left alone as at first. -/
theorem Gov.each_at {α β γ : Type} {f : Gov → α → Gov} {xs : List α} (nd : xs.Nodup) {x : α} (h : x ∈ xs) (g : Gov) (rd : Gov → β) (base : Gov → γ)
    (other : ∀ g, ∀ y ∈ xs, y ≠ x → rd (f g y) = rd g) (keep : ∀ g, ∀ y ∈ xs, y ≠ x → base (f g y) = base g) : ∃ g0, base g0 = base g ∧ rd (g.each xs f) = rd (f g0 x) := by
  obtain ⟨ys, zs, e, hy, hz, sy, sz⟩ := Gov.each_split nd h g
  refine ⟨g.each ys f, Gov.each_same_mem base _ (fun g y m => keep g y (sy y m) (fun c => hy (c ▸ m))) _, ?_⟩
  rw [e]
  exact Gov.each_same_mem rd _ (fun g y m => other g y (sz y m) (fun c => hz (c ▸ m))) _

/-! ### The event log -/

/-- What the log writes of the window. -/
def logFields : List Fld := [F.FLT_LOG_HEAD_HEAD, F.FLT_LOG_OVF_COUNT]

/-- The state without its register window and its fault chapter. -/
def Gov.besideFlt (g : Gov) : Gov := { g with regs := [], flt := {} }

theorem Gov.besideFlt_set (g : Gov) (f : Fld) (v : Nat) : (g.set f v).besideFlt = g.besideFlt := (rfl)
theorem Gov.besideFlt_logPut (g : Gov) (time type : Nat) (ps : List Nat) : (g.logPut time type ps).besideFlt = g.besideFlt := (rfl)
theorem Gov.logPut_get (g : Gov) (time type : Nat) (ps : List Nat) (f : Fld) : (g.logPut time type ps).get f = g.get f := (rfl)

theorem Gov.log_get (g : Gov) (time type : Nat) (ps : List Nat) {f : Fld} (H : logFields.all f.apart = true) : (g.log time type ps).get f = g.get f := by
  simp only [logFields, List.all_cons, List.all_nil, Bool.and_true, Bool.and_eq_true] at H
  unfold Gov.log
  dsimp only
  split
  · rw [Gov.inc_eq, Gov.get_set_apart _ _ H.2, Gov.get_set_apart _ _ H.1, Gov.logPut_get]
  · rw [Gov.get_set_apart _ _ H.1, Gov.logPut_get]

theorem Gov.log_besideFlt (g : Gov) (time type : Nat) (ps : List Nat) : (g.log time type ps).besideFlt = g.besideFlt := by
  unfold Gov.log
  dsimp only
  split
  · rw [Gov.inc_eq, Gov.besideFlt_set, Gov.besideFlt_set, Gov.besideFlt_logPut]
  · rw [Gov.besideFlt_set, Gov.besideFlt_logPut]

/-! ### Raises outside SLEEP and DEEP -/

/-- The fields that a raise of a source writes: its SG-1 counter and its collector bit. -/
def raiseFields (src : Nat) : List Fld :=
  F.FLT_STATUS_bit src :: match sg1Counter src with
    | some k => [⟨W.SG1_CNT k, 0, 16⟩]
    | none => []

/-- A field below the fault and counter words is apart from what a raise writes. -/
theorem raiseFields_low (src : Nat) {f : Fld} (h : f.off < 0x50000) : (raiseFields src).all f.apart = true := by
  have h1 : f.apart (F.FLT_STATUS_bit src) = true := by simp [Fld.apart, F.FLT_STATUS_bit]; omega
  unfold raiseFields
  split
  · simp only [List.all_cons, h1, List.all_nil, Bool.and_true, Bool.true_and]
    simp [Fld.apart, W.SG1_CNT]; omega
  · simp [h1]

theorem Gov.countRaise_get (g : Gov) (src : Nat) {f : Fld} (H : (raiseFields src).all f.apart = true) : (g.countRaise src).get f = g.get f := by
  simp only [raiseFields, List.all_cons, Bool.and_eq_true] at H
  unfold Gov.countRaise
  split
  · next k hk =>
    rw [hk] at H
    simp only [List.all_cons, List.all_nil, Bool.and_true] at H
    rw [Gov.get_set_apart _ _ H.2]
  · rfl

theorem Gov.countRaise_besideFlt (g : Gov) (src : Nat) : (g.countRaise src).besideFlt = g.besideFlt := by
  unfold Gov.countRaise
  split
  · exact Gov.besideFlt_set _ _ _
  · rfl

theorem Gov.enlist_get (g : Gov) (src detail : Nat) (silent : Bool) {f : Fld} (H : (raiseFields src).all f.apart = true) : (g.enlist src detail silent).get f = g.get f := by
  simp only [raiseFields, List.all_cons, Bool.and_eq_true] at H
  show (g.set (F.FLT_STATUS_bit src) 1).get f = g.get f
  exact g.get_set_apart 1 H.1

theorem Gov.enlist_besideFlt (g : Gov) (src detail : Nat) (silent : Bool) : (g.enlist src detail silent).besideFlt = g.besideFlt := by
  unfold Gov.besideFlt; rfl

theorem Gov.enlist_flag (g : Gov) (src detail : Nat) (silent : Bool) : (g.enlist src detail silent).flag (F.FLT_STATUS_bit src) = true := by
  show (g.set (F.FLT_STATUS_bit src) 1).flag (F.FLT_STATUS_bit src) = true
  rw [Gov.flag_set_self _ _ (by simp only [F.FLT_STATUS_bit]; omega)]; rfl

theorem Gov.settle_awake (g : Gov) (h : g.asleep = false) : g.settle = g := by simp [Gov.settle, h]

theorem Gov.asleep_of_get {g h : Gov} (e : h.get F.PS_STAT_STATE = g.get F.PS_STAT_STATE) : h.asleep = g.asleep := by
  unfold Gov.asleep Gov.state
  rw [e]

/-- A raise outside SLEEP and DEEP: nothing happens for an absent berth; else the counter counts, and a clear bit is set and awaits its resolution. -/
theorem Gov.raise_awake (g : Gov) (src detail : Nat) (silent : Bool) (awake : g.asleep = false) :
    g.raise src detail silent = if src < 256 ∧ !g.present src then g else if (g.countRaise src).flag (F.FLT_STATUS_bit src) then g.countRaise src else (g.countRaise src).enlist src detail silent := by
  have low : (raiseFields src).all F.PS_STAT_STATE.apart = true := raiseFields_low src (by decide)
  unfold Gov.raise
  dsimp only
  rw [Gov.settle_awake _ (by rw [← awake]; exact Gov.asleep_of_get ((Gov.enlist_get _ _ _ _ low).trans (Gov.countRaise_get _ _ low)))]

theorem Gov.raise_get (g : Gov) (src detail : Nat) (silent : Bool) (awake : g.asleep = false) {f : Fld} (H : (raiseFields src).all f.apart = true) : (g.raise src detail silent).get f = g.get f := by
  rw [g.raise_awake src detail silent awake]
  split
  · rfl
  · split
    · exact Gov.countRaise_get _ _ H
    · exact (Gov.enlist_get _ _ _ _ H).trans (Gov.countRaise_get _ _ H)

theorem Gov.raise_besideFlt (g : Gov) (src detail : Nat) (silent : Bool) (awake : g.asleep = false) : (g.raise src detail silent).besideFlt = g.besideFlt := by
  rw [g.raise_awake src detail silent awake]
  split
  · rfl
  · split
    · exact Gov.countRaise_besideFlt _ _
    · exact (Gov.enlist_besideFlt _ _ _ _).trans (Gov.countRaise_besideFlt _ _)

theorem Gov.raise_flag (g : Gov) (src detail : Nat) (silent : Bool) (awake : g.asleep = false) (h : 256 ≤ src ∨ g.present src = true) : (g.raise src detail silent).flag (F.FLT_STATUS_bit src) = true := by
  rw [g.raise_awake src detail silent awake]
  split
  · next hp =>
    simp only [Bool.not_eq_true'] at hp
    rcases h with h | h
    · omega
    · simp [h] at hp
  · split
    · assumption
    · exact Gov.enlist_flag _ _ _ _

/-! ### Bollard actions -/

theorem Gov.bollard_awake (g : Gov) (kind idx : Nat) (awake : g.asleep = false) : ((g.inc F.HLIM_ACT_CNT_COUNT).log g.now 2 [kind + idx * 2 ^ 8]).asleep = false := by
  rw [← awake]
  refine Gov.asleep_of_get ((Gov.log_get _ _ _ _ (by decide)).trans ?_)
  rw [Gov.inc_eq, Gov.get_set_apart _ _ (by decide)]

/-- A bollard action outside SLEEP and DEEP writes its count, the log's words and the fields of source 278. -/
theorem Gov.bollard_get (g : Gov) (kind idx : Nat) (awake : g.asleep = false) {f : Fld} (H : (F.HLIM_ACT_CNT_COUNT :: logFields ++ raiseFields 278).all f.apart = true) : (g.bollard kind idx).get f = g.get f := by
  simp only [List.cons_append, List.all_cons, List.all_append, Bool.and_eq_true] at H
  unfold Gov.bollard
  rw [Gov.raise_get _ _ _ _ (g.bollard_awake kind idx awake) H.2.2, Gov.log_get _ _ _ _ H.2.1, Gov.inc_eq, Gov.get_set_apart _ _ H.1]

theorem Gov.bollard_count (g : Gov) (kind idx : Nat) (awake : g.asleep = false) : (g.bollard kind idx).get F.HLIM_ACT_CNT_COUNT = usat 32 (g.get F.HLIM_ACT_CNT_COUNT + 1) := by
  unfold Gov.bollard
  rw [Gov.raise_get _ _ _ _ (g.bollard_awake kind idx awake) (raiseFields_low _ (by decide)), Gov.log_get _ _ _ _ (by decide), Gov.inc_eq, Gov.get_set_self _ _ (by decide)]
  exact usat_mod _ _

theorem Gov.bollard_flag (g : Gov) (kind idx : Nat) (awake : g.asleep = false) : (g.bollard kind idx).flag (F.FLT_STATUS_bit 278) = true :=
  Gov.raise_flag _ _ _ _ (g.bollard_awake kind idx awake) (.inl (by decide))

theorem Gov.bollard_besideFlt (g : Gov) (kind idx : Nat) (awake : g.asleep = false) : (g.bollard kind idx).besideFlt = g.besideFlt := by
  unfold Gov.bollard
  rw [Gov.raise_besideFlt _ _ _ _ (g.bollard_awake kind idx awake), Gov.log_besideFlt, Gov.inc_eq, Gov.besideFlt_set]

/-! ### Fences -/

/-- The state without its register window and its command chapter. -/
def Gov.besideCmd (g : Gov) : Gov := { g with regs := [], cmd := {} }

theorem Gov.besideCmd_set (g : Gov) (f : Fld) (v : Nat) : (g.set f v).besideCmd = g.besideCmd := (rfl)
theorem Gov.besideCmd_setPhase (g : Gov) (n : Nat) (x : ReqPhase) : (g.setPhase n x).besideCmd = g.besideCmd := (rfl)

theorem Gov.takeUp_besideCmd (g : Gov) : g.takeUp.besideCmd = g.besideCmd := by
  unfold Gov.takeUp
  split
  · rfl
  · refine Gov.each_same Gov.besideCmd (fun g k => ?_) _ _
    dsimp only
    split
    · rfl
    · split
      · exact Gov.besideCmd_setPhase _ _ _
      · rfl

theorem Gov.takeUp_get (g : Gov) (f : Fld) : g.takeUp.get f = g.get f := by
  unfold Gov.takeUp
  split
  · rfl
  · refine Gov.each_same (fun g => g.get f) (fun g k => ?_) _ _
    dsimp only
    split
    · rfl
    · split <;> rfl

/-- What a fence signal may write: the fence's bit and the WAIT bits of the channels. -/
def isFenceField (f : Fld) : Prop := (∃ n, n < 4096 ∧ f = F.FENCE_STATE_bit n) ∨ ∃ n, n < 16 ∧ f = F.CMD_STAT_WAIT n

theorem Gov.signalFence_get (g : Gov) (n : Nat) {f : Fld} (H : ∀ h, isFenceField h → f.apart h = true) : (g.signalFence n).get f = g.get f := by
  unfold Gov.signalFence Gov.wakeWaiters
  rw [Gov.takeUp_get]
  refine (Gov.each_same (fun g => g.get f) (fun g p => ?_) _ _).trans ?_
  · split
    · rw [Gov.get_set_apart _ _ (H _ (.inr ⟨_, Nat.mod_lt _ (by decide), rfl⟩))]; rfl
    · rfl
  · exact Gov.get_set_apart _ _ (H _ (.inl ⟨_, Nat.mod_lt _ (by decide), rfl⟩))

theorem Gov.signalFence_besideCmd (g : Gov) (n : Nat) : (g.signalFence n).besideCmd = g.besideCmd := by
  unfold Gov.signalFence Gov.wakeWaiters
  rw [Gov.takeUp_besideCmd]
  refine (Gov.each_same Gov.besideCmd (fun g p => ?_) _ _).trans rfl
  split
  · rw [Gov.besideCmd_set, Gov.besideCmd_setPhase]
  · rfl

theorem Gov.fire_get (g : Gov) (e : SigEvent) {f : Fld} (H : ∀ h, isFenceField h → f.apart h = true) : (g.fire e).get f = g.get f :=
  (Gov.each_same (fun g => g.get f) (fun g n => g.signalFence_get n H) _ _).trans rfl

/-- A field outside the command group is left alone by a fence's signals. -/
theorem notFence {f : Fld} (h : f.off < 0x3000 ∨ 0x4000 ≤ f.off) : ∀ k, isFenceField k → f.apart k = true := by
  rintro k (⟨n, hn, rfl⟩ | ⟨n, hn, rfl⟩)
  · simp only [Fld.apart, F.FENCE_STATE_bit, Bool.or_eq_true, bne_iff_ne]; exact .inl (.inl (by omega))
  · simp only [Fld.apart, F.CMD_STAT_WAIT, Bool.or_eq_true, bne_iff_ne]; exact .inl (.inl (by omega))

theorem Gov.fire_get_outside (g : Gov) (e : SigEvent) {f : Fld} (h : f.off < 0x3000 ∨ 0x4000 ≤ f.off) : (g.fire e).get f = g.get f := g.fire_get e (notFence h)

theorem Gov.fire_besideCmd (g : Gov) (e : SigEvent) : (g.fire e).besideCmd = g.besideCmd :=
  (Gov.each_same Gov.besideCmd (fun g n => g.signalFence_besideCmd n) _ _).trans rfl

/-! ### Field by field -/

theorem besideFlt_fuses {g h : Gov} (e : h.besideFlt = g.besideFlt) : h.fuses = g.fuses := by have k := congrArg Gov.fuses e; exact k
theorem besideFlt_held {g h : Gov} (e : h.besideFlt = g.besideFlt) : h.held = g.held := by have k := congrArg Gov.held e; exact k
theorem besideFlt_pairs {g h : Gov} (e : h.besideFlt = g.besideFlt) : h.pairs = g.pairs := by have k := congrArg Gov.pairs e; exact k
theorem besideFlt_now {g h : Gov} (e : h.besideFlt = g.besideFlt) : h.now = g.now := by have k := congrArg Gov.now e; exact k
theorem besideFlt_rst {g h : Gov} (e : h.besideFlt = g.besideFlt) : h.rst = g.rst := by have k := congrArg Gov.rst e; exact k
theorem besideFlt_brown {g h : Gov} (e : h.besideFlt = g.besideFlt) : h.brown = g.brown := by have k := congrArg Gov.brown e; exact k
theorem besideFlt_dark {g h : Gov} (e : h.besideFlt = g.besideFlt) : h.dark = g.dark := by have k := congrArg Gov.dark e; exact k
theorem besideFlt_pll {g h : Gov} (e : h.besideFlt = g.besideFlt) : h.pll = g.pll := by have k := congrArg Gov.pll e; exact k
theorem besideFlt_pins {g h : Gov} (e : h.besideFlt = g.besideFlt) : h.pins = g.pins := by have k := congrArg Gov.pins e; exact k
theorem besideFlt_resp {g h : Gov} (e : h.besideFlt = g.besideFlt) : h.resp = g.resp := by have k := congrArg Gov.resp e; exact k
theorem besideFlt_rdata {g h : Gov} (e : h.besideFlt = g.besideFlt) : h.rdata = g.rdata := by have k := congrArg Gov.rdata e; exact k
theorem besideFlt_free {g h : Gov} (e : h.besideFlt = g.besideFlt) : h.free = g.free := by have k := congrArg Gov.free e; exact k
theorem besideFlt_firm {g h : Gov} (e : h.besideFlt = g.besideFlt) : h.firm = g.firm := by have k := congrArg Gov.firm e; exact k
theorem besideFlt_cmd {g h : Gov} (e : h.besideFlt = g.besideFlt) : h.cmd = g.cmd := by have k := congrArg Gov.cmd e; exact k
theorem besideFlt_pwr {g h : Gov} (e : h.besideFlt = g.besideFlt) : h.pwr = g.pwr := by have k := congrArg Gov.pwr e; exact k
theorem besideFlt_mgmt {g h : Gov} (e : h.besideFlt = g.besideFlt) : h.mgmt = g.mgmt := by have k := congrArg Gov.mgmt e; exact k
theorem besideFlt_eng {g h : Gov} (e : h.besideFlt = g.besideFlt) : h.eng = g.eng := by have k := congrArg Gov.eng e; exact k
theorem besideFlt_lim {g h : Gov} (e : h.besideFlt = g.besideFlt) : h.lim = g.lim := by have k := congrArg Gov.lim e; exact k
theorem besideFlt_fcu {g h : Gov} (e : h.besideFlt = g.besideFlt) : h.fcu = g.fcu := by have k := congrArg Gov.fcu e; exact k
theorem besideFlt_clk {g h : Gov} (e : h.besideFlt = g.besideFlt) : h.clk = g.clk := by have k := congrArg Gov.clk e; exact k
theorem besideFlt_reg {g h : Gov} (e : h.besideFlt = g.besideFlt) : h.reg = g.reg := by have k := congrArg Gov.reg e; exact k
theorem besideFlt_sns {g h : Gov} (e : h.besideFlt = g.besideFlt) : h.sns = g.sns := by have k := congrArg Gov.sns e; exact k
theorem besideFlt_led {g h : Gov} (e : h.besideFlt = g.besideFlt) : h.led = g.led := by have k := congrArg Gov.led e; exact k
theorem besideFlt_hws {g h : Gov} (e : h.besideFlt = g.besideFlt) : h.hws = g.hws := by have k := congrArg Gov.hws e; exact k
theorem besideFlt_trc {g h : Gov} (e : h.besideFlt = g.besideFlt) : h.trc = g.trc := by have k := congrArg Gov.trc e; exact k
theorem besideFlt_tap {g h : Gov} (e : h.besideFlt = g.besideFlt) : h.tap = g.tap := by have k := congrArg Gov.tap e; exact k
theorem besideCmd_fuses {g h : Gov} (e : h.besideCmd = g.besideCmd) : h.fuses = g.fuses := by have k := congrArg Gov.fuses e; exact k
theorem besideCmd_held {g h : Gov} (e : h.besideCmd = g.besideCmd) : h.held = g.held := by have k := congrArg Gov.held e; exact k
theorem besideCmd_pairs {g h : Gov} (e : h.besideCmd = g.besideCmd) : h.pairs = g.pairs := by have k := congrArg Gov.pairs e; exact k
theorem besideCmd_now {g h : Gov} (e : h.besideCmd = g.besideCmd) : h.now = g.now := by have k := congrArg Gov.now e; exact k
theorem besideCmd_rst {g h : Gov} (e : h.besideCmd = g.besideCmd) : h.rst = g.rst := by have k := congrArg Gov.rst e; exact k
theorem besideCmd_brown {g h : Gov} (e : h.besideCmd = g.besideCmd) : h.brown = g.brown := by have k := congrArg Gov.brown e; exact k
theorem besideCmd_dark {g h : Gov} (e : h.besideCmd = g.besideCmd) : h.dark = g.dark := by have k := congrArg Gov.dark e; exact k
theorem besideCmd_pll {g h : Gov} (e : h.besideCmd = g.besideCmd) : h.pll = g.pll := by have k := congrArg Gov.pll e; exact k
theorem besideCmd_pins {g h : Gov} (e : h.besideCmd = g.besideCmd) : h.pins = g.pins := by have k := congrArg Gov.pins e; exact k
theorem besideCmd_resp {g h : Gov} (e : h.besideCmd = g.besideCmd) : h.resp = g.resp := by have k := congrArg Gov.resp e; exact k
theorem besideCmd_rdata {g h : Gov} (e : h.besideCmd = g.besideCmd) : h.rdata = g.rdata := by have k := congrArg Gov.rdata e; exact k
theorem besideCmd_free {g h : Gov} (e : h.besideCmd = g.besideCmd) : h.free = g.free := by have k := congrArg Gov.free e; exact k
theorem besideCmd_firm {g h : Gov} (e : h.besideCmd = g.besideCmd) : h.firm = g.firm := by have k := congrArg Gov.firm e; exact k
theorem besideCmd_pwr {g h : Gov} (e : h.besideCmd = g.besideCmd) : h.pwr = g.pwr := by have k := congrArg Gov.pwr e; exact k
theorem besideCmd_mgmt {g h : Gov} (e : h.besideCmd = g.besideCmd) : h.mgmt = g.mgmt := by have k := congrArg Gov.mgmt e; exact k
theorem besideCmd_eng {g h : Gov} (e : h.besideCmd = g.besideCmd) : h.eng = g.eng := by have k := congrArg Gov.eng e; exact k
theorem besideCmd_lim {g h : Gov} (e : h.besideCmd = g.besideCmd) : h.lim = g.lim := by have k := congrArg Gov.lim e; exact k
theorem besideCmd_fcu {g h : Gov} (e : h.besideCmd = g.besideCmd) : h.fcu = g.fcu := by have k := congrArg Gov.fcu e; exact k
theorem besideCmd_clk {g h : Gov} (e : h.besideCmd = g.besideCmd) : h.clk = g.clk := by have k := congrArg Gov.clk e; exact k
theorem besideCmd_reg {g h : Gov} (e : h.besideCmd = g.besideCmd) : h.reg = g.reg := by have k := congrArg Gov.reg e; exact k
theorem besideCmd_sns {g h : Gov} (e : h.besideCmd = g.besideCmd) : h.sns = g.sns := by have k := congrArg Gov.sns e; exact k
theorem besideCmd_led {g h : Gov} (e : h.besideCmd = g.besideCmd) : h.led = g.led := by have k := congrArg Gov.led e; exact k
theorem besideCmd_hws {g h : Gov} (e : h.besideCmd = g.besideCmd) : h.hws = g.hws := by have k := congrArg Gov.hws e; exact k
theorem besideCmd_trc {g h : Gov} (e : h.besideCmd = g.besideCmd) : h.trc = g.trc := by have k := congrArg Gov.trc e; exact k
theorem besideCmd_tap {g h : Gov} (e : h.besideCmd = g.besideCmd) : h.tap = g.tap := by have k := congrArg Gov.tap e; exact k
theorem besideCmd_flt {g h : Gov} (e : h.besideCmd = g.besideCmd) : h.flt = g.flt := by have k := congrArg Gov.flt e; exact k

end Sys2Proof.Machine
end

