-- ==== Sys2Proof/Laws/Map.lean ====
section
/-! SUPPORT. The register map: the fields of a word share no bit, so a written word and a reset word read back field by field. -/

namespace Sys2Proof.Machine

/-- The fields of a word lie in its 32 bits, lowest first, and share no bit. -/
def fieldsRise : Nat → List FieldDef → Bool
  | _, [] => true
  | lo, f :: fs => decide (lo ≤ f.lo) && decide (f.lo + f.w ≤ 32) && fieldsRise (f.lo + f.w) fs

section

-- One table at a time: evaluated side by side, they take as many threads as there are tables.
set_option Elab.async false

theorem rise_global : (regsGlobal.all fun d => fieldsRise 0 d.fields) = true := by decide +kernel
theorem rise_pilots : (regsPilots.all fun d => fieldsRise 0 d.fields) = true := by decide +kernel
theorem rise_hawserA : (regsHawserA.all fun d => fieldsRise 0 d.fields) = true := by decide +kernel
theorem rise_hawserB : (regsHawserB.all fun d => fieldsRise 0 d.fields) = true := by decide +kernel
theorem rise_engine : (regsEngine.all fun d => fieldsRise 0 d.fields) = true := by decide +kernel
theorem rise_power : (regsPower.all fun d => fieldsRise 0 d.fields) = true := by decide +kernel
theorem rise_laws : (regsLaws.all fun d => fieldsRise 0 d.fields) = true := by decide +kernel
theorem rise_limits : (regsLimits.all fun d => fieldsRise 0 d.fields) = true := by decide +kernel
theorem rise_bollards : (regsBollards.all fun d => fieldsRise 0 d.fields) = true := by decide +kernel
theorem rise_sluiceA : (regsSluiceA.all fun d => fieldsRise 0 d.fields) = true := by decide +kernel
theorem rise_sluiceB : (regsSluiceB.all fun d => fieldsRise 0 d.fields) = true := by decide +kernel
theorem rise_commands : (regsCommands.all fun d => fieldsRise 0 d.fields) = true := by decide +kernel
theorem rise_stamps : (regsStamps.all fun d => fieldsRise 0 d.fields) = true := by decide +kernel
theorem rise_slots : (regsSlots.all fun d => fieldsRise 0 d.fields) = true := by decide +kernel
theorem rise_berths : (regsBerths.all fun d => fieldsRise 0 d.fields) = true := by decide +kernel
theorem rise_regulatorA : (regsRegulatorA.all fun d => fieldsRise 0 d.fields) = true := by decide +kernel
theorem rise_regulatorB : (regsRegulatorB.all fun d => fieldsRise 0 d.fields) = true := by decide +kernel
theorem rise_clocks : (regsClocks.all fun d => fieldsRise 0 d.fields) = true := by decide +kernel
theorem rise_sensingA : (regsSensingA.all fun d => fieldsRise 0 d.fields) = true := by decide +kernel
theorem rise_sensingB : (regsSensingB.all fun d => fieldsRise 0 d.fields) = true := by decide +kernel
theorem rise_accounts : (regsAccounts.all fun d => fieldsRise 0 d.fields) = true := by decide +kernel
theorem rise_ledgerA : (regsLedgerA.all fun d => fieldsRise 0 d.fields) = true := by decide +kernel
theorem rise_ledgerB : (regsLedgerB.all fun d => fieldsRise 0 d.fields) = true := by decide +kernel
theorem rise_faults : (regsFaults.all fun d => fieldsRise 0 d.fields) = true := by decide +kernel
theorem rise_traceA : (regsTraceA.all fun d => fieldsRise 0 d.fields) = true := by decide +kernel
theorem rise_traceB : (regsTraceB.all fun d => fieldsRise 0 d.fields) = true := by decide +kernel
theorem rise_sg1 : (regsSg1.all fun d => fieldsRise 0 d.fields) = true := by decide +kernel
theorem rise_tables : (regsTables.all fun d => fieldsRise 0 d.fields) = true := by decide +kernel

end

/-- In every register table the fields of a word rise. -/
theorem regsAt_rise (off : Nat) : ((regsAt off).all fun d => fieldsRise 0 d.fields) = true := by
  have pick : ∀ (c : Prop) [Decidable c] (a b : List RegDef), (a.all fun d => fieldsRise 0 d.fields) = true → (b.all fun d => fieldsRise 0 d.fields) = true → ((if c then a else b).all fun d => fieldsRise 0 d.fields) = true := fun c _ a b ha hb => by
    split
    · exact ha
    · exact hb
  have both : ∀ a b : List RegDef, (a.all fun d => fieldsRise 0 d.fields) = true → (b.all fun d => fieldsRise 0 d.fields) = true → ((a ++ b).all fun d => fieldsRise 0 d.fields) = true := fun a b ha hb => by
    rw [List.all_append, ha, hb]; rfl
  unfold regsAt
  exact pick _ _ _ rise_global <| pick _ _ _ rise_pilots <| pick _ _ _ (both _ _ rise_hawserA rise_hawserB) <| pick _ _ _ rise_engine <| pick _ _ _ rise_power <| pick _ _ _ rise_laws <| pick _ _ _ rise_limits <|
    pick _ _ _ rise_bollards <| pick _ _ _ (both _ _ rise_sluiceA rise_sluiceB) <| pick _ _ _ rise_commands <| pick _ _ _ rise_stamps <| pick _ _ _ rise_slots <| pick _ _ _ rise_berths <|
    pick _ _ _ (both _ _ rise_regulatorA rise_regulatorB) <| pick _ _ _ rise_clocks <| pick _ _ _ (both _ _ rise_sensingA rise_sensingB) <| pick _ _ _ rise_accounts <| pick _ _ _ (both _ _ rise_ledgerA rise_ledgerB) <|
    pick _ _ _ rise_faults <| pick _ _ _ (both _ _ rise_traceA rise_traceB) <| pick _ _ _ rise_sg1 <| pick _ _ _ rise_tables rfl

theorem findReg_rise {off : Nat} {d : RegDef} {i j : Nat} (h : findReg off = some (d, i, j)) : fieldsRise 0 d.fields = true := by
  obtain ⟨x, hx, hm⟩ := List.exists_of_findSome?_eq_some h
  simp only [Option.map_eq_some_iff] at hm
  obtain ⟨_, _, e⟩ := hm
  have : x = d := congrArg Prod.fst e
  exact this ▸ List.all_eq_true.1 (regsAt_rise off) x hx

theorem fieldsAt_rise (off : Nat) : fieldsRise 0 (fieldsAt off) = true := by
  unfold fieldsAt
  split
  · next h => exact findReg_rise h
  · rfl

/-! ### A word put together from its fields -/

/-- The sum of the fields' values at their places. -/
def fieldSum (v : FieldDef → Nat) (fs : List FieldDef) : Nat := fs.foldl (fun a f => a + v f % 2 ^ f.w * 2 ^ f.lo) 0

theorem fieldSum_from (v : FieldDef → Nat) (fs : List FieldDef) (a : Nat) : fs.foldl (fun a f => a + v f % 2 ^ f.w * 2 ^ f.lo) a = a + fieldSum v fs := by
  unfold fieldSum
  induction fs generalizing a with
  | nil => simp
  | cons f fs ih => simp only [List.foldl_cons]; rw [ih, ih (0 + _)]; omega

theorem fieldSum_cons (v : FieldDef → Nat) (f : FieldDef) (fs : List FieldDef) : fieldSum v (f :: fs) = v f % 2 ^ f.w * 2 ^ f.lo + fieldSum v fs := by
  show List.foldl _ (0 + _) fs = _
  rw [fieldSum_from]; omega

/-- Fields that rise from a bit on add up to a multiple of its power, below 2 ^ 32 in all. -/
theorem fieldSum_dvd (v : FieldDef → Nat) {fs : List FieldDef} {lo : Nat} (h : fieldsRise lo fs = true) : 2 ^ lo ∣ fieldSum v fs := by
  induction fs generalizing lo with
  | nil => simp [fieldSum]
  | cons f fs ih =>
    simp only [fieldsRise, Bool.and_eq_true, decide_eq_true_eq] at h
    rw [fieldSum_cons]
    refine dvd_add (Dvd.dvd.mul_left (pow_dvd_pow 2 h.1.1) _) ((pow_dvd_pow 2 ?_).trans (ih h.2))
    omega

theorem fieldSum_lt (v : FieldDef → Nat) {fs : List FieldDef} {lo : Nat} (h : fieldsRise lo fs = true) (h32 : lo ≤ 32) : fieldSum v fs + 2 ^ lo ≤ 2 ^ 32 := by
  induction fs generalizing lo with
  | nil => simpa [fieldSum] using Nat.pow_le_pow_right (by decide) h32
  | cons f fs ih =>
    simp only [fieldsRise, Bool.and_eq_true, decide_eq_true_eq] at h
    rw [fieldSum_cons]
    have h1 := ih h.2 h.1.2
    have h2 : v f % 2 ^ f.w + 1 ≤ 2 ^ f.w := Nat.mod_lt _ (by positivity)
    have h3 : (v f % 2 ^ f.w + 1) * 2 ^ f.lo ≤ 2 ^ f.w * 2 ^ f.lo := Nat.mul_le_mul_right _ h2
    have h4 : 2 ^ f.w * 2 ^ f.lo = 2 ^ (f.lo + f.w) := by rw [← pow_add]; congr 1; omega
    have h5 : 2 ^ lo ≤ 2 ^ f.lo := Nat.pow_le_pow_right (by decide) h.1.1
    rw [Nat.add_mul] at h3
    omega

theorem fieldSum_field (v : FieldDef → Nat) {fs : List FieldDef} {lo : Nat} (h : fieldsRise lo fs = true) {f : FieldDef} (hf : f ∈ fs) : fieldSum v fs / 2 ^ f.lo % 2 ^ f.w = v f % 2 ^ f.w := by
  induction fs generalizing lo with
  | nil => simp at hf
  | cons k fs ih =>
    simp only [fieldsRise, Bool.and_eq_true, decide_eq_true_eq] at h
    rw [fieldSum_cons]
    obtain ⟨c, hc⟩ := fieldSum_dvd v h.2
    have hpos : 0 < 2 ^ k.lo := by positivity
    rcases List.mem_cons.1 hf with rfl | hm
    · rw [hc, pow_add, show v f % 2 ^ f.w * 2 ^ f.lo + 2 ^ f.lo * 2 ^ f.w * c = (v f % 2 ^ f.w + 2 ^ f.w * c) * 2 ^ f.lo by ring, Nat.mul_div_cancel _ hpos, Nat.add_mul_mod_self_left, Nat.mod_mod]
    · have hk : k.lo + k.w ≤ f.lo := by
        clear ih hc hf
        have : ∀ (fs : List FieldDef) (lo : Nat), fieldsRise lo fs = true → f ∈ fs → lo ≤ f.lo := by
          intro fs
          induction fs with
          | nil => intro _ _ h; simp at h
          | cons x xs ih =>
            intro lo h hm
            simp only [fieldsRise, Bool.and_eq_true, decide_eq_true_eq] at h
            rcases List.mem_cons.1 hm with rfl | hm
            · exact h.1.1
            · have := ih _ h.2 hm; omega
        exact this fs _ h.2 hm
      have h2 : v k % 2 ^ k.w + 1 ≤ 2 ^ k.w := Nat.mod_lt _ (by positivity)
      have h3 : (v k % 2 ^ k.w + 1) * 2 ^ k.lo ≤ 2 ^ k.w * 2 ^ k.lo := Nat.mul_le_mul_right _ h2
      have h4 : 2 ^ k.w * 2 ^ k.lo = 2 ^ (k.lo + k.w) := by rw [← pow_add]; congr 1; omega
      have h5 : v k % 2 ^ k.w * 2 ^ k.lo < 2 ^ (k.lo + k.w) := by rw [Nat.add_mul] at h3; omega
      rw [← ih h.2 hm]
      congr 1
      obtain ⟨e, he⟩ : 2 ^ (k.lo + k.w) ∣ 2 ^ f.lo := pow_dvd_pow 2 hk
      have hp : 0 < 2 ^ (k.lo + k.w) := by positivity
      rw [he, ← Nat.div_div_eq_div_mul, ← Nat.div_div_eq_div_mul, hc, Nat.add_mul_div_left _ _ hp, Nat.div_eq_of_lt h5, Nat.zero_add, Nat.mul_div_cancel_left _ hp]

/-- A field of a word put together from rising fields reads its own value. -/
theorem field_fieldSum (v : FieldDef → Nat) {fs : List FieldDef} (h : fieldsRise 0 fs = true) {f : FieldDef} (hf : f ∈ fs) : field (BitVec.ofNat 32 (fieldSum v fs)) f.lo f.w = v f % 2 ^ f.w := by
  have hlt := fieldSum_lt v h (by decide)
  have e : (BitVec.ofNat 32 (fieldSum v fs)).toNat = fieldSum v fs := by
    rw [BitVec.toNat_ofNat]; exact Nat.mod_eq_of_lt (by omega)
  rw [field, e]
  exact fieldSum_field v h hf

/-- After a write, each field of the word reads what its access code gives it (R12). -/
theorem field_mergeWord (l : Bool) (off : Nat) (old new : Word) {f : FieldDef} (hf : f ∈ fieldsAt off) : field (mergeWord l (fieldsAt off) old new) f.lo f.w = fieldWrite l old new f % 2 ^ f.w :=
  field_fieldSum (fieldWrite l old new) (fieldsAt_rise off) hf

/-- A mapped word without a reset value of its own resets field by field to the Reset column, and fused fields to their fuses (R386). -/
theorem field_resetWord (z : Fuses) {off : Nat} (hs : specialReset z off = none) {f : FieldDef} (hf : f ∈ fieldsAt off) : field (resetWord z off) f.lo f.w = (if f.fused then z.word off / 2 ^ f.lo % 2 ^ f.w else f.reset % 2 ^ f.w) := by
  have e : resetWord z off = BitVec.ofNat 32 (fieldSum (fun f => if f.fused then z.word off / 2 ^ f.lo else f.reset) (fieldsAt off)) := by
    unfold resetWord fieldsAt at *
    rw [hs]
    cases hr : findReg off with
    | none => simp [hr] at hf
    | some x =>
      obtain ⟨d, i, j⟩ := x
      simp only [resetFields, fieldSum]
      congr 1
      congr 1
      funext a f
      split <;> rfl
  rw [e, field_fieldSum _ (fieldsAt_rise off) hf]
  split <;> rfl

end Sys2Proof.Machine
end

