-- ==== Sys2Proof/Laws/Packets.lean ====
section
/-! SUPPORT. Replies: what a reply writes and what it leaves alone. -/

namespace Sys2Proof.Machine

/-! ### Writes of the window beside it -/

@[simp] theorem Gov.setWord_beside (g : Gov) (o : Nat) (w : Word) : (g.setWord o w).beside = g.beside := (rfl)
@[simp] theorem Gov.set_beside (g : Gov) (f : Fld) (v : Nat) : (g.set f v).beside = g.beside := (rfl)
@[simp] theorem Gov.mark_beside (g : Gov) (f : Fld) : (g.mark f).beside = g.beside := (rfl)
@[simp] theorem Gov.setWord_besideCmd (g : Gov) (o : Nat) (w : Word) : (g.setWord o w).besideCmd = g.besideCmd := (rfl)
@[simp] theorem Gov.set_besideCmd (g : Gov) (f : Fld) (v : Nat) : (g.set f v).besideCmd = g.besideCmd := (rfl)
@[simp] theorem Gov.mark_besideCmd (g : Gov) (f : Fld) : (g.mark f).besideCmd = g.besideCmd := (rfl)
@[simp] theorem Gov.withCmd_besideCmd (g : Gov) (x : CmdSt) : (g.withCmd x).besideCmd = g.besideCmd := (rfl)
@[simp] theorem Gov.setWord_besideFlt (g : Gov) (o : Nat) (w : Word) : (g.setWord o w).besideFlt = g.besideFlt := (rfl)
@[simp] theorem Gov.set_besideFlt (g : Gov) (f : Fld) (v : Nat) : (g.set f v).besideFlt = g.besideFlt := (rfl)
@[simp] theorem Gov.mark_besideFlt (g : Gov) (f : Fld) : (g.mark f).besideFlt = g.besideFlt := (rfl)
@[simp] theorem Gov.withFlt_besideFlt (g : Gov) (x : FaultSt) : (g.withFlt x).besideFlt = g.besideFlt := (rfl)

/-! ### Lists of words -/

theorem Gov.zeroWords_word (g : Gov) (offs : List Nat) (o : Nat) : (g.zeroWords offs).word o = if o ∈ offs then 0 else g.word o := by
  unfold Gov.zeroWords
  induction offs generalizing g with
  | nil => simp
  | cons a offs ih =>
    rw [Gov.each_cons, ih, Gov.word_setWord]
    by_cases h : o ∈ offs <;> by_cases h2 : o = a <;> simp [h, h2]

theorem Gov.writeWords_word (g : Gov) (off : Nat) (ws : List Nat) {i : Nat} (h : i < ws.length) : (g.writeWords off ws).word (off + 4 * i) = BitVec.ofNat 32 (pw ws i) := by
  have key : ∀ n, i < n → (g.each (List.range n) fun g i => g.setWord (off + 4 * i) (BitVec.ofNat 32 (pw ws i))).word (off + 4 * i) = BitVec.ofNat 32 (pw ws i) := by
    intro n
    induction n with
    | zero => omega
    | succ n ih =>
      intro hi
      unfold Gov.each at *
      rw [List.range_succ, List.foldl_append, List.foldl_cons, List.foldl_nil, Gov.word_setWord]
      split
      · next e => have : i = n := by omega
                  rw [this]
      · next e => exact ih (by omega)
  exact key _ h

theorem Gov.writeWords_word_outside (g : Gov) (off : Nat) (ws : List Nat) {o : Nat} (h : o < off ∨ off + 4 * ws.length ≤ o) : (g.writeWords off ws).word o = g.word o :=
  Gov.each_same_mem (fun g => g.word o) _ (fun g i hi => g.word_setWord_ne _ (by have := List.mem_range.1 hi; omega)) _

@[simp] theorem Gov.zeroWords_beside (g : Gov) (offs : List Nat) : (g.zeroWords offs).beside = g.beside := by
  unfold Gov.zeroWords; exact Gov.each_same Gov.beside (fun _ _ => by simp) _ _
@[simp] theorem Gov.zeroWords_cmd (g : Gov) (offs : List Nat) : (g.zeroWords offs).cmd = g.cmd := Gov.each_same Gov.cmd (fun _ _ => by simp) _ _
@[simp] theorem Gov.zeroWords_now (g : Gov) (offs : List Nat) : (g.zeroWords offs).now = g.now := Gov.each_same Gov.now (fun _ _ => by simp) _ _
@[simp] theorem Gov.zeroWords_besideCmd (g : Gov) (offs : List Nat) : (g.zeroWords offs).besideCmd = g.besideCmd := by
  unfold Gov.zeroWords; exact Gov.each_same Gov.besideCmd (fun _ _ => by simp) _ _
@[simp] theorem Gov.writeWords_cmd (g : Gov) (off : Nat) (ws : List Nat) : (g.writeWords off ws).cmd = g.cmd := Gov.each_same Gov.cmd (fun _ _ => by simp) _ _
@[simp] theorem Gov.writeWords_besideCmd (g : Gov) (off : Nat) (ws : List Nat) : (g.writeWords off ws).besideCmd = g.besideCmd := by
  unfold Gov.writeWords; exact Gov.each_same Gov.besideCmd (fun _ _ => by simp) _ _

theorem Gov.zeroWords_get (g : Gov) (offs : List Nat) {f : Fld} (h : f.off ∉ offs) : (g.zeroWords offs).get f = g.get f := by
  unfold Gov.get; rw [Gov.zeroWords_word, if_neg h]

theorem Gov.writeWords_get (g : Gov) (off : Nat) (ws : List Nat) {f : Fld} (h : f.off < off ∨ off + 4 * ws.length ≤ f.off) : (g.writeWords off ws).get f = g.get f := by
  unfold Gov.get; rw [Gov.writeWords_word_outside _ _ _ h]

/-! ### Requests -/

theorem Gov.takeUp_word (g : Gov) (o : Nat) : g.takeUp.word o = g.word o := by
  unfold Gov.takeUp
  split
  · rfl
  · refine Gov.each_same (fun g => g.word o) (fun g k => ?_) _ _
    dsimp only
    split
    · rfl
    · split <;> rfl

/-- A request that is not taken is not taken up. -/
theorem Gov.setPhase_req_none (g : Gov) (m n : Nat) (x : ReqPhase) (h : g.req n = none) : (g.setPhase m x).req n = none := by
  unfold Gov.req at *
  rw [Option.map_eq_none_iff, List.find?_eq_none] at *
  intro p hp
  simp only [Gov.setPhase, Gov.withCmd, List.mem_map] at hp
  obtain ⟨q, hq, rfl⟩ := hp
  have := h q hq
  split <;> simpa using this

theorem Gov.takeUp_req_none (g : Gov) (n : Nat) (h : g.req n = none) : g.takeUp.req n = none := by
  unfold Gov.takeUp
  split
  · exact h
  · refine Gov.each_keeps (P := fun g => g.req n = none) (fun g k hg => ?_) _ _ h
    dsimp only
    split
    · exact hg
    · split
      · exact Gov.setPhase_req_none _ _ _ _ hg
      · exact hg

theorem Gov.setReq_none (g : Gov) (n : Nat) : (g.setReq n none).req n = none := by
  simp [Gov.req, Gov.setReq, Gov.withCmd]

theorem Gov.req_of_cmd {g h : Gov} (e : h.cmd = g.cmd) (n : Nat) : h.req n = g.req n := by unfold Gov.req; rw [e]

theorem replyWords_length (n : Nat) (ws : List Nat) (status : Nat) (params : List Nat) : (replyWords n ws status params).length = params.length + 3 := by
  simp [replyWords]

/-! ### The reply -/

/-- The state in which a reply is posted: the request is gone, and its flags are clear. -/
def Gov.unasked (g : Gov) (n : Nat) : Gov := ((((g.setReq n none).takeUp).set (F.CMD_STAT_TAKEN n) 0).set (F.CMD_STAT_WAIT n) 0).set (F.CMD_STAT_DUP n) 0

theorem Gov.post_eq (g : Gov) (n : Nat) (ws : List Nat) (status : Nat) (params : List Nat) :
    g.post n ws status params = if pkNoReply ws && decide (status / 32 = 0) then (g.unasked n).freeWindow n else ((g.unasked n).writeWords (W.CMD_RPL n 0) (replyWords n ws status params)).mark (F.CMD_STAT_RDY n) := (rfl)

theorem Gov.unasked_word (g : Gov) (n : Nat) {o : Nat} (h : o ≠ W.CMD_STAT n) : (g.unasked n).word o = g.word o := by
  unfold Gov.unasked
  rw [Gov.word_set_ne _ _ h, Gov.word_set_ne _ _ h, Gov.word_set_ne _ _ h, Gov.takeUp_word]
  rfl

theorem Gov.unasked_req (g : Gov) (n : Nat) : (g.unasked n).req n = none := by
  have : (g.unasked n).cmd = ((g.setReq n none).takeUp).cmd := by simp [Gov.unasked]
  rw [Gov.req_of_cmd this]
  exact Gov.takeUp_req_none _ _ (Gov.setReq_none _ _)

theorem Gov.unasked_taken (g : Gov) (n : Nat) : (g.unasked n).flag (F.CMD_STAT_TAKEN n) = false := by
  unfold Gov.unasked
  rw [Gov.flag_set_apart _ _ (by simp [Fld.apart, F.CMD_STAT_TAKEN, F.CMD_STAT_DUP]), Gov.flag_set_apart _ _ (by simp [Fld.apart, F.CMD_STAT_TAKEN, F.CMD_STAT_WAIT]), Gov.flag_set_self _ _ (by simp [F.CMD_STAT_TAKEN])]
  rfl

/-- A reply answers the request. -/
theorem Gov.post_replied (g : Gov) (n : Nat) (ws : List Nat) (status : Nat) (params : List Nat) (hn : n < 16) (hp : params.length ≤ 61) : (g.post n ws status params).replied n ws status params := by
  rw [Gov.post_eq]
  have hs : (pkNoReply ws && decide (status / 32 = 0)) = decide (pkNoReply ws = true ∧ status < 32) := by
    by_cases h : pkNoReply ws = true <;> simp [h]
  rw [hs]
  by_cases hc : pkNoReply ws = true ∧ status < 32
  · have hm : W.CMD_STAT n ∉ (List.range 64).map fun i => W.CMD_REQ n i := by
      simp only [List.mem_map, List.mem_range, not_exists, not_and]
      intro i hi; simp only [W.CMD_STAT, W.CMD_REQ]; omega
    simp only [hc, and_self, decide_true, if_true, Gov.replied]
    refine ⟨?_, ?_, fun i hi => ?_⟩
    · rw [Gov.flag, Gov.freeWindow, Gov.zeroWords_get _ _ hm, ← Gov.flag, Gov.unasked_taken]
    · unfold Gov.freeWindow; rw [Gov.req_of_cmd (Gov.zeroWords_cmd _ _), Gov.unasked_req]
    · rw [Gov.freeWindow, Gov.zeroWords_word, if_pos (List.mem_map.2 ⟨i, List.mem_range.2 hi, rfl⟩)]
  · simp only [hc, decide_false, Bool.false_eq_true, if_false, Gov.replied]
    have hl := replyWords_length n ws status params
    have ho : (F.CMD_STAT_TAKEN n).off < W.CMD_RPL n 0 ∨ W.CMD_RPL n 0 + 4 * (replyWords n ws status params).length ≤ (F.CMD_STAT_TAKEN n).off := by
      simp only [F.CMD_STAT_TAKEN, W.CMD_RPL]; omega
    refine ⟨?_, ?_, ?_, fun i hi => ?_⟩
    · rw [Gov.mark_eq, Gov.flag_set_apart _ _ (by simp [Fld.apart, F.CMD_STAT_TAKEN, F.CMD_STAT_RDY]), Gov.flag, Gov.writeWords_get _ _ _ ho, ← Gov.flag, Gov.unasked_taken]
    · rw [Gov.mark_eq, Gov.req_of_cmd (Gov.set_cmd _ _ _), Gov.req_of_cmd (Gov.writeWords_cmd _ _ _), Gov.unasked_req]
    · rw [Gov.mark_eq, Gov.flag_set_self _ _ (by simp [F.CMD_STAT_RDY])]; rfl
    · rw [Gov.mark_eq, Gov.word_set_ne _ _ (by simp only [W.CMD_RPL, F.CMD_STAT_RDY]; omega)]
      have e : W.CMD_RPL n i = W.CMD_RPL n 0 + 4 * i := by simp only [W.CMD_RPL]; omega
      rw [e, Gov.writeWords_word _ _ _ (by omega)]

/-- A reply leaves every word outside the command group alone. -/
theorem Gov.post_word (g : Gov) (n : Nat) (ws : List Nat) (status : Nat) (params : List Nat) {o : Nat} (hn : n < 16) (hp : params.length ≤ 61) (h : o < 0x1000 ∨ 0x3100 ≤ o) : (g.post n ws status params).word o = g.word o := by
  have hl := replyWords_length n ws status params
  rw [Gov.post_eq]
  split
  · rw [Gov.freeWindow, Gov.zeroWords_word, if_neg, Gov.unasked_word _ _ (by simp only [W.CMD_STAT]; omega)]
    simp only [List.mem_map, List.mem_range, not_exists, not_and]
    intro i hi; simp only [W.CMD_REQ]; omega
  · rw [Gov.mark_eq, Gov.word_set_ne _ _ (by simp only [F.CMD_STAT_RDY]; omega), Gov.writeWords_word_outside _ _ _ (by simp only [W.CMD_RPL]; omega), Gov.unasked_word _ _ (by simp only [W.CMD_STAT]; omega)]

theorem Gov.post_get (g : Gov) (n : Nat) (ws : List Nat) (status : Nat) (params : List Nat) {f : Fld} (hn : n < 16) (hp : params.length ≤ 61) (h : f.off < 0x1000 ∨ 0x3100 ≤ f.off) : (g.post n ws status params).get f = g.get f := by
  unfold Gov.get; rw [Gov.post_word _ _ _ _ _ hn hp h]

theorem Gov.post_besideCmd (g : Gov) (n : Nat) (ws : List Nat) (status : Nat) (params : List Nat) : (g.post n ws status params).besideCmd = g.besideCmd := by
  have h : (g.unasked n).besideCmd = g.besideCmd := by
    have : (g.unasked n).besideCmd = ((g.setReq n none).takeUp).besideCmd := rfl
    rw [this, Gov.takeUp_besideCmd]; rfl
  rw [Gov.post_eq]
  split
  · rw [Gov.freeWindow, Gov.zeroWords_besideCmd, h]
  · exact (Gov.writeWords_besideCmd _ _ _).trans h

/-! ### Journal and commit -/

theorem Gov.journal_get (g : Gov) (n seq status : Nat) {f : Fld} (h : f.off ≠ W.SUP_JOURNAL n) : (g.journal n seq status).get f = g.get f := by
  have a : ∀ k : Fld, k.off = W.SUP_JOURNAL n → f.apart k = true := fun k hk => by simp [Fld.apart, hk, h]
  unfold Gov.journal
  split
  · rfl
  · rw [Gov.get_set_apart _ _ (a _ rfl), Gov.mark_eq, Gov.get_set_apart _ _ (a _ rfl), Gov.get_set_apart _ _ (a _ rfl)]

theorem Gov.journal_besideCmd (g : Gov) (n seq status : Nat) : (g.journal n seq status).besideCmd = g.besideCmd := by
  unfold Gov.journal
  split
  · rfl
  · simp

theorem Gov.commit_get (g : Gov) (n : Nat) (ws : List Nat) (status : Nat) (at_ : Option SigEvent) {f : Fld} (h : f.off ≠ W.SUP_JOURNAL n) (hc : f.off < 0x3000 ∨ 0x4000 ≤ f.off) : (g.commit n ws status at_).get f = g.get f := by
  unfold Gov.commit
  dsimp only
  split
  · cases at_ with
    | none => rw [Gov.signalFence_get _ _ (notFence hc), Gov.journal_get _ _ _ _ h]
    | some e => exact Gov.journal_get _ _ _ _ h
  · exact Gov.journal_get _ _ _ _ h

theorem Gov.commit_besideCmd (g : Gov) (n : Nat) (ws : List Nat) (status : Nat) (at_ : Option SigEvent) : (g.commit n ws status at_).besideCmd = g.besideCmd := by
  unfold Gov.commit
  dsimp only
  split
  · cases at_ with
    | none => exact (Gov.signalFence_besideCmd _ _).trans (Gov.journal_besideCmd _ _ _ _)
    | some e => exact Gov.journal_besideCmd _ _ _ _
  · exact Gov.journal_besideCmd _ _ _ _

/-- An answer replies to the request. -/
theorem Gov.answer_replied (g : Gov) (n : Nat) (ws : List Nat) (status : Nat) (params : List Nat) (hn : n < 16) (hp : params.length ≤ 61) : (g.answer n ws status params).replied n ws status params :=
  Gov.post_replied _ _ _ _ _ hn hp

/-- An answer leaves every field outside the command group and the channel's journal word alone. -/
theorem Gov.answer_get (g : Gov) (n : Nat) (ws : List Nat) (status : Nat) (params : List Nat) {f : Fld} (hn : n < 16) (hp : params.length ≤ 61) (h : f.off ≠ W.SUP_JOURNAL n) (hc : f.off < 0x1000 ∨ 0x4000 ≤ f.off) : (g.answer n ws status params).get f = g.get f := by
  unfold Gov.answer
  rw [Gov.post_get _ _ _ _ _ hn hp (by omega), Gov.commit_get _ _ _ _ _ h (by omega)]

theorem Gov.answer_besideCmd (g : Gov) (n : Nat) (ws : List Nat) (status : Nat) (params : List Nat) : (g.answer n ws status params).besideCmd = g.besideCmd :=
  (Gov.post_besideCmd _ _ _ _ _).trans (Gov.commit_besideCmd _ _ _ _ _)

/-! ### Service -/

/-- A served request whose number of parameters passes is carried out (R361). -/
theorem Gov.serve_eq {g : Gov} {t : Fin 250} {n op : Nat} {ok : Nat → Bool} {f : Gov → List Nat → Gov} {ws : List Nat} (h : g.serves t n op ws) (hp : paramCount ws ok = true) :
    (g.reach t).serve n op ok f = f (g.reach t) ws := by
  obtain ⟨_, h2, ⟨r, h3, rfl, h4⟩, h5, h6, h7⟩ := h
  unfold Gov.serve
  simp [h3, h2, h5, h4, h6, h7, hp]

/-- A command that a pilot serves at an instant, with as many parameters as its opcode takes, has its effect there. -/
theorem command_eq {n op : Nat} {ok : Nat → Bool} {t : Fin 250} {s : State} {f : Gov → List Nat → Gov} {ws : List Nat} (h : s.gov.serves t n op ws) (hp : paramCount ws ok = true) :
    command n op ok t s f = .next { s with gov := f (s.gov.reach t) ws } := by
  unfold command State.onGov Gov.ev
  dsimp only
  rw [if_pos h.1, Gov.serve_eq h hp]

end Sys2Proof.Machine
end

