-- ==== Sys2Proof/Laws/Persist.lean ====
section
/-! SUPPORT. What a command can do to what outlives the resets. -/

namespace Sys2Proof.Machine

/-! ### Flash writes keep the canonical form -/

theorem flashWrite_canon {fl : Tab Byte} (off : Nat) (bs : List Byte) (h : Tab.canon (fun _ => 0xFF#8) fl) : Tab.canon (fun _ => 0xFF#8) (flashWrite fl off bs) := by
  unfold flashWrite
  generalize List.range bs.length = ks
  induction ks generalizing fl with
  | nil => exact h
  | cons k ks ih => exact ih (Tab.put_canon _ _ _ h)

theorem flashErase_canon {fl : Tab Byte} (off : Nat) (h : Tab.canon (fun _ => 0xFF#8) fl) : Tab.canon (fun _ => 0xFF#8) (flashErase fl off) := Tab.filter_canon _ _ h

/-- An operation of the port keeps the canonical form of the device's bytes. -/
theorem FlashOp.run_canon {fl : Tab Byte} (op : FlashOp) (h : Tab.canon (fun _ => 0xFF#8) fl) : Tab.canon (fun _ => 0xFF#8) (op.run fl) := by
  cases op with
  | erase _ off => exact flashErase_canon off h
  | program off bs => exact flashWrite_canon off bs h
  | _ => exact h

theorem flashBlock_canon {fl : Tab Byte} (dev : Option FlashDev) (off : Nat) (bs : List Byte) (h : Tab.canon (fun _ => 0xFF#8) fl) : Tab.canon (fun _ => 0xFF#8) (flashBlock dev fl off bs) := by
  unfold flashBlock
  generalize flashBlockOps dev off bs = ops
  induction ops generalizing fl with
  | nil => exact h
  | cons o ops ih => exact ih (o.run_canon h)

/-! ### What a command does to it -/

/-- What a command can do to the persistent part: the standby latch, the trip, the epoch record, the security-version fuses, or a flash block. -/
inductive KeepChange (c : Instr) (s : State) : Persist → Prop
  | latch (w : Bool) : KeepChange c s { s.keep with wakeN := w }
  | dark : c = .alwaysOnSupplyRemoval → KeepChange c s { s.keep with trip := false }
  | trip : KeepChange c s { s.keep with trip := true }
  | epoch : KeepChange c s { s.keep with epoch := (s.keep.epoch + 1) % 2 ^ 32 }
  | svn (n : Fin 16) (t : Fin 250) (x : Nat) : c = .svnCommit n t → (s.gov.reach t).svnOk = true → KeepChange c s { s.keep with svn := max s.keep.svn (min 64 x) }
  | flash (off : Nat) (bs : List Byte) : KeepChange c s { s.keep with flash := flashBlock s.keep.dev s.keep.flash off bs }

theorem KeepChange.same (c : Instr) (s : State) : KeepChange c s s.keep := .latch s.keep.wakeN

theorem portCommand_keep {off : Nat} {wr : PortWrite} {t : Fin 250} {c : Instr} {s s' : State} (h : portCommand off wr t s = .next s') : KeepChange c s s'.keep := by
  unfold portCommand State.onBoth Persist.clearWake at h
  cases h
  exact .latch _

theorem portCommandIf_keep {ok : Bool} {off : Nat} {wr : PortWrite} {t : Fin 250} {c : Instr} {s s' : State} (h : portCommandIf ok off wr t s = .next s') : KeepChange c s s'.keep := by
  unfold portCommandIf at h
  split at h
  · exact portCommand_keep h
  · cases h; exact .same _ _

theorem onGov_keep {f : Gov → Gov} {c : Instr} {s s' : State} (h : s.onGov f = .next s') : KeepChange c s s'.keep := by
  unfold State.onGov at h
  cases h; exact .same _ _

theorem command_keep {n op : Nat} {ok : Nat → Bool} {t : Fin 250} {f : Gov → List Nat → Gov} {c : Instr} {s s' : State} (h : command n op ok t s f = .next s') : KeepChange c s s'.keep := onGov_keep h

/-- The fuses show another version after an SVN-commit only where it may proceed. -/
theorem svnCommit_ok {n : Fin 16} {t : Fin 250} {g : Gov}
    (h : (g.ev t fun g => g.serve n 0x06 (· == 0) fun g ws => if !g.svnOk then g.answer n ws stState [] else (g.set F.FWP_SVN_FUSE_SVN (min 64 (g.get F.FWP_SVN_IMG_SVN))).answer n ws stOk [min 64 (g.get F.FWP_SVN_IMG_SVN)]).get F.FWP_SVN_FUSE_SVN ≠ (g.ev t id).get F.FWP_SVN_FUSE_SVN) : (g.reach t).svnOk = true := by
  have out : ∀ (st : Nat) (ps : List Nat) (ws : List Nat), ps.length ≤ 61 → ∀ g : Gov, (g.answer n ws st ps).get F.FWP_SVN_FUSE_SVN = g.get F.FWP_SVN_FUSE_SVN := fun st ps ws hp g =>
    Gov.answer_get _ _ _ _ _ n.isLt hp (by simp only [F.FWP_SVN_FUSE_SVN, W.SUP_JOURNAL]; omega) (by decide)
  have outp : ∀ (st : Nat) (ws : List Nat), ∀ g : Gov, (g.post n ws st []).get F.FWP_SVN_FUSE_SVN = g.get F.FWP_SVN_FUSE_SVN := fun st ws g =>
    Gov.post_get _ _ _ _ _ n.isLt (by simp) (by decide)
  by_contra hs
  have hs' : (g.reach t).svnOk = false := by simpa using hs
  apply h
  unfold Gov.ev
  split
  · unfold Gov.serve
    dsimp only [id]
    split
    · split
      · split
        · exact outp _ _ _
        · exact out _ _ _ (by simp) _
        · split
          · simp only [hs', Bool.not_false, if_true]
            exact out _ _ _ (by simp) _
          · exact out _ _ _ (by simp) _
      · rfl
    · rfl
  · rfl

theorem exec_keep (c : Instr) (s s' : State) (h : exec c s = .next s') : KeepChange c s s'.keep := by
  cases c
  all_goals simp only [exec] at h
  case bootComplete => exact onGov_keep h
  case baseTick => exact onGov_keep h
  case sampleTick => exact onGov_keep h
  case sluiceTick => exact onGov_keep h
  case berthRetireComplete => exact onGov_keep h
  case thermalSweepComplete => exact onGov_keep h
  case pathMonitorSweep => exact onGov_keep h
  case phaseCurrentConversion => exact onGov_keep h
  case shedComplete => exact onGov_keep h
  case remoteSenseConversion => exact onGov_keep h
  case compensatorRequest => exact onGov_keep h
  case feedForwardRequest => exact onGov_keep h
  case railPeriodStart => exact onGov_keep h
  case railOnDelayExpiry => exact onGov_keep h
  case railPgoodDelayExpiry => exact onGov_keep h
  case railOffDelayExpiry => exact onGov_keep h
  case railDischargeExpiry => exact onGov_keep h
  case phaseOvercurrent => exact onGov_keep h
  case phaseFault => exact onGov_keep h
  case vcoreClampEngage => exact onGov_keep h
  case overloadBinEnd => exact onGov_keep h
  case syncInEdge => exact onGov_keep h
  case syncLoss => exact onGov_keep h
  case stageFault => exact onGov_keep h
  case pwrbrkAssert => exact onGov_keep h
  case pwrbrkRelease => exact onGov_keep h
  case vselChange => exact onGov_keep h
  case berthErr => exact onGov_keep h
  case acctToggle => exact onGov_keep h
  case fcstChange => exact onGov_keep h
  case psAnswer => exact onGov_keep h
  case psHoldTimeout => exact onGov_keep h
  case psExitAckTimeout => exact onGov_keep h
  case entryGatesClosed => exact onGov_keep h
  case retAssert => exact onGov_keep h
  case biasSettleExpiry => exact onGov_keep h
  case entryComplete => exact onGov_keep h
  case offNoticeRepeat => exact onGov_keep h
  case pllLock => exact onGov_keep h
  case retRelease => exact onGov_keep h
  case exitRegionsRestore => exact onGov_keep h
  case linkActRise => exact onGov_keep h
  case hawserWakeDetect => exact onGov_keep h
  case wakeTimerFire => exact onGov_keep h
  case autoIdleRequest => exact onGov_keep h
  case droopCrossing => exact onGov_keep h
  case stretchEscalate => exact onGov_keep h
  case stretchHoldExpiry => exact onGov_keep h
  case stretchReleaseStep => exact onGov_keep h
  case detectorStuck => exact onGov_keep h
  case fsynLock => exact onGov_keep h
  case fsynGlideStep => exact onGov_keep h
  case coastEntry => exact onGov_keep h
  case coastExit => exact onGov_keep h
  case clkmonWindow => exact onGov_keep h
  case regionSwitchComplete => exact onGov_keep h
  case regionSwitchHang => exact onGov_keep h
  case autoForce => exact onGov_keep h
  case trimWindowEnd => exact onGov_keep h
  case hintWordArrival => exact onGov_keep h
  case hintNop => exact onGov_keep h
  case reserve => exact onGov_keep h
  case confirm => exact onGov_keep h
  case retract => exact onGov_keep h
  case release => exact onGov_keep h
  case hint => exact onGov_keep h
  case cancel => exact onGov_keep h
  case reservationExpire => exact onGov_keep h
  case confirmedLifetimeEnd => exact onGov_keep h
  case hintActivate => exact onGov_keep h
  case hintExpire => exact onGov_keep h
  case regPairRead => exact onGov_keep h
  case sg1CounterRead => exact onGov_keep h
  case traceDrainRead => exact onGov_keep h
  case periodChange => exact onGov_keep h
  case mtHeldStepApply => exact onGov_keep h
  case mtWindowDecision => exact onGov_keep h
  case hbmTempTimeout => exact onGov_keep h
  case jobStepClose => exact onGov_keep h
  case heartbeatLapse => exact onGov_keep h
  case watchdogExpiry => exact onGov_keep h
  case pilotTrap => exact onGov_keep h
  case pilotPanic => exact onGov_keep h
  case pilotRestartComplete => exact onGov_keep h
  case watchHit => exact onGov_keep h
  case fenceWaitTimeout => exact onGov_keep h
  case updateVerifyComplete => exact onGov_keep h
  case flashOperationTimeout => exact onGov_keep h
  case accountOpenTick => exact onGov_keep h
  case accountCloseCommit => exact onGov_keep h
  case statementSign => exact onGov_keep h
  case entdaa => exact onGov_keep h
  case setdasa => exact onGov_keep h
  case rstdaa => exact onGov_keep h
  case setEndpointId => exact onGov_keep h
  case identify => exact onGov_keep h
  case wake => exact onGov_keep h
  case fruWrite => exact onGov_keep h
  case fruRead => exact onGov_keep h
  case faultStatus => exact onGov_keep h
  case reflashBegin => exact onGov_keep h
  case reflashFinish => exact onGov_keep h
  case getTid => exact onGov_keep h
  case getPldmVersion => exact onGov_keep h
  case getPldmTypes => exact onGov_keep h
  case getPldmCommands => exact onGov_keep h
  case setEventReceiver => exact onGov_keep h
  case eventMessageSupported => exact onGov_keep h
  case eventMessageBufferSize => exact onGov_keep h
  case getSensorReading => exact onGov_keep h
  case getPdrRepositoryInfo => exact onGov_keep h
  case getPdr => exact onGov_keep h
  case pollForPlatformEventMessage => exact onGov_keep h
  case faultRecordSend => exact onGov_keep h
  case eventAcceptance => exact onGov_keep h
  case frameOriginate => exact onGov_keep h
  case frameReceive => exact onGov_keep h
  case tugRound => exact onGov_keep h
  case linkTrain => exact onGov_keep h
  case linkUp => exact onGov_keep h
  case linkDown => exact onGov_keep h
  case segmentEntry => exact onGov_keep h
  case nodeMissing => exact onGov_keep h
  case timeStep => exact onGov_keep h
  case stopCut => exact onGov_keep h
  case scrubPass => exact onGov_keep h
  case scrubLate => exact onGov_keep h
  case pllLockLoss => exact onGov_keep h
  case extest => exact onGov_keep h
  case idcode => exact onGov_keep h
  case samplePreload => exact onGov_keep h
  case bypass => exact onGov_keep h
  case ftest => exact onGov_keep h
  case finj => exact onGov_keep h
  case phasePeriodStart => exact onGov_keep h
  case timebasePhaseZero => exact onGov_keep h
  case detectorRelease => exact onGov_keep h
  case badHintWord => exact onGov_keep h
  case pilotSramUncorrectable => exact onGov_keep h
  case registerWrite => exact portCommand_keep h
  case stateWordWrite => exact portCommand_keep h
  case periodWrite => exact portCommand_keep h
  case hlimWrite => exact portCommand_keep h
  case fsynEnable => exact portCommand_keep h
  case phaseOosWrite => exact portCommand_keep h
  case mtRestore => exact portCommand_keep h
  case hbmTempWrite => exact portCommand_keep h
  case quarantineRelease => exact portCommand_keep h
  case collectorBitClear => exact portCommand_keep h
  case reactionWrite => exact portCommand_keep h
  case suspectClear => exact portCommand_keep h
  case freezeWrite => exact portCommand_keep h
  case progressPublish => exact portCommand_keep h
  case heartbeat => exact portCommand_keep h
  case pilotRestartRequest => exact portCommand_keep h
  case watchArm => exact portCommand_keep h
  case commandTake => exact portCommand_keep h
  case loopSlotEnable => exact portCommandIf_keep h
  case pcapEnable => exact portCommandIf_keep h
  case steadyEnable => exact portCommandIf_keep h
  case regionSwitch => exact portCommandIf_keep h
  case regionForce => exact portCommandIf_keep h
  case railEnable => exact portCommandIf_keep h
  case railDisable => exact portCommandIf_keep h
  case railCommit => exact portCommandIf_keep h
  case tblLoad => exact portCommandIf_keep h
  case mtRaise => exact portCommandIf_keep h
  case mtLower => exact portCommandIf_keep h
  case mtRestartWindow => exact portCommandIf_keep h
  case sensorBrokenClear => exact portCommandIf_keep h
  case berthPresentSet => exact portCommandIf_keep h
  case berthPresentClear => exact portCommandIf_keep h
  case windowEnable => exact portCommandIf_keep h
  case windowDisable => exact portCommandIf_keep h
  case hawserEnable => exact portCommandIf_keep h
  case enumerate => exact portCommandIf_keep h
  case idlWake => exact portCommandIf_keep h
  case globalStopWrite => exact portCommandIf_keep h
  case psEntryRequest => exact portCommandIf_keep h
  case psExitRequest => exact portCommandIf_keep h
  case psCancel => exact portCommandIf_keep h
  case govLockWrite => exact portCommandIf_keep h
  case hlimLockWrite => exact portCommandIf_keep h
  case harbourLockWrite => exact portCommandIf_keep h
  case fltLockWrite => exact portCommandIf_keep h
  case wdtLockWrite => exact portCommandIf_keep h
  case fcuCtrlClr => exact portCommandIf_keep h
  case drpCtrlClr => exact portCommandIf_keep h
  case regCtrlClr => exact portCommandIf_keep h
  case snsCtrlClr => exact portCommandIf_keep h
  case idlCtrlClr => exact portCommandIf_keep h
  case psCtrlClr => exact portCommandIf_keep h
  case fltCtrlClr => exact portCommandIf_keep h
  case cmdCfgClr => exact portCommandIf_keep h
  case trcCtrlClr => exact portCommandIf_keep h
  case replyRelease => exact portCommandIf_keep h
  case fenceWaitAbort => exact portCommandIf_keep h
  case requestWindowClear => exact portCommandIf_keep h
  case nop => exact command_keep h
  case sessionOpen => exact command_keep h
  case versionQuery => exact command_keep h
  case updateBegin => exact command_keep h
  case updateFinish => exact command_keep h
  case regRead => exact command_keep h
  case lawLoad => exact command_keep h
  case lawUnload => exact command_keep h
  case railTarget => exact command_keep h
  case psRequest => exact command_keep h
  case globalStop => exact command_keep h
  case acctOpen => exact command_keep h
  case acctClose => exact command_keep h
  case acctQuery => exact command_keep h
  case stmtRead => exact command_keep h
  case stmtRelease => exact command_keep h
  case stmtList => exact command_keep h
  case attestKey => exact command_keep h
  case attestCert => exact command_keep h
  case attestQuote => exact command_keep h
  case tableLoad => exact command_keep h
  case trimStep => exact command_keep h
  case telemRead => exact command_keep h
  case fenceReset => exact command_keep h
  case fenceQuery => exact command_keep h
  case powerOnReset => unfold execPowerOnReset State.onBoth at h; cases h; exact .same _ _
  case rstNAssert => unfold execRstNAssert State.onBoth at h; cases h; exact .same _ _
  case rstNRelease v =>
    unfold execRstNRelease State.onBoth at h; cases h
    dsimp only
    split <;> exact .same _ _
  case brownOut =>
    unfold execBrownOut State.onBoth at h; cases h
    dsimp only
    split <;> exact .same _ _
  case epochAdvance ok t =>
    unfold execEpochAdvance State.onBoth at h; cases h
    dsimp only
    split
    · exact .same _ _
    · split
      · exact .epoch
      · exact .same _ _
  case thermalTrip t =>
    unfold execThermalTrip State.onBoth at h; cases h
    dsimp only
    split
    · exact .trip
    · exact .same _ _
  case wakeNAssert t =>
    unfold execWakeNAssert State.onBoth at h; cases h
    dsimp only
    split
    · exact .same _ _
    · split
      · exact .latch _
      · exact .same _ _
  case updateData n t =>
    unfold execUpdateData State.onBoth at h; cases h
    dsimp only
    split
    · split
      · exact .same _ _
      · exact .flash _ _
    · exact .same _ _
  case svnCommit n t =>
    unfold execSvnCommit State.onBoth at h; cases h
    dsimp only
    split
    · exact .same _ _
    · next hne => exact .svn n t _ rfl (svnCommit_ok hne)
  case regWrite n t => unfold execRegWrite State.onBoth at h; cases h; exact .latch _
  case reflashData q t =>
    unfold execReflashData State.onBoth at h; cases h
    dsimp only
    split
    · exact .same _ _
    · exact .flash _ _
  case regacc a we d t => unfold execRegacc State.onBoth at h; cases h; exact .latch _
  case brownOutRecovery v =>
    unfold execBrownOutRecovery State.onBoth at h; cases h
    dsimp only
    split
    · exact .same _ _
    · split <;> exact .same _ _
  case alwaysOnSupplyRemoval => unfold execAlwaysOnSupplyRemoval State.onBoth at h; cases h; exact .dark rfl

end Sys2Proof.Machine
end

