-- ==== Sys2Proof/Laws/Port.lean ====
section
/-! SUPPORT. Writes at the register port: an access that the port takes is the write of its group's rule, answered OK. -/

namespace Sys2Proof.Machine

theorem Gov.ev_up (g : Gov) (t : Fin 250) (f : Gov → Gov) (h : g.up = true) : g.ev t f = f (g.reach t) := by unfold Gov.ev; rw [if_pos h]

/-- A write that the port takes, in RUN and IDLE or at an always-on word, is the write of the group's rule (R380). -/
theorem Gov.portWrite_taken (g : Gov) {off : Nat} {wr : PortWrite} (h : g.takes off wr = true) (ha : g.asleep = false ∨ alwaysOn off = true) : g.portWrite off wr = (g.writeReg off wr.data).gov.respond 0 0 := by
  simp only [Gov.takes, Bool.and_eq_true, beq_iff_eq] at h
  obtain ⟨⟨⟨h1, h2⟩, h3⟩, h4⟩ := h
  have a1 : (g.asleep && decide (0x1000 ≤ off)) = false := by
    simp only [Bool.not_eq_true'] at h2; exact h2
  have a2 : ((!wr.priv) && !openWord off) = false := by cases hp : wr.priv <;> simp_all
  have a3 : (fieldsAt off).isEmpty = false := by simpa using h3
  have a4 : (g.asleep && !alwaysOn off) = false := by rcases ha with ha | ha <;> simp [ha]
  unfold Gov.portWrite
  simp only [h1, ne_eq, not_true_eq_false, if_false, a1, a2, a3, Bool.false_eq_true]
  unfold Gov.takeWrite
  rw [a4]; rfl

/-- A command that is a write of a word leaves the standby latch as it was where OFF_WAKE stays. -/
theorem portCommand_eq {off : Nat} {wr : PortWrite} {t : Fin 250} {s : State} {g' : Gov} (e : (s.gov.ev t fun g => g.portWrite off wr) = g')
    (hk : g'.flag F.PS_WAKE_STAT_OFF_WAKE = (s.gov.ev t id).flag F.PS_WAKE_STAT_OFF_WAKE) : portCommand off wr t s = .next { s with gov := g' } := by
  unfold portCommand State.onBoth Persist.clearWake
  dsimp only
  rw [e]
  simp only [hk, Bool.and_not_self, Bool.not_false, Bool.and_true]

/-- A command that is a write of a word the port takes: the group's rule, and the standby latch as it was where OFF_WAKE stays. -/
theorem portCommand_next {off : Nat} {wr : PortWrite} {t : Fin 250} {s : State} (hu : s.gov.up = true) (h : (s.gov.reach t).takes off wr = true) (ha : (s.gov.reach t).asleep = false ∨ alwaysOn off = true)
    (hk : ((s.gov.reach t).writeReg off wr.data).gov.flag F.PS_WAKE_STAT_OFF_WAKE = (s.gov.reach t).flag F.PS_WAKE_STAT_OFF_WAKE) :
    portCommand off wr t s = .next { s with gov := ((s.gov.reach t).writeReg off wr.data).gov.respond 0 0 } := by
  refine portCommand_eq ?_ ?_
  · rw [Gov.ev_up _ _ _ hu]
    exact Gov.portWrite_taken (s.gov.reach t) h ha
  · rw [Gov.ev_up _ _ _ hu]
    exact hk

end Sys2Proof.Machine
end

