-- ==== Sys2Proof/Laws/Regulator.lean ====
section
/-! SUPPORT. Signed fields, and what the regulator's shared operations write. -/

namespace Sys2Proof.Machine

/-! ### Signed fields -/

theorem ssat_range (w : Nat) (x : Int) : -(2 ^ (w - 1) : Int) ≤ ssat w x ∧ ssat w x ≤ 2 ^ (w - 1) - 1 := by
  have : (0 : Int) < 2 ^ (w - 1) := by positivity
  unfold ssat; omega

theorem ssat_of_range (w : Nat) (x : Int) (h1 : -(2 ^ (w - 1) : Int) ≤ x) (h2 : x ≤ 2 ^ (w - 1) - 1) : ssat w x = x := by
  unfold ssat; omega

/-- The field of an integer in range reads as the integer. -/
theorem toSigned_ofSigned (w : Nat) (h : 0 < w) (x : Int) (h1 : -(2 ^ (w - 1) : Int) ≤ x) (h2 : x ≤ 2 ^ (w - 1) - 1) : toSigned w (ofSigned w x % 2 ^ w) = x := by
  obtain ⟨n, rfl⟩ : ∃ n, w = n + 1 := ⟨w - 1, by omega⟩
  simp only [Nat.add_sub_cancel] at h1 h2
  unfold toSigned ofSigned
  have hp : (0 : Int) < 2 ^ (n + 1) := by positivity
  have e2 : (2 : Int) ^ (n + 1) = 2 * 2 ^ n := by ring
  have hm := Int.emod_nonneg x hp.ne'
  have hl := Int.emod_lt_of_pos x hp
  have c : (((x % 2 ^ (n + 1)).toNat : Nat) : Int) = x % 2 ^ (n + 1) := Int.toNat_of_nonneg hm
  have hlt : (x % 2 ^ (n + 1)).toNat < 2 ^ (n + 1) := by zify; rw [c]; exact_mod_cast hl
  rw [Nat.mod_mod, Nat.mod_eq_of_lt hlt, c]
  have hc : (2 * (x % 2 ^ (n + 1)).toNat < 2 ^ (n + 1)) ↔ x % 2 ^ (n + 1) < 2 ^ n := by
    zify; rw [c, e2]; omega
  by_cases hx : 0 ≤ x
  · rw [Int.emod_eq_of_lt hx (by omega)] at *
    rw [if_pos (hc.2 (by omega))]
  · have : x % 2 ^ (n + 1) = x + 2 ^ (n + 1) := by
      rw [← Int.add_emod_right, Int.emod_eq_of_lt (by omega) (by omega)]
    rw [if_neg (fun k => by have := hc.1 k; omega), this]; ring

theorem Gov.sget_sset_self (g : Gov) {f : Fld} (v : Int) (h : f.lo + f.w ≤ 32) (h0 : 0 < f.w) : (g.sset f v).sget f = ssat f.w v := by
  rw [Gov.sget, Gov.sset_eq, Gov.get_set_self _ _ h]
  exact toSigned_ofSigned _ h0 _ (ssat_range _ _).1 (ssat_range _ _).2

theorem Gov.sget_set_apart (g : Gov) {f h : Fld} (v : Nat) (H : h.apart f = true) : (g.set f v).sget h = g.sget h := by
  rw [Gov.sget, Gov.get_set_apart _ _ H, Gov.sget]

/-! ### Records of rails and phases -/

@[simp] theorem Gov.rail_setRail (g : Gov) (r : Nat) (f : RailSt → RailSt) : (g.setRail r f).rail r = f (g.rail r) := by
  simp [Gov.rail, Gov.setRail, Tab.get_upd]

theorem Gov.rail_setRail_ne (g : Gov) {r k : Nat} (f : RailSt → RailSt) (h : k ≠ r) : (g.setRail r f).rail k = g.rail k := by
  simp [Gov.rail, Gov.setRail, Tab.get_upd, h]

@[simp] theorem Gov.ph_setPh (g : Gov) (p : Nat) (f : PhaseSt → PhaseSt) : (g.setPh p f).ph p = f (g.ph p) := by
  simp [Gov.ph, Gov.setPh, Tab.get_upd]

theorem Gov.ph_setPh_ne (g : Gov) {p k : Nat} (f : PhaseSt → PhaseSt) (h : k ≠ p) : (g.setPh p f).ph k = g.ph k := by
  simp [Gov.ph, Gov.setPh, Tab.get_upd, h]

@[simp] theorem Gov.rail_set (g : Gov) (r : Nat) (f : Fld) (v : Nat) : (g.set f v).rail r = g.rail r := (rfl)
@[simp] theorem Gov.rail_adv (g : Gov) (r : Nat) (t : Fin 250) : (g.adv t).rail r = g.rail r := (rfl)
@[simp] theorem Gov.rail_setPh (g : Gov) (r p : Nat) (f : PhaseSt → PhaseSt) : (g.setPh p f).rail r = g.rail r := (rfl)
@[simp] theorem Gov.ph_set (g : Gov) (p : Nat) (f : Fld) (v : Nat) : (g.set f v).ph p = g.ph p := (rfl)
@[simp] theorem Gov.ph_adv (g : Gov) (p : Nat) (t : Fin 250) : (g.adv t).ph p = g.ph p := (rfl)
@[simp] theorem Gov.ph_setRail (g : Gov) (p r : Nat) (f : RailSt → RailSt) : (g.setRail r f).ph p = g.ph p := (rfl)

theorem Gov.rail_of_reg {g h : Gov} (e : h.reg = g.reg) (r : Nat) : h.rail r = g.rail r := by unfold Gov.rail; rw [e]
theorem Gov.ph_of_reg {g h : Gov} (e : h.reg = g.reg) (p : Nat) : h.ph p = g.ph p := by unfold Gov.ph; rw [e]

/-! ### The phases of a rail -/

theorem Gov.mem_railPhases (g : Gov) (r p : Nat) : p ∈ g.railPhases r ↔ p < 64 ∧ g.flag (F.PH_CTRL_ASSIGNED p) = true ∧ g.get (F.PH_CTRL_RAIL p) = r := by
  simp [Gov.railPhases, mem_sortBy]

theorem Gov.mem_inService (g : Gov) (r p : Nat) : p ∈ g.inService r ↔ p ∈ g.railPhases r ∧ g.flag (F.PH_CTRL_OOS p) = false := by
  simp [Gov.inService]

theorem Gov.sheddingPhase_some {g : Gov} {r p : Nat} (h : g.sheddingPhase r = some p) : p ∈ g.railPhases r := List.mem_of_find?_eq_some h

/-! ### States of a rail -/

theorem Gov.enterState_rail (g : Gov) (r st : Nat) : (g.enterState r st).rail r = { g.rail r with stateAt := g.now } := by simp [Gov.enterState]

theorem Gov.enterState_rstate (g : Gov) (r st : Nat) : (g.enterState r st).rstate r = st % 8 := by
  rw [Gov.rstate, Gov.enterState, Gov.setRail_get, Gov.get_set_self _ _ (by simp only [F.RAIL_STATE_STATE]; omega)]; rfl

@[simp] theorem Gov.abortShed_now (g : Gov) (r : Nat) : (g.abortShed r).now = g.now := by unfold Gov.abortShed; split <;> simp

theorem Gov.abortShed_rail (g : Gov) (r : Nat) : ∃ n, (g.abortShed r).rail r = { g.rail r with shedOk := n } := by
  unfold Gov.abortShed
  split
  · exact ⟨0, by simp [Gov.inc_eq]⟩
  · exact ⟨_, rfl⟩

@[simp] theorem Gov.commitCoeffs_now (g : Gov) (r : Nat) : (g.commitCoeffs r).now = g.now := (rfl)
@[simp] theorem Gov.commitCoeffs_get (g : Gov) (r : Nat) (f : Fld) : (g.commitCoeffs r).get f = g.get f := (rfl)
@[simp] theorem Gov.commitCoeffs_act (g : Gov) (r : Nat) (f : Fld) : (g.commitCoeffs r).act f = g.act f := (rfl)
@[simp] theorem Gov.setRail_act (g : Gov) (r : Nat) (h : RailSt → RailSt) (f : Fld) : (g.setRail r h).act f = g.act f := (rfl)

/-! ### Counted steps -/

@[simp] theorem Gov.countStep_get (g : Gov) (f : Fld) : g.countStep.get f = g.get f := by unfold Gov.countStep; split <;> rfl
@[simp] theorem Gov.countStep_word (g : Gov) (o : Nat) : g.countStep.word o = g.word o := by unfold Gov.countStep; split <;> rfl
@[simp] theorem Gov.countStep_held (g : Gov) : g.countStep.held = g.held := by unfold Gov.countStep; split <;> rfl
@[simp] theorem Gov.countStep_reg (g : Gov) : g.countStep.reg = g.reg := by unfold Gov.countStep; split <;> rfl
@[simp] theorem Gov.countStep_now (g : Gov) : g.countStep.now = g.now := by unfold Gov.countStep; split <;> rfl

/-! ### Telemetry and phases -/

@[simp] theorem Gov.refreshTele_now (g : Gov) (r : Nat) : (g.refreshTele r).now = g.now := by simp [Gov.refreshTele]
@[simp] theorem Gov.refreshTele_reg (g : Gov) (r : Nat) : (g.refreshTele r).reg = g.reg := by simp [Gov.refreshTele]
@[simp] theorem Gov.refreshAct_now (g : Gov) (r : Nat) : (g.refreshAct r).now = g.now := by simp [Gov.refreshAct]
@[simp] theorem Gov.refreshAct_reg (g : Gov) (r : Nat) : (g.refreshAct r).reg = g.reg := by simp [Gov.refreshAct]
@[simp] theorem Gov.raisePhase_now (g : Gov) (p : Nat) : (g.raisePhase p).now = g.now := by simp [Gov.raisePhase]
@[simp] theorem Gov.dropPhase_now (g : Gov) (p : Nat) : (g.dropPhase p).now = g.now := by simp [Gov.dropPhase]

theorem Gov.refreshTele_get (g : Gov) (r : Nat) {f : Fld} (H : [F.RAIL_TELE_IOUT r, F.RAIL_POUT_POUT r].all f.apart = true) : (g.refreshTele r).get f = g.get f := by
  simp only [List.all_cons, List.all_nil, Bool.and_true, Bool.and_eq_true] at H
  simp [Gov.refreshTele, Gov.get_set_apart, H]

theorem Gov.refreshAct_get (g : Gov) (r : Nat) {f : Fld} (H : [F.RAIL_STATE_N_ACT r, F.RAIL_TELE_IOUT r, F.RAIL_POUT_POUT r].all f.apart = true) : (g.refreshAct r).get f = g.get f := by
  rw [List.all_cons, Bool.and_eq_true] at H
  rw [Gov.refreshAct, Gov.refreshTele_get _ _ H.2, Gov.get_set_apart _ _ H.1]

theorem Gov.raisePhase_get (g : Gov) (p : Nat) {f : Fld} (H : f.apart (F.PH_STAT_ACTIVE p) = true) : (g.raisePhase p).get f = g.get f := by
  simp [Gov.raisePhase, Gov.mark_eq, Gov.get_set_apart, H]

theorem Gov.dropPhase_get (g : Gov) (p : Nat) {f : Fld} (H : [F.PH_STAT_ACTIVE p, F.PH_STAT_SHEDDING p].all f.apart = true) : (g.dropPhase p).get f = g.get f := by
  simp only [List.all_cons, List.all_nil, Bool.and_true, Bool.and_eq_true] at H
  simp [Gov.dropPhase, Gov.get_set_apart, H]

/-- An addition of phases writes the ACTIVE bits of phases in service that were off, and what follows the count. -/
theorem Gov.addPhases_get (g : Gov) (r n : Nat) {f : Fld} (H : [F.RAIL_STATE_N_ACT r, F.RAIL_TELE_IOUT r, F.RAIL_POUT_POUT r].all f.apart = true)
    (H' : ∀ p ∈ g.inService r, f.apart (F.PH_STAT_ACTIVE p) = true) : (g.addPhases r n).get f = g.get f := by
  unfold Gov.addPhases
  dsimp only
  split
  · rfl
  · rw [Gov.setRail_get, Gov.refreshAct_get _ _ H]
    exact Gov.each_same_mem (fun g => g.get f) _ (fun g p hp => g.raisePhase_get p (H' p (List.mem_of_mem_filter (List.mem_of_mem_take hp)))) _

end Sys2Proof.Machine
end

