-- ==== Sys2Proof/Laws/Power.lean ====
section
/-! SUPPORT. What leaves the power-state sequencer and its words alone: the shared operations of rails, regions, synthesizers, faults and fences. -/

namespace Sys2Proof.Machine

/-- The sequencer, and every field of its words (0x500 to 0x7FF), are the same in both states. -/
def Gov.samePower (g h : Gov) : Prop := h.pwr = g.pwr ∧ ∀ f : Fld, 0x500 ≤ f.off → f.off < 0x800 → h.get f = g.get f

variable {g h k : Gov}

theorem Gov.samePower.refl (g : Gov) : g.samePower g := ⟨Eq.refl _, fun _ _ _ => Eq.refl _⟩

theorem Gov.samePower.trans (a : g.samePower h) (b : h.samePower k) : g.samePower k :=
  ⟨b.1.trans a.1, fun f l u => (b.2 f l u).trans (a.2 f l u)⟩

theorem Gov.samePower.get (a : g.samePower h) (f : Fld) (l : 0x500 ≤ f.off := by decide) (u : f.off < 0x800 := by decide) : h.get f = g.get f := a.2 f l u

theorem Gov.samePower.flag (a : g.samePower h) (f : Fld) (l : 0x500 ≤ f.off := by decide) (u : f.off < 0x800 := by decide) : h.flag f = g.flag f := by
  unfold Gov.flag; rw [a.2 f l u]

theorem Gov.samePower.state (a : g.samePower h) : h.state = g.state := a.get F.PS_STAT_STATE

theorem Gov.samePower.psTo (a : g.samePower h) : h.psTo = g.psTo := a.get F.PS_STAT_TO

/-! ### Records and single stores, from the last one back -/

theorem Gov.samePower.setWord (a : g.samePower h) (o : Nat) (w : Word) (out : o < 0x500 ∨ 0x800 ≤ o) : g.samePower (h.setWord o w) :=
  a.trans ⟨Eq.refl _, fun f l u => by unfold Gov.get; rw [Gov.word_setWord_ne _ _ (by omega)]⟩

theorem Gov.samePower.set (a : g.samePower h) (f : Fld) (v : Nat) (out : f.off < 0x500 ∨ 0x800 ≤ f.off) : g.samePower (h.set f v) := a.setWord _ _ out

theorem Gov.samePower.mark (a : g.samePower h) (f : Fld) (out : f.off < 0x500 ∨ 0x800 ≤ f.off) : g.samePower (h.mark f) := a.set f 1 out

theorem Gov.samePower.inc (a : g.samePower h) (f : Fld) (n : Nat) (out : f.off < 0x500 ∨ 0x800 ≤ f.off) : g.samePower (h.inc f n) := a.set f _ out

theorem Gov.samePower.upd (a : g.samePower h) (f : Fld) (x : Nat → Nat) (out : f.off < 0x500 ∨ 0x800 ≤ f.off) : g.samePower (h.upd f x) := a.set f _ out

theorem Gov.samePower.sset (a : g.samePower h) (f : Fld) (v : Int) (out : f.off < 0x500 ∨ 0x800 ≤ f.off) : g.samePower (h.sset f v) := a.set f _ out

theorem Gov.samePower.set64 (a : g.samePower h) (o v : Nat) (out : 0x800 ≤ o) : g.samePower (h.set64 o v) :=
  (a.setWord _ _ (.inr out)).setWord _ _ (.inr (by omega))

theorem Gov.samePower.adv (a : g.samePower h) (t : Fin 250) : g.samePower (h.adv t) := a.trans ⟨Eq.refl _, fun _ _ _ => Eq.refl _⟩
theorem Gov.samePower.withPll (a : g.samePower h) (x : Bool) : g.samePower (h.withPll x) := a.trans ⟨Eq.refl _, fun _ _ _ => Eq.refl _⟩
theorem Gov.samePower.withHeld (a : g.samePower h) (x : Tab Word) : g.samePower (h.withHeld x) := a.trans ⟨Eq.refl _, fun _ _ _ => Eq.refl _⟩
theorem Gov.samePower.withFlt (a : g.samePower h) (x : FaultSt) : g.samePower (h.withFlt x) := a.trans ⟨Eq.refl _, fun _ _ _ => Eq.refl _⟩
theorem Gov.samePower.withCmd (a : g.samePower h) (x : CmdSt) : g.samePower (h.withCmd x) := a.trans ⟨Eq.refl _, fun _ _ _ => Eq.refl _⟩
theorem Gov.samePower.withEng (a : g.samePower h) (x : EngSt) : g.samePower (h.withEng x) := a.trans ⟨Eq.refl _, fun _ _ _ => Eq.refl _⟩
theorem Gov.samePower.withLed (a : g.samePower h) (x : LedSt) : g.samePower (h.withLed x) := a.trans ⟨Eq.refl _, fun _ _ _ => Eq.refl _⟩
theorem Gov.samePower.withFcu (a : g.samePower h) (x : FcuSt) : g.samePower (h.withFcu x) := a.trans ⟨Eq.refl _, fun _ _ _ => Eq.refl _⟩
theorem Gov.samePower.withHws (a : g.samePower h) (x : HwsSt) : g.samePower (h.withHws x) := a.trans ⟨Eq.refl _, fun _ _ _ => Eq.refl _⟩
theorem Gov.samePower.setSyn (a : g.samePower h) (s : Nat) (f : SynSt → SynSt) : g.samePower (h.setSyn s f) := a.trans ⟨Eq.refl _, fun _ _ _ => Eq.refl _⟩
theorem Gov.samePower.setRgn (a : g.samePower h) (s : Nat) (f : RegionSt → RegionSt) : g.samePower (h.setRgn s f) := a.trans ⟨Eq.refl _, fun _ _ _ => Eq.refl _⟩
theorem Gov.samePower.setRail (a : g.samePower h) (s : Nat) (f : RailSt → RailSt) : g.samePower (h.setRail s f) := a.trans ⟨Eq.refl _, fun _ _ _ => Eq.refl _⟩
theorem Gov.samePower.setPh (a : g.samePower h) (s : Nat) (f : PhaseSt → PhaseSt) : g.samePower (h.setPh s f) := a.trans ⟨Eq.refl _, fun _ _ _ => Eq.refl _⟩

theorem Gov.samePower.ite {c : Prop} [Decidable c] (h1 : g.samePower h) (h2 : g.samePower k) : g.samePower (if c then h else k) := by
  split <;> assumption

theorem Gov.samePower.each {α : Type} {f : Gov → α → Gov} (xs : List α) (a : g.samePower h) (step : ∀ h, ∀ x ∈ xs, g.samePower h → g.samePower (f h x)) : g.samePower (h.each xs f) :=
  Gov.each_keeps_mem (P := fun h => g.samePower h) xs step h a

theorem Gov.samePower.clearAll (a : g.samePower h) (fs : List Fld) (out : ∀ f ∈ fs, f.off < 0x500 ∨ 0x800 ≤ f.off) : g.samePower (h.clearAll fs) :=
  a.each _ fun _ f hf b => b.set _ _ (out f hf)

/-! ### Faults -/

theorem Gov.samePower.log (a : g.samePower h) (time type : Nat) (ps : List Nat) : g.samePower (h.log time type ps) := by
  refine a.trans ⟨besideFlt_pwr (Gov.log_besideFlt _ _ _ _), fun f l u => Gov.log_get _ _ _ _ ?_⟩
  simp only [logFields, Fld.apart, F.FLT_LOG_HEAD_HEAD, F.FLT_LOG_OVF_COUNT, List.all_cons, List.all_nil]; simp; omega

theorem Gov.samePower.queueRecord (a : g.samePower h) (r : Raise) : g.samePower (h.queueRecord r) := by
  have b := a.setWord W.FLT_REC_SEQ (BitVec.ofNat 32 ((h.word W.FLT_REC_SEQ).toNat + 1)) (.inr (by decide))
  unfold Gov.queueRecord
  exact .ite ((b.inc _ _ (.inr (by decide))).withFlt _) ((b.withFlt _).set _ _ (.inr (by decide)))

theorem Gov.samePower.recordRaise (a : g.samePower h) (r : Raise) : g.samePower (h.recordRaise r) := .ite a ((a.log _ _ _).queueRecord _)

theorem Gov.samePower.setTable (a : g.samePower h) (t : List Entry) : g.samePower (h.setTable t) := by
  unfold Gov.setTable
  exact (((a.withFcu _).set F.FCU_LIVE_LIVE _ (.inr (by decide))).upd F.FCU_LIVE_LIVE_PEAK _ (.inr (by decide))).each _ fun _ b _ c => c.set _ _ (.inr (by simp only [F.BT_FCU_RCNT]; omega))

theorem Gov.samePower.purge (a : g.samePower h) (pick : Entry → Bool) : g.samePower (h.purge pick) := .ite a ((a.setTable _).inc _ _ (.inr (by decide)))

theorem Gov.samePower.purgeAll (a : g.samePower h) : g.samePower h.purgeAll :=
  (((a.purge _).withFcu _).set F.FCU_HINT_STAT_ACTIVE _ (.inr (by decide))).set F.FCU_HINT_STAT_HELD _ (.inr (by decide))

theorem Gov.samePower.hold (a : g.samePower h) (o : Nat) : g.samePower (h.hold o) := .ite a (a.withHeld _)

theorem Gov.samePower.reactRaise (a : g.samePower h) (r : Raise) : g.samePower (h.reactRaise r) := by
  unfold Gov.reactRaise
  split
  · split
    · exact (a.mark _ (.inr (by simp only [F.FLT_QUAR_bit]; omega))).purge _
    · exact a
  · exact (a.mark F.FLT_CTRL_TRIPPED (.inr (by decide))).each _ fun _ k _ b => .ite ((b.hold _).set _ _ (.inr (by simp only [F.RAIL_CTRL_EN]; omega))) b
  · exact a

theorem Gov.samePower.resolve (a : g.samePower h) : g.samePower h.resolve :=
  (((a.withFlt _).each _ fun _ r _ b => (b.recordRaise r).reactRaise r).set F.FLT_CTRL_THROTTLED _ (.inr (by decide))).set F.FLT_CTRL_STOPPED _ (.inr (by decide))

theorem Gov.samePower.countRaise (a : g.samePower h) (src : Nat) : g.samePower (h.countRaise src) := by
  unfold Gov.countRaise
  split
  · exact a.set _ _ (.inr (by simp only [W.SG1_CNT]; omega))
  · exact a

theorem Gov.samePower.raise (a : g.samePower h) (src detail : Nat) (silent : Bool := false) : g.samePower (h.raise src detail silent) := by
  have b : g.samePower ((h.countRaise src).enlist src detail silent) := ((a.countRaise src).mark _ (.inr (by simp only [F.FLT_STATUS_bit]; omega))).withFlt _
  exact .ite a (.ite (a.countRaise src) (.ite b.resolve b))

theorem Gov.samePower.bollard (a : g.samePower h) (kind idx : Nat) : g.samePower (h.bollard kind idx) :=
  ((a.inc F.HLIM_ACT_CNT_COUNT _ (.inr (by decide))).log _ _ _).raise _ _

/-! ### Commands and fences -/

theorem Gov.samePower.fire (a : g.samePower h) (e : SigEvent) : g.samePower (h.fire e) :=
  a.trans ⟨besideCmd_pwr (Gov.fire_besideCmd _ _), fun _ _ _ => Gov.fire_get_outside _ _ (.inl (by omega))⟩

theorem Gov.samePower.takeUp (a : g.samePower h) : g.samePower h.takeUp := a.trans ⟨besideCmd_pwr (Gov.takeUp_besideCmd _), fun _ _ _ => Gov.takeUp_get _ _⟩

theorem Gov.samePower.post (a : g.samePower h) {n : Nat} (hn : n < 16) (ws : List Nat) (status : Nat) {params : List Nat} (hp : params.length ≤ 61) : g.samePower (h.post n ws status params) :=
  a.trans ⟨besideCmd_pwr (Gov.post_besideCmd _ _ _ _ _), fun _ _ _ => Gov.post_get _ _ _ _ _ hn hp (.inl (by omega))⟩

theorem Gov.samePower.commit (a : g.samePower h) {n : Nat} (hn : n < 16) (ws : List Nat) (status : Nat) (at_ : Option SigEvent) : g.samePower (h.commit n ws status at_) :=
  a.trans ⟨besideCmd_pwr (Gov.commit_besideCmd _ _ _ _ _), fun f l u => Gov.commit_get _ _ _ _ _ (by simp only [W.SUP_JOURNAL]; omega) (.inl (by omega))⟩

theorem Gov.answerPs_get (g : Gov) (status : Nat) {params : List Nat} (hp : params.length ≤ 61) {f : Fld} (l : 0x500 ≤ f.off) (u : f.off < 0x800) : (g.answerPs status params).get f = g.get f := by
  unfold Gov.answerPs
  split
  · rfl
  · next n _ =>
    dsimp only
    split
    · split
      · exact ((Gov.samePower.refl _).post n.isLt _ _ (by simp)).2 f l u
      · exact (((Gov.samePower.refl _).commit n.isLt _ _ _).post n.isLt _ _ hp).2 f l u
    · rfl

theorem Gov.answerPs_pwr (g : Gov) (status : Nat) {params : List Nat} (hp : params.length ≤ 61) : (g.answerPs status params).pwr = { g.pwr with cmdChan := none } := by
  unfold Gov.answerPs
  split
  · next e => rw [← e]
  · next n _ =>
    dsimp only
    split
    · split
      · exact ((Gov.samePower.refl _).post n.isLt _ _ (by simp)).1
      · exact (((Gov.samePower.refl _).commit n.isLt _ _ _).post n.isLt _ _ hp).1
    · rfl

/-! ### Rails -/

theorem Gov.samePower.refreshTele (a : g.samePower h) (r : Nat) : g.samePower (h.refreshTele r) :=
  (a.set (F.RAIL_TELE_IOUT r) _ (.inr (by simp only [F.RAIL_TELE_IOUT]; omega))).set (F.RAIL_POUT_POUT r) _ (.inr (by simp only [F.RAIL_POUT_POUT]; omega))

theorem Gov.samePower.refreshAct (a : g.samePower h) (r : Nat) : g.samePower (h.refreshAct r) :=
  (a.set (F.RAIL_STATE_N_ACT r) _ (.inr (by simp only [F.RAIL_STATE_N_ACT]; omega))).refreshTele r

theorem Gov.samePower.raisePhase (a : g.samePower h) (p : Nat) : g.samePower (h.raisePhase p) :=
  (a.mark (F.PH_STAT_ACTIVE p) (.inr (by simp only [F.PH_STAT_ACTIVE]; omega))).setPh _ _

theorem Gov.samePower.dropPhase (a : g.samePower h) (p : Nat) : g.samePower (h.dropPhase p) :=
  ((a.set (F.PH_STAT_ACTIVE p) _ (.inr (by simp only [F.PH_STAT_ACTIVE]; omega))).set (F.PH_STAT_SHEDDING p) _ (.inr (by simp only [F.PH_STAT_SHEDDING]; omega))).setPh _ _

theorem Gov.samePower.enterState (a : g.samePower h) (r st : Nat) : g.samePower (h.enterState r st) :=
  (a.set (F.RAIL_STATE_STATE r) _ (.inr (by simp only [F.RAIL_STATE_STATE]; omega))).setRail _ _

theorem Gov.samePower.abortShed (a : g.samePower h) (r : Nat) : g.samePower (h.abortShed r) := by
  unfold Gov.abortShed
  split
  · exact (((a.set _ _ (.inr (by simp only [F.PH_STAT_SHEDDING]; omega))).setPh _ _).inc _ _ (.inr (by simp only [F.RAIL_CNT_ABORT_COUNT]; omega))).setRail _ _
  · exact a

theorem Gov.samePower.setTarget (a : g.samePower h) (r e : Nat) : g.samePower (h.setTarget r e) :=
  .ite a ((a.set _ _ (.inr (by simp only [F.RAIL_STATE_TGT_ENTRY]; omega))).set _ _ (.inr (by simp only [F.RAIL_STATE_REACHED]; omega)))

theorem Gov.samePower.railOff (a : g.samePower h) (r : Nat) : g.samePower (h.railOff r) := by
  have b := (a.each (h.railPhases r) fun _ p _ b => b.dropPhase p).refreshAct r
  have c := ((b.set (F.RAIL_STATE_FSTOP r) 0 (.inr (by simp only [F.RAIL_STATE_FSTOP]; omega))).set (F.RAIL_STATE_REACHED r) 0 (.inr (by simp only [F.RAIL_STATE_REACHED]; omega))).set
    (F.RAIL_STATE_INWIN r) 0 (.inr (by simp only [F.RAIL_STATE_INWIN]; omega))
  unfold Gov.railOff
  dsimp only
  refine Gov.samePower.enterState (Gov.samePower.setRail ?_ _ _) _ _
  exact c

theorem Gov.samePower.setVcmd (a : g.samePower h) (r : Nat) (v : Int) : g.samePower (h.setVcmd r v) := by
  unfold Gov.setVcmd
  exact a.sset (F.RAIL_VCMD_VCMD r) _ (.inr (by simp only [F.RAIL_VCMD_VCMD]; omega))

theorem Gov.samePower.rampFrom (a : g.samePower h) (r : Nat) (v : Int) : g.samePower (h.rampFrom r v) := by
  have b := ((a.each (f := fun g p => if g.phaseOn p then g else g.raisePhase p) (h.inService r) fun _ p _ b => .ite b (b.raisePhase p)).refreshAct r).setVcmd r v
  have c := b.set (F.RAIL_STATE_REACHED r) 0 (.inr (by simp only [F.RAIL_STATE_REACHED]; omega))
  unfold Gov.rampFrom
  dsimp only
  refine Gov.samePower.enterState (Gov.samePower.setRail ?_ _ _) _ _
  exact c

theorem Gov.samePower.stopRail (a : g.samePower h) (r : Nat) : g.samePower (h.stopRail r) := by
  have b := (a.setRail r fun x => { x with psStop := true }).abortShed r
  unfold Gov.stopRail Gov.beginStop
  exact .ite (b.railOff r) (.ite (b.enterState r _) b)

theorem Gov.samePower.startRail (a : g.samePower h) (r : Nat) : g.samePower (h.startRail r) := by
  have b := a.setRail r fun x => { x with psStop := false }
  unfold Gov.startRail Gov.beginStart
  exact .ite b (.ite (b.enterState _ _) (.ite (b.enterState _ _) (.ite (b.enterState _ _) (.ite (b.rampFrom _ _) b))))

/-! ### Synthesizers and regions -/

theorem Gov.samePower.reglide (a : g.samePower h) (s : Nat) : g.samePower (h.reglide s) := by
  unfold Gov.reglide
  dsimp only
  refine Gov.samePower.set (.set ?_ _ _ (.inr (by simp only [F.FSYN_STAT_GLIDE]; omega))) _ _ (.inr (by simp only [F.FSYN_STAT_HELD]; omega))
  exact .ite a (a.setSyn _ _)

theorem Gov.samePower.retarget (a : g.samePower h) (s : Nat) : g.samePower (h.retarget s) := by
  unfold Gov.retarget
  refine .ite a ?_
  split
  · exact (a.set _ _ (.inr (by simp only [F.FSYN_FREQ_TGT]; omega))).reglide _
  · have b := fun v => a.set (F.FSYN_STAT_FLOOR s) v (.inr (by simp only [F.FSYN_STAT_FLOOR]; omega))
    have c := fun v => (b v).mark (F.FSYN_STAT_CLAMP s) (.inr (by simp only [F.FSYN_STAT_CLAMP]; omega))
    exact Gov.samePower.reglide (.set (.ite (.ite (c _) (((c _).setSyn _ _).bollard _ _)) ((b _).setSyn _ _)) _ _ (.inr (by simp only [F.FSYN_FREQ_TGT]; omega))) _

theorem Gov.samePower.stopSyn (a : g.samePower h) (s : Nat) : g.samePower (h.stopSyn s) :=
  (a.setSyn _ _).clearAll _ (by simp [F.FSYN_STAT_LOCK, F.FSYN_STAT_GLIDE, F.FSYN_STAT_HELD, F.FSYN_STAT_COAST, F.FSYN_STAT_FLOOR, F.FSYN_FREQ_CUR]; omega)

theorem Gov.samePower.closeEpisode (a : g.samePower h) (rg : Nat) : g.samePower (h.closeEpisode rg) :=
  .ite a (((((a.inc (F.DRP_RGN_EPI_COUNT rg) _ (.inr (by simp only [F.DRP_RGN_EPI_COUNT]; omega))).set64 (W.DRP_RGN_STIME_LO rg) _ (by simp only [W.DRP_RGN_STIME_LO]; omega)).log _ _ _).set
    (F.DRP_RGN_STAT_OPEN rg) _ (.inr (by simp only [F.DRP_RGN_STAT_OPEN]; omega))).set (F.DRP_RGN_STAT_DEPTH rg) _ (.inr (by simp only [F.DRP_RGN_STAT_DEPTH]; omega)))

theorem Gov.samePower.selectSource (a : g.samePower h) (rg sel alt : Nat) : g.samePower (h.selectSource rg sel alt) :=
  (a.set (F.DRP_RGN_MUX_SEL rg) _ (.inr (by simp only [F.DRP_RGN_MUX_SEL]; omega))).set (F.DRP_RGN_MUX_ALT rg) _ (.inr (by simp only [F.DRP_RGN_MUX_ALT]; omega))

theorem Gov.samePower.beginSwitch (a : g.samePower h) (rg sel alt : Nat) : g.samePower (h.beginSwitch rg sel alt) := by
  have b := fun x => ((a.selectSource rg sel alt).mark (F.DRP_RGN_MUX_BUSY rg) (.inr (by simp only [F.DRP_RGN_MUX_BUSY]; omega))).setRgn rg x
  exact .ite ((b _).closeEpisode rg) (b _)

theorem Gov.samePower.connect (a : g.samePower h) (rg : Nat) : g.samePower (h.connect rg) := by
  have b : ∀ x : RegionSt → RegionSt, g.samePower ((h.set (F.DRP_RGN_MUX_BUSY rg) 0).setRgn rg x) := fun x => (a.set _ _ (.inr (by simp only [F.DRP_RGN_MUX_BUSY]; omega))).setRgn rg x
  unfold Gov.connect
  dsimp only
  have c : ∀ (x : RegionSt → RegionSt) (s : Source), g.samePower (match s with | .syn k => ((h.set (F.DRP_RGN_MUX_BUSY rg) 0).setRgn rg x).retarget k | _ => (h.set (F.DRP_RGN_MUX_BUSY rg) 0).setRgn rg x) := fun x s => by
    split
    · exact (b x).retarget _
    · exact b x
  split
  · exact (Gov.samePower.ite ((c _ _).setSyn _ _) (c _ _)).retarget _
  · exact c _ _

theorem Gov.samePower.forceSource (a : g.samePower h) (rg sel alt : Nat) : g.samePower (h.forceSource rg sel alt) := by
  have b := a.selectSource rg sel alt
  exact (Gov.samePower.ite (b.closeEpisode rg) b).connect rg

theorem Gov.samePower.linkOff (a : g.samePower h) (p : Nat) : g.samePower (h.linkOff p) :=
  (a.set (linkField p) 0 (.inl (by unfold linkField; split <;> decide))).trans ⟨Eq.refl _, fun _ _ _ => Eq.refl _⟩

/-! ### Sleep and return -/

theorem Gov.samePower.stopEngine (a : g.samePower h) : g.samePower h.stopEngine := (((a.withPll _).withLed _).withEng _).withFcu _

theorem Gov.samePower.followVsel (a : g.samePower h) (r : Nat) : g.samePower (h.followVsel r) := a.setTarget r _

/-- The rails' return writes, beside what it does to the rails, that the first sample still has to publish its targets. -/
theorem Gov.samePower.returnRails (a : g.samePower h) : ∃ k, g.samePower k ∧ h.returnRails = k.withPwr { k.pwr with await := !k.byVsel } := by
  unfold Gov.returnRails
  dsimp only
  refine ⟨_, ?_, Eq.refl _⟩
  refine a.each _ fun h r _ b => ?_
  have c := b.setRail r fun x => { x with hold := false }
  have d := Gov.samePower.ite (c := ((h.setRail r fun x => { x with hold := false }).rail r).psStop = true) (c.startRail r) c
  exact .ite (d.followVsel r) d

theorem Gov.samePower.answerLeft (a : g.samePower h) (n : Nat) : g.samePower (h.answerLeft n) := by
  refine a.each _ fun h m hm b => ?_
  have hm : m < 16 := by unfold pilotChannels at hm; simpa using (List.mem_of_mem_filter hm)
  split
  · exact .ite (b.post hm _ _ (by simp)) (b.post hm _ _ (by simp))
  · exact b

theorem Gov.samePower.resumeWork (a : g.samePower h) : g.samePower h.resumeWork := (a.withFlt _).each _ fun _ k _ b => b.answerLeft k

theorem Gov.samePower.forwardWake (a : g.samePower h) : g.samePower h.forwardWake := .ite (a.withHws _) a

end Sys2Proof.Machine
end

