-- ==== Sys2Proof/Laws/Resolve.lean ====
section
/-! SUPPORT. What fault resolution leaves alone (R313 to R315). -/

namespace Sys2Proof.Machine

/-- The words that fault resolution writes: the log's and the record queue's, the reservation table's counts, quarantine bits, FLT_CTRL and the enables of rails. -/
def resolveWord (o : Nat) : Prop :=
  o = W.FLT_LOG_HEAD ∨ o = W.FLT_LOG_OVF ∨ o = W.FLT_REC_SEQ ∨ o = W.FLT_REC_DROP ∨ o = W.FLT_REC ∨ o = W.FCU_LIVE ∨ o = W.FCU_CNT_PURGE ∨ o = W.FLT_CTRL ∨
    (∃ b, o = (F.BT_FCU_RCNT b).off) ∨ (∃ b < 256, o = (F.FLT_QUAR_bit b).off) ∨ ∃ r < 8, o = (F.RAIL_CTRL_EN r).off

/-- A reading that the records and the words of resolution do not move. -/
structure ResolveFree {α : Type} (rd : Gov → α) : Prop where
  word : ∀ g o w, resolveWord o → rd (g.setWord o w) = rd g
  flt  : ∀ g x, rd (g.withFlt x) = rd g
  fcu  : ∀ g x, rd (g.withFcu x) = rd g
  held : ∀ g x, rd (g.withHeld x) = rd g

theorem raiseBerth_lt {src detail b : Nat} (h : raiseBerth src detail = some b) : b < 256 := by
  unfold raiseBerth at h
  split at h
  · simp only [Option.some.injEq] at h; omega
  · split at h
    · simp only [Option.some.injEq] at h; omega
    · exact absurd h (by simp)

section
variable {α : Type} {rd : Gov → α} (H : ResolveFree rd)
include H

theorem ResolveFree.set (g : Gov) {f : Fld} (v : Nat) (h : resolveWord f.off) : rd (g.set f v) = rd g := H.word _ _ _ h

theorem ResolveFree.log (g : Gov) (time type : Nat) (ps : List Nat) : rd (g.log time type ps) = rd g := by
  have a : rd ((g.logPut time type ps).set F.FLT_LOG_HEAD_HEAD ((g.flt.written + 1) % 8192)) = rd g := (H.set _ _ (.inl rfl)).trans (H.flt _ _)
  unfold Gov.log
  dsimp only
  split
  · exact (H.set _ _ (.inr (.inl rfl))).trans a
  · exact a

theorem ResolveFree.queueRecord (g : Gov) (r : Raise) : rd (g.queueRecord r) = rd g := by
  unfold Gov.queueRecord
  dsimp only
  split
  · rw [H.flt, Gov.inc_eq, H.set _ _ (by unfold resolveWord; simp [F.FLT_REC_DROP_COUNT, W.FLT_REC_DROP]), H.word _ _ _ (by unfold resolveWord; simp)]
  · rw [H.set _ _ (by unfold resolveWord; simp [F.FLT_REC_QUEUED, W.FLT_REC]), H.flt, H.word _ _ _ (by unfold resolveWord; simp)]

theorem ResolveFree.recordRaise (g : Gov) (r : Raise) : rd (g.recordRaise r) = rd g := by
  unfold Gov.recordRaise
  dsimp only
  split
  · rfl
  · rw [H.queueRecord, H.log]

theorem ResolveFree.purge (g : Gov) (pick : Entry → Bool) : rd (g.purge pick) = rd g := by
  unfold Gov.purge
  dsimp only
  split
  · rfl
  · rw [Gov.inc_eq, H.set _ _ (by unfold resolveWord; simp [F.FCU_CNT_PURGE_COUNT, W.FCU_CNT_PURGE])]
    unfold Gov.setTable
    dsimp only
    rw [Gov.each_same rd (fun g b => H.set _ _ (by unfold resolveWord; exact .inr (.inr (.inr (.inr (.inr (.inr (.inr (.inr (.inl ⟨b, rfl⟩))))))))))]
    rw [Gov.upd_eq, H.set _ _ (by unfold resolveWord; simp [F.FCU_LIVE_LIVE_PEAK, W.FCU_LIVE]), H.set _ _ (by unfold resolveWord; simp [F.FCU_LIVE_LIVE, W.FCU_LIVE]), H.fcu]

theorem ResolveFree.reactRaise (g : Gov) (r : Raise) : rd (g.reactRaise r) = rd g := by
  unfold Gov.reactRaise
  split
  · split
    · next b hb => exact (H.purge _ _).trans (H.set _ _ (.inr (.inr (.inr (.inr (.inr (.inr (.inr (.inr (.inr (.inl ⟨b, raiseBerth_lt hb, rfl⟩)))))))))))
    · rfl
  · refine (Gov.each_same_mem rd _ (fun g k hk => ?_) _).trans (H.set _ _ (by unfold resolveWord; simp [F.FLT_CTRL_TRIPPED, W.FLT_CTRL]))
    split
    · refine (H.set _ _ (.inr (.inr (.inr (.inr (.inr (.inr (.inr (.inr (.inr (.inr ⟨k, List.mem_range.1 hk, rfl⟩))))))))))).trans ?_
      unfold Gov.hold
      split
      · rfl
      · exact H.held _ _
    · rfl
  · rfl

theorem ResolveFree.levels (g : Gov) : rd g.levels = rd g := by
  unfold Gov.levels
  dsimp only
  rw [H.set _ _ (by unfold resolveWord; simp [F.FLT_CTRL_STOPPED, W.FLT_CTRL]), H.set _ _ (by unfold resolveWord; simp [F.FLT_CTRL_THROTTLED, W.FLT_CTRL])]

/-- Fault resolution does not move such a reading. -/
theorem ResolveFree.resolve (g : Gov) : rd g.resolve = rd g := by
  unfold Gov.resolve
  dsimp only
  rw [H.levels]
  refine (Gov.each_same rd (fun g r => ?_) _ _).trans (H.flt _ _)
  rw [H.reactRaise, H.recordRaise]

end

theorem resolveFree_pll : ResolveFree Gov.pll := ⟨fun _ _ _ _ => by simp, fun _ _ => by simp, fun _ _ => by simp, fun _ _ => by simp⟩
theorem resolveFree_led : ResolveFree Gov.led := ⟨fun _ _ _ _ => by simp, fun _ _ => by simp, fun _ _ => by simp, fun _ _ => by simp⟩
theorem resolveFree_get {f : Fld} (h : ¬ resolveWord f.off) : ResolveFree (fun g => g.get f) :=
  ⟨fun g o w ho => by unfold Gov.get; rw [Gov.word_setWord_ne _ _ (fun e => h (by rw [e]; exact ho))], fun _ _ => by simp, fun _ _ => by simp, fun _ _ => by simp⟩

/-- The raises that awaited resolution are those that a log, a record or a reaction leaves: none after it. -/
theorem Gov.resolve_pending (g : Gov) : g.resolve.flt.pending = [] := by
  have a : ∀ (h : Gov) (f : Fld) v, (h.set f v).flt.pending = h.flt.pending := fun _ _ _ => by simp
  have lg : ∀ (h : Gov) (time type : Nat) (ps : List Nat), (h.log time type ps).flt.pending = h.flt.pending := fun h _ _ _ => by
    unfold Gov.log
    dsimp only
    split <;> simp [Gov.inc_eq, Gov.logPut]
  have qr : ∀ (h : Gov) (r : Raise), (h.queueRecord r).flt.pending = h.flt.pending := fun h r => by
    unfold Gov.queueRecord
    dsimp only
    split <;> simp
  have rr : ∀ (h : Gov) (r : Raise), (h.recordRaise r).flt.pending = h.flt.pending := fun h r => by
    unfold Gov.recordRaise
    dsimp only
    split
    · rfl
    · rw [qr, lg]
  have pg : ∀ (h : Gov) (p : Entry → Bool), (h.purge p).flt.pending = h.flt.pending := fun h p => by
    unfold Gov.purge
    dsimp only
    split
    · rfl
    · rw [Gov.inc_eq, a]
      unfold Gov.setTable
      dsimp only
      rw [Gov.each_same (fun h => h.flt.pending) (fun h b => a _ _ _), Gov.upd_eq, a, a, Gov.withFcu_flt]
  have re : ∀ (h : Gov) (r : Raise), (h.reactRaise r).flt.pending = h.flt.pending := fun h r => by
    unfold Gov.reactRaise
    split
    · split
      · exact (pg _ _).trans (a _ _ _)
      · rfl
    · refine (Gov.each_same (fun h => h.flt.pending) (fun h k => ?_) _ _).trans (a _ _ _)
      split
      · rw [a]
        unfold Gov.hold
        split
        · rfl
        · simp
      · rfl
    · rfl
  unfold Gov.resolve Gov.levels
  dsimp only
  rw [a, a]
  refine (Gov.each_same (fun h => h.flt.pending) (fun h r => ?_) _ _).trans ?_
  · rw [re, rr]
  · simp

end Sys2Proof.Machine
end

