-- ==== Sys2Proof/WellFormed.lean ====
section
/-! DEFINITION. Which terms stand for a command that the outside can send: lists that name each sensor, loop or destination at most once, and numbers that fit their fields. The meanings are total, so they answer on other terms too; no statement depends on that. -/

namespace Sys2Proof

/-- No element stands twice in a list. -/
def noRepeat {α : Type} [DecidableEq α] : List α → Bool
  | [] => true
  | x :: xs => !xs.contains x && noRepeat xs

/-- The number of sensors of a class that a sample latches (R87): thermal sensors, remote-sense pairs, phases, path monitors. -/
def latchedSensors (cls : Nat) : Nat :=
  if cls = 1 then 384 else if cls = 4 then 8 else if cls = 8 then 64 else if cls = 0xB then 128 else 0

/-- A destination as DETAIL of source 258 names it: level in [11:10], number in [9:0] (R312). -/
def destOk (v : BitVec 12) : Bool :=
  let lvl := v.toNat / 1024
  decide (v.toNat % 1024 < (if lvl = 0 then 256 else if lvl = 1 then 8 else if lvl = 2 then 1 else 16))

/-- The inputs of a sample. -/
def SampleIn.wf (x : SampleIn) : Bool :=
  noRepeat (x.captures.map (·.berth)) && noRepeat x.badSensors && x.badSensors.all (fun v => decide (v % 4096 < latchedSensors (v / 4096))) &&
    noRepeat x.badLoops && noRepeat x.badDests && x.badDests.all destOk && noRepeat (x.badEntries.map (·.num)) && x.badEntries.all (fun e => decide (e.num.toNat < 40960))

/-- A slot's fields fit the widths of R266. -/
def Slot.wf (x : Slot) : Bool :=
  decide (x.node < 64) && decide (x.flags < 2 ^ 8) && decide (x.job < 2 ^ 16) && decide (x.step < 2 ^ 32) && decide (x.prog < 2 ^ 16) &&
    decide (x.base < 2 ^ 16) && decide (x.floor < 2 ^ 16) && decide (x.ceil < 2 ^ 16) && decide (x.cap < 2 ^ 16) && decide (x.t1 < 2 ^ 32) && decide (x.t4 < 2 ^ 32) && decide (x.stop < 2 ^ 16)

/-- A collective block's fields fit the widths of R286. -/
def Block.wf (x : Block) : Bool :=
  decide (x.start < 2 ^ 48) && decide (x.span < 2 ^ 32) && decide (x.n < 2 ^ 32) && decide (x.contrib < 2 ^ 64) && decide (x.mean < 2 ^ 64) && decide (x.sum < 2 ^ 64) && decide (x.m2 < 2 ^ 128)

/-- A frame's fields fit the widths of R264 to R266, and no node has two slots. -/
def Frame.wf (x : Frame) : Bool :=
  decide (x.fctr < 2 ^ 32) && decide (x.tmark < 2 ^ 64) && decide (x.path < 2 ^ 32) && decide (x.hop < 2 ^ 8) && decide (1 ≤ x.nodes) && decide (x.nodes ≤ 64) && x.slots.all Slot.wf && noRepeat (x.slots.map (·.node) ++ x.badSlots) &&
    x.badSlots.all (fun n => decide (n < 64)) && x.run.all Block.wf && x.result.all Block.wf

/-- The term stands for a command. -/
def Instr.wf : Instr → Bool
  | .powerOnReset => true
  | .rstNAssert => true
  | .rstNRelease _ => true
  | .brownOut => true
  | .bootComplete _ _ => true
  | .epochAdvance _ _ => true
  | .baseTick => true
  | .sampleTick inp => inp.wf
  | .sluiceTick ups _ => noRepeat ups
  | .berthRetireComplete _ _ => true
  | .thermalSweepComplete codes _ => noRepeat (codes.map (·.1))
  | .pathMonitorSweep codes _ => noRepeat (codes.map (·.1))
  | .phaseCurrentConversion codes _ => noRepeat (codes.map (·.1))
  | .shedComplete _ _ => true
  | .remoteSenseConversion _ _ _ => true
  | .compensatorRequest _ _ _ => true
  | .feedForwardRequest _ _ _ => true
  | .railPeriodStart _ _ => true
  | .railOnDelayExpiry _ _ => true
  | .railPgoodDelayExpiry _ _ => true
  | .railOffDelayExpiry _ _ => true
  | .railDischargeExpiry _ _ => true
  | .phaseOvercurrent _ _ => true
  | .phaseFault _ _ => true
  | .vcoreClampEngage _ => true
  | .overloadBinEnd _ _ => true
  | .syncInEdge _ _ => true
  | .syncLoss _ => true
  | .stageFault _ => true
  | .pwrbrkAssert _ => true
  | .pwrbrkRelease _ => true
  | .vselChange _ _ => true
  | .thermalTrip _ => true
  | .berthErr _ _ => true
  | .acctToggle _ _ _ _ => true
  | .fcstChange _ _ _ => true
  | .psAnswer _ _ _ _ _ _ => true
  | .psHoldTimeout _ => true
  | .psExitAckTimeout _ => true
  | .entryGatesClosed _ => true
  | .retAssert _ => true
  | .biasSettleExpiry _ => true
  | .entryComplete _ => true
  | .offNoticeRepeat _ => true
  | .pllLock _ => true
  | .retRelease _ => true
  | .exitRegionsRestore _ => true
  | .linkActRise _ _ => true
  | .wakeNAssert _ => true
  | .hawserWakeDetect _ _ => true
  | .wakeTimerFire _ => true
  | .autoIdleRequest _ => true
  | .droopCrossing _ _ => true
  | .stretchEscalate _ _ => true
  | .stretchHoldExpiry _ _ => true
  | .stretchReleaseStep _ _ => true
  | .detectorStuck _ _ => true
  | .fsynLock _ _ => true
  | .fsynGlideStep _ _ => true
  | .coastEntry _ _ => true
  | .coastExit _ _ => true
  | .clkmonWindow _ syns rgns _ _ => syns.length == 16 && rgns.length == 16
  | .regionSwitchComplete _ _ => true
  | .regionSwitchHang _ _ => true
  | .autoForce _ _ => true
  | .trimWindowEnd _ _ => true
  | .hintWordArrival _ _ _ _ => true
  | .hintNop _ => true
  | .reserve _ => true
  | .confirm _ => true
  | .retract _ => true
  | .release _ => true
  | .hint _ => true
  | .cancel _ => true
  | .reservationExpire _ _ _ _ => true
  | .confirmedLifetimeEnd _ _ _ _ => true
  | .hintActivate _ _ => true
  | .hintExpire _ _ => true
  | .registerWrite _ _ _ => true
  | .regPairRead _ _ => true
  | .sg1CounterRead _ _ => true
  | .traceDrainRead _ _ _ => true
  | .loopSlotEnable _ _ _ _ => true
  | .stateWordWrite _ _ _ _ => true
  | .periodWrite _ _ => true
  | .periodChange => true
  | .pcapEnable _ _ => true
  | .steadyEnable _ _ => true
  | .hlimWrite _ _ _ => true
  | .fsynEnable _ _ _ => true
  | .regionSwitch _ _ _ => true
  | .regionForce _ _ _ => true
  | .railEnable _ _ _ => true
  | .railDisable _ _ _ => true
  | .railCommit _ _ _ => true
  | .phaseOosWrite _ _ _ => true
  | .tblLoad _ _ _ => true
  | .mtRaise _ _ _ => true
  | .mtLower _ _ _ => true
  | .mtRestartWindow _ _ _ => true
  | .mtHeldStepApply _ _ => true
  | .mtWindowDecision _ _ => true
  | .mtRestore _ _ _ => true
  | .hbmTempWrite _ _ _ => true
  | .hbmTempTimeout _ _ => true
  | .sensorBrokenClear _ _ _ => true
  | .berthPresentSet _ _ _ => true
  | .berthPresentClear _ _ _ => true
  | .quarantineRelease _ _ _ => true
  | .collectorBitClear _ _ _ => true
  | .reactionWrite _ _ _ => true
  | .suspectClear _ _ _ => true
  | .windowEnable _ _ => true
  | .windowDisable _ _ => true
  | .freezeWrite _ _ => true
  | .hawserEnable _ _ => true
  | .enumerate _ _ => true
  | .idlWake _ _ => true
  | .globalStopWrite _ _ => true
  | .progressPublish _ _ => true
  | .jobStepClose _ => true
  | .psEntryRequest _ _ => true
  | .psExitRequest _ _ => true
  | .psCancel _ _ => true
  | .heartbeat _ _ => true
  | .heartbeatLapse _ => true
  | .pilotRestartRequest _ _ => true
  | .watchdogExpiry _ _ _ => true
  | .pilotTrap _ _ _ => true
  | .pilotPanic _ _ _ => true
  | .pilotRestartComplete _ _ => true
  | .govLockWrite _ _ => true
  | .hlimLockWrite _ _ => true
  | .harbourLockWrite _ _ => true
  | .fltLockWrite _ _ => true
  | .wdtLockWrite _ _ => true
  | .fcuCtrlClr _ _ => true
  | .drpCtrlClr _ _ => true
  | .regCtrlClr _ _ => true
  | .snsCtrlClr _ _ => true
  | .idlCtrlClr _ _ => true
  | .psCtrlClr _ _ => true
  | .fltCtrlClr _ _ => true
  | .cmdCfgClr _ _ => true
  | .trcCtrlClr _ _ => true
  | .watchArm _ _ => true
  | .watchHit _ => true
  | .commandTake _ _ _ _ => true
  | .replyRelease _ _ _ => true
  | .fenceWaitAbort _ _ _ => true
  | .requestWindowClear _ _ _ => true
  | .fenceWaitTimeout _ _ => true
  | .nop _ _ => true
  | .sessionOpen _ _ => true
  | .versionQuery _ _ => true
  | .updateBegin _ _ => true
  | .updateData _ _ => true
  | .updateFinish _ _ => true
  | .updateVerifyComplete _ _ => true
  | .flashOperationTimeout _ _ => true
  | .svnCommit _ _ => true
  | .regWrite _ _ => true
  | .regRead _ _ => true
  | .lawLoad _ _ => true
  | .lawUnload _ _ => true
  | .railTarget _ _ => true
  | .psRequest _ _ => true
  | .globalStop _ _ => true
  | .acctOpen _ _ => true
  | .accountOpenTick _ _ => true
  | .acctClose _ _ => true
  | .accountCloseCommit _ _ => true
  | .acctQuery _ _ => true
  | .statementSign _ => true
  | .stmtRead _ _ => true
  | .stmtRelease _ _ => true
  | .stmtList _ _ => true
  | .attestKey _ _ => true
  | .attestCert _ _ => true
  | .attestQuote _ _ => true
  | .tableLoad _ _ => true
  | .trimStep _ _ => true
  | .telemRead _ _ => true
  | .fenceReset _ _ => true
  | .fenceQuery _ _ => true
  | .entdaa _ _ => true
  | .setdasa _ _ => true
  | .rstdaa _ => true
  | .setEndpointId _ _ => true
  | .identify _ _ => true
  | .wake _ _ => true
  | .fruWrite _ _ => true
  | .fruRead _ _ => true
  | .faultStatus _ _ => true
  | .reflashBegin _ _ => true
  | .reflashData _ _ => true
  | .reflashFinish _ _ _ => true
  | .getTid _ => true
  | .getPldmVersion _ _ => true
  | .getPldmTypes _ => true
  | .getPldmCommands _ _ => true
  | .setEventReceiver _ _ => true
  | .eventMessageSupported _ => true
  | .eventMessageBufferSize _ _ => true
  | .getSensorReading _ _ => true
  | .getPdrRepositoryInfo _ => true
  | .getPdr _ _ => true
  | .pollForPlatformEventMessage _ _ => true
  | .faultRecordSend _ => true
  | .eventAcceptance _ => true
  | .frameOriginate _ => true
  | .frameReceive _ fr _ _ => fr.wf
  | .tugRound _ => true
  | .linkTrain _ _ => true
  | .linkUp _ _ => true
  | .linkDown _ _ => true
  | .segmentEntry _ => true
  | .nodeMissing _ _ => true
  | .timeStep => true
  | .stopCut _ => true
  | .scrubPass fixed bad _ _ => noRepeat (fixed.map (·.1)) && noRepeat bad
  | .scrubLate _ => true
  | .pllLockLoss _ => true
  | .extest _ _ => true
  | .idcode _ => true
  | .samplePreload _ _ => true
  | .bypass _ => true
  | .regacc _ _ _ _ => true
  | .ftest _ _ => true
  | .finj _ _ _ _ _ => true
  | .phasePeriodStart _ _ => true
  | .timebasePhaseZero _ _ => true
  | .detectorRelease _ _ => true
  | .brownOutRecovery _ => true
  | .alwaysOnSupplyRemoval => true
  | .badHintWord _ => true
  | .pilotSramUncorrectable _ addr _ => decide (addr < 0x40000)

end Sys2Proof
end

