-- ==== Sys2Proof/Tests/Slice0.lean ====
section
/-! SUPPORT. The model's own tests: ill-formed terms that the check refuses, words that spell no command, and a witness for the hypotheses of every statement. -/

open Sys2Proof Sys2Proof.Machine

/-! ### Ill-formed terms are refused -/

theorem test_wf_repeated_capture : (Instr.sampleTick { captures := [⟨3, 0, true, 0⟩, ⟨3, 1, true, 0⟩] }).wf = false := by decide
theorem test_wf_repeated_bad_sensor : (Instr.sampleTick { badSensors := [0x1001, 0x1001] }).wf = false := by decide
theorem test_wf_unlatched_sensor : (Instr.sampleTick { badSensors := [0x4008] }).wf = false := by decide
theorem test_wf_repeated_bad_loop : (Instr.sampleTick { badLoops := [5, 5] }).wf = false := by decide
theorem test_wf_repeated_bad_dest : (Instr.sampleTick { badDests := [7, 7] }).wf = false := by decide
theorem test_wf_no_such_rail : (Instr.sampleTick { badDests := [0x408] }).wf = false := by decide
theorem test_wf_no_such_die : (Instr.sampleTick { badDests := [0x801] }).wf = false := by decide
theorem test_wf_no_such_region : (Instr.sampleTick { badDests := [0xC10] }).wf = false := by decide
theorem test_wf_no_such_entry : (Instr.sampleTick { badEntries := [⟨40960, 0, 0, 0⟩] }).wf = false := by decide
theorem test_wf_repeated_entry : (Instr.sampleTick { badEntries := [⟨7, 0, 0, 0⟩, ⟨7, 1, 0, 0⟩] }).wf = false := by decide
theorem test_wf_sample : (Instr.sampleTick { captures := [⟨3, 0, true, 0⟩], badSensors := [0x4007], badLoops := [5], badDests := [0xC0F], badEntries := [⟨40959, 0, 0, 0⟩] }).wf = true := by decide
theorem test_wf_repeated_upset : (Instr.sluiceTick [1, 1] 0).wf = false := by decide
theorem test_wf_repeated_thermal : (Instr.thermalSweepComplete [(1, 0), (1, 0)] 0).wf = false := by decide
theorem test_wf_repeated_path : (Instr.pathMonitorSweep [(1, 0), (1, 0)] 0).wf = false := by decide
theorem test_wf_repeated_phase : (Instr.phaseCurrentConversion [(1, 0), (1, 0)] 0).wf = false := by decide
theorem test_wf_short_counts : (Instr.clkmonWindow 64 [] (List.replicate 16 64) false 0).wf = false := by decide
theorem test_wf_repeated_scrub : (Instr.scrubPass [(0, 1), (0, 2)] [] 0 0).wf = false := by decide
theorem test_wf_repeated_bad_word : (Instr.scrubPass [] [(0, 1, 2), (0, 1, 2)] 0 0).wf = false := by decide
theorem test_wf_pilot_address : (Instr.pilotSramUncorrectable 0 0x40000 0).wf = false := by decide

/-- A slot whose fields are all 0, and a frame with the slots given. -/
def Test.slot : Slot := ⟨0, 0, 0, 0, 0, 0, 0, 0, 0, 0, 0, 0⟩
def Test.frame (slots : List Slot) : Frame := ⟨true, 0, 0, 0, 0, 1, false, slots, [], none, none⟩

theorem test_wf_slot_node : (Instr.frameReceive 0 (Test.frame [{ Test.slot with node := 64 }]) 0 0).wf = false := by decide
theorem test_wf_slot_flags : (Instr.frameReceive 0 (Test.frame [{ Test.slot with flags := 0x100 }]) 0 0).wf = false := by decide
theorem test_wf_two_slots_of_a_node : (Instr.frameReceive 0 (Test.frame [Test.slot, Test.slot]) 0 0).wf = false := by decide
theorem test_wf_slot_good_and_bad : (Instr.frameReceive 0 { Test.frame [Test.slot] with badSlots := [0] } 0 0).wf = false := by decide
theorem test_wf_bad_slot_node : (Instr.frameReceive 0 { Test.frame [] with badSlots := [64] } 0 0).wf = false := by decide
theorem test_wf_frame_nodes : (Instr.frameReceive 0 { Test.frame [] with nodes := 0 } 0 0).wf = false := by decide
theorem test_wf_frame_hop : (Instr.frameReceive 0 { Test.frame [] with hop := 256 } 0 0).wf = false := by decide
theorem test_wf_block : (Instr.frameReceive 0 { Test.frame [] with run := some ⟨2 ^ 48, 0, 0, 0, 0, 0, 0⟩ } 0 0).wf = false := by decide +kernel
theorem test_wf_frame : (Instr.frameReceive 0 (Test.frame [Test.slot]) 0 0).wf = true := by decide

/-! ### The table gives no row bits -/

theorem test_no_word_is_a_command : decodeTableWord 32 0x12345678 = none := by decide

/-! ### States that meet the hypotheses of the statements -/

section

-- One witness at a time: evaluated side by side, they take more threads than the memory limit of the check holds.
set_option Elab.async false

/-- RUN with a session, the pilots running and the PLL locked, at 4 ms and 12 ns. -/
def Test.run : Gov :=
  ([(F.SUP_STAT_MODE, 1), (F.SUP_STAT_SESSION, 1), (F.FWP_PSTATE_STATE 0, 2), (F.FWP_PSTATE_STATE 1, 2), (F.FWP_PSTATE_STATE 2, 2)] : List (Fld × Nat)).foldl
    (fun g p => g.set p.1 p.2) { State.reset.gov with pll := true, now := 4000012 }

/-- That state with the fields given, and with a change beside the registers. -/
def Test.on (fs : List (Fld × Nat)) (f : Gov → Gov := id) : State := { gov := f (fs.foldl (fun g p => g.set p.1 p.2) Test.run) }

/-- A privileged write with right parity. -/
def Test.wr (w : Word) : PortWrite := { data := w, par := BitVec.ofNat 4 (wordParity w), priv := true }

/-- The state 20 ns into its base tick. -/
abbrev Test.at (s : State) : Gov := s.gov.reach 20

/-- As `Gov.writesNow` at that instant. -/
def Test.writes (s : State) (off : Nat) (wr : PortWrite) : Bool := s.gov.up && (Test.at s).takes off wr && (!(Test.at s).asleep || alwaysOn off)

theorem Test.writes_iff (s : State) (off : Nat) (wr : PortWrite) : Test.writes s off wr = true ↔ s.gov.writesNow 20 off wr := by
  simp [Test.writes, Gov.writesNow, and_assoc]

/-- A request packet of channel n: its opcode and parameters, no fence, with its CRC. -/
def Test.packet (n op : Nat) (ps : List Nat) : List Nat :=
  let body := [op * 2 ^ 24 + (ps.length + 3) * 2 ^ 16 + n * 2 ^ 12, 5 * 2 ^ 16] ++ ps
  body ++ [crcWords body]

/-- The state in which that packet is being served. -/
def Test.asked (n op : Nat) (ps : List Nat) (fs : List (Fld × Nat) := []) (f : Gov → Gov := id) : State :=
  Test.on ((F.CMD_STAT_TAKEN n, 1) :: fs) fun g =>
    let g := g.withFirm { g.firm with feat := 0x7FFFFF, major := true }
    f (g.withCmd { g.cmd with reqs := [(n, { words := Test.packet n op ps, phase := .begun, taken := 1000, doom := none })] })

/-- As `Gov.serves` at that instant. -/
def Test.serves (s : State) (n op : Nat) (ps : List Nat) : Bool :=
  s.gov.up && (Test.at s).servedNow n && (((Test.at s).req n).map fun r => (r.words, r.doom)) == some (Test.packet n op ps, none) && pkOpcode (Test.packet n op ps) == op &&
    check7 n (Test.packet n op ps) == none && (Test.at s).check8 (Test.packet n op ps) == none

theorem Test.serves_of {s : State} {n op : Nat} {ps : List Nat} (h : Test.serves s n op ps = true) : s.gov.serves 20 n op (Test.packet n op ps) := by
  simp only [Test.serves, Bool.and_eq_true, beq_iff_eq] at h
  obtain ⟨⟨⟨⟨⟨h1, h2⟩, h3⟩, h4⟩, h5⟩, h6⟩ := h
  obtain ⟨r, hr, he⟩ := Option.map_eq_some_iff.1 h3
  exact ⟨h1, h2, ⟨r, hr, (Prod.ext_iff.1 he).1, (Prod.ext_iff.1 he).2⟩, h4, h5, h6⟩

/-- The number of a packet's parameters passes. -/
def Test.counts (n op : Nat) (ps : List Nat) (ok : Nat → Bool) : Bool := paramCount (Test.packet n op ps) ok

theorem witness_StateRules : (∃ s', step State.reset = .next s') ∧ Tab.wf (fun _ => 0xFF#8) State.reset.keep.flash = true ∧ State.reset.keep.svn ≤ 64 ∧ State.reset.keep.epoch < 2 ^ 32 := ⟨⟨_, rfl⟩, by decide⟩

theorem witness_QuietMoves : (Test.on []).gov.inner ((Test.on []).gov.adv 20).now = none ∧ (Test.on []).gov.exitReady = false := by decide +kernel

theorem witness_ResetValues :
    (Test.on [] fun g => { g with rst := true }).gov.rst = true ∧ (Test.on [] fun g => { g with rst := true }).gov.dark = false ∧ (Test.on []).gov.dark = false ∧
    (Test.on [] fun g => { g with brown := true }).gov.brown = true ∧ (Test.on [] fun g => { g with brown := true }).gov.rst = false ∧
    (∃ f ∈ fieldsAt W.ENG_CFG, W.ENG_CFG ∉ [W.FWP_SVN, W.PS_WAKE_STAT, W.GOV_STRAP] ∧ specialReset Test.run.fuses W.ENG_CFG = none ∧ f.lo = 0) := by decide +kernel

theorem witness_PortAnswers :
    let s := Test.on []
    let z := Test.on [(F.PS_STAT_STATE, stSleep)]
    s.gov.up = true ∧ z.gov.up = true ∧ (Test.at s).asleep = false ∧ (Test.at z).asleep = true ∧ 4 * (0x400 : BitVec 18).toNat = 0x1000 ∧
    ({ Test.wr 1 with par := 0 } : PortWrite).par.toNat ≠ wordParity 1 ∧ (Test.wr 1).par.toNat = wordParity 1 ∧ fieldsAt (4 * (0x3FFFF : BitVec 18).toNat) = [] ∧
    fieldsAt W.GOV_LOCK ≠ [] ∧ openWord W.GOV_LOCK = false := by decide +kernel

theorem witness_PairReads :
    let s := Test.on []
    let x := Test.on [] fun g => g.withPairs [(W.PS_WAKE_TIME_LO, 5)]
    s.gov.up = true ∧ x.gov.up = true ∧ (Test.at s).asleep = false ∧ pairLow W.PS_WAKE_TIME_LO = true ∧ pairLow (W.PS_WAKE_TIME_LO + 4) = false ∧
    (Test.at x).pairs.find? (fun p => p.1 == W.PS_WAKE_TIME_LO) = some (W.PS_WAKE_TIME_LO, 5) ∧ (Test.at s).pairs.find? (fun p => p.1 == W.PS_WAKE_TIME_LO) = none ∧
    pairLow 0 = false ∧ pairLow W.ENG_CFG = false ∧ pairLow (W.ENG_CFG - 4) = false ∧ (W.ENG_CFG < 0x61000) := by decide +kernel

theorem witness_WritesByAccessCode :
    let s := Test.on []
    s.gov.up = true ∧ ∀ off ∈ [W.GOV_LOCK, W.GOV_IRQ_SRC, 0xFC], off < 0x100 ∧ 4 * (BitVec.ofNat 18 (off / 4)).toNat = off ∧ ((fieldsAt off).isEmpty = true ∨ ((Test.at s).takes off (Test.wr 1) = true ∧ writable off = true)) := by decide +kernel

theorem witness_BootCompletes :
    let s : State := {}
    s.gov.up = true ∧ (Test.at s).asleep = false ∧ (Test.at s).booting = true ∧ imageFault s.keep.flash (Test.at s).fuses.keyHash s.keep.svn false = some 6 := by decide +kernel

theorem witness_EpochAdvances :
    let g0 := Test.at (Test.on [])
    g0.pilotServes 1 = true ∧ g0.led.epochUp = false ∧ g0.flag F.LDG_STATUS_EPOCH_BAD = false := by decide +kernel

theorem witness_PinInputs :
    let s := Test.on [(F.BT_CFG_PRESENT 255, 1)]
    let v := Test.on [(F.GOV_STRAP_VSEL_EN, 1)]
    s.gov.up = true ∧ v.gov.up = true ∧ (Test.at s).byVsel = false ∧ (Test.at v).byVsel = true ∧ (Test.at v).psRails = false ∧ (Test.at s).asleep = false ∧ s.keep.trip = false ∧ (Test.at s).present 255 = true := by decide +kernel

theorem witness_BerthInputs : (Test.on [(F.BT_CFG_PRESENT 255, 1)]).gov.engine = true ∧ (Test.at (Test.on [(F.BT_CFG_PRESENT 255, 1)])).present 255 = true ∧
    (Test.at (Test.on [(F.BT_CFG_PRESENT 255, 1)])).get (F.BT_ACCT_ACCT 255) ≠ 7 := by decide +kernel

theorem witness_BaseTicks :
    let s := Test.on [(F.RAIL_STATE_STATE 7, rOn)]
    let next := (s.gov.now / 250 + 1) * 250
    let g1 := s.gov.moveTo (next - 1) (next - 1)
    s.gov.up = true ∧ g1.now < next ∧ g1.asking = false ∧ g1.pwr.step ≠ 5 ∧ g1.rstate 7 ≠ rOff := by decide +kernel

theorem witness_SampleTicks : (Test.on [(F.LS_CTRL_EN 3, 1)] fun g => g.withNow 4000000).gov.tickDue = true := by decide +kernel

theorem witness_SluiceTicks :
    let s := Test.on [(F.BT_CFG_PRESENT 0, 1), (F.BT_CFG_PRESENT 255, 1), (F.BT_CFG_REGION 255, 15), (F.DRP_RGN_MUX_SEL 15, 3)] fun g => (g.setRgn 15 fun x => { x with out := .off }).withFcu { g.fcu with tickAt := some 4000010 }
    let g0 := s.gov.past 20
    s.gov.engine = true ∧ g0.fcu.tickAt = some 4000010 ∧ 4000010 + 10 ≤ g0.now ∧ g0.asleep = false ∧ g0.present 255 = true ∧ g0.clocked (g0.regionOf 0) = true ∧ g0.clocked (g0.regionOf 255) = false := by decide +kernel

theorem witness_BerthsAndPeriods :
    let s := Test.on [(F.BT_CFG_RETIRING 255, 1), (F.ENG_CFG_PERIOD, 2), (F.ENG_CFG_PER_PEND, 1)] fun g => g.withNow 4000000
    s.gov.engine = true ∧ (Test.at s).flag (F.BT_CFG_RETIRING 255) = true ∧ (Test.at s).actFlag (F.BT_CFG_PRESENT 255) = false ∧ (Test.at s).get (F.BT_GATE_GATE 255) = 0 ∧ s.gov.periodDue = true := by decide +kernel

/-- A hint word of an opcode with a berth, an account, an IGID and the low bits given, as the head of input 0. -/
def Test.word (op hi b a i lo : Nat) : BitVec 64 := BitVec.ofNat 64 (op * 2 ^ 60 + hi * 2 ^ 56 + b * 2 ^ 48 + a * 2 ^ 40 + i * 2 ^ 24 + lo)

/-- The state with that word waiting and with the entries given; berth 0 is present on account 5. -/
def Test.hinted (w : BitVec 64) (es : List Entry) (hs : List PhaseHint := []) : State :=
  Test.on [(F.BT_CFG_PRESENT 0, 1), (F.ACC_STAT_STATE 5, 1), (F.FCU_CFG_HORIZON, 100), (F.FCU_CLS_CFG_RAILMASK 2, 1), (F.FCU_CFG_IN_EN, 15)] fun g =>
    g.withFcu { g.fcu with fifos := [[(w, hintParity w)], [], [], []], table := es, hints := hs }

def Test.entry (st : ResState) (deadline confEnd : Nat) : Entry := { berth := 0, acct := 5, igid := 7, act := 9, start := 3, deadline := deadline, st := st, confEnd := confEnd }

theorem witness_HintEntries :
    let reserve := Test.word 1 0 0 5 7 (9 * 2 ^ 12 + 3 * 2 ^ 4)
    let later := Test.entry .opened 99999 0
    let sure := Test.entry .confirmed 99999 99999999
    (∀ s ∈ [Test.hinted 0 [], Test.hinted reserve [], Test.hinted (Test.word 2 0 0 5 7 0) [later], Test.hinted (Test.word 3 0 0 5 7 (7 * 2 ^ 8)) [later], Test.hinted (Test.word 4 0 0 5 7 (7 * 2 ^ 8)) [sure]],
      s.gov.engine = true ∧ ∀ e ∈ (Test.at s).fcu.table, (Test.at s).entryDue e = false) ∧
    (Test.at (Test.hinted 0 [])).nextHint = some (0, 0, .nop) ∧
    (Test.at (Test.hinted reserve [])).nextHint = some (0, reserve, .reserve) ∧ (Test.at (Test.hinted reserve [])).reserveBad 0 5 (bits reserve.toNat 4 8) (bits reserve.toNat 12 12) = none ∧
    (Test.at (Test.hinted (Test.word 2 0 0 5 7 0) [later])).nextHint = some (0, Test.word 2 0 0 5 7 0, .confirm) ∧ later.hasKey 0 5 7 = true ∧ later.st ≠ .confirmed ∧
    (Test.at (Test.hinted (Test.word 3 0 0 5 7 (7 * 2 ^ 8)) [later])).nextHint = some (0, Test.word 3 0 0 5 7 (7 * 2 ^ 8), .retract) ∧ rangeHit (Test.word 3 0 0 5 7 (7 * 2 ^ 8)) later = true ∧
    (Test.at (Test.hinted (Test.word 4 0 0 5 7 (7 * 2 ^ 8)) [sure])).nextHint = some (0, Test.word 4 0 0 5 7 (7 * 2 ^ 8), .release) ∧ rangeHit (Test.word 4 0 0 5 7 (7 * 2 ^ 8)) sure = true := by decide +kernel

theorem witness_HintClasses :
    let hint : BitVec 64 := BitVec.ofNat 64 (5 * 2 ^ 60 + 2 * 2 ^ 56 + 9 * 2 ^ 28)
    let cancel : BitVec 64 := BitVec.ofNat 64 (6 * 2 ^ 60 + 2 * 2 ^ 56)
    let held : PhaseHint := { cls := 2, upAt := 5, till := some 9 }
    (Test.hinted hint []).gov.engine = true ∧ (Test.hinted cancel [] [held]).gov.engine = true ∧ (Test.at (Test.hinted hint [])).fcu.table = [] ∧
    (Test.at (Test.hinted hint [])).nextHint = some (0, hint, .hint) ∧ (Test.at (Test.hinted hint [])).act (F.FCU_CLS_CFG_RAILMASK 2) ≠ 0 ∧
    (Test.at (Test.hinted cancel [] [held])).nextHint = some (0, cancel, .cancel) ∧ (Test.at (Test.hinted cancel [] [held])).hintOf 2 = some held ∧
    5 ≤ (Test.at (Test.hinted cancel [] [held])).now ∧ 9 ≤ (Test.at (Test.hinted cancel [] [held])).now := by decide +kernel

theorem witness_HintPort :
    let s := Test.hinted (Test.word 0xF 0 0 0 0 0) []
    s.gov.engine = true ∧ (Test.at s).hintReady 3 = true ∧ (Test.at s).hintEnabled 3 = true ∧ (Test.at (Test.on [])).hintReady 3 = true ∧ (Test.at (Test.on [])).hintEnabled 3 = false ∧
    (Test.at s).asleep = false ∧ (Test.at s).nextHint = some (0, Test.word 0xF 0 0 0 0 0, .bad) ∧
    (Test.at (Test.on [(F.FCU_CFG_IN_EN, 15)] fun g => g.withFcu { g.fcu with fifos := [[(0, 1)], [], [], []] })).nextHint = some (0, 0, .bad) ∧ hintKind 0 ≠ .bad := by decide +kernel

theorem witness_EntryEnds :
    let s := Test.hinted 0 [Test.entry .opened 100 0, Test.entry .confirmed 99999 1]
    s.gov.engine = true ∧ (Test.at s).entryDue (Test.entry .opened 100 0) = true ∧ (Test.at s).entryDue (Test.entry .confirmed 99999 1) = true ∧
    (Test.entry .opened 100 0).hasKey 0 5 7 = true := by decide +kernel

theorem witness_RailPeriodStarts :
    let s := Test.on [(F.RAIL_CTRL_EN 0, 1), (F.RAIL_CTRL_EN 7, 1), (F.RAIL_STATE_STATE 7, rOffDly), (F.RAIL_STATE_STATE 3, rOn)]
    let g0 := Test.at s
    s.gov.up = true ∧ g0.flag F.FLT_CTRL_TRIPPED = false ∧ (g0.rail 0).psStop = false ∧ (g0.rail 7).psStop = false ∧ (g0.rail 3).psStop = false ∧
    g0.flag (F.RAIL_STATE_FSTOP 0) = false ∧ g0.rstate 0 = rOff ∧ g0.flag (F.RAIL_STATE_FSTOP 7) = false ∧ g0.rstate 7 = rOffDly ∧ g0.flag (F.RAIL_CTRL_EN 3) = false ∧ g0.rstate 3 = rOn := by decide +kernel

theorem witness_RailTimedSteps :
    let s := Test.on [(F.RAIL_STATE_STATE 0, rOnDly), (F.RAIL_STATE_STATE 1, rOffDly), (F.RAIL_STATE_STATE 2, rDisch), (F.RAIL_STATE_STATE 7, rOn), (F.RAIL_DLY_ON_DLY 0, 1), (F.RAIL_DLY_OFF_DLY 1, 1), (F.RAIL_STOP_T_DIS 2, 1), (F.RAIL_WIN_PG_DLY 7, 1)] fun g => g.setRail 7 fun x => { x with goodAt := some 3999020 }
    let g0 := Test.at s
    s.gov.up = true ∧ g0.rstate 0 = rOnDly ∧ (g0.rail 0).stateAt + g0.act (F.RAIL_DLY_ON_DLY 0) * 1000 ≤ g0.now ∧ g0.rstate 1 = rOffDly ∧ (g0.rail 1).stateAt + g0.act (F.RAIL_DLY_OFF_DLY 1) * 1000 ≤ g0.now ∧
    g0.rstate 2 = rDisch ∧ (g0.rail 2).stateAt + g0.act (F.RAIL_STOP_T_DIS 2) * 1000 ≤ g0.now ∧ g0.rstate 7 = rOn ∧ (g0.rail 7).goodAt = some 3999020 ∧ 3999020 + g0.act (F.RAIL_WIN_PG_DLY 7) * 1000 = g0.now := by decide +kernel

theorem witness_CompensatorSteps :
    let s := Test.on [(F.RAIL_STATE_STATE 7, rOn)]
    s.gov.up = true ∧ (Test.at s).asleep = false ∧ (Test.at s).rstate 7 = rOn := by decide +kernel

theorem witness_SyncInput :
    let s := Test.on [(F.REG_SYNC_SYNC_EN, 1), (F.RAIL_CTRL_RDIV 7, 1)] fun g => g.withReg { g.reg with acquired := true, edgeAt := 100, edges := 15 }
    let g0 := Test.at s
    s.gov.up = true ∧ g0.perEff + g0.perEff / 200 < 2 ^ 18 ∧ (g0.rail 7).tbCount < g0.act (F.RAIL_CTRL_RDIV 7) ∧ g0.act (F.RAIL_CTRL_RDIV 0) ≤ (g0.rail 0).tbCount ∧
    (Test.at (Test.on [])).actFlag F.REG_SYNC_SYNC_EN = false ∧ g0.actFlag F.REG_SYNC_SYNC_EN = true ∧ g0.asleep = false ∧ g0.reg.acquired = true ∧ 20 * g0.perEff ≤ (g0.now - g0.reg.edgeAt) * 512 := by decide +kernel

theorem witness_FastLimits :
    let s := Test.on [(F.PH_STAT_ACTIVE 63, 1), (F.PH_OCF_OCF_N 0, 3), (F.PH_STAT_ACTIVE 0, 1)] fun g => g.setPh 0 fun x => { x with ocRun := 3, ocNow := true }
    let g0 := Test.at s
    s.gov.up = true ∧ g0.asleep = false ∧ g0.phaseOn 63 = true ∧ (g0.ph 63).ocNow = false ∧ (g0.ph 63).shed ≠ 2 ∧ (g0.ph 63).ocRun = 0 ∧ g0.phaseOn 0 = true ∧ (g0.ph 0).ocRun = 3 ∧ g0.act (F.PH_OCF_OCF_N 0) = 3 ∧ g0.reg.clamp = false := by decide +kernel

theorem witness_PhasePeriods :
    let s := Test.on [(F.PH_CTRL_ASSIGNED 63, 1), (F.PH_CTRL_ASSIGNED 0, 1), (F.PH_CTRL_ASSIGNED 1, 1)] fun g => (g.setPh 0 fun x => { x with shed := 1 }).setPh 1 fun x => { x with shed := 2 }
    let g0 := Test.at s
    s.gov.up = true ∧ (∀ p ∈ [0, 1, 63], g0.flag (F.PH_CTRL_ASSIGNED p) = true ∧ (g0.ph p).oosPend = false) ∧ (g0.ph 63).shed = 0 ∧ (g0.ph 0).shed = 1 ∧ (g0.ph 1).shed = 2 := by decide +kernel

theorem witness_OverloadBins :
    let s := Test.on [(F.RAIL_STATE_STATE 7, rOn), (F.RAIL_STATE_STATE 0, rOn), (F.RAIL_FLAGS_OL 0, 1), (F.RAIL_OL_OL_WIN 7, 4), (F.RAIL_OL_OL_WIN 0, 4)] fun g => (g.setRail 7 fun x => { x with binN := 100 }).setRail 0 fun x => { x with binN := 100 }
    let g0 := Test.at s
    s.gov.up = true ∧ g0.asleep = false ∧ (∀ r ∈ [0, 7], g0.rstate r ≠ rOff ∧ g0.act (F.RAIL_OL_OL_WIN r) * 25 ≤ (g0.rail r).binN) ∧ g0.flag (F.RAIL_FLAGS_OL 7) = false ∧ g0.flag (F.RAIL_FLAGS_OL 0) = true := by decide +kernel

theorem witness_Conversions :
    let s := Test.on [(F.RAIL_STATE_STATE 7, rOn), (F.RAIL_STATE_STATE 6, rRamp), (F.RAIL_STATE_INWIN 7, 1)] fun g => g.setRail 7 fun x => { x with outCnt := 7 }
    let g0 := Test.at s
    s.gov.up = true ∧ g0.rstate 0 = rOff ∧ g0.rstate 6 = rRamp ∧ g0.rstate 7 = rOn ∧ g0.flag (F.RAIL_STATE_INWIN 7) = true ∧ ¬ ((0x3FFF : Int) * 8192 - g0.vcmd 7 ≤ (g0.act (F.RAIL_WIN_OV_WIN 7) : Int) * 163840) ∧ ¬ (g0.rail 7).outCnt + 1 < 8 ∧
    ((0 : Nat) ≤ 4 * g0.get F.HLIM_VCORE_MAX) ∧ ([((0 : Fin 64), (5 : BitVec 12)), (63, 0xFFF)].map (·.1)).Nodup := by decide +kernel

/-- An entry or exit that stands at a step, with berths 0 and 255 present. -/
def Test.moving (step to_ : Nat) (f : Gov → Gov := id) : State :=
  Test.on [(F.BT_CFG_PRESENT 0, 1), (F.BT_CFG_PRESENT 255, 1), (F.PS_STAT_BUSY, 1), (F.PS_STAT_TO, to_), (F.PS_STAT_PHASE, 1), (F.PS_CFG_T_HOLD, 100)] fun g =>
    f (((g.withPwr { g.pwr with step := step, reqAt := 3000000, stepAt := 3900000, settleAt := 3950000 }).setAns 0 fun x => { x with sawLow := true }).setAns 255 fun x => { x with sawLow := true })

theorem witness_HandshakeAnswers :
    let s := Test.moving 1 stIdle
    let last := Test.moving 1 stIdle fun g => g.setAns 255 fun x => { x with answer := some none }
    let g0 := Test.at s
    s.gov.up = true ∧ last.gov.up = true ∧ (Test.at (Test.on [(F.BT_CFG_PRESENT 255, 1)])).present 255 = true ∧ (Test.at (Test.on [(F.BT_CFG_PRESENT 255, 1)])).asking = false ∧
    g0.pwr.step = 1 ∧ g0.asked = [0, 255] ∧ g0.now ≠ g0.pwr.reqAt ∧ (g0.ans 0).sawLow = true ∧ (g0.ans 0).answer = none ∧ (g0.ans 255).answer = none ∧
    (Test.at last).pwr.step = 1 ∧ (Test.at last).asked = [0, 255] ∧ ((Test.at last).ans 0).answer = none ∧ ((Test.at last).ans 255).answer = some none ∧
    g0.pwr.reqAt + g0.tHold ≤ g0.now ∧ g0.asleep = false ∧ (Test.at (Test.moving 9 0)).pwr.step = 9 ∧ (Test.at (Test.moving 9 0)).state ≠ stIdle ∧ (Test.at (Test.moving 13 0)).pwr.step = 13 ∧
    (Test.moving 13 0).gov.now - 3000000 ≥ 1000 * 100 := by decide +kernel

theorem witness_EntrySteps :
    let s := Test.moving 3 stDeep
    let r := Test.moving 4 stDeep
    let b := Test.moving 5 stSleep
    let c := Test.moving 5 stSleep fun g => (g.withPwr { g.pwr with settled := true }).withNow 4000000
    let n := Test.on [(F.PS_STAT_STATE, stOff)] fun g => (g.withPwr { g.pwr with notice := some (5, true, none) }).withPll false
    s.gov.engine = true ∧ (Test.at s).pwr.step = 3 ∧ (∀ x ∈ (Test.at s).closing, (Test.at s).get (F.BT_GATE_GATE x) = 0) ∧
    r.gov.engine = true ∧ (Test.at r).pwr.step = 4 ∧ (Test.at r).pwr.stepAt + 100 ≤ (Test.at r).now ∧
    b.gov.engine = true ∧ (Test.at b).pwr.step = 5 ∧ (Test.at b).pwr.settled = false ∧ (Test.at b).pwr.settleAt ≤ (Test.at b).now ∧
    c.gov.engine = true ∧ (c.gov.reach 0).pwr.step = 5 ∧ (c.gov.reach 0).pwr.settled = true ∧ (c.gov.reach 0).onTick = true ∧ (c.gov.reach 0).railsSettled = true ∧ (c.gov.reach 0).get F.PS_WAKE_STAT_LATCH = 0 ∧
    n.gov.powered = true ∧ (Test.at n).pwr.notice = some (5, true, none) ∧ (Test.at n).powered = true ∧ (Test.at n).running = true ∧ (Test.at n).pilotUp 2 = true := by decide +kernel

theorem witness_ExitSteps :
    let l := Test.on [(F.PS_STAT_STATE, stSleep), (F.PS_STAT_BUSY, 1)] fun g => (g.withPwr { g.pwr with step := 10 }).withPll false
    let o := Test.on [] fun g => g.withPll false
    let r := Test.moving 12 0 fun g => g.withPwr { g.pwr with ret := true }
    let e := Test.moving 12 0 fun g => g.withPwr { g.pwr with stopped := 0 }
    l.gov.up = true ∧ l.gov.pll = false ∧ (Test.at l).pwr.step = 10 ∧ o.gov.up = true ∧ o.gov.pll = false ∧ (Test.at o).pwr.step ≠ 10 ∧ (Test.at o).asleep = false ∧
    r.gov.engine = true ∧ (Test.at r).settlePower.pwr.step = 12 ∧ (Test.at r).settlePower.pwr.ret = true ∧
    e.gov.engine = true ∧ (Test.at e).pwr.step = 12 ∧ (Test.at e).pwr.ret = false ∧ (Test.at e).pwr.stepAt + 100 ≤ (Test.at e).now ∧ (Test.at e).savedLocked = true ∧ (Test.at e).pwr.movedRef = 0 ∧
    (Test.on []).gov.engine = true ∧ (Test.at (Test.on [])).asleep = false := by decide +kernel

theorem witness_Wakes :
    let z := Test.on [(F.PS_STAT_STATE, stSleep), (F.IDL_CFG_DN_EN, 1), (F.PS_WAKE_EN_EN, 0x3F)] fun g => g.withPll false
    let i := Test.on [(F.BT_CFG_PRESENT 0, 1), (F.PS_CFG_IDLE_AUTO, 1), (F.PS_IDLE_IDLE_SMP, 3)] fun g => g.withPwr { g.pwr with idle := 3 }
    let g0 := Test.at i
    z.gov.up = true ∧ (Test.on [] fun g => { g with dark := true }).gov.dark = true ∧ (Test.at z).asleep = true ∧ (Test.at z).flag (portEnable 1) = true ∧ bit ((Test.at z).get F.PS_WAKE_EN_EN) 5 = true ∧
    (Test.at z).get64 W.PS_WAKE_TIME_LO ≤ (Test.at z).now ∧ (Test.at z).flag F.PS_STAT_BUSY = false ∧ (Test.at z).wakeActs 0 = true ∧
    (Test.at (Test.moving 11 0)).flag F.PS_STAT_BUSY = true ∧ 10 ≤ (Test.at (Test.moving 11 0)).pwr.step ∧ (Test.at (Test.moving 1 1)).flag F.PS_STAT_BUSY = true ∧ (Test.at (Test.moving 1 1)).pwr.step < 10 ∧
    i.gov.engine = true ∧ g0.flag F.PS_CFG_IDLE_AUTO = true ∧ g0.state = stRun ∧ 0 < g0.pwr.idle ∧ g0.get F.PS_IDLE_IDLE_SMP ≤ g0.pwr.idle ∧ g0.flag F.PS_STAT_BUSY = false ∧
    g0.flag F.LIM_STEADY_STAT_ACTIVE = false ∧ g0.present 0 = true ∧ g0.quar 0 = false := by decide +kernel

theorem witness_SensorSweeps :
    let s := Test.on [(F.SNS_P_CFG_EN 127, 1), (F.LIM_CFG_TSD_EN, 1)]
    let g0 := Test.at s
    s.gov.up = true ∧ g0.asleep = false ∧ ([((0 : Fin 128), (0 : BitVec 16)), (127, 1)].map (·.1)).Nodup ∧ g0.state = stRun ∧ g0.clocked (g0.pmRegion 127) = true ∧ g0.actFlag (F.SNS_P_CFG_EN 127) = true ∧ g0.actFlag F.LIM_CFG_TSD_EN = true := by decide +kernel

theorem witness_LockWrites :
    let s := Test.on []
    let k := Test.on [(F.LIM_HARBOUR_LOCK, 1), (F.FWP_WDT_LOCK, 1)]
    (∀ off ∈ [W.GOV_LOCK, W.HLIM_CTRL, W.FLT_CTRL], Test.writes s off (Test.wr 1)) ∧ Test.writes s W.LIM_HARBOUR (Test.wr 0x80000000) ∧ Test.writes s W.FWP_WDT (Test.wr 0x80640164) ∧
    (Test.at s).flag F.LIM_HARBOUR_LOCK = false ∧ (Test.at s).flag F.FWP_WDT_LOCK = false ∧ (∀ j : Fin 3, 1 ≤ field (0x80640164 : Word) (8 * j) 8 ∧ field (0x80640164 : Word) (8 * j) 8 ≤ 100) ∧
    Test.writes k W.LIM_HARBOUR (Test.wr 0x80000000) ∧ Test.writes k W.FWP_WDT (Test.wr 0x80000000) ∧ (Test.at k).flag F.LIM_HARBOUR_LOCK = true ∧ (Test.at k).flag F.FWP_WDT_LOCK = true ∧
    bit (0x80640164 : Word).toNat 31 = true ∧ bit (1 : Word).toNat 0 = true ∧ bit (1 : Word).toNat 5 = false := by decide +kernel

theorem witness_CounterClears :
    (∀ p ∈ [(W.FCU_CTRL, (1 : Word)), (W.DRP_CTRL, 1), (W.REG_CTRL, 1), (W.SNS_CTRL, 1), (W.IDL_CTRL, 4), (W.PS_CTRL, 0x40), (W.FLT_CTRL, 0x20), (W.CMD_CFG, 0x1FFFF), (W.TRC_CTRL, 1)], Test.writes (Test.on []) p.1 (Test.wr p.2)) ∧
    field (4 : Word) 0 4 = 4 ∧ field (0x40 : Word) 4 3 = 4 ∧ bit (0x20 : Word).toNat 5 = true ∧ bit (0x1FFFF : Word).toNat 16 = true := by decide +kernel

/-- The state with a loop of law 0 in slot 1023 to the die, its feedback a constant. -/
def Test.loops (en : Nat) (fs : List (Fld × Nat)) : State :=
  Test.on ([(F.LAW_W0_VALID 0, 1), (F.LAW_W0_STEPS 0, 1), (F.LS_CTRL_EN 1023, en), (F.LS_CTRL_DEST 1023, 3), (F.LS_FB_FB_PRI 1023, 0x7000), (F.LS_FBSCALE_FBSCALE 1023, 0x10000), (F.LS_UHI_UHI 1023, 5)] ++ fs)

theorem witness_EngineWrites :
    let s := Test.loops 0 []
    let wide := Test.loops 0 [(F.LAW_W0_STEPS 0, 5), (F.ENG_CFG_PER_ACT, 0)]
    let new := (Test.at s).plain (W.LS_CTRL 1023) 7
    let much := (Test.at wide).plain (W.LS_CTRL 1023) 7
    Test.writes s (W.LS_CTRL 1023) (Test.wr 7) ∧ new.capacityOk new.periodCodes = true ∧ new.limitsCross 1023 = false ∧ new.poleBad 1023 = false ∧ new.slotShape 1023 = true ∧ new.capHolds = true ∧
    Test.writes wide (W.LS_CTRL 1023) (Test.wr 7) ∧ (Test.at wide).flag (F.LS_CTRL_EN 1023) = false ∧ much.capacityOk much.periodCodes = false ∧
    Test.writes s (W.LS_S1 1023 + 8) (Test.wr 0xFFFFFFFF) ∧ Test.writes s W.ENG_CFG (Test.wr 6) ∧ (Test.at s).capacityOk [6] = true ∧ Test.writes s W.ENG_CFG (Test.wr 7) ∧ 6 < field (7 : Word) 0 4 ∧
    (Test.at s).anchored = false ∧ (Test.at wide).anchored = false ∧ Test.writes (Test.loops 0 [(F.SUP_STAT_MODE, 2)]) (W.LS_CTRL 1023) (Test.wr 7) ∧ (Test.at (Test.loops 0 [(F.SUP_STAT_MODE, 2)])).anchored = true ∧
    Test.writes (Test.loops 1 []) (W.LS_FB 1023) (Test.wr 0x7000) ∧ (Test.at (Test.loops 1 [])).flag (F.LS_CTRL_EN 1023) = true := by decide +kernel

theorem witness_LimitWrites :
    let s := Test.loops 1 [(F.LIM_SLOTS_PCAP_SLOT, 1023), (F.LIM_STEADY_ACT_STEADY_ACT, 5), (⟨0xD48, 0, 16⟩, 0x1F40)]
    let bad := Test.on []
    let k := Test.on [(F.HLIM_CTRL_LOCK, 1)]
    Test.writes s W.LIM_CFG (Test.wr 1) ∧ (Test.at s).capSlotsOk ((Test.at s).get F.LIM_SLOTS_PCAP_SLOT) ((Test.at s).get F.LIM_SLOTS_BE_SLOT) false = true ∧
    Test.writes bad W.LIM_CFG (Test.wr 1) ∧ (Test.at bad).capSlotsOk ((Test.at bad).get F.LIM_SLOTS_PCAP_SLOT) ((Test.at bad).get F.LIM_SLOTS_BE_SLOT) false = false ∧
    Test.writes s W.LIM_CFG (Test.wr 0x20) ∧ (Test.at s).flag F.LIM_CFG_STEADY = false ∧ (Test.at s).steadyOk = true ∧ (Test.at bad).steadyOk = false ∧ Test.writes bad W.LIM_CFG (Test.wr 0x20) ∧
    (∀ off ∈ [0xD00, 0xD04, 0xD44, 0xD48], Test.writes s off (Test.wr 0) ∧ Test.writes k off (Test.wr 0)) ∧ (Test.at k).flag F.HLIM_CTRL_LOCK = true ∧ (Test.at s).flag F.HLIM_CTRL_LOCK = false ∧
    field (0 : Word) 16 12 ≤ (Test.at s).get ⟨0xD00, 0, 12⟩ ∧ (Test.at s).get ⟨0xD00, 0, 12⟩ < field (0x0FFF0000 : Word) 16 12 ∧ toSigned 16 (field (0x1F40 : Word) 0 16) ≤ 0x1F40 := by decide +kernel

theorem witness_RailWrites :
    let s := Test.on [(F.PH_CTRL_ASSIGNED 63, 1), (F.PH_CTRL_RAIL 63, 7), (F.RAIL_SHED_NPH_MIN 7, 1), (F.RAIL_SHED_NPH_READY 7, 1), (F.RAIL_DUTY_DMAX 7, 0x8000), (F.RAIL_DUTY_TON_MIN 7, 1)] fun g => g.setRail 7 fun x => { x with coef := [0, 0, 0, 0, 0, 0, 0, 5] }
    let off := W.RAIL_CTRL 7
    Test.writes s off (Test.wr 1) ∧ (Test.at s).flag F.FLT_CTRL_TRIPPED = false ∧ (Test.at s).flag (F.RAIL_CTRL_EN 7) = false ∧
    ((Test.at s).plain off 1).railFit 7 = true ∧ ((Test.at s).plain off 1).rateFit 7 (Test.at s).perEff = true ∧ coefFit ((Test.at s).rail 7).coef = true ∧
    Test.writes (Test.on [(F.FLT_CTRL_TRIPPED, 1)]) off (Test.wr 0x80000001) ∧ (Test.at (Test.on [(F.FLT_CTRL_TRIPPED, 1)])).flag F.FLT_CTRL_TRIPPED = true ∧
    Test.writes s off (Test.wr 0) ∧ coefFit ((Test.at s).coefShadow 7) = false ∧ Test.writes s off (Test.wr 0x80000000) ∧
    coefFit ((Test.at (Test.on [(F.RAIL_VC_HI_VC_HI 7, 9)])).coefShadow 7) = true := by decide +kernel

theorem witness_PhaseAndClockWrites :
    let s := Test.on [(F.HLIM_FSYN_FUSE 15, 200), (F.DRP_CLKMON_REF_PRESENT, 1), (F.DRP_CLKMON_FSYN_PRESENT, 0xFFFF), (F.DRP_RGN_MUX_SEL 15, 2)]
    let used := Test.on [(F.PH_CTRL_ASSIGNED 63, 1), (F.RAIL_SHED_NPH_READY 0, 63), (F.DRP_RGN_MUX_SEL 15, 1), (F.DRP_RGN_MUX_ALT 15, 15)] fun g => g.setRgn 15 fun x => { x with out := .syn 15 }
    let g0 := Test.at s
    Test.writes s (W.PH_CTRL 63) (Test.wr 0) ∧ field (g0.merged (W.PH_CTRL 63) 0) 0 10 = field (g0.word (W.PH_CTRL 63)) 0 10 ∧ Test.writes s (W.PH_CTRL 63) (Test.wr 0x10000) ∧ g0.flag (F.PH_CTRL_OOS 63) = false ∧ g0.flag (F.PH_CTRL_ASSIGNED 63) = false ∧
    (Test.at used).flag (F.PH_CTRL_ASSIGNED 63) = true ∧ (((Test.at used).plain (W.PH_CTRL 63) (0x10000 + BitVec.ofNat 32 (field ((Test.at used).word (W.PH_CTRL 63)) 0 16))).inService 0).length < (Test.at used).get (F.RAIL_SHED_NPH_READY 0) ∧
    Test.writes s (W.FSYN_CTRL 15) (Test.wr 1) ∧ 200 ≤ g0.get (F.HLIM_FSYN_FUSE 15) ∧ (Test.at used).get (F.HLIM_FSYN_FUSE 15) < 200 ∧ (Test.at used).source 15 = .syn 15 ∧
    Test.writes s (W.DRP_RGN_MUX 15) (Test.wr 2) ∧ sourceOf 15 2 0 = g0.source 15 ∧ sourceOf 15 3 0 ≠ g0.source 15 ∧ g0.switchBad 15 (sourceOf 15 3 0) = false ∧ g0.switchBad 15 (sourceOf 15 1 15) = true ∧
    (Test.at used).sourcePresent ((Test.at used).rgn 15).out = false ∧ g0.sourcePresent (sourceOf 15 2 0) = true ∧ (Test.at (Test.on [(F.DRP_CLKMON_REF_PRESENT, 1)] fun g => g.setRgn 15 fun x => { x with out := .syn 15 })).sourcePresent .ref = true ∧
    g0.anchored = false ∧ (Test.at used).anchored = false ∧ (Test.at (Test.on [(F.SUP_STAT_MODE, 2)])).anchored = true ∧ Test.writes (Test.on [(F.SUP_STAT_MODE, 2)]) (W.DRP_RGN_MUX 15) (Test.wr 3) ∧ sourceOf 15 3 0 ≠ (Test.at (Test.on [(F.SUP_STAT_MODE, 2)])).source 15 ∧
    (Test.at used).sourcePresent (sourceOf 15 1 14) = false ∧ bit (0x01000002 : Word).toNat 24 = true := by decide +kernel

theorem witness_TrimAndTables :
    let pts := (List.range 3).flatMap fun j => [(F.TBL_X_X 63 j, 10 * j), (F.TBL_Y_Y 63 j, 7 * j)]
    let s := Test.on ([(F.TBL_HDR_NBP 63, 3), (F.MT_CFG_EN 7, 1), (F.MT_CFG_GMAX 7, 100), (F.MT_GUARD_GUARD 7, 50), (F.MT_PMMIN_PMMIN 7, 3), (F.MT_THR_MT_LO 7, 5), (F.MT_THR_MT_HI 7, 9)] ++ pts) fun g => (g.withSns { g.sns with heldStep := [(7, 1)] }).withNow 90000000000000
    let g0 := Test.at s
    let high := Test.at (Test.on [(F.MT_CFG_EN 7, 1), (F.MT_GUARD_GUARD 7, 50), (F.MT_PMMIN_PMMIN 7, 0xFFFF), (F.MT_THR_MT_LO 7, 5), (F.MT_THR_MT_HI 7, 9)])
    let mid := Test.at (Test.on [(F.MT_PMMIN_PMMIN 7, 7), (F.MT_THR_MT_LO 7, 5), (F.MT_THR_MT_HI 7, 9)])
    Test.writes s (W.TBL_CTRL 63) (Test.wr 1) ∧ tableFault 3 false false [(0, 0), (10, 7), (20, 14)] = none ∧ g0.get (F.TBL_HDR_NBP 63) = 3 ∧ tableFault 3 false true [(0, 0), (10, 7), (20, 14)] ≠ none ∧
    Test.writes s (W.MT_REQ 7) (Test.wr 1) ∧ g0.flag F.LIM_STEADY_STAT_ACTIVE = false ∧ g0.trimOk 7 1 = true ∧ (Test.at (Test.on [])).trimOk 7 1 = false ∧ (Test.at (Test.on [(F.LIM_STEADY_STAT_ACTIVE, 1)])).flag F.LIM_STEADY_STAT_ACTIVE = true ∧
    Test.writes s (W.MT_REQ 7) (Test.wr 3) ∧ Test.writes s (W.MT_RESTORE 7) (Test.wr 100) ∧ 7 ∉ g0.sns.restored ∧ g0.get (F.MT_GUARD_FLOOR 7) ≤ 100 ∧ g0.act (F.MT_CFG_GMAX 7) = 100 ∧
    7 ∈ (Test.at (Test.on [] fun g => g.withSns { g.sns with restored := [7] })).sns.restored ∧ s.gov.engine = true ∧ Tab.get (fun _ => 0) g0.sns.heldStep 7 ≠ 0 ∧
    g0.running = true ∧ g0.pilotUp 2 = true ∧ g0.actFlag (F.MT_CFG_EN 7) = true ∧ g0.get64 (W.MT_LAST_LO 7) + 86400000000000 ≤ g0.now ∧ g0.get (F.MT_PMMIN_PMMIN 7) < g0.act (F.MT_THR_MT_LO 7) ∧ g0.get (F.MT_GUARD_GUARD 7) + 5 ≤ g0.act (F.MT_CFG_GMAX 7) ∧
    high.act (F.MT_THR_MT_HI 7) ≤ high.get (F.MT_PMMIN_PMMIN 7) ∧ high.flag (F.MT_PMMIN_FAILSEEN 7) = false ∧ high.get (F.MT_GUARD_FLOOR 7) + 5 ≤ high.get (F.MT_GUARD_GUARD 7) ∧
    mid.act (F.MT_THR_MT_LO 7) ≤ mid.get (F.MT_PMMIN_PMMIN 7) ∧ mid.get (F.MT_PMMIN_PMMIN 7) < mid.act (F.MT_THR_MT_HI 7) := by decide +kernel

theorem witness_SensorRows :
    let s := Test.on [(F.SNS_H_CFG_EN 15, 1), (F.SNS_H_CFG_NOGRP 15, 1), (F.SNS_HBM_WR_TMO 15, 5), (F.SNS_H_VAL_STALE_CNT 15, 4), (F.SNS_T_VAL_BROKEN 0, 1)]
    let last := Test.at (Test.on [(F.SNS_H_VAL_RCNT 15, 15)])
    let g0 := Test.at s
    Test.writes s (W.SNS_HBM_WR 15) (Test.wr 0xFF2580) ∧ g0.sns.stuck = [] ∧ toSigned 16 (field (0xFF2580 : Word) 0 16) = 9600 ∧ 9600 < toSigned 16 (field (0x2581 : Word) 0 16) ∧
    g0.actFlag (F.SNS_H_CFG_EN 15) = true ∧ g0.flag (F.SNS_H_VAL_BROKEN 15) = false ∧ g0.actFlag (F.SNS_H_CFG_NOGRP 15) = true ∧ g0.get (F.SNS_H_VAL_RCNT 15) < 16 ∧ last.get (F.SNS_H_VAL_RCNT 15) = 15 ∧
    s.gov.engine = true ∧ g0.asleep = false ∧ g0.act (F.SNS_HBM_WR_TMO 15) ≠ 0 ∧ Tab.get (fun _ => 0) g0.sns.hbmAt 15 + g0.act (F.SNS_HBM_WR_TMO 15) * 1000 ≤ g0.now ∧ g0.get (F.SNS_H_VAL_STALE_CNT 15) = 4 ∧
    brokenBit (W.SNS_T_VAL 0) = some 30 ∧ Test.writes s (W.SNS_T_VAL 0) (Test.wr 0x40000000) ∧ g0.get ⟨W.SNS_T_VAL 0, 30, 1⟩ = 1 := by decide +kernel

theorem witness_BerthAndFaultWrites :
    let fit := fun fs => Test.on ([(F.BT_PEAK_CNT_PEAK_CNT 255, 5), (⟨W.BT_SLOPE 255, 0, 32⟩, 0x00100010), (⟨W.BT_OPEN 255, 0, 32⟩, 0x02000020), (F.ASL_CFG_PRESS, 0x100)] ++ fs)
    let s := fit [(F.LDG_CTRL_WIN_EN, 0)]
    let g0 := Test.at s
    let busy := fit [(F.PS_STAT_BUSY, 1), (F.BT_CFG_PRESENT 255, 1)]
    let lock := Test.on [(F.GOV_LOCK_BT, 1), (F.FLT_CTRL_LOCK, 1), (F.FLT_STATUS_bit 255, 1), (F.FLT_SUSPECT_bit 255, 1), (F.FLT_QUAR_bit 255, 1)]
    Test.writes s (W.BT_CFG 255) (Test.wr 1) ∧ g0.get (F.BT_PEAK_CNT_PEAK_CNT 255) ≠ 0 ∧ slopeBad (g0.word (W.BT_SLOPE 255)) (g0.word (W.BT_OPEN 255)) = false ∧ g0.get F.ASL_CFG_PRESS < g0.get (F.BT_OPEN_HEAD 255) ∧
    g0.flag F.GOV_LOCK_BT = false ∧ g0.flag (F.BT_CFG_PRESENT 255) = false ∧ g0.present 255 = false ∧ g0.flag F.PS_STAT_BUSY = false ∧ g0.flag (F.BT_CFG_RETIRING 255) = false ∧ (Test.at lock).flag F.GOV_LOCK_BT = true ∧
    (Test.at (Test.on [])).get (F.BT_PEAK_CNT_PEAK_CNT 255) = 0 ∧ (Test.at busy).flag F.PS_STAT_BUSY = true ∧ (Test.at busy).flag (F.BT_CFG_PRESENT 255) = true ∧ (Test.at (fit [(F.BT_CFG_RETIRING 255, 1)])).present 255 = true ∧
    Test.writes lock (W.FLT_QUAR 7) (Test.wr 0x80000000) ∧ (Test.at lock).flag (F.FLT_STATUS_bit 255) = true ∧ Test.writes s (W.FLT_QUAR 7) (Test.wr 0x80000000) ∧ g0.flag (F.FLT_STATUS_bit 255) = false ∧
    Test.writes s (W.FLT_STATUS 9) (Test.wr 0xFFFFFFFF) ∧ Test.writes s (W.FLT_REACT 39) (Test.wr 0) ∧ (∀ k : Fin 8, reactionOk (8 * 39 + k) 0 = true) ∧ reactionOk 0 7 = false ∧ (Test.at lock).flag F.FLT_CTRL_LOCK = true ∧
    Test.writes s (W.FLT_SUSPECT 7) (Test.wr 0x80000000) ∧ Test.writes s W.LDG_CTRL (Test.wr 3) ∧ g0.flag F.IDL_STAT_ALIGN_PEND = false ∧ (Test.at (Test.on [(F.IDL_STAT_ALIGN_PEND, 1)])).flag F.IDL_STAT_ALIGN_PEND = true ∧
    g0.flag F.LDG_CTRL_WIN_EN = false ∧ g0.flag F.LDG_CTRL_SG1_MODE = false := by decide +kernel

theorem witness_HawserWrites :
    let s := Test.on [(F.LDG_CTRL_WIN_EN, 0)]
    let root := Test.on [(F.IDL_CFG_EN, 1), (F.IDL_CFG_ROOT, 1), (F.IDL_STAT_UP_LINK, 2), (F.IDL_STAT_DN_LINK, 2)]
    let alone := Test.on [(F.IDL_CFG_EN, 1), (F.IDL_CFG_ROOT, 1)]
    Test.writes s W.IDL_CFG (Test.wr 4) ∧ bit (4 : Word).toNat 2 = true ∧ (Test.at s).flag F.IDL_CFG_EN = false ∧ (Test.at s).flag F.LDG_CTRL_WIN_EN = false ∧ (Test.at s).anyOpen = false ∧ (Test.at (Test.on [(F.LDG_CTRL_WIN_EN, 1)])).flag F.LDG_CTRL_WIN_EN = true ∧
    (Test.at root).flag F.IDL_CFG_EN = true ∧ Test.writes root W.IDL_CTRL (Test.wr 1) ∧ (Test.at root).isRoot = true ∧ (Test.at root).get F.IDL_STAT_UP_LINK = 2 ∧ (Test.at root).get F.IDL_STAT_DN_LINK = 2 ∧
    (Test.at alone).isRoot = true ∧ (Test.at alone).get F.IDL_STAT_UP_LINK ≠ 2 ∧ (Test.at s).isRoot = false ∧ field (0x38 : Word) 0 4 = 8 ∧ field (0x38 : Word) 4 2 = 3 ∧ Test.writes s W.IDL_CTRL (Test.wr 0x38) ∧ Test.writes s W.IDL_PROG_STEP (Test.wr 0xFFFFFFFF) := by decide +kernel

theorem witness_StopAndPowerRequests :
    let s := Test.on [(F.BT_CFG_PRESENT 0, 1)]
    let i := Test.on [(F.PS_STAT_STATE, stIdle)]
    let q := fun ps st f => Test.asked 3 0x15 ps [(F.BT_CFG_PRESENT 0, 1), (F.PS_STAT_STATE, st)] f
    let at1 := fun (g : Gov) => g.withPwr { g.pwr with step := 1, reqAt := 4000000 }
    Test.writes s W.PS_CTRL (Test.wr 0x14) ∧ field (0x14 : Word) 4 3 = 1 ∧ field (0x14 : Word) 0 3 = 4 ∧ (Test.at s).state = stRun ∧ (Test.at s).flag F.PS_STAT_BUSY = false ∧ (Test.at s).flag F.LIM_STEADY_STAT_ACTIVE = false ∧ (Test.at s).present 0 = true ∧ (Test.at s).quar 0 = false ∧
    Test.writes s W.PS_CTRL (Test.wr 0x15) ∧ Test.writes i W.PS_CTRL (Test.wr 0x10) ∧ (Test.at i).state ≠ stRun ∧ (Test.at i).state ≠ stOff ∧ (Test.at i).flag F.PS_STAT_BUSY = false ∧ Test.writes s W.PS_CTRL (Test.wr 0x10) ∧
    Test.writes (Test.moving 1 1) W.PS_CTRL (Test.wr 0x20) ∧ (Test.at (Test.moving 1 1)).pwr.step = 1 ∧ (Test.at s).pwr.step ≠ 1 ∧ Test.writes s W.PS_CTRL (Test.wr 0x20) ∧
    Test.serves (q [0x100] stRun at1) 3 0x15 [0x100] ∧ Test.counts 3 0x15 [0x100] (· == 1) ∧ (Test.at (q [0x100] stRun at1)).pwr.step = 1 ∧ (Test.at (q [0x100] stRun at1)).pwr.cmdChan = none ∧ Test.serves (q [0x100] stRun id) 3 0x15 [0x100] ∧
    Test.serves (q [0] stIdle id) 3 0x15 [0] ∧ Test.serves (q [1] stRun id) 3 0x15 [1] ∧ Test.serves (q [5] stRun id) 3 0x15 [5] ∧
    Test.serves (Test.asked 3 0x16 [3] [(F.IDL_CFG_EN, 1)]) 3 0x16 [3] ∧ Test.counts 3 0x16 [3] (· == 1) ∧ Test.serves (Test.asked 3 0x16 [1]) 3 0x16 [1] ∧ Test.serves (Test.asked 3 0x16 [0]) 3 0x16 [0] := by decide +kernel

/-- Flash with a section of one byte for pilot C. -/
def Test.short : Tab Byte := [(0x44, 1), (0x45, 0), (0x46, 0), (0x47, 0)]

theorem witness_PilotEvents :
    let s := Test.on [(F.SUP_HB_HB_TMO, 1)] fun g => g.withFirm { g.firm with watched := true }
    let cur := fun f => Test.on [] fun g => g.withFirm (f { g.firm with cur := some 2 })
    let g0 := Test.at s
    g0.pilotsOn = true ∧ g0.pilotUp 2 = true ∧ g0.firm.cur = none ∧ Test.writes s W.FWP_RST_REQ (Test.wr 4) ∧ field (4 : Word) 0 3 = 2 ^ 2 ∧ g0.get F.FWP_UPD_USTATE ≠ 1 ∧ g0.get F.FWP_UPD_USTATE ≠ 2 ∧
    (Test.at (Test.on [(F.FWP_UPD_USTATE, 1)])).get F.FWP_UPD_USTATE = 1 ∧ (Test.at (cur id)).firm.cur = some 2 ∧ (Test.at (cur id)).firm.rolling.head? ≠ some 2 ∧ sectionDigest Test.short 2 ≠ (Test.at (cur id)).firm.image.secDig.getD 2 0 ∧
    sectionDigest Test.short 2 = (Test.at (cur fun x => { x with image := { x.image with secDig := [0, 0, sectionDigest Test.short 2] } })).firm.image.secDig.getD 2 0 ∧
    Test.writes s W.SUP_HB_KICK (Test.wr 0) ∧ s.gov.up = true ∧ g0.firm.watched = true ∧ g0.get F.SUP_HB_HB_TMO = 1 ∧ g0.flag F.SUP_STAT_HARBOUR = false ∧ g0.firm.lastKick + 1 * 1000000 ≤ g0.now := by decide +kernel

/-- The state with the trace or watch set so. -/
def Test.traced (f : TrcSt → TrcSt) : State := Test.on [(F.TRC_WATCH_STAT_ARMED, 1), (F.TRC_WATCH_CFG_VAR, 0x18)] fun g => g.withTrc (f g.trc)

/-- An execution of a loop as the watch takes it. -/
def Test.res : LoopRes :=
  { slot := 3, law := 0, inp := ⟨0, 0, 0, 0, 0, 0, 0, 0, 0, 0, 0, 0, 0, false⟩, stale := false, out := 1, s0 := none, s1 := none, sato := false, sata := false, tbls := 0, steps := 1, w := [], wrote := 3, lt := false, eq := false, gt := false, satf := false }

theorem witness_TraceReads :
    let b := Test.traced fun x => { x with bufs := [(0, { recs := [[1, 2, 3, 4]], word := 0 }), (3, { recs := [[1, 2, 3, 4]], word := 3 })] }
    let hit := fun h => Test.traced fun x => { x with hit := some h }
    let s := Test.on []
    s.gov.up = true ∧ (Test.at s).asleep = false ∧ ((Test.at s).buf 3).recs = [] ∧ b.gov.up = true ∧ ((Test.at b).buf 0).recs = [1, 2, 3, 4] :: [] ∧ ((Test.at b).buf 0).word ≠ 3 ∧ ((Test.at b).buf 3).recs = [1, 2, 3, 4] :: [] ∧ ((Test.at b).buf 3).word = 3 ∧
    Test.writes s W.TRC_WATCH_CFG (Test.wr 0x36000) ∧ watchVar (field (0x36000 : Word) 10 6) = true ∧ Test.writes s W.TRC_WATCH_CFG (Test.wr 0xFFFF) ∧ watchVar (field (0xFFFF : Word) 10 6) = false ∧
    (∀ h ∈ [(⟨5, 3, true, false, none, 1, 2, 3⟩ : WatchHit), ⟨5, 3, false, true, none, 1, 2, 3⟩, ⟨5, 3, false, false, some Test.res, 1, 2, 3⟩], (hit h).gov.engine = true ∧ (Test.at (hit h)).trc.hit = some h) ∧
    (Test.at (hit ⟨5, 3, true, false, none, 1, 2, 3⟩)).get F.TRC_WATCH_CFG_VAR = 0x18 := by decide +kernel

/-- Channel n's request window with all but the trailer of a packet written. -/
def Test.partly (n : Nat) (ws : List Nat) (fs : List (Fld × Nat) := []) : State := Test.on fs fun g => g.writeWords (W.CMD_REQ n 0) (ws.take (ws.length - 1))

/-- The last word of a packet, as a write. -/
def Test.trailer (ws : List Nat) : PortWrite := Test.wr (BitVec.ofNat 32 (ws.getLastD 0))

theorem witness_Packets :
    let nop := Test.packet 3 0 []
    let s := Test.partly 3 nop
    let x := fun fs => Test.at (Test.partly 3 nop fs)
    let off := W.CMD_REQ 3 2
    let fence := Test.on [(F.CMD_CFG_WAIT_TMO, 1)] fun g => g.withCmd { g.cmd with reqs := [(15, { words := Test.packet 15 0 [], phase := .waiting, taken := 1000, doom := none })] }
    Test.writes s off (Test.trailer nop) ∧ (Test.at s).windowBusy 3 = false ∧ pkLen (((Test.at s).setWord off (Test.trailer nop).data).window 3) = 3 ∧ (Test.trailer nop).data.toNat = crcWords (nop.take 2) ∧
    (x [(F.CMD_STAT_TAKEN 3, 1)]).windowBusy 3 = true ∧ (Test.wr 0).data.toNat ≠ crcWords (nop.take 2) ∧ Test.writes s (W.CMD_REQ 3 63) (Test.wr 0) ∧
    (x [(F.SUP_STAT_MODE, 2)]).anchored = true ∧ (Test.at s).anchored = false ∧ channelPilot 10 = none ∧ channelPilot 3 = some 0 ∧ pkChannel nop = 3 ∧ pkClass nop = 0 ∧ bits (pw nop 0) 0 8 = 0 ∧
    (Test.at s).seqNew 3 5 = some true ∧ (x [(F.SUP_JOURNAL_VALID 3, 1), (F.SUP_JOURNAL_SEQ 3, 5)]).seqNew 3 5 = some false ∧ (x [(F.SUP_JOURNAL_VALID 3, 1), (F.SUP_JOURNAL_SEQ 3, 6)]).seqNew 3 5 = none ∧
    (x [(F.FWP_PSTATE_STATE 0, 3)]).pilotRestarts 0 = true ∧ (Test.at s).pilotRestarts 0 = false ∧ (x [(F.SUP_STAT_SESSION, 0)]).flag F.SUP_STAT_SESSION = false ∧ (Test.at s).firm.major = false ∧ opcodeListed 0x77 = false ∧ opcodeListed 0 = true ∧
    Test.writes (Test.partly 3 nop [(F.CMD_STAT_RDY 3, 1)]) (W.CMD_STAT 3) (Test.wr 4) ∧ (x [(F.CMD_STAT_RDY 3, 1)]).flag (F.CMD_STAT_RDY 3) = true ∧ (Test.at s).flag (F.CMD_STAT_RDY 3) = false ∧
    Test.writes fence (W.CMD_CTRL 15) (Test.wr 1) ∧ Test.writes s (W.CMD_CTRL 3) (Test.wr 2) ∧ (Test.at s).flag (F.CMD_STAT_TAKEN 3) = false ∧ (x [(F.CMD_STAT_TAKEN 3, 1)]).flag (F.CMD_STAT_TAKEN 3) = true ∧
    fence.gov.up = true ∧ (((Test.at fence).req 15).map fun r => (r.phase, r.doom, r.taken)) = some (.waiting, none, 1000) ∧ (Test.at fence).get F.CMD_CFG_WAIT_TMO = 1 ∧ 1000 + 1 * 1000000 ≤ (Test.at fence).now := by decide +kernel

theorem witness_SessionAndFences :
    Test.serves (Test.asked 15 0 []) 15 0 [] ∧ Test.counts 15 0 [] (· == 0) ∧ Test.serves (Test.asked 3 0 [1]) 3 0 [1] ∧ Test.counts 3 0 [1] (· == 0) = false ∧
    (∀ v ∈ [7, 0xFFFF, 0x10000], Test.serves (Test.asked 2 1 [v, 5, 6]) 2 1 [v, 5, 6] ∧ Test.counts 2 1 [v, 5, 6] (· == 3)) ∧ Test.serves (Test.asked 2 2 []) 2 2 [] ∧
    Test.serves (Test.asked 9 0x40 [0]) 9 0x40 [0] ∧ Test.counts 9 0x40 [0] (· == 1) ∧ (telemetry 0 0).isSome = true ∧ Test.serves (Test.asked 9 0x40 [15]) 9 0x40 [15] ∧ telemetry 15 0 = none ∧
    Test.serves (Test.asked 3 0x48 [0x0FFF0000]) 3 0x48 [0x0FFF0000] ∧ Test.serves (Test.asked 3 0x48 [0x00000001]) 3 0x48 [1] ∧ Test.serves (Test.asked 3 0x49 [0xFFF]) 3 0x49 [0xFFF] := by decide +kernel

theorem witness_SecurityVersion :
    let s := Test.asked 2 6 [] [(F.FWP_SVN_IMG_SVN, 65)]
    (∃ s', exec (.hintNop 0) s = .next s') ∧ s.keep.svn ≤ 64 ∧ Test.serves s 2 6 [] ∧ Test.counts 2 6 [] (· == 0) ∧ (Test.at s).svnOk = true ∧ s.keep.svn = (Test.at s).get F.FWP_SVN_FUSE_SVN ∧
    Test.serves (Test.asked 2 6 []) 2 6 [] ∧ (Test.at (Test.asked 2 6 [])).svnOk = false := ⟨⟨_, rfl⟩, by decide +kernel⟩

/-- A law of one micro-instruction, OUT of Y, as LAW_LOAD carries it to law 63. -/
def Test.law : BitVec 64 := BitVec.ofNat 64 (0x11 * 2 ^ 58 + 8 * 2 ^ 50)
def Test.load (len : Nat) : List Nat := [63 + len * 2 ^ 8, lawCrc [Test.law], 0, Test.law.toNat / 2 ^ 32]

theorem witness_ControlCommands :
    let trim := [(F.MT_CFG_EN 2, 1), (F.MT_CFG_GMAX 2, 100), (F.MT_GUARD_GUARD 2, 50)]
    let pair := fun x => (x % 2 == 0 && decide (2 ≤ x)) && decide (x ≤ 60)
    Test.serves (Test.asked 0 0x10 [0x200, 5]) 0 0x10 [0x200, 5] ∧ ((Test.at (Test.asked 0 0x10 [0x200, 5])).firstBad 0 0 [(0x200, 5)]).isSome = true ∧ Test.counts 0 0x10 [0x200, 5] pair ∧
    Test.serves (Test.asked 3 0x10 [W.LS_SP 0, 5]) 3 0x10 [W.LS_SP 0, 5] ∧ (Test.at (Test.asked 3 0x10 [W.LS_SP 0, 5])).firstBad 3 0 [(W.LS_SP 0, 5)] = none ∧ ((Test.at (Test.asked 3 0x10 [W.LS_SP 0, 5])).writeReg (W.LS_SP 0) 5).ok = true ∧
    ((Test.at (Test.asked 3 0x10 [W.ENG_CFG, 7])).writeReg W.ENG_CFG 7).ok = false ∧ Test.serves (Test.asked 3 0x11 [0xFFFFC]) 3 0x11 [0xFFFFC] ∧ Test.serves (Test.asked 3 0x11 [W.ENG_CFG]) 3 0x11 [W.ENG_CFG] ∧ (findReg W.ENG_CFG).isSome = true ∧ findReg 0xFFFFC = none ∧
    (∀ len ∈ [0, 1, 2], Test.serves (Test.asked 3 0x12 (Test.load len)) 3 0x12 (Test.load len)) ∧ Test.counts 3 0x12 (Test.load 1) (fun c => decide (4 ≤ c) && decide (c ≤ 60) && c % 2 == 0) ∧ bits (63 + 2 ^ 8 : Nat) 6 2 = 0 ∧
    ((Test.at (Test.asked 3 0x12 (Test.load 1))).setBuf' 3 none).loadLaw 63 1 (lawCrc [Test.law]) [Test.law] = .inr 0 ∧ (Test.at (Test.on [])).loadLaw 63 1 (lawCrc [Test.law] + 1) [Test.law] = .inl 4 ∧
    Test.serves (Test.asked 3 0x13 [1]) 3 0x13 [1] ∧ Test.serves (Test.asked 3 0x13 [63]) 3 0x13 [63] ∧ (Test.at (Test.asked 3 0x13 [63])).lawUse 63 = 0 ∧
    (∀ nbp ∈ [0, 1, 2, 3], Test.serves (Test.asked 8 0x38 [63 + nbp * 2 ^ 8, 0, 0, 10, 20]) 8 0x38 [63 + nbp * 2 ^ 8, 0, 0, 10, 20]) ∧ tableFault 2 false false [(0, 0), (10, 20)] = none ∧ (tableFault 0 false false [(0, 0), (10, 20)]).isSome = true ∧
    (∀ st ∈ [0, 1, 2, 3], Test.serves (Test.asked 8 0x39 [2 + st * 2 ^ 8] trim) 8 0x39 [2 + st * 2 ^ 8]) ∧ (Test.at (Test.on trim fun g => g.withNow 90000000000000)).trimOk 2 1 = true ∧ (Test.at (Test.on [])).trimOk 2 1 = false ∧
    Test.serves (Test.asked 3 0x14 [0x100]) 3 0x14 [0x100] ∧ (Test.at (Test.on [])).railOn 0 = false ∧ (Test.at (Test.on [(F.RAIL_STATE_STATE 0, rOn), (F.RAIL_CTRL_EN 0, 1)])).railOn 0 = true ∧ (Test.at (Test.on [])).boardMode = false ∧
    ((Test.at (Test.on [(F.RAIL_STATE_STATE 0, rOn), (F.RAIL_CTRL_EN 0, 1)])).writeReg (W.RAIL_SEL 0) (insertField (insertField ((Test.at (Test.on [])).word (W.RAIL_SEL 0)) 8 4 1) 12 1 0)).ok = true := by decide +kernel

theorem witness_AccountCommands :
    let open5 := [5 + 16 * 2 ^ 16, 3, 1, 2, 3, 4]
    let s := Test.asked 6 0x20 open5 [(F.LIM_LC_BUDGET_BUDGET, 3)]
    let c := Test.asked 6 0x21 [0x105] [(F.ACC_STAT_STATE 5, 1)]
    let full := Test.at (Test.asked 6 0x21 [0x105] [] fun g => g.withLed { g.led with stmts := List.replicate 256 ⟨0, 0, 0, false, [], none, false, false⟩ })
    let o : OpenReq := ⟨5, 1, 0xFFF, 0xFFFF, [1, 2, 3, 4], 6, some 4000000⟩
    let due := Test.on [] fun g => g.withLed { g.led with opens := [o], closes := [⟨5, true, 6, some 4000000⟩] }
    Test.serves s 6 0x20 open5 ∧ Test.counts 6 0x20 open5 (· == 6) ∧ (Test.at s).get (F.ACC_STAT_STATE 5) ≠ 1 ∧ (Test.at s).led.opens = [] ∧ (Test.at s).flag F.IDL_STAT_ALIGN_PEND = false ∧ (Test.at s).floorPower + 3 ≤ (Test.at s).act F.LIM_LC_BUDGET_BUDGET ∧
    ¬ (Test.at (Test.on [(F.LIM_LC_BUDGET_BUDGET, 2)])).floorPower + 3 ≤ (Test.at (Test.on [(F.LIM_LC_BUDGET_BUDGET, 2)])).act F.LIM_LC_BUDGET_BUDGET ∧
    Test.serves c 6 0x21 [0x105] ∧ (Test.at c).get (F.ACC_STAT_STATE 5) = 1 ∧ (Test.at c).led.closes = [] ∧ ¬ 256 ≤ (Test.at c).led.stmts.length + (Test.at c).led.closes.countP (·.stmt) ∧ 256 ≤ full.led.stmts.length ∧
    Test.serves (Test.asked 6 0x22 [5]) 6 0x22 [5] ∧ due.gov.engine = true ∧ (Test.at due).led.opens.find? (fun o => o.acct == 5) = some o ∧ o.due = some 4000000 ∧ o.cls < 2 ∧ o.fact < 2 ^ 12 ∧ o.fpwr < 2 ^ 16 ∧ o.tag.length = 4 ∧ (Test.at due).cmd.armed = [] ∧
    (Test.at due).led.closes.find? (fun c => c.acct == 5) = some ⟨5, true, 6, some 4000000⟩ ∧ (Test.at due).fcu.table = [] := by decide +kernel

theorem witness_StatementsAndKeys :
    let x : Stmt := ⟨255, 4, 5, true, List.replicate 0x90 1, none, false, false⟩
    let y : Stmt := ⟨254, 3, 6, true, List.replicate 0x90 1, some (7, 9), false, false⟩
    let keyed := fun (g : Gov) => { g with fuses := { g.fuses with devKey := 5, cert := [1, 2, 3] } }
    let has := fun (g : Gov) => (keyed g).withLed { g.led with stmts := [x, y], epochUp := true }
    let z := Test.at (Test.on [] has)
    (sortBy (·.order) z.led.stmts).find? (fun (x : Stmt) => x.sig.isNone) = some x ∧ z.pilotServes 1 = true ∧ z.keyOk = true ∧ z.led.epochUp = true ∧
    Test.serves (Test.asked 7 0x28 [3]) 7 0x28 [3] ∧ (Test.at (Test.asked 7 0x28 [3])).stmtAt 3 = none ∧ Test.serves (Test.asked 7 0x28 [255] [] has) 7 0x28 [255] ∧ z.stmtAt 255 = some x ∧ Test.serves (Test.asked 7 0x28 [254] [] has) 7 0x28 [254] ∧ z.stmtAt 254 = some y ∧
    Test.serves (Test.asked 7 0x29 [3]) 7 0x29 [3] ∧ Test.serves (Test.asked 7 0x29 [254] [] has) 7 0x29 [254] ∧ Test.serves (Test.asked 7 0x2A []) 7 0x2A [] ∧ Test.serves (Test.asked 1 0x30 [] [] keyed) 1 0x30 [] ∧ (Test.at (Test.asked 1 0x30 [])).keyOk = false ∧
    Test.serves (Test.asked 1 0x31 [3] [] keyed) 1 0x31 [3] ∧ z.fuses.cert.length = 3 ∧ Test.serves (Test.asked 1 0x31 [4] [] keyed) 1 0x31 [4] ∧ Test.serves (Test.asked 1 0x32 (List.range 12)) 1 0x32 (List.range 12) ∧ Test.counts 1 0x32 (List.range 12) (· == 12) := by decide +kernel

theorem witness_Updates :
    let part := fun n (g : Gov) => g.withFirm { g.firm with imgLen := 0x200, written := n }
    let d := Test.asked 2 4 [0x1F8, 5, 6] [(F.FWP_UPD_USTATE, 1)] (part 0x1F8)
    let v := Test.at (Test.on [(F.FWP_UPD_USTATE, 2)])
    (∀ len ∈ [0x1FF, 0x200, 0x100000, 0x100001], Test.serves (Test.asked 2 3 [len]) 2 3 [len]) ∧ (Test.at (Test.on [])).get F.FWP_UPD_USTATE = 0 ∧
    Test.serves d 2 4 [0x1F8, 5, 6] ∧ Test.counts 2 4 [0x1F8, 5, 6] blockCount ∧ (Test.at d).firm.written = 0x1F8 ∧ (Test.at d).firm.written + 8 ≤ (Test.at d).firm.imgLen ∧ (Test.at d).get F.FWP_UPD_USTATE = 1 ∧ Test.serves (Test.asked 2 4 [0, 5, 6] [] (part 8)) 2 4 [0, 5, 6] ∧
    Test.serves (Test.asked 2 5 [] [(F.FWP_UPD_USTATE, 1)] (part 0x200)) 2 5 [] ∧ Test.serves (Test.asked 2 5 []) 2 5 [] ∧ v.pilotsOn = true ∧ v.get F.FWP_UPD_USTATE = 2 ∧ imageFault [] 0 0 true = some 1 ∧
    v.flashShut = false ∧ flashLimit none true < 2000000001 ∧ v.running = true ∧ v.led.epochUp = false ∧ (Test.at (Test.on [(F.FWP_UPD_USTATE, 1)])).get F.FWP_UPD_USTATE = 1 := by decide +kernel

/-- A vendor request. -/
def Test.vendor (code : Byte) (payload : List Byte) (owner : Bool := true) : VendorReq := ⟨0, 0x81, code, payload, owner⟩

theorem witness_ManagementRequests :
    let on := fun fs f => Test.on fs fun g => f (g.withMgmt { g.mgmt with eid := 9 })
    let s := on [(F.PS_WAKE_EN_EN, 0x10)] id
    let g0 := Test.at s
    let anchor := on [(F.SUP_STAT_MODE, 2), (F.FWP_UPD_USTATE, 1)] fun g => g.withFirm { g.firm with imgLen := 0x200, written := 0x200 }
    let writing := on [(F.SUP_STAT_MODE, 2), (F.FWP_UPD_USTATE, 1)] fun g => g.withFirm { g.firm with imgLen := 0x200, written := 0x1FC }
    s.gov.up = true ∧ g0.mgmt.eid ≠ 0 ∧ (Test.vendor 1 []).pen.toNat = g0.fuses.pen ∧ 128 ≤ (Test.vendor 1 []).rq.toNat ∧ bits (Test.vendor 1 []).rq.toNat 5 2 = 0 ∧ g0.mgmtServes = true ∧ (Test.at (Test.on [])).mgmt.eid = 0 ∧
    (Test.at (on [(F.FWP_PSTATE_STATE 2, 3)] id)).mgmtServes = false ∧ (6 : Byte).toNat ∉ [1, 2, 3, 4, 5, 0x10, 0x11, 0x12] ∧ bit (g0.get F.PS_WAKE_EN_EN) 4 = true ∧ bit ((Test.at (on [(F.PS_WAKE_EN_EN, 0)] id)).get F.PS_WAKE_EN_EN) 4 = false ∧
    (Test.vendor 3 (List.replicate 36 1 ++ [3])).payload.length = 37 ∧ (Test.vendor 3 (List.replicate 36 1 ++ [3])).payload.getD 36 0 = 3 ∧ (Test.vendor 3 (List.replicate 36 1 ++ [4])).payload.getD 36 0 = 4 ∧ g0.flag F.FLT_CTRL_LOCK = false ∧ g0.anchored = false ∧
    anchor.gov.up = true ∧ (Test.at anchor).anchored = true ∧ (Test.at anchor).mgmtServes = true ∧ (∀ p ∈ [[(0 : Byte), 2, 0, 0], [0, 0, 0x10, 0]], p.length = 4 ∧ 0x200 ≤ ofLeBytes p ∧ ofLeBytes p ≤ 0x100000) ∧ ofLeBytes [0xFF, 1, 0, 0] < 0x200 ∧ (Test.at anchor).get F.FWP_UPD_USTATE = 1 ∧
    (Test.at anchor).firm.written = (Test.at anchor).firm.imgLen ∧ ofLeBytes [0xFC, 1, 0, 0] = (Test.at writing).firm.written ∧ (Test.at writing).firm.written + 4 ≤ (Test.at writing).firm.imgLen ∧ imageFault [] 0 0 true = some 1 := by decide +kernel

theorem witness_PlatformMonitoring :
    let on := fun fs f => Test.on fs fun g => f (g.withMgmt { g.mgmt with eid := 9 })
    let s := on [] id
    let g0 := Test.at s
    let n := on [] fun g => g.withPwr { g.pwr with notice := some (5, true, none) }
    let e := on [] fun g => g.withFlt { g.flt with event := some (.notice [1, 2]) }
    let c := on [] fun g => g.withFlt { g.flt with event := some (.cper 1 2 [] none none []) }
    s.gov.up = true ∧ g0.mgmt.eid ≠ 0 ∧ (Test.at (Test.on [])).mgmt.eid = 0 ∧ g0.mgmtServes = true ∧ g0.anchored = false ∧ (Test.at (on [(F.FWP_PSTATE_STATE 2, 3)] id)).mgmtServes = false ∧ (g0.sensor 0x40).isSome = true ∧ g0.sensor 0 = none ∧
    sensorIds.length = 45 ∧ (sensorIds[46 - 2]?).isSome = true ∧ (Test.at n).nextEvent.isSome = true ∧ g0.nextEvent = none ∧ g0.state ≠ stOff ∧ g0.flt.event = none ∧ g0.powered = true ∧
    (Test.at e).flt.event = some (.notice [1, 2]) ∧ (Test.at c).flt.event = some (.cper 1 2 [] none none []) := by decide +kernel

/-- A node of the Hawser link with the fields and the change given. -/
def Test.link (fs : List (Fld × Nat)) (f : HwsSt → HwsSt := id) : State :=
  Test.on ([(F.IDL_CFG_EN, 1), (F.IDL_CFG_UP_EN, 1), (F.IDL_CFG_DN_EN, 1), (F.IDL_STAT_NODE, 1), (F.IDL_STAT_NODES, 64), (F.IDL_STAT_ENUM_DONE, 1)] ++ fs) fun g => g.withHws (f g.hws)

theorem witness_HawserEvents :
    let s := Test.link []
    let up := Test.link [(F.IDL_STAT_UP_LINK, 2), (F.IDL_STAT_DN_LINK, 1), (F.IDL_STAT_LOCKED, 1)] fun x => { x with ports := [(1, { run := 4 })], absent := [(63, 3)] }
    let root := fun e => (Test.on [(F.IDL_CFG_EN, 1), (F.IDL_CFG_ROOT, 1), (F.IDL_CFG_UP_EN, 1), (F.IDL_CFG_DN_EN, 1)] fun g => (g.withHws { g.hws with enum := e }).withNow 4000000).gov
    let faulty : Slot := { Test.slot with node := 0, flags := 8 }
    s.gov.engine = true ∧ (Test.at s).flag (portEnable 1) = true ∧ (Test.at s).get (linkField 1) = 0 ∧ up.gov.engine = true ∧ (Test.at up).get (linkField 1) = 1 ∧ 4 ≤ ((Test.at up).port 1).run ∧ (Test.at up).get (linkField 0) ≠ 0 ∧
    ((Test.at up).port 0).hdrAt + 30000 ≤ (Test.at up).now ∧ (Test.at up).isRoot = false ∧ (Test.at s).flag F.IDL_CFG_EN = true ∧ (Test.at s).get F.IDL_STAT_MODE ≠ 3 ∧ (Test.at s).hws.rootAt + 30000 ≤ (Test.at s).now ∧
    (∀ e ∈ [0, 1, 2], (root e).engine = true ∧ ((root e).reach 0).isRoot = true ∧ ((root e).reach 0).now % 10000 = 0 ∧ ((root e).reach 0).hws.sentAt ≠ some 4000000) ∧ ((root 1).reach 0).bothUp = false ∧
    (Test.at up).takesPart = true ∧ 63 ≠ (Test.at up).get F.IDL_STAT_NODE ∧ 63 < (Test.at up).get F.IDL_STAT_NODES ∧ (Test.at up).gone 63 = true ∧ (Test.at up).hws.told = [] ∧
    (Test.at (Test.link [] fun x => { x with known := [(0, some faulty)] })).lastSlot 0 = some faulty ∧ bit faulty.flags 3 = true ∧ (Test.at (Test.link [])).gone 0 = false := by decide +kernel

theorem witness_HawserRounds :
    let own : Slot := { Test.slot with node := 1 }
    let s := Test.link [(F.IDL_CFG_TUG_EN, 1)] fun x => { x with tugging := true, round := some 5 }
    let whole := Test.link [(F.IDL_CFG_TUG_EN, 1)] fun x => { x with tugging := true, round := some 5, hist := (List.range 8).map fun k => (k, [own]) }
    let st := Test.on [] fun g => (g.withHws { g.hws with step := some (-700) }).withNow 4000000
    let cut := Test.on [] fun g => (g.withHws { g.hws with cuts := [(3, 3, 990000), (4, 2, 5), (5, 1, 9000000)] }).withNow 4000000
    st.gov.engine = true ∧ (st.gov.reach 0).hws.step = some (-700) ∧ (st.gov.reach 0).now % 250 = 0 ∧
    s.gov.engine = true ∧ (Test.at s).pilotUp 2 = true ∧ (Test.at s).hws.tugging = true ∧ (Test.at s).flag F.IDL_CFG_TUG_EN = true ∧ (Test.at s).get F.IDL_STAT_MODE ≠ 3 ∧ (Test.at s).hws.round = some 5 ∧ ((Test.at s).roundMembers 5).1 = false ∧ ((Test.at whole).roundMembers 5).1 = true ∧
    (Test.at (Test.link [] fun x => { x with tugging := true })).flag F.IDL_CFG_TUG_EN = false ∧
    cut.gov.engine = true ∧ ((cut.gov.reach 0).hws.cuts.filter fun c => decide (c.2.2 < (cut.gov.reach 0).now)).getLast? = some (4, 2, 5) ∧ (cut.gov.reach 0).onTick = true := by decide +kernel

theorem witness_ClockEvents :
    let s := Test.on [(F.DRP_DET_CFG_EN 255, 1), (F.RAIL_STATE_STATE 0, rOn), (F.RAIL_CTRL_EN 0, 1), (F.RAIL_STATE_INWIN 0, 1), (F.DRP_RGN_STR_EN 0, 1), (F.DRP_CFG_AUTO_FORCE, 1), (F.DRP_CLKMON_REF_PRESENT, 1), (F.DRP_RGN_MUX_SEL 15, 2), (F.DRP_RGN_MUX_BUSY 15, 1), (F.DRP_OSC_TRIM_SRC, 1)]
      fun g => (g.withClk { g.clk with crossing := [(0, some 3000000)] }).setRail 0 fun x => { x with goodAt := some 2000000 }
    let g0 := Test.at s
    let ep := fun f => Test.at (Test.on [(F.DRP_RGN_STAT_OPEN 15, 1), (F.DRP_RGN_STAT_DEPTH 15, 1), (F.DRP_RGN_STR_DEPTH_MAX 15, 2), (F.DRP_RGN_STR_EN 15, 1), (F.DRP_DET_CFG_EN 255, 1), (F.DRP_DET_CFG_REGION 255, 15), (F.RAIL_STATE_STATE 0, rOn), (F.RAIL_CTRL_EN 0, 1), (F.RAIL_STATE_INWIN 0, 1)] f)
    let syn := fun fs f => Test.at (Test.on ([(F.FSYN_CTRL_EN 15, 1), (F.DRP_CLKMON_REF_PRESENT, 1)] ++ fs) f)
    let force := Test.at (Test.on [(F.DRP_CFG_AUTO_FORCE, 1), (F.DRP_RGN_MUX_FB_SEL 15, 2), (F.DRP_CLKMON_REF_PRESENT, 1)] fun g => g.setRgn 15 fun x => { x with goneAt := some 100000 })
    s.gov.up = true ∧ g0.armed 255 = true ∧ g0.actFlag (F.DRP_RGN_STR_EN 0) = true ∧ g0.episode 0 = false ∧ g0.regionRuns 0 = true ∧ (Test.at (Test.on [])).armed 255 = false ∧
    Tab.get (fun _ => none) g0.clk.crossing 0 = some 3000000 ∧ (g0.rail (g0.act (F.DRP_DET_CFG_RAIL 0))).goodAt = some 2000000 ∧ 3000000 + 10000 ≤ g0.now ∧ g0.rstate (g0.act (F.DRP_DET_CFG_RAIL 0)) = rOn ∧ g0.flag (F.SNS_DET_STAT_BROKEN 0) = false ∧
    (ep id).episode 15 = true ∧ (ep id).regionCrosses 15 = false ∧ ((ep id).rgn 15).falling = false ∧ ((ep id).rgn 15).endAt + 10 * (ep id).act (F.DRP_RGN_STR_HOLD 15) ≤ (ep id).now ∧
    ((ep fun g => g.setRgn 15 fun x => { x with falling := true }).rgn 15).falling = true ∧ ((ep id).rgn 15).changeAt + 10 * (ep id).act (F.DRP_RGN_STR_RLS 15) ≤ (ep id).now ∧
    (ep fun g => (g.mark (F.DRP_DET_CFG_CROSS 255)).withClk { g.clk with crossing := [(255, some 5)] }).regionCrosses 15 = true ∧ (ep id).get (F.DRP_RGN_STAT_DEPTH 15) < (ep id).act (F.DRP_RGN_STR_DEPTH_MAX 15) ∧
    g0.flag (F.DRP_RGN_MUX_BUSY 15) = true ∧ (g0.rgn 15).swAt + 2000 ≤ g0.now ∧ g0.flag (F.DRP_RGN_MUX_HANG 15) = false ∧ g0.sourceRuns (g0.source 15) = true ∧ g0.sourceRuns (g0.rgn 15).out = true ∧
    ((force.rgn 15).goneAt = some 100000 ∧ force.actFlag F.DRP_CFG_AUTO_FORCE = true ∧ force.sourcePresent (sourceOf 15 2 0) = true) ∧
    (syn [] id).synOn 15 = true ∧ (syn [] id).flag (F.FSYN_STAT_LOCK 15) = false ∧ (syn [] id).flag (F.FSYN_STAT_COAST 15) = false ∧
    (((syn [(F.FSYN_STAT_LOCK 15, 1), (F.FSYN_FREQ_CUR 15, 250), (F.FSYN_FREQ_TGT 15, 200)] fun g => g.setSyn 15 fun x => { x with dir := 2, credit := 2000 }).reglide 15).syn 15).dir = 2 ∧
    (syn [(F.FSYN_STAT_COAST 15, 1)] id).flag (F.FSYN_STAT_COAST 15) = true ∧ (syn [] id).clk.refSince + 100000 ≤ (syn [] id).now ∧ g0.trimRef = some true ∧ g0.clk.markAt = none := by decide +kernel

/-- R250 by hand: these eight samples round up to a power of two in VAR, which is then exactly 2 to the 20. -/
theorem test_var_carry : ((([3200, 455, 115, 31, 82, 64, 73, 73] : List Int).foldl WinAcc.add {}).stats true).2.1 = 0x49800000 := by decide +kernel

/-- R250 by hand: one sample of 8421569 among 127 zeros. -/
theorem test_var_carry_long : (((8421569 :: List.replicate 127 (0 : Int)).foldl WinAcc.add {}).stats true).2.1 = 0x53000000 := by decide +kernel

theorem witness_ScrubAndTap :
    let s := Test.on []
    let far := Test.on [(F.FLT_SIL_CFG_EN, 1), (F.BT_MODEL_MODEL_EN 255, 1), (F.FLT_SIL_CNT_CNT 255, 63), (F.FLT_SIL_CFG_SIL_THR, 10), (F.FLT_SIL_MIN_SIL_MIN, 5)] fun g => g.withLed { g.led with stepDue := true, owned := [(255, 1)], silE := [(255, 100)], silM := [(255, 50)] }
    let near := Test.at (Test.on [(F.FLT_SIL_CFG_EN, 1), (F.FLT_SIL_CFG_SIL_THR, 1000), (F.FLT_SIL_MIN_SIL_MIN, 50)] fun g => g.withLed { g.led with stepDue := true, owned := [(255, 1)], silE := [(255, 50)], silM := [(255, 50)] })
    let factory := Test.on [] fun g => g.withTap { g.tap with factory := true }
    let g0 := Test.at s
    s.gov.engine = true ∧ g0.tap.upsets = [] ∧ (Test.at (Test.on [(F.FLT_SCRUB_PASS_MS, 1)])).flt.passStart + 2000000 * 1 ≤ g0.now ∧
    far.gov.engine = true ∧ (Test.at far).led.stepDue = true ∧ ((Test.at far).led.owned.map (·.1)).Nodup ∧ (∀ p ∈ (Test.at far).led.owned, p.1 < 256) ∧ (Test.at far).flag F.FLT_SIL_CFG_EN = true ∧ (Test.at far).actFlag (F.BT_MODEL_MODEL_EN 255) = true ∧
    (Test.at far).get F.FLT_SIL_MIN_SIL_MIN ≤ 50 ∧ (Test.at far).get F.FLT_SIL_CFG_SIL_THR * 50 < 50 * 1000 ∧ near.get F.FLT_SIL_MIN_SIL_MIN ≤ 50 ∧ (Test.at (Test.on [(F.FLT_SIL_CFG_EN, 0)])).flag F.FLT_SIL_CFG_EN = false ∧
    g0.tapOn = true ∧ g0.tapOpen = true ∧ (Test.at (Test.on [(F.GOV_STRAP_DBG_CLOSED, 1)])).tapOpen = false ∧ g0.tap.factory = false ∧ (Test.at factory).tap.factory = true := by decide +kernel

end
end

section
namespace Sys2Proof.Machine

/-! ### The state after a reset (R386) -/

/-- Where every word reads its reset value, every field of a word without a reset value of its own reads its Reset column or its fuses. -/
theorem Gov.get_of_resetWord {g : Gov} {off : Nat} {f : FieldDef} (hw : g.word off = resetWord g.fuses off) (hs : specialReset g.fuses off = none) (hf : f ∈ fieldsAt off) :
    g.get ⟨off, f.lo, f.w⟩ = if f.fused then g.fuses.word off / 2 ^ f.lo % 2 ^ f.w else f.reset % 2 ^ f.w := by
  rw [Gov.get, hw]
  exact field_resetWord g.fuses hs hf

@[simp] theorem Gov.afterReset_fuses (g : Gov) (k : Persist) (v : Bool) : (g.afterReset k v).fuses = g.fuses := by simp [Gov.afterReset]
@[simp] theorem Gov.afterReset_now (g : Gov) (k : Persist) (v : Bool) : (g.afterReset k v).now = 0 := by simp [Gov.afterReset]
@[simp] theorem Gov.afterReset_held (g : Gov) (k : Persist) (v : Bool) : (g.afterReset k v).held = [] := by simp [Gov.afterReset]
@[simp] theorem Gov.afterReset_rst (g : Gov) (k : Persist) (v : Bool) : (g.afterReset k v).rst = false := by simp [Gov.afterReset]
@[simp] theorem Gov.afterReset_brown (g : Gov) (k : Persist) (v : Bool) : (g.afterReset k v).brown = false := by simp [Gov.afterReset]

/-- A reset leaves every word but FWP_SVN, PS_WAKE_STAT and GOV_STRAP at its reset value. -/
theorem Gov.afterReset_word (g : Gov) (k : Persist) (v : Bool) {off : Nat} (h : off ∉ [W.FWP_SVN, W.PS_WAKE_STAT, W.GOV_STRAP]) :
    (g.afterReset k v).word off = resetWord g.fuses off := by
  simp only [List.mem_cons, List.not_mem_nil, or_false, not_or] at h
  obtain ⟨hsvn, hwake, hstrap⟩ := h
  unfold Gov.afterReset
  rw [Gov.word_set_ne _ _ hstrap, Gov.word_set_ne _ _ hstrap, Gov.word_set_ne _ _ hwake, Gov.word_set_ne _ _ hsvn]
  rfl

theorem Gov.afterReset_svn (g : Gov) (k : Persist) (v : Bool) : (g.afterReset k v).get F.FWP_SVN_FUSE_SVN = k.svn % 2 ^ 16 := by
  unfold Gov.afterReset
  rw [Gov.get_set_apart _ _ (by decide), Gov.get_set_apart _ _ (by decide), Gov.get_set_apart _ _ (by decide), Gov.get_set_self _ _ (by decide)]
  rfl

theorem Gov.afterReset_offWake (g : Gov) (k : Persist) (v : Bool) : (g.afterReset k v).flag F.PS_WAKE_STAT_OFF_WAKE = k.wakeN := by
  unfold Gov.afterReset
  rw [Gov.flag_set_apart _ _ (by decide), Gov.flag_set_apart _ _ (by decide), Gov.flag_set_self _ _ (by decide)]
  cases k.wakeN <;> rfl

theorem Gov.afterReset_vselEn (g : Gov) (k : Persist) (v : Bool) : (g.afterReset k v).flag F.GOV_STRAP_VSEL_EN = v := by
  unfold Gov.afterReset
  rw [Gov.flag_set_apart _ _ (by decide), Gov.flag_set_self _ _ (by decide)]
  cases v <;> rfl

theorem Gov.afterReset_vsel (g : Gov) (k : Persist) (v : Bool) : (g.afterReset k v).get F.GOV_STRAP_VSEL = g.pins.vsel % 16 := by
  unfold Gov.afterReset
  rw [Gov.get_set_self _ _ (by decide)]
  rfl

@[simp] theorem Gov.heldBy_get (g : Gov) (rst brown dark : Bool) (f : Fld) : (g.heldBy rst brown dark).get f = g.get f := (rfl)
@[simp] theorem Gov.heldBy_flag (g : Gov) (rst brown dark : Bool) (f : Fld) : (g.heldBy rst brown dark).flag f = g.flag f := (rfl)

@[simp] theorem Gov.heldBy_rst (g : Gov) (rst brown dark : Bool) : (g.heldBy rst brown dark).rst = rst := (rfl)

/-- The governor shows the reset of a state: every field of the map but three words at its reset value, the kept version and wake latch shown, no time passed and no write held (R386, R336, R306). -/
structure Gov.FreshFrom (s : State) (g : Gov) : Prop where
  column  : ∀ (off : Nat) (f : FieldDef), f ∈ fieldsAt off → off ∉ [W.FWP_SVN, W.PS_WAKE_STAT, W.GOV_STRAP] → specialReset g.fuses off = none →
    g.get ⟨off, f.lo, f.w⟩ = if f.fused then g.fuses.word off / 2 ^ f.lo % 2 ^ f.w else f.reset % 2 ^ f.w
  fuses   : g.fuses = s.gov.fuses
  now     : g.now = 0
  held    : g.held = []
  svn     : g.get F.FWP_SVN_FUSE_SVN = s.keep.svn % 2 ^ 16
  offWake : g.flag F.PS_WAKE_STAT_OFF_WAKE = s.keep.wakeN

theorem Gov.freshFrom_afterReset (s : State) (v : Bool) : (s.gov.afterReset s.keep v).FreshFrom s where
  column _ _ hf hout hs := Gov.get_of_resetWord (by rw [Gov.afterReset_word _ _ _ hout, Gov.afterReset_fuses]) hs hf
  fuses := Gov.afterReset_fuses _ _ _
  now := Gov.afterReset_now _ _ _
  held := Gov.afterReset_held _ _ _
  svn := Gov.afterReset_svn _ _ _
  offWake := Gov.afterReset_offWake _ _ _

/-- The conditions that hold the block in reset are no part of the reset values. -/
theorem Gov.FreshFrom.heldBy {s : State} {g : Gov} (h : g.FreshFrom s) (rst brown dark : Bool) : (g.heldBy rst brown dark).FreshFrom s :=
  ⟨h.column, h.fuses, h.now, h.held, h.svn, h.offWake⟩

/-- The reset values in the order in which the statement lists them. -/
theorem Gov.FreshFrom.all {s : State} {g : Gov} (h : g.FreshFrom s) :
    (∀ (off : Nat) (f : FieldDef), f ∈ fieldsAt off → off ∉ [W.FWP_SVN, W.PS_WAKE_STAT, W.GOV_STRAP] → specialReset g.fuses off = none →
      g.get ⟨off, f.lo, f.w⟩ = if f.fused then g.fuses.word off / 2 ^ f.lo % 2 ^ f.w else f.reset % 2 ^ f.w) ∧
    g.fuses = s.gov.fuses ∧ g.now = 0 ∧ g.held = [] ∧ g.get F.FWP_SVN_FUSE_SVN = s.keep.svn % 2 ^ 16 ∧ g.flag F.PS_WAKE_STAT_OFF_WAKE = s.keep.wakeN :=
  ⟨h.column, h.fuses, h.now, h.held, h.svn, h.offWake⟩

theorem powerOnReset_next (s : State) : exec .powerOnReset s = .next { s with gov := (s.gov.afterReset s.keep s.gov.strap).heldBy true false false } := by
  show execPowerOnReset s = _
  simp [execPowerOnReset, State.onBoth]

theorem rstNAssert_next (s : State) : exec .rstNAssert s = .next { s with gov := (s.gov.afterReset s.keep s.gov.strap).heldBy true s.gov.brown s.gov.dark } := by
  show execRstNAssert s = _
  simp [execRstNAssert, State.onBoth]

theorem alwaysOnSupplyRemoval_next (s : State) :
    exec .alwaysOnSupplyRemoval s = .next { s with gov := (s.gov.afterReset s.keep s.gov.strap).heldBy true false true, keep := { s.keep with trip := false } } := by
  show execAlwaysOnSupplyRemoval s = _
  simp [execAlwaysOnSupplyRemoval, State.onBoth]

theorem rstNRelease_next {s : State} (v : Bool) (hr : s.gov.rst = true) (hd : s.gov.dark = false) :
    exec (.rstNRelease v) s = .next { s with gov := (s.gov.afterReset s.keep v).heldBy false s.gov.brown false } := by
  show execRstNRelease v s = _
  simp [execRstNRelease, State.onBoth, hr, hd]

theorem brownOut_next {s : State} (hd : s.gov.dark = false) :
    exec .brownOut s = .next { s with gov := (s.gov.afterReset s.keep s.gov.strap).heldBy s.gov.rst true false } := by
  show execBrownOut s = _
  simp [execBrownOut, State.onBoth, hd]

theorem brownOutRecovery_next {s : State} (v : Bool) (hb : s.gov.brown = true) (hr : s.gov.rst = false) :
    exec (.brownOutRecovery v) s = .next { s with gov := s.gov.afterReset s.keep v } := by
  show execBrownOutRecovery v s = _
  simp [execBrownOutRecovery, State.onBoth, hb, hr]

end Sys2Proof.Machine

open Sys2Proof Sys2Proof.Machine

/-- Settles O6: each of the six rows ends in `Gov.afterReset`, whose words are the reset words but for the three that it stores itself. -/
theorem resetValues : Obligations.ResetValues := by
  intro s
  have fresh := fun v => Gov.freshFrom_afterReset s v
  refine ⟨fun off f hf _ hs => Gov.get_of_resetWord (g := State.reset.gov) (off := off) rfl hs hf, ?_, ?_, ?_, ?_, ?_, ?_⟩
  · exact ⟨_, powerOnReset_next s, ((fresh _).heldBy true false false).all, rfl, rfl, rfl⟩
  · exact ⟨_, rstNAssert_next s, ((fresh _).heldBy true s.gov.brown s.gov.dark).all, rfl⟩
  · intro v hr hd
    exact ⟨_, rstNRelease_next v hr hd, ((fresh v).heldBy false s.gov.brown false).all, rfl,
      (Gov.heldBy_flag _ _ _ _ _).trans (Gov.afterReset_vselEn _ _ _), (Gov.heldBy_get _ _ _ _ _).trans (Gov.afterReset_vsel _ _ _)⟩
  · intro hd
    exact ⟨_, brownOut_next hd, ((fresh _).heldBy s.gov.rst true false).all, rfl, Gov.heldBy_rst _ _ _ _⟩
  · intro v hb hr
    exact ⟨_, brownOutRecovery_next v hb hr, (fresh v).all, Gov.afterReset_brown _ _ _, Gov.afterReset_vselEn _ _ _⟩
  · exact ⟨_, alwaysOnSupplyRemoval_next s, ((fresh _).heldBy true false true).all, rfl⟩
end

section
namespace Sys2Proof.Machine

/-! ### Reads at the port (R9, R52) -/

/-- The upper word that a read of the lower word has put in the shadow is found there. -/
theorem Tab.find?_ins_erase {α : Type} (m : Tab α) (k : Nat) (v : α) : (Tab.ins k v (Tab.erase m k)).find? (fun p => p.1 == k) = some (k, v) := by
  have gen : ∀ m : Tab α, (∀ p ∈ m, p.1 ≠ k) → (Tab.ins k v m).find? (fun p => p.1 == k) = some (k, v) := by
    intro m
    induction m with
    | nil => simp [Tab.ins]
    | cons p rest ih =>
      intro h
      have hne : p.1 ≠ k := h p (by simp)
      simp only [Tab.ins]
      split
      · simp
      · simpa [hne] using ih fun q hq => h q (by simp [hq])
  exact gen _ (Tab.erase_no_key m k)

/-- An erased key is no longer found. -/
theorem Tab.find?_erase {α : Type} (m : Tab α) (k : Nat) : (Tab.erase m k).find? (fun p => p.1 == k) = none :=
  List.find?_eq_none.2 fun p hp => by simpa using Tab.erase_no_key m k p hp

/-- Every pair of R9 lies below the drain apertures and the SG-1 bank. -/
theorem pairLow_lt {off : Nat} (h : pairLow off = true) : off < 0x60200 := by
  have low : ∀ p ∈ pairTable, 0 < p.2.2 ∧ p.1 + p.2.1 * p.2.2 ≤ 0x60200 := by decide
  obtain ⟨p, hp, hin⟩ := List.any_eq_true.1 h
  simp only [Bool.and_eq_true, decide_eq_true_eq] at hin
  obtain ⟨⟨hfrom, _⟩, hto⟩ := hin
  have hbelow := (Nat.div_lt_iff_lt_mul (low p hp).1).1 hto
  have := (low p hp).2
  omega

theorem Gov.readWord_low {g : Gov} {off : Nat} (h : pairLow off = true) :
    g.readWord off = (g.view off, g.withPairs (Tab.ins off (g.view (off + 4)) (Tab.erase g.pairs off))) := by
  have := pairLow_lt h
  simp [Gov.readWord, h, show ¬ 0x61000 ≤ off by omega, show ¬ 0x70000 ≤ off by omega]

/-- A read of an upper word that stands in the shadow answers the shadow and uses it up. -/
theorem Gov.readWord_shadow {g : Gov} {off : Nat} {p : Nat × Word} (h : pairLow off = false) (h4 : 4 ≤ off) (hl : pairLow (off - 4) = true) (hf : g.pairs.find? (fun p => p.1 == off - 4) = some p) :
    g.readWord off = (p.2, g.withPairs (Tab.erase g.pairs (off - 4))) := by
  have := pairLow_lt hl
  simp [Gov.readWord, h, h4, hl, hf, show ¬ 0x61000 ≤ off by omega, show ¬ 0x70000 ≤ off by omega]

/-- A read of an upper word without a shadow answers the live word. -/
theorem Gov.readWord_live {g : Gov} {off : Nat} (h : pairLow off = false) (h4 : 4 ≤ off) (hl : pairLow (off - 4) = true) (hf : g.pairs.find? (fun p => p.1 == off - 4) = none) :
    g.readWord off = (g.view off, g) := by
  have := pairLow_lt hl
  simp [Gov.readWord, h, h4, hl, hf, show ¬ 0x61000 ≤ off by omega, show ¬ 0x70000 ≤ off by omega]

theorem Gov.readWord_plain {g : Gov} {off : Nat} (h : pairLow off = false) (hu : 4 ≤ off → pairLow (off - 4) = false) (hd : ¬ (0x61000 ≤ off ∧ off < 0x62000))
    (hs : ¬ (0x70000 ≤ off ∧ off < 0x7002C)) : g.readWord off = (g.view off, g) := by
  unfold Gov.readWord
  rw [if_neg hd, if_neg hs, if_neg (by simp [h]), if_neg (by rintro ⟨h4, hl⟩; simp [hu h4] at hl)]

/-- A read that the port takes is the read of the word, answered OK. -/
theorem regPairRead_next {addr : BitVec 18} {t : Fin 250} {s : State} (hu : s.gov.up = true) (ha : (s.gov.reach t).asleep = false ∨ 4 * addr.toNat < 0x1000) :
    exec (.regPairRead addr t) s = .next { s with gov := ((s.gov.reach t).readWord (4 * addr.toNat)).2.respond 0 ((s.gov.reach t).readWord (4 * addr.toNat)).1 } := by
  have awake : ((s.gov.reach t).asleep && decide (0x1000 ≤ 4 * addr.toNat)) = false := by
    rcases ha with ha | ha
    · simp [ha]
    · simp [show ¬ 0x1000 ≤ 4 * addr.toNat by omega]
  show execRegPairRead addr t s = _
  unfold execRegPairRead State.onGov
  dsimp only
  rw [Gov.ev_up _ _ _ hu, Gov.portRead, awake]
  rfl

end Sys2Proof.Machine

open Sys2Proof Sys2Proof.Machine

/-- Settles O8: each clause is one branch of `Gov.readWord`, and only the shadow changes. -/
theorem pairReads : Obligations.PairReads := by
  intro addr t s g0 hu ha off
  have same : ∀ {g : Gov}, g.fuses = g0.fuses → g.regs = g0.regs → g0.onlyFields g [] := Gov.onlyFields_regs (Gov.onlyFields_refl g0 [])
  have done : ∀ (P : Gov → Prop) (r : Word × Gov), g0.readWord off = r → P (r.2.respond 0 r.1) → Completes (.regPairRead addr t) s P := by
    rintro P r rfl h
    exact ⟨_, regPairRead_next hu ha, h⟩
  refine ⟨fun hl => ?_, fun x hl h4 hp hf => ?_, fun hl h4 hp hf => ?_, fun hl hp hd hs => ?_⟩
  · exact done _ _ (Gov.readWord_low hl) ⟨rfl, rfl, Tab.find?_ins_erase _ _ _, same rfl rfl⟩
  · exact done _ _ (Gov.readWord_shadow hl h4 hp hf) ⟨rfl, rfl, Tab.find?_erase _ _, same rfl rfl⟩
  · exact done _ _ (Gov.readWord_live hl h4 hp hf) ⟨rfl, rfl, rfl, same rfl rfl⟩
  · exact done _ _ (Gov.readWord_plain hl hp hd hs) ⟨rfl, rfl, rfl, same rfl rfl⟩
end

section
namespace Sys2Proof.Machine

/-! ### Writes by access code (R12, R385) -/

/-- What a write leaves in a field is no wider than the field. -/
theorem fieldWrite_lt (l : Bool) (old new : Word) (f : FieldDef) : fieldWrite l old new f < 2 ^ f.w := by
  have ho : field old f.lo f.w < 2 ^ f.w := field_lt old f.lo f.w
  have hn : field new f.lo f.w < 2 ^ f.w := field_lt new f.lo f.w
  unfold fieldWrite
  cases f.acc with
  | rw => exact hn
  | rw1c => exact Nat.lt_of_le_of_lt Nat.and_le_left ho
  | rwo => dsimp only; split <;> assumption
  | rwl => dsimp only; split <;> assumption
  | ro => exact ho
  | ros => exact ho
  | trig => positivity

/-- Each field of a word that a plain write has written, by its access code. -/
theorem Gov.get_plain (g : Gov) {off : Nat} (w : Word) {f : FieldDef} (hf : f ∈ fieldsAt off) :
    (g.plain off w).get ⟨off, f.lo, f.w⟩ = fieldWrite (g.locked off) (g.word off) w f := by
  unfold Gov.plain
  rw [Gov.get, Gov.word_setWord_self]
  exact (field_mergeWord _ _ _ _ hf).trans (Nat.mod_eq_of_lt (fieldWrite_lt _ _ _ _))

@[simp] theorem Gov.word_plain_self (g : Gov) (off : Nat) (w : Word) : (g.plain off w).word off = g.merged off w := g.word_setWord_self off _

theorem Gov.word_plain_ne (g : Gov) {off o : Nat} (w : Word) (h : o ≠ off) : (g.plain off w).word o = g.word o := g.word_setWord_ne _ h

/-- No lock covers the GOV words below 0x100. -/
theorem Gov.locked_gov (g : Gov) {off : Nat} (h : off < 0x100) : g.locked off = false := by
  simp [Gov.locked, show ¬ 0xD00 ≤ off by omega, show ¬ 0xC60 = off by omega, show ¬ 0x14C = off by omega, show ¬ 0x50000 ≤ off by omega, show ¬ 0x20000 ≤ off by omega]

theorem Gov.writeReg_gov (g : Gov) {off : Nat} (w : Word) (hw : writable off = true) (h : off < 0x100) : g.writeReg off w = accept (g.plain off w) := by
  simp [Gov.writeReg, hw, h]

/-- A field reads alike where its word does. -/
theorem Gov.get_congr {g h : Gov} {f : Fld} (e : h.word f.off = g.word f.off) : h.get f = g.get f := congrArg (fun x => field x f.lo f.w) e

/-- A command that writes a word whose group answers with one state, where that state leaves PS_WAKE_STAT: it answers with that state. -/
theorem portCommand_gives {off : Nat} {wr : PortWrite} {t : Fin 250} {s : State} {g : Gov} (h : s.gov.writesNow t off wr) (e : (s.gov.reach t).writeReg off wr.data = accept g)
    (hk : g.word W.PS_WAKE_STAT = (s.gov.reach t).word W.PS_WAKE_STAT) : portCommand off wr t s = .next { s with gov := g.respond 0 0 } := by
  obtain ⟨hu, ht, ha⟩ := h
  have next := portCommand_next hu ht ha
  rw [e] at next
  exact next (congrArg (fun b => b != 0) (Gov.get_congr (f := F.PS_WAKE_STAT_OFF_WAKE) hk))



/-! ### The five locks (R385) -/

/-- A write with the bit of a write-once lock sets it, or finds it set. -/
theorem Gov.plain_sets_lock (g : Gov) {lock : Fld} {w : Word} (hl : ∃ f ∈ fieldsAt lock.off, f.lo = lock.lo ∧ f.w = lock.w ∧ f.acc = .rwo) (h1 : lock.w = 1) (hb : bit w.toNat lock.lo = true) :
    (g.plain lock.off w).flag lock = true := by
  obtain ⟨f, hf, hlo, hw, hacc⟩ := hl
  have new : field w f.lo f.w = 1 := by simpa [bit, field, hlo, hw, h1] using hb
  have stored := g.get_plain w hf
  rw [hlo, hw] at stored
  have : fieldWrite (g.locked lock.off) (g.word lock.off) w f ≠ 0 := by
    unfold fieldWrite
    rw [hacc, new]
    dsimp only
    split <;> omega
  simpa [Gov.flag, stored] using this

/-- A plain write of a word keeps the fields that its lock covers, and a write-once field that is set. -/
theorem Gov.get_plain_kept (g : Gov) {off : Nat} (w : Word) {f : FieldDef} (hf : f ∈ fieldsAt off) (hl : g.locked off = true) (hk : f.acc = .rwl ∨ f.acc = .rwo ∧ g.get ⟨off, f.lo, f.w⟩ ≠ 0) :
    (g.plain off w).get ⟨off, f.lo, f.w⟩ = g.get ⟨off, f.lo, f.w⟩ := by
  rw [g.get_plain w hf, hl]
  unfold fieldWrite
  rcases hk with hk | ⟨hk, h0⟩
  · rw [hk]; rfl
  · rw [hk]; exact if_neg h0

theorem Gov.noteLocked_open (g : Gov) {off : Nat} (h : g.locked off = false) : g.noteLocked off = g := by
  simp [Gov.noteLocked, h]

theorem Gov.noteLocked_locked (g : Gov) {off : Nat} (h : g.locked off = true) (hf : ((fieldsAt off).any fun f => f.acc == .rwl) = true) : g.noteLocked off = g.mark F.GOV_LOCK_STAT_LOCKED_WR := by
  simp [Gov.noteLocked, h, hf]

theorem Gov.locked_harbour (g : Gov) : g.locked W.LIM_HARBOUR = g.flag F.LIM_HARBOUR_LOCK := (rfl)

theorem Gov.locked_wdt (g : Gov) : g.locked W.FWP_WDT = g.flag F.FWP_WDT_LOCK := (rfl)

theorem Gov.writeReg_hlim (g : Gov) (w : Word) : g.writeReg W.HLIM_CTRL w = accept (g.plain W.HLIM_CTRL w) := by
  rw [Gov.writeReg, if_neg (by decide)]
  simp [W.HLIM_CTRL, Gov.writeBollards, W.HLIM_VCORE, W.HLIM_OC, W.HLIM_FSYN, W.HLIM_TSOFT]

theorem Gov.writeReg_harbour (g : Gov) (w : Word) : g.writeReg W.LIM_HARBOUR w = accept ((g.noteLocked W.LIM_HARBOUR).plain W.LIM_HARBOUR w) := by
  rw [Gov.writeReg, if_neg (by decide)]
  simp [W.LIM_HARBOUR, Gov.writeLimits, W.LIM_CFG, W.LIM_PCAP, W.LIM_EXC, W.LIM_TSD_THR, W.LIM_PCAP_MIN, W.LIM_STEADY_ACT, W.LIM_FSTEADY, W.LIM_STEADY_STAT, W.LIM_STATUS]

theorem Gov.writeReg_flt (g : Gov) {w : Word} (h : bit w.toNat 5 = false) : g.writeReg W.FLT_CTRL w = accept (g.plain W.FLT_CTRL w) := by
  rw [Gov.writeReg, if_neg (by decide)]
  simp [W.FLT_CTRL, Gov.writeFaults, h]

theorem Gov.writeReg_wdt (g : Gov) (w : Word) : g.writeReg W.FWP_WDT w = g.writePilots W.FWP_WDT w := by
  rw [Gov.writeReg, if_neg (by decide)]
  simp [W.FWP_WDT]

/-- FWP_WDT with the lock open and all three timeouts in range takes the write. -/
theorem Gov.writeReg_wdt_open (g : Gov) {w : Word} (h : g.flag F.FWP_WDT_LOCK = false) (hr : ∀ k : Fin 3, 1 ≤ field w (8 * k) 8 ∧ field w (8 * k) 8 ≤ 100) : g.writeReg W.FWP_WDT w = accept (g.plain W.FWP_WDT w) := by
  have inRange : ([0, 8, 16].any fun lo => decide (field w lo 8 < 1) || decide (100 < field w lo 8)) = false := by
    have h0 := hr 0
    have h1 := hr 1
    have h2 := hr 2
    simp at h0 h1 h2 ⊢
    omega
  rw [g.writeReg_wdt, Gov.writePilots, if_pos rfl, if_neg (by simp [g.locked_wdt, h]), inRange]
  rfl

theorem Gov.writeReg_wdt_locked (g : Gov) (w : Word) (h : g.flag F.FWP_WDT_LOCK = true) : g.writeReg W.FWP_WDT w = accept (g.noteLocked W.FWP_WDT) := by
  rw [g.writeReg_wdt, Gov.writePilots, if_pos rfl, if_pos (g.locked_wdt.trans h)]

/-- The write answered OK and set the lock, and its word alone changed, to the merged value. -/
def Gov.setsLock (g g' : Gov) (lock : Fld) (w : Word) : Prop :=
  g'.resp = 0 ∧ g'.flag lock = true ∧ g.onlyWords g' [lock.off] ∧ g'.word lock.off = g.merged lock.off w

/-- The write answered OK and was ignored: the lock stands, LOCKED_WR is set, and every field of the lock's word is as it was. -/
def Gov.ignoresLocked (g g' : Gov) (lock : Fld) : Prop :=
  g'.resp = 0 ∧ g'.flag lock = true ∧ g'.flag F.GOV_LOCK_STAT_LOCKED_WR = true ∧ g.onlyWords g' [lock.off, W.GOV_LOCK_STAT] ∧
    ∀ f ∈ fieldsAt lock.off, g'.get ⟨lock.off, f.lo, f.w⟩ = g.get ⟨lock.off, f.lo, f.w⟩

theorem Gov.plain_setsLock (g : Gov) {lock : Fld} {w : Word} (hl : ∃ f ∈ fieldsAt lock.off, f.lo = lock.lo ∧ f.w = lock.w ∧ f.acc = .rwo) (h1 : lock.w = 1) (hb : bit w.toNat lock.lo = true) :
    g.setsLock ((g.plain lock.off w).respond 0 0) lock w :=
  ⟨rfl, g.plain_sets_lock hl h1 hb, fun _ ho => g.word_plain_ne w (by simpa using ho), g.word_plain_self _ _⟩

/-- A state that differs in LOCKED_WR and in nothing of the lock's word has ignored the write. -/
theorem Gov.ignoresLocked_of_kept {g g' : Gov} {lock : Fld} (hl : ∃ f ∈ fieldsAt lock.off, f.lo = lock.lo ∧ f.w = lock.w) (hset : g.flag lock = true) (hm : g'.flag F.GOV_LOCK_STAT_LOCKED_WR = true)
    (hw : g.onlyWords g' [lock.off, W.GOV_LOCK_STAT]) (hf : ∀ f ∈ fieldsAt lock.off, g'.get ⟨lock.off, f.lo, f.w⟩ = g.get ⟨lock.off, f.lo, f.w⟩) : g.ignoresLocked (g'.respond 0 0) lock := by
  obtain ⟨f, hmem, hlo, hwid⟩ := hl
  have kept := hf f hmem
  rw [hlo, hwid] at kept
  exact ⟨rfl, (congrArg (fun n => n != 0) kept).trans hset, hm, hw, hf⟩

/-- A command that writes a lock's word, with the bit it needs, where its group answers with one state. -/
theorem portCommandIf_gives {ok : Bool} {off : Nat} {wr : PortWrite} {t : Fin 250} {s : State} {g : Gov} (hok : ok = true) (h : s.gov.writesNow t off wr) (e : (s.gov.reach t).writeReg off wr.data = accept g)
    (hk : g.word W.PS_WAKE_STAT = (s.gov.reach t).word W.PS_WAKE_STAT) : portCommandIf ok off wr t s = .next { s with gov := g.respond 0 0 } := by
  rw [portCommandIf, if_pos hok]
  exact portCommand_gives h e hk

/-- A lock's word that its group writes plainly, written with the lock's bit: the lock is set. -/
theorem lockWrite_completes {c : Instr} {wr : PortWrite} {t : Fin 250} {s : State} {lock : Fld} (he : exec c s = portCommandIf (bit wr.data.toNat lock.lo) lock.off wr t s) (hb : bit wr.data.toNat lock.lo = true)
    (h : s.gov.writesNow t lock.off wr) (hp : (s.gov.reach t).writeReg lock.off wr.data = accept ((s.gov.reach t).plain lock.off wr.data))
    (hl : W.PS_WAKE_STAT ≠ lock.off ∧ lock.w = 1 ∧ ∃ f ∈ fieldsAt lock.off, f.lo = lock.lo ∧ f.w = lock.w ∧ f.acc = .rwo) : Completes c s fun g => (s.gov.reach t).setsLock g lock wr.data := by
  obtain ⟨hoff, h1, hl⟩ := hl
  exact ⟨_, he.trans (portCommandIf_gives hb h hp ((s.gov.reach t).word_plain_ne _ hoff)), (s.gov.reach t).plain_setsLock hl h1 hb⟩

/-- A write that its lock makes the group ignore. -/
theorem lockedWrite_completes {c : Instr} {wr : PortWrite} {t : Fin 250} {s : State} {g : Gov} {lock : Fld} (he : exec c s = portCommandIf (bit wr.data.toNat lock.lo) lock.off wr t s) (hb : bit wr.data.toNat lock.lo = true)
    (h : s.gov.writesNow t lock.off wr) (hp : (s.gov.reach t).writeReg lock.off wr.data = accept g) (hoff : W.PS_WAKE_STAT ∉ [lock.off, W.GOV_LOCK_STAT]) (hi : (s.gov.reach t).ignoresLocked (g.respond 0 0) lock) :
    Completes c s fun g => (s.gov.reach t).ignoresLocked g lock := by
  have words : (s.gov.reach t).onlyWords (g.respond 0 0) [lock.off, W.GOV_LOCK_STAT] := by
    obtain ⟨_, _, _, words, _⟩ := hi
    exact words
  exact ⟨_, he.trans (portCommandIf_gives hb h hp (words _ hoff)), hi⟩

theorem Gov.word_mark_lockedWr (g : Gov) {o : Nat} (ho : o ≠ W.GOV_LOCK_STAT) : (g.mark F.GOV_LOCK_STAT_LOCKED_WR).word o = g.word o := g.word_set_ne _ ho

theorem Gov.flag_mark_lockedWr (g : Gov) : (g.mark F.GOV_LOCK_STAT_LOCKED_WR).flag F.GOV_LOCK_STAT_LOCKED_WR = true := Gov.flag_set_self g _ (by decide)

/-- A write of LIM_HARBOUR with its lock set keeps every field of the word. -/
theorem Gov.harbour_kept (g : Gov) (w : Word) (h : g.flag F.LIM_HARBOUR_LOCK = true) :
    ∀ f ∈ fieldsAt W.LIM_HARBOUR, (g.plain W.LIM_HARBOUR w).get ⟨W.LIM_HARBOUR, f.lo, f.w⟩ = g.get ⟨W.LIM_HARBOUR, f.lo, f.w⟩ := by
  intro f hf
  have code : ∀ f ∈ fieldsAt W.LIM_HARBOUR, f.acc = .rwl ∨ f.acc = .rwo ∧ f.lo = 31 ∧ f.w = 1 := by decide
  refine g.get_plain_kept w hf (g.locked_harbour.trans h) ((code f hf).imp_right fun ⟨hacc, hlo, hw⟩ => ⟨hacc, ?_⟩)
  rw [hlo, hw]
  simpa [Gov.flag, F.LIM_HARBOUR_LOCK, W.LIM_HARBOUR] using h

theorem Gov.ignoresLocked_harbour (g : Gov) (w : Word) (h : g.flag F.LIM_HARBOUR_LOCK = true) :
    g.ignoresLocked (((g.mark F.GOV_LOCK_STAT_LOCKED_WR).plain W.LIM_HARBOUR w).respond 0 0) F.LIM_HARBOUR_LOCK := by
  have stat : W.GOV_LOCK_STAT ≠ W.LIM_HARBOUR := by decide
  have kept := (g.mark F.GOV_LOCK_STAT_LOCKED_WR).harbour_kept w ((Gov.flag_set_apart _ _ (by decide)).trans h)
  refine Gov.ignoresLocked_of_kept (by decide) h ?_ (fun o ho => ?_) fun f hf => ?_
  · exact (congrArg (fun n => n != 0) (Gov.get_congr (f := F.GOV_LOCK_STAT_LOCKED_WR) (Gov.word_plain_ne _ _ stat))).trans g.flag_mark_lockedWr
  · obtain ⟨hoff, hstat⟩ : o ≠ W.LIM_HARBOUR ∧ o ≠ W.GOV_LOCK_STAT := by simpa [F.LIM_HARBOUR_LOCK, W.LIM_HARBOUR] using ho
    exact (Gov.word_plain_ne _ _ hoff).trans (g.word_mark_lockedWr hstat)
  · exact (kept f hf).trans (Gov.get_congr (g.word_mark_lockedWr stat.symm))

theorem Gov.ignoresLocked_wdt (g : Gov) (h : g.flag F.FWP_WDT_LOCK = true) : g.ignoresLocked ((g.mark F.GOV_LOCK_STAT_LOCKED_WR).respond 0 0) F.FWP_WDT_LOCK := by
  have stat : W.FWP_WDT ≠ W.GOV_LOCK_STAT := by decide
  refine Gov.ignoresLocked_of_kept (by decide) h g.flag_mark_lockedWr (fun o ho => g.word_mark_lockedWr ?_) fun f _ => ?_
  · exact fun e => ho (by simp [e])
  · exact Gov.get_congr (g.word_mark_lockedWr stat)

end Sys2Proof.Machine

open Sys2Proof Sys2Proof.Machine

/-- Settles O9: below 0x100 every write is plain, and a plain write acts on each field by its access code. -/
theorem writesByAccessCode : Obligations.WritesByAccessCode := by
  intro addr wr t s g0 hu hlow htakes hw off
  have always : alwaysOn off = true := by simp [alwaysOn, show off < 0x200 by omega]
  have other : ∀ o, o ≠ off → (g0.plain off wr.data).word o = g0.word o := fun o => g0.word_plain_ne wr.data
  have wake : W.PS_WAKE_STAT ≠ off := by have : W.PS_WAKE_STAT = 0x514 := rfl; omega
  refine ⟨_, portCommand_gives ⟨hu, htakes, .inr always⟩ (g0.writeReg_gov wr.data hw hlow) (other _ wake), rfl, other, fun f hf => ?_⟩
  have written : (g0.plain off wr.data).get ⟨off, f.lo, f.w⟩ = fieldWrite false (g0.word off) wr.data f := by
    rw [g0.get_plain wr.data hf, g0.locked_gov hlow]
  refine Eq.trans written ?_
  unfold fieldWrite
  cases f.acc <;> rfl

/-- Settles O35: each lock's word is written plainly while its lock is open; a locked LIM_HARBOUR or FWP_WDT keeps its fields and marks LOCKED_WR. -/
theorem lockWrites : Obligations.LockWrites := by
  intro wr t s g0 locks ignored
  refine ⟨fun hb h => ?_, fun hb h => ?_, fun hb h ho => ?_, fun hb h hl => ?_, fun hb h5 h => ?_, fun hb h ho hr => ?_, fun hb h hl => ?_⟩
  · exact lockWrite_completes (lock := F.GOV_LOCK_BT) rfl hb h (g0.writeReg_gov _ (by decide) (by decide)) (by decide)
  · exact lockWrite_completes (lock := F.HLIM_CTRL_LOCK) rfl hb h (g0.writeReg_hlim _) (by decide)
  · have plain := g0.writeReg_harbour wr.data
    rw [g0.noteLocked_open (g0.locked_harbour.trans ho)] at plain
    exact lockWrite_completes (lock := F.LIM_HARBOUR_LOCK) rfl hb h plain (by decide)
  · have kept := g0.writeReg_harbour wr.data
    rw [g0.noteLocked_locked (g0.locked_harbour.trans hl) (by decide)] at kept
    exact lockedWrite_completes (lock := F.LIM_HARBOUR_LOCK) rfl hb h kept (by decide) (g0.ignoresLocked_harbour wr.data hl)
  · exact lockWrite_completes (lock := F.FLT_CTRL_LOCK) rfl hb h (g0.writeReg_flt h5) (by decide)
  · exact lockWrite_completes (lock := F.FWP_WDT_LOCK) rfl hb h (g0.writeReg_wdt_open ho hr) (by decide)
  · have kept := g0.writeReg_wdt_locked wr.data hl
    rw [g0.noteLocked_locked (g0.locked_wdt.trans hl) (by decide)] at kept
    exact lockedWrite_completes (lock := F.FWP_WDT_LOCK) rfl hb h kept (by decide) (g0.ignoresLocked_wdt hl)
end

section
namespace Sys2Proof.Machine

/-! ### The sample that begins at a tick (R15, R23 steps 1 and 3, R80) -/

/-- The slots to dispatch: enabled by the words in force, and held by no memory error. -/
def Gov.freeSlots (g : Gov) : List Nat := g.enabledSlots.filter fun k => !g.slotHeld k

/-- The slots to dispatch are a matter of the words, the words in force and the memory errors. -/
theorem Gov.freeSlots_congr {g g' : Gov} (hz : g'.fuses = g.fuses) (hr : g'.regs = g.regs) (hh : g'.held = g.held) (hl : g'.eng.badLaw = g.eng.badLaw) (hw : g'.eng.badWord = g.eng.badWord) : g'.freeSlots = g.freeSlots := by
  have word : g'.actWord = g.actWord := by funext o; simp only [Gov.actWord, Gov.word, hh, hr, hz]
  have act : g'.act = g.act := by funext f; simp only [Gov.act, word]
  have enabled : g'.enabledSlots = g.enabledSlots := by simp only [Gov.enabledSlots, Gov.actFlag, hr, hh, act]
  have kept : g'.slotHeld = g.slotHeld := by funext k; simp only [Gov.slotHeld, hl, hw, act]
  simp only [Gov.freeSlots, enabled, kept]

theorem Gov.latchFeeds_slots (g : Gov) : g.latchFeeds.eng.feeds.map (·.1) = g.freeSlots := by
  simp [Gov.latchFeeds, Gov.freeSlots, Gov.withEng, Function.comp_def]

/-- The loops run on the latched feedbacks are those of the feedbacks. -/
theorem Gov.runLoops_slots (g : Gov) : g.runLoops.eng.inProg.map (·.slot) = g.eng.feeds.map (·.1) := by
  simp [Gov.runLoops, Gov.withEng, Gov.runSlot, Function.comp_def]

/-- What a SAMPLE_TICK leaves of the sample that begins. -/
structure Gov.Begun (g : Gov) : Prop where
  start : g.led.tickAt = some g.now
  ticks : g.fcu.ticks = 0
  sum : g.fcu.gateSum = []
  dispatched : g.fcu.late = none → g.eng.ran = true ∧ g.eng.inProg.map (·.slot) = g.freeSlots
  waiting : ∀ l, g.fcu.late = some l → g.eng.feeds.map (·.1) = g.freeSlots

theorem Gov.Begun.congr {g g' : Gov} (h : g.Begun) (hled : g'.led = g.led) (hnow : g'.now = g.now) (hfcu : g'.fcu = g.fcu) (heng : g'.eng = g.eng) (hz : g'.fuses = g.fuses) (hr : g'.regs = g.regs) (hh : g'.held = g.held) : g'.Begun := by
  have free : g'.freeSlots = g.freeSlots := Gov.freeSlots_congr hz hr hh (by rw [heng]) (by rw [heng])
  obtain ⟨start, ticks, sum, dispatched, waiting⟩ := h
  exact ⟨by rw [hled, hnow, start], by rw [hfcu, ticks], by rw [hfcu, sum], by rwa [hfcu, heng, free], by rwa [hfcu, heng, free]⟩

@[simp] theorem Gov.latchFeeds_led (g : Gov) : g.latchFeeds.led = g.led := (rfl)
@[simp] theorem Gov.latchFeeds_fcu (g : Gov) : g.latchFeeds.fcu = g.fcu := (rfl)
@[simp] theorem Gov.latchFeeds_now (g : Gov) : g.latchFeeds.now = g.now := (rfl)
@[simp] theorem Gov.latchFeeds_freeSlots (g : Gov) : g.latchFeeds.freeSlots = g.freeSlots := Gov.freeSlots_congr rfl rfl rfl rfl rfl
@[simp] theorem Gov.runLoops_led (g : Gov) : g.runLoops.led = g.led := (rfl)
@[simp] theorem Gov.runLoops_fcu (g : Gov) : g.runLoops.fcu = g.fcu := (rfl)
@[simp] theorem Gov.runLoops_now (g : Gov) : g.runLoops.now = g.now := (rfl)
@[simp] theorem Gov.runLoops_freeSlots (g : Gov) : g.runLoops.freeSlots = g.freeSlots := Gov.freeSlots_congr rfl rfl rfl rfl rfl

/-- The loops run at once where no late step is held; else their feedbacks wait. -/
theorem Gov.begun_of_dispatch {g : Gov} (start : g.led.tickAt = some g.now) (ticks : g.fcu.ticks = 0) (sum : g.fcu.gateSum = []) :
    (if g.latchFeeds.fcu.late.isNone then g.latchFeeds.runLoops else g.latchFeeds).Begun := by
  split
  · next h =>
    have free : g.fcu.late = none := Option.isNone_iff_eq_none.1 h
    have slots : g.latchFeeds.runLoops.eng.inProg.map (·.slot) = g.freeSlots := by rw [Gov.runLoops_slots, Gov.latchFeeds_slots]
    constructor
    case dispatched => exact fun _ => ⟨rfl, by simpa using slots⟩
    all_goals simp [start, ticks, sum, free]
  · next h =>
    constructor
    case dispatched => exact fun hn => absurd (by rw [hn]; rfl) h
    case waiting => exact fun _ _ => by simpa using g.latchFeeds_slots
    all_goals simp [start, ticks, sum]

/-- The sums of the sample and the idle count leave what began. -/
theorem Gov.Begun.idleSample {g : Gov} (h : g.Begun) (x : HwsSt) : (g.withHws x).idleSample.Begun :=
  h.congr rfl rfl rfl rfl rfl rfl rfl

@[simp] theorem Gov.watchBegin_now (g : Gov) (i : Nat) : (g.watchBegin i).now = g.now := by unfold Gov.watchBegin; split <;> rfl
@[simp] theorem Gov.watchBegin_led (g : Gov) (i : Nat) : (g.watchBegin i).led = g.led := by unfold Gov.watchBegin; split <;> rfl
@[simp] theorem Gov.watchBegin_fcu (g : Gov) (i : Nat) : (g.watchBegin i).fcu = g.fcu := by unfold Gov.watchBegin; split <;> rfl

theorem Gov.beginSample_begun (g : Gov) : g.beginSample.Begun := by
  unfold Gov.beginSample
  extract_lets opened owned _ _ started _ watched
  have start : watched.led.tickAt = some watched.now := by simp [watched, started]
  have ticks : watched.fcu.ticks = 0 := by simp [watched, started]
  have sum : watched.fcu.gateSum = [] := by simp [watched, started]
  exact (Gov.begun_of_dispatch start ticks sum).idleSample _

theorem Gov.sampleTick_begun (g : Gov) (inp : SampleIn) : (g.sampleTick inp).Begun := by
  unfold Gov.sampleTick
  exact Gov.beginSample_begun _

end Sys2Proof.Machine

open Sys2Proof Sys2Proof.Machine

/-- Settles O15: the sample tick ends in `Gov.beginSample`, which latches the feedbacks of the free slots and runs them unless a late step holds them. -/
theorem sampleTicks : Obligations.SampleTicks := by
  intro inp s hdue
  obtain ⟨start, ticks, sum, dispatched, waiting⟩ := (s.gov.reach 0).sampleTick_begun inp
  refine ⟨(s.gov.reach 0).sampleTick inp, ?_, start, ticks, sum, dispatched, waiting⟩
  show execSampleTick inp s = _
  unfold execSampleTick State.onGov
  dsimp only
  rw [if_pos hdue]
end

section
namespace Sys2Proof.Machine

/-! ### What keeps the governor powered -/

theorem Gov.powered_eq {g h : Gov} (hr : h.rst = g.rst) (hb : h.brown = g.brown) (hd : h.dark = g.dark) : h.powered = g.powered := by
  rw [Gov.powered, Gov.powered, hr, hb, hd]

@[simp] theorem Gov.each_powered {α : Type} {f : Gov → α → Gov} (step : ∀ g x, (f g x).powered = g.powered) (g : Gov) (xs : List α) : (g.each xs f).powered = g.powered :=
  Gov.each_same Gov.powered step xs g

@[simp] theorem Gov.log_powered (g : Gov) (time type : Nat) (ps : List Nat) : (g.log time type ps).powered = g.powered :=
  have e := g.log_besideFlt time type ps
  Gov.powered_eq (besideFlt_rst e) (besideFlt_brown e) (besideFlt_dark e)

theorem Gov.powered_of_besideCmd {g h : Gov} (e : h.besideCmd = g.besideCmd) : h.powered = g.powered :=
  Gov.powered_eq (besideCmd_rst e) (besideCmd_brown e) (besideCmd_dark e)

@[simp] theorem Gov.set_powered (g : Gov) (f : Fld) (v : Nat) : (g.set f v).powered = g.powered := (rfl)
@[simp] theorem Gov.setWord_powered (g : Gov) (o : Nat) (w : Word) : (g.setWord o w).powered = g.powered := (rfl)
@[simp] theorem Gov.mark_powered (g : Gov) (f : Fld) : (g.mark f).powered = g.powered := (rfl)
@[simp] theorem Gov.inc_powered (g : Gov) (f : Fld) (n : Nat) : (g.inc f n).powered = g.powered := (rfl)
@[simp] theorem Gov.upd_powered (g : Gov) (f : Fld) (x : Nat → Nat) : (g.upd f x).powered = g.powered := (rfl)
@[simp] theorem Gov.withFlt_powered (g : Gov) (x : FaultSt) : (g.withFlt x).powered = g.powered := (rfl)
@[simp] theorem Gov.withFcu_powered (g : Gov) (x : FcuSt) : (g.withFcu x).powered = g.powered := (rfl)
@[simp] theorem Gov.withHeld_powered (g : Gov) (x : Tab Word) : (g.withHeld x).powered = g.powered := (rfl)
@[simp] theorem Gov.setSyn_powered (g : Gov) (k : Nat) (f : SynSt → SynSt) : (g.setSyn k f).powered = g.powered := (rfl)
@[simp] theorem Gov.setRail_powered (g : Gov) (k : Nat) (f : RailSt → RailSt) : (g.setRail k f).powered = g.powered := (rfl)
@[simp] theorem Gov.setPh_powered (g : Gov) (k : Nat) (f : PhaseSt → PhaseSt) : (g.setPh k f).powered = g.powered := (rfl)

@[simp] theorem Gov.queueRecord_powered (g : Gov) (r : Raise) : (g.queueRecord r).powered = g.powered := by
  unfold Gov.queueRecord; dsimp only; split <;> simp

@[simp] theorem Gov.recordRaise_powered (g : Gov) (r : Raise) : (g.recordRaise r).powered = g.powered := by
  unfold Gov.recordRaise; split <;> simp

@[simp] theorem Gov.setTable_powered (g : Gov) (t : List Entry) : (g.setTable t).powered = g.powered := by
  simp [Gov.setTable]

@[simp] theorem Gov.purge_powered (g : Gov) (pick : Entry → Bool) : (g.purge pick).powered = g.powered := by
  unfold Gov.purge; dsimp only; split <;> simp

@[simp] theorem Gov.purgeAll_powered (g : Gov) : g.purgeAll.powered = g.powered := by simp [Gov.purgeAll]

@[simp] theorem Gov.hold_powered (g : Gov) (o : Nat) : (g.hold o).powered = g.powered := by
  unfold Gov.hold; split <;> simp

@[simp] theorem Gov.reactRaise_powered (g : Gov) (r : Raise) : (g.reactRaise r).powered = g.powered := by
  unfold Gov.reactRaise
  split
  · split <;> simp [Gov.purgeBerth]
  · simp [apply_ite Gov.powered]
  · rfl

@[simp] theorem Gov.resolve_powered (g : Gov) : g.resolve.powered = g.powered := by simp [Gov.resolve, Gov.levels]

@[simp] theorem Gov.countRaise_powered (g : Gov) (src : Nat) : (g.countRaise src).powered = g.powered := by
  unfold Gov.countRaise; split <;> simp

@[simp] theorem Gov.raise_powered (g : Gov) (src detail : Nat) (silent : Bool) : (g.raise src detail silent).powered = g.powered := by
  unfold Gov.raise Gov.settle
  dsimp only
  split
  · rfl
  · split
    · simp
    · split <;> simp [Gov.enlist]

@[simp] theorem Gov.bollard_powered (g : Gov) (kind idx : Nat) : (g.bollard kind idx).powered = g.powered := by simp [Gov.bollard]

@[simp] theorem Gov.reglide_powered (g : Gov) (s : Nat) : (g.reglide s).powered = g.powered := by
  simp [Gov.reglide, apply_ite Gov.powered]

@[simp] theorem Gov.retarget_powered (g : Gov) (s : Nat) : (g.retarget s).powered = g.powered := by
  unfold Gov.retarget
  split
  · rfl
  · split <;> simp [apply_ite Gov.powered]

@[simp] theorem Gov.raisePhase_powered (g : Gov) (p : Nat) : (g.raisePhase p).powered = g.powered := by simp [Gov.raisePhase]
@[simp] theorem Gov.refreshTele_powered (g : Gov) (r : Nat) : (g.refreshTele r).powered = g.powered := by simp [Gov.refreshTele]
@[simp] theorem Gov.refreshAct_powered (g : Gov) (r : Nat) : (g.refreshAct r).powered = g.powered := by simp [Gov.refreshAct]

@[simp] theorem Gov.abortShed_powered (g : Gov) (r : Nat) : (g.abortShed r).powered = g.powered := by
  unfold Gov.abortShed; split <;> simp

@[simp] theorem Gov.setTarget_powered (g : Gov) (r e : Nat) : (g.setTarget r e).powered = g.powered := by
  unfold Gov.setTarget; split <;> simp

/-! ### What keeps the governor up: powered, and the die not in OFF -/

/-- The governor is powered and out of reset, and the die is not in OFF. -/
def Gov.IsUp (g : Gov) : Prop := g.up = true

/-- Words with an index lie beyond the power-state words where their first one does. -/
theorem off_high {b n : Nat} (h : 0x800 ≤ b := by decide) : b + n < 0x500 ∨ 0x800 ≤ b + n := by omega

variable {g h : Gov}

theorem Gov.isUp_iff : g.IsUp ↔ g.powered = true ∧ g.state ≠ stOff := by simp [Gov.IsUp, Gov.up]

theorem Gov.IsUp.congr (a : g.IsUp) (p : h.powered = g.powered) (s : h.state = g.state) : h.IsUp := by
  rw [Gov.isUp_iff] at a ⊢
  rwa [p, s]

theorem Gov.IsUp.same (a : g.IsUp) (p : h.powered = g.powered) (b : g.samePower h) : h.IsUp := a.congr p b.state

theorem Gov.IsUp.ite {c : Prop} [Decidable c] (a : g.IsUp) (b : h.IsUp) : (if c then g else h).IsUp := by
  split <;> assumption

theorem Gov.IsUp.each {α : Type} {f : Gov → α → Gov} (a : g.IsUp) (xs : List α) (step : ∀ h, ∀ x ∈ xs, h.IsUp → (f h x).IsUp) : (g.each xs f).IsUp :=
  Gov.each_keeps_mem (P := Gov.IsUp) xs step g a

/-! Single stores and records. -/

theorem Gov.IsUp.setWord (a : g.IsUp) (o : Nat) (w : Word) (out : o < 0x500 ∨ 0x800 ≤ o) : (g.setWord o w).IsUp := a.same rfl ((Gov.samePower.refl g).setWord o w out)
theorem Gov.IsUp.set (a : g.IsUp) (f : Fld) (v : Nat) (out : f.off < 0x500 ∨ 0x800 ≤ f.off) : (g.set f v).IsUp := a.setWord _ _ out
theorem Gov.IsUp.mark (a : g.IsUp) (f : Fld) (out : f.off < 0x500 ∨ 0x800 ≤ f.off) : (g.mark f).IsUp := a.set f 1 out
theorem Gov.IsUp.inc (a : g.IsUp) (f : Fld) (n : Nat) (out : f.off < 0x500 ∨ 0x800 ≤ f.off) : (g.inc f n).IsUp := a.set f _ out
theorem Gov.IsUp.upd (a : g.IsUp) (f : Fld) (x : Nat → Nat) (out : f.off < 0x500 ∨ 0x800 ≤ f.off) : (g.upd f x).IsUp := a.set f _ out
theorem Gov.IsUp.sset (a : g.IsUp) (f : Fld) (v : Int) (out : f.off < 0x500 ∨ 0x800 ≤ f.off) : (g.sset f v).IsUp := a.set f _ out

/-- A field of the power-state words, other than STATE. -/
theorem Gov.IsUp.setApart (a : g.IsUp) (f : Fld) (v : Nat) (out : F.PS_STAT_STATE.apart f = true) : (g.set f v).IsUp := a.congr rfl (g.get_set_apart v out)

theorem Gov.IsUp.withFree (a : g.IsUp) (x : Nat) : (g.withFree x).IsUp := a.congr rfl rfl
theorem Gov.IsUp.withHeld (a : g.IsUp) (x : Tab Word) : (g.withHeld x).IsUp := a.congr rfl rfl
theorem Gov.IsUp.withNow (a : g.IsUp) (x : Nat) : (g.withNow x).IsUp := a.congr rfl rfl
theorem Gov.IsUp.withPwr (a : g.IsUp) (x : PowerSt) : (g.withPwr x).IsUp := a.congr rfl rfl
theorem Gov.IsUp.withEng (a : g.IsUp) (x : EngSt) : (g.withEng x).IsUp := a.congr rfl rfl
theorem Gov.IsUp.withFcu (a : g.IsUp) (x : FcuSt) : (g.withFcu x).IsUp := a.congr rfl rfl
theorem Gov.IsUp.withClk (a : g.IsUp) (x : ClkSt) : (g.withClk x).IsUp := a.congr rfl rfl
theorem Gov.IsUp.withSns (a : g.IsUp) (x : SnsSt) : (g.withSns x).IsUp := a.congr rfl rfl
theorem Gov.IsUp.withTrc (a : g.IsUp) (x : TrcSt) : (g.withTrc x).IsUp := a.congr rfl rfl
theorem Gov.IsUp.setRail (a : g.IsUp) (r : Nat) (f : RailSt → RailSt) : (g.setRail r f).IsUp := a.congr rfl rfl
theorem Gov.IsUp.setPh (a : g.IsUp) (p : Nat) (f : PhaseSt → PhaseSt) : (g.setPh p f).IsUp := a.congr rfl rfl
theorem Gov.IsUp.setRgn (a : g.IsUp) (k : Nat) (f : RegionSt → RegionSt) : (g.setRgn k f).IsUp := a.congr rfl rfl
theorem Gov.IsUp.setSyn (a : g.IsUp) (k : Nat) (f : SynSt → SynSt) : (g.setSyn k f).IsUp := a.congr rfl rfl
theorem Gov.IsUp.setAns (a : g.IsUp) (b : Nat) (f : BerthAns → BerthAns) : (g.setAns b f).IsUp := a.withPwr _
theorem Gov.IsUp.psStep (a : g.IsUp) (n : Nat) : (g.psStep n).IsUp := a.withPwr _

/-! Shared operations: power and STATE are as they were. -/

theorem Gov.IsUp.log (a : g.IsUp) (time type : Nat) (ps : List Nat) : (g.log time type ps).IsUp := a.same (g.log_powered _ _ _) ((Gov.samePower.refl g).log _ _ _)
theorem Gov.IsUp.raise (a : g.IsUp) (src detail : Nat) (silent : Bool := false) : (g.raise src detail silent).IsUp := a.same (g.raise_powered _ _ _) ((Gov.samePower.refl g).raise _ _ _)
theorem Gov.IsUp.purge (a : g.IsUp) (pick : Entry → Bool) : (g.purge pick).IsUp := a.same (g.purge_powered _) ((Gov.samePower.refl g).purge _)
theorem Gov.IsUp.purgeAll (a : g.IsUp) : g.purgeAll.IsUp := a.same g.purgeAll_powered (Gov.samePower.refl g).purgeAll
theorem Gov.IsUp.setTable (a : g.IsUp) (t : List Entry) : (g.setTable t).IsUp := a.same (g.setTable_powered t) ((Gov.samePower.refl g).setTable t)
theorem Gov.IsUp.retarget (a : g.IsUp) (s : Nat) : (g.retarget s).IsUp := a.same (g.retarget_powered s) ((Gov.samePower.refl g).retarget s)
theorem Gov.IsUp.raisePhase (a : g.IsUp) (p : Nat) : (g.raisePhase p).IsUp := a.same (g.raisePhase_powered p) ((Gov.samePower.refl g).raisePhase p)
theorem Gov.IsUp.refreshAct (a : g.IsUp) (r : Nat) : (g.refreshAct r).IsUp := a.same (g.refreshAct_powered r) ((Gov.samePower.refl g).refreshAct r)
theorem Gov.IsUp.abortShed (a : g.IsUp) (r : Nat) : (g.abortShed r).IsUp := a.same (g.abortShed_powered r) ((Gov.samePower.refl g).abortShed r)
theorem Gov.IsUp.setTarget (a : g.IsUp) (r e : Nat) : (g.setTarget r e).IsUp := a.same (g.setTarget_powered r e) ((Gov.samePower.refl g).setTarget r e)
theorem Gov.IsUp.fire (a : g.IsUp) (e : SigEvent) : (g.fire e).IsUp := a.same (Gov.powered_of_besideCmd (g.fire_besideCmd e)) ((Gov.samePower.refl g).fire e)
theorem Gov.IsUp.takeUp (a : g.IsUp) : g.takeUp.IsUp := a.same (Gov.powered_of_besideCmd g.takeUp_besideCmd) (Gov.samePower.refl g).takeUp

end Sys2Proof.Machine

/-! ### The late steps of an ended sample (R23 steps 4 to 7) keep the governor up -/

namespace Sys2Proof.Machine

variable {g h : Gov}

/-! Step 4. -/

theorem Gov.IsUp.setLive (a : g.IsUp) (o : Nat) (w : Word) (out : o < 0x500 ∨ 0x800 ≤ o) : (g.setLive o w).IsUp := .ite (a.withHeld _) (a.setWord o w out)

theorem Gov.IsUp.overrunSlots (a : g.IsUp) : g.overrunSlots.2.IsUp := by
  unfold Gov.overrunSlots
  dsimp only
  split
  · exact a
  · exact a.withFree _

theorem Gov.IsUp.executed (a : g.IsUp) (rs : List LoopRes) (late : List Nat) : (g.executed rs late).2.IsUp := by
  unfold Gov.executed
  dsimp only
  split
  · exact a
  · exact a.withFree _

theorem Gov.IsUp.idleCycles (a : g.IsUp) (steps tbls : Nat) : (g.idleCycles steps tbls).2.IsUp := by
  unfold Gov.idleCycles
  dsimp only
  split
  · exact a
  · exact a.withFree _

theorem Gov.IsUp.overrun (a : g.IsUp) (k : Nat) : (g.overrun k).IsUp := ((a.inc _ _ off_high).mark _ off_high).raise _ _

theorem Gov.IsUp.commitLoop (a : g.IsUp) (written : List Nat) (r : LoopRes) : (g.commitLoop written r).IsUp := by
  unfold Gov.commitLoop
  extract_lets k out s0 s1 stat
  have hout : out.IsUp := a.sset _ _ off_high
  have hs0 : s0.IsUp := by
    unfold s0
    split
    · exact .ite hout ((hout.setLive _ _ off_high).setLive _ _ off_high)
    · exact hout
  have hs1 : s1.IsUp := by
    unfold s1
    split
    · exact .ite hs0 (hs0.setLive _ _ off_high)
    · exact hs0
  have hstat : stat.IsUp := (((hs1.set _ _ off_high).set _ _ off_high).set _ _ off_high).set _ _ off_high
  exact .ite (hstat.mark _ off_high) hstat

theorem Gov.IsUp.closeLoops (a : g.IsUp) (lanes written : List Nat) : (g.closeLoops lanes written).2.IsUp := by
  unfold Gov.closeLoops
  split
  next late g1 e1 =>
  have h1 : g1.IsUp := by simpa [e1] using a.overrunSlots
  extract_lets rs bad overran counted lost done
  have hover : overran.IsUp := h1.each _ fun _ r _ b => b.overrun r.slot
  have hcount : counted.IsUp := .ite hover ((hover.inc _ _ (by decide)).mark _ (by decide))
  have hlost : lost.IsUp := hcount.each _ fun _ k _ b => b.raise 257 k
  split
  next ex g2 e2 =>
  have h2 : g2.IsUp := by simpa [e2] using hlost.executed rs late
  split
  next idle g3 e3 =>
  have h3 : g3.IsUp := by simpa [e3] using h2.idleCycles ex.1 ex.2
  refine Gov.IsUp.withEng (Gov.IsUp.each ?_ _ fun _ r _ b => b.commitLoop written r) _
  exact .ite (((h3.upd _ _ (by decide)).upd _ _ (by decide)).mark _ (by decide)) h3

theorem Gov.IsUp.stepFour (a : g.IsUp) (l : LateSt) : (g.stepFour l).IsUp := (a.closeLoops _ _).withFcu _

/-! Step 5. -/

theorem Gov.IsUp.setWon (a : g.IsUp) (winners : List Nat) : (g.setWon winners).IsUp :=
  ((a.each _ fun _ _ _ b => b.set _ _ off_high).each _ fun _ _ _ b => b.mark _ off_high).withEng _

theorem Gov.IsUp.arbitrate (a : g.IsUp) (idx : Nat) (bad : List (Nat × Nat)) : (g.arbitrate idx bad).IsUp := by
  unfold Gov.arbitrate
  extract_lets slots present dest hit railW dieW regW railOut dieOut berthW won own taken rails die regions berths railF regionF shown _ kept ceils
  have htaken : taken.IsUp := a.setWon _
  have hrails : rails.IsUp := htaken.each _ fun _ r hr b => .ite b (b.setWord _ _ (by have := List.mem_range.1 hr; simp only [W.ENG_WIN_RAIL]; omega))
  have hdie : die.IsUp := .ite hrails (hrails.setWord _ _ (by decide))
  have hregions : regions.IsUp := hdie.each _ fun _ rg hrg b => .ite b (b.setWord _ _ (by have := List.mem_range.1 hrg; simp only [W.ENG_WIN_REGION]; omega))
  have hberths : berths.IsUp := hregions.each _ fun _ _ _ b => .ite b (b.setWord _ _ off_high)
  have hceils : ceils.IsUp := (hberths.withEng _).each _ fun _ _ _ b => b.set _ _ off_high
  exact hceils.each _ fun _ _ _ b => b.raise _ _

theorem Gov.IsUp.endSteady (a : g.IsUp) : g.endSteady.IsUp := (a.set _ _ (by decide)).each _ fun _ r _ b => b.setRail r _

theorem Gov.IsUp.steadyBreak (a : g.IsUp) (idx : Nat) : (g.steadyBreak idx).IsUp := by
  unfold Gov.steadyBreak
  split
  · exact a
  · extract_lets low slow word
    clear_value word
    cases word with
    | some w => exact (((a.endSteady.mark _ (by decide)).setWord _ _ (by decide)).log _ _ _).mark _ (by decide)
    | none => exact a

theorem Gov.IsUp.settleEntries (a : g.IsUp) : g.settleEntries.IsUp := by
  unfold Gov.settleEntries Gov.expireEntries
  extract_lets due n kept
  exact .ite a (((a.setTable _).inc _ _ (by decide)).inc _ _ (by decide))

theorem Gov.IsUp.dropHint (a : g.IsUp) (k : Nat) : (g.dropHint k).IsUp :=
  ((a.withFcu _).set _ _ (.inr (by decide : 0x800 ≤ W.FCU_HINT_STAT))).set _ _ (.inr (by decide : 0x800 ≤ W.FCU_HINT_STAT))

theorem Gov.IsUp.settleHints (a : g.IsUp) : g.settleHints.IsUp := by
  have hint : ∀ {h : Gov} (k : Nat), h.IsUp → (h.mark ⟨W.FCU_HINT_STAT, k, 1⟩).IsUp := fun k b => b.mark _ (.inr (by decide : 0x800 ≤ W.FCU_HINT_STAT))
  refine a.each _ fun _ x _ b => ?_
  split
  · exact .ite (b.dropHint _) (.ite (hint _ b) b)
  · exact .ite (hint _ b) b

theorem Gov.IsUp.freeEntry (a : g.IsUp) (e : BadEntry) : (g.freeEntry e).IsUp := .ite ((a.purge _).raise _ _) a

theorem Gov.IsUp.stepFive (a : g.IsUp) (l : LateSt) : (g.stepFive l).IsUp := by
  have targets := ((a.arbitrate l.idx l.dests).steadyBreak l.idx).each (List.range 16) fun _ s _ b => b.retarget s
  have entries := targets.settleEntries.settleHints.each l.entries fun _ e _ b => b.freeEntry e
  exact (entries.withFcu _).withEng _

/-! Step 6. -/

theorem Gov.IsUp.dropSnap (a : g.IsUp) (b : Nat) : (g.dropSnap b).IsUp := .ite ((a.set _ _ off_high).set _ _ off_high) a

theorem Gov.IsUp.formTargets (a : g.IsUp) (snaps : List Snap) : (g.formTargets snaps).IsUp :=
  ((a.withFcu _).each _ fun _ _ _ b => (b.set _ _ off_high).set _ _ off_high).each _ fun _ x _ b => b.dropSnap x

theorem Gov.IsUp.publishForecast (a : g.IsUp) (classes : List Nat) (snaps : List Snap) (r : Nat) : (g.publishForecast classes snaps r).IsUp := by
  have rise := a.set (F.FCU_RAIL_FC_RISE r) (g.railRise classes snaps r) off_high
  unfold Gov.publishForecast
  dsimp only
  split
  · exact (rise.set _ _ off_high).mark _ off_high
  · exact (rise.set _ _ off_high).set _ _ off_high

theorem Gov.IsUp.showStage (a : g.IsUp) (x : Snap) : (g.showStage x).IsUp :=
  (((a.set _ _ off_high).set _ _ off_high).set _ _ off_high).set _ _ off_high

theorem Gov.IsUp.selectEntry (a : g.IsUp) (r : Nat) : (g.selectEntry r).IsUp := by
  unfold Gov.selectEntry
  extract_lets rgs sel low flagged fc want0 want
  have hflag : flagged.IsUp := a.set _ _ off_high
  exact .ite (hflag.setTarget _ _) (.ite (hflag.setTarget _ _) (.ite (.ite (hflag.setTarget _ _) hflag) (.ite (hflag.fire _) hflag)))

theorem Gov.IsUp.addPhases (a : g.IsUp) (r n : Nat) : (g.addPhases r n).IsUp := .ite a (((a.each _ fun _ p _ b => b.raisePhase p).refreshAct r).setRail r _)

theorem Gov.IsUp.beginShed (a : g.IsUp) (r : Nat) : (g.beginShed r).IsUp := by
  unfold Gov.beginShed
  split
  · exact ((a.mark _ off_high).setPh _ _).setRail _ _
  · exact a

theorem Gov.IsUp.phaseCounts (a : g.IsUp) (r : Nat) : (g.phaseCounts r).IsUp := by
  unfold Gov.phaseCounts
  extract_lets n asked added held
  have hadded : added.IsUp := (a.set _ _ off_high).addPhases r _
  have hheld : held.IsUp := hadded.setRail r _
  exact .ite a (.ite hadded (.ite (.ite (hheld.beginShed r) hheld) (hadded.setRail r _)))

theorem Gov.IsUp.imbalance (a : g.IsUp) (r : Nat) : (g.imbalance r).IsUp :=
  a.each _ fun _ p _ b => .ite (.ite ((b.setPh p _).mark _ off_high) (b.setPh p _)) (b.setPh p _)

theorem Gov.IsUp.regulatorStep (a : g.IsUp) : g.regulatorStep.IsUp := by
  unfold Gov.regulatorStep
  extract_lets on selected counted
  have hsel : selected.IsUp := .ite a (a.each _ fun _ r _ b => b.selectEntry r)
  have hcount : counted.IsUp := .ite hsel (hsel.each _ fun _ r _ b => b.phaseCounts r)
  exact hcount.each _ fun _ r _ b => b.imbalance r

theorem Gov.IsUp.trimStep (a : g.IsUp) : g.trimStep.IsUp := (a.withSns _).each _ fun _ _ _ b => b.set _ _ off_high

theorem Gov.IsUp.stepSix (a : g.IsUp) (l : LateSt) : (g.stepSix l).IsUp := by
  unfold Gov.stepSix
  extract_lets published staged
  have hpub : published.IsUp := (a.formTargets l.snaps).each _ fun _ r _ b => b.publishForecast _ _ r
  have hshown := hpub.each l.snaps fun _ x _ b => b.showStage x
  have htargets : (published.each l.snaps Gov.showStage).psTargets.IsUp := .ite (hshown.psStep 3) hshown
  have hstaged : staged.IsUp := (((htargets.withHeld _).regulatorStep).withHeld _).trimStep
  exact (hstaged.withPwr _).withFcu _

/-! Step 7. -/

theorem Gov.IsUp.setBuf (a : g.IsUp) (n : Nat) (b : TraceBuf) : (g.setBuf n b).IsUp := (a.withTrc _).set _ _ off_high

theorem Gov.IsUp.record (a : g.IsUp) (n : Nat) (stop : Bool) (idx kind index v0 v1 : Nat) : (g.record n stop idx kind index v0 v1).IsUp := by
  have lost := a.inc (F.TRC_LOST_COUNT n) 1 off_high
  exact .ite (a.setBuf n _) (.ite (a.mark _ off_high) (.ite (lost.setBuf n _) (lost.setBuf n _)))

theorem Gov.IsUp.traceSample (a : g.IsUp) (idx : Nat) (cfg : List Nat) (sensed : List (Nat × Nat × Nat)) : (g.traceSample idx cfg sensed).IsUp :=
  a.each _ fun _ _ _ b => .ite (b.each _ fun _ _ _ c => c.record _ _ _ _ _ _ _) b

theorem Gov.IsUp.watchValue (a : g.IsUp) (x : WatchHit) (var : Nat) : (g.watchValue x var).2.IsUp := by
  unfold Gov.watchValue
  split
  · exact a
  · split
    · exact a
    · split
      · exact a
      · split
        · exact a
        · dsimp only
          split
          · exact a.withFree _
          · exact a

theorem Gov.IsUp.watchSample (a : g.IsUp) (idx : Nat) (cfg : List Nat) (ran : List LoopRes) (gone : List Nat) : (g.watchSample idx cfg ran gone).IsUp := by
  unfold Gov.watchSample
  extract_lets x named _ noted streams n
  have hnoted : noted.IsUp := .ite (a.withTrc _) a
  exact .ite ((hnoted.watchValue x _).record _ _ _ _ _ _ _) hnoted

theorem Gov.IsUp.stepSeven (a : g.IsUp) (l : LateSt) : (g.stepSeven l).IsUp := ((a.traceSample _ _ _).watchSample _ _ _ _).withFcu _

theorem Gov.IsUp.withCode (a : g.IsUp) (code : Nat) {f : Gov → Gov} (step : ∀ h : Gov, h.IsUp → (f h).IsUp) : (g.withCode code f).IsUp :=
  .ite (step g a) ((step _ (a.set _ _ (by decide))).set _ _ (by decide))

theorem Gov.IsUp.lateStep (a : g.IsUp) (l : LateSt) : (g.lateStep l).IsUp := by
  refine a.withCode l.code fun h b => ?_
  split
  · exact b.stepFour l
  · exact b.stepFive l
  · exact b.stepSix l
  · exact b.stepSeven l

end Sys2Proof.Machine

/-! ### Answers, and moving in time, keep the governor up -/

namespace Sys2Proof.Machine

variable {g h : Gov}

@[simp] theorem Gov.withPwr_powered (g : Gov) (x : PowerSt) : (g.withPwr x).powered = g.powered := (rfl)

@[simp] theorem Gov.post_powered (g : Gov) (n : Nat) (ws : List Nat) (status : Nat) (params : List Nat) : (g.post n ws status params).powered = g.powered :=
  Gov.powered_of_besideCmd (g.post_besideCmd n ws status params)

@[simp] theorem Gov.commit_powered (g : Gov) (n : Nat) (ws : List Nat) (status : Nat) (at_ : Option SigEvent) : (g.commit n ws status at_).powered = g.powered :=
  Gov.powered_of_besideCmd (g.commit_besideCmd n ws status at_)

theorem Gov.answerPs_powered (g : Gov) (status : Nat) (params : List Nat) : (g.answerPs status params).powered = g.powered := by
  unfold Gov.answerPs
  split
  · rfl
  · dsimp only
    split
    · split <;> simp
    · simp

theorem Gov.IsUp.answerPs (a : g.IsUp) (status : Nat) {params : List Nat} (hp : params.length ≤ 61) : (g.answerPs status params).IsUp :=
  a.congr (g.answerPs_powered status params) (g.answerPs_get status hp (by decide) (by decide))

theorem Gov.IsUp.countHold (a : g.IsUp) : g.countHold.IsUp := .ite (a.setApart _ _ (by decide)) a

theorem Gov.IsUp.refusalRecord (a : g.IsUp) (b rsn target : Nat) (exit_ : Bool) : (g.refusalRecord b rsn target exit_).2.IsUp := by
  have words : ∀ i ws, (g.writeWords (W.PS_REFUSE i 0) ws).IsUp := fun i ws =>
    a.each _ fun h j _ c => c.congr rfl (by
      simp only [Gov.state, Gov.get, F.PS_STAT_STATE]
      rw [Gov.word_setWord_ne _ _ (by simp only [W.PS_REFUSE]; omega)])
  unfold Gov.refusalRecord
  extract_lets i w2 n0 n1 written headed
  have hheaded : headed.IsUp := (words i _).setApart _ _ (by decide)
  exact .ite hheaded (hheaded.log _ _ _)

theorem Gov.IsUp.refusal (a : g.IsUp) (b rsn : Nat) : (g.refusal b rsn).2.IsUp := (a.refusalRecord b rsn g.psTo false).setApart _ _ (by decide)

theorem Gov.IsUp.drive (a : g.IsUp) (code : Nat) : (g.drive code).IsUp := (a.withPwr _).each _ fun _ b _ c => c.setAns b _

theorem Gov.IsUp.runCodes (a : g.IsUp) : g.runCodes.IsUp := ((a.each _ fun _ _ _ b => b.withPwr _).withPwr _).psStep 11

theorem Gov.IsUp.beginExit (a : g.IsUp) (causes : Nat) (replayed : Bool) : (g.beginExit causes replayed).IsUp := by
  unfold Gov.beginExit
  extract_lets phased noted _ started
  have hphased : phased.IsUp := (((a.setApart _ _ (by decide)).setApart _ _ (by decide)).setApart _ _ (by decide)).setApart _ _ (by decide)
  have hstarted : started.IsUp := ((hphased.setApart _ _ (by decide)).setApart _ _ (by decide)).withPwr _
  exact .ite ((hstarted.withPwr _).psStep 10) hstarted.runCodes

theorem Gov.IsUp.endRevert (a : g.IsUp) : g.endRevert.IsUp := by
  have idle := (((a.psStep 0).setApart F.PS_STAT_TO 0 (by decide)).setApart F.PS_STAT_BUSY 0 (by decide)).setApart F.PS_STAT_PHASE 0 (by decide)
  exact .ite (idle.beginExit _ _) (idle.setApart _ _ (by decide))

/-- The refusals' records, one after another. -/
theorem Gov.IsUp.refusals (rs : List (Nat × Nat)) {acc : List Nat × Gov} (a : acc.2.IsUp) :
    (rs.foldl (fun (acc : List Nat × Gov) p => ((acc.1 ++ [(acc.2.refusal p.1 p.2).1]), (acc.2.refusal p.1 p.2).2)) acc).2.IsUp := by
  induction rs generalizing acc with
  | nil => exact a
  | cons p rs ih => exact ih (a.refusal p.1 p.2)

theorem Gov.IsUp.abortEntry (a : g.IsUp) (rs : List (Nat × Nat)) : (g.abortEntry rs).IsUp := by
  unfold Gov.abortEntry
  extract_lets res counted latched _ answered reverted
  have hcounted : counted.IsUp := ((((Gov.IsUp.refusals rs a.countHold).setApart _ _ (by decide)).setApart _ _ (by decide)).setApart _ _ (by decide)).setApart _ _ (by decide)
  have hlatched : latched.IsUp := .ite hcounted (hcounted.setApart _ _ (by decide))
  have hanswered : answered.IsUp := (hlatched.withPwr _).answerPs _ (by rw [List.length_take]; omega)
  have hreverted : reverted.IsUp := (hanswered.drive _).psStep 9
  exact .ite hreverted.endRevert hreverted

theorem Gov.IsUp.commitEntry (a : g.IsUp) : g.commitEntry.IsUp := by
  unfold Gov.commitEntry
  extract_lets dst block _ latched stopped purged
  have hlatched : latched.IsUp := a.countHold.withPwr _
  have hstopped : stopped.IsUp := .ite hlatched ((hlatched.setApart _ _ (by decide)).each _ fun _ r _ b => b.abortShed r)
  have hpurged : purged.IsUp := .ite hstopped.purgeAll hstopped
  exact (hpurged.answerPs _ (by decide)).psStep 2

/-- The end of an exit leaves the die in RUN. -/
theorem Gov.IsUp.endExit (a : g.IsUp) : g.endExit.IsUp := by
  have run : ((g.psStep 0).set F.PS_STAT_STATE 0).IsUp := by
    rw [Gov.isUp_iff] at a ⊢
    refine ⟨a.1, ?_⟩
    rw [Gov.state, Gov.get_set_self _ _ (by decide)]
    decide
  have ended := ((run.setApart F.PS_STAT_BUSY 0 (by decide)).setApart F.PS_STAT_PHASE 0 (by decide)).setApart F.GOV_IRQ_SRC_PS 1 (by decide)
  exact (((ended.setApart F.PS_CNT_WAKE_COUNT _ (by decide)).withPwr _).fire _).takeUp

theorem Gov.IsUp.weigh (a : g.IsUp) : g.weigh.IsUp := by
  unfold Gov.weigh
  exact .ite (.ite (a.abortEntry _) (.ite a.commitEntry a)) (.ite (.ite a.endRevert a) (.ite (.ite a.endExit a) a))

theorem Gov.IsUp.lateAnswers (a : g.IsUp) : g.lateAnswers.IsUp := (a.each _ fun _ b _ c => c.setAns b _).weigh

theorem Gov.IsUp.settlePower (a : g.IsUp) : g.settlePower.IsUp := .ite (a.psStep 12) a

theorem Gov.IsUp.noteCross (a : g.IsUp) (rg : Nat) : (g.noteCross rg).IsUp := .ite a (.ite (a.setRgn rg _) (a.setRgn rg _))

theorem Gov.IsUp.passTo (a : g.IsUp) (t : Nat) : (g.passTo t).IsUp := by
  have settled : g.settleClocks.IsUp := (a.each _ fun _ rg _ b => b.noteCross rg).each _ fun _ rg _ b => b.setRgn rg _
  have ran : (g.settleClocks.runClocks (t - g.now)).IsUp := (settled.each _ fun _ rg _ b => b.setRgn rg _).each _ fun _ s _ b => b.setSyn s _
  exact .ite (ran.withNow t) a

theorem Gov.IsUp.takeInner (a : g.IsUp) (at_ : Nat) (x : Inner) : (g.takeInner at_ x).IsUp := by
  have there := a.settlePower.passTo at_
  cases x with
  | path l => exact there.lateStep l
  | low => exact there.lateAnswers

theorem Gov.IsUp.catchUp (a : g.IsUp) (fuel till : Nat) : (g.catchUp fuel till).IsUp := by
  induction fuel generalizing g with
  | zero => exact a
  | succ fuel ih =>
    unfold Gov.catchUp
    split
    · exact a
    · exact ih (a.takeInner _ _)

/-- What comes about by itself up to an instant leaves the governor up. -/
theorem Gov.IsUp.moveTo (a : g.IsUp) (till at_ : Nat) : (g.moveTo till at_).IsUp := ((a.catchUp 12 till).settlePower).passTo at_

end Sys2Proof.Machine

/-! ### What a base tick does to the rails' tallies (R143, R196, R238) -/

namespace Sys2Proof.Machine

variable {g h k : Gov}

/-- An offset at which no rail's state or telemetry word lies: below the rails' group, or at BT_FCU_RCNT's place in a block of 0x40 bytes (the index of a berth is any number there). -/
def offRails (o : Nat) : Prop := o < 0x24000 ∨ o % 0x40 = 0x1C

/-- The rails, the ledger, the sequencer and the time are the same in both states. -/
structure Gov.SameRails (g h : Gov) : Prop where
  led : h.led = g.led
  reg : h.reg = g.reg
  pwr : h.pwr = g.pwr
  now : h.now = g.now
  get : ∀ f : Fld, ¬ offRails f.off → h.get f = g.get f

theorem Gov.SameRails.refl (g : Gov) : g.SameRails g := ⟨rfl, rfl, rfl, rfl, fun _ _ => rfl⟩

theorem Gov.SameRails.trans (a : g.SameRails h) (b : h.SameRails k) : g.SameRails k :=
  ⟨b.led.trans a.led, b.reg.trans a.reg, b.pwr.trans a.pwr, b.now.trans a.now, fun f hf => (b.get f hf).trans (a.get f hf)⟩

theorem Gov.SameRails.ite {c : Prop} [Decidable c] (a : g.SameRails h) (b : g.SameRails k) : g.SameRails (if c then h else k) := by
  split <;> assumption

theorem Gov.SameRails.each {α : Type} {f : Gov → α → Gov} (a : g.SameRails h) (xs : List α) (step : ∀ h x, g.SameRails h → g.SameRails (f h x)) : g.SameRails (h.each xs f) :=
  Gov.each_keeps (P := fun h => g.SameRails h) step xs h a

theorem Gov.SameRails.set (a : g.SameRails h) (f : Fld) (v : Nat) (out : offRails f.off) : g.SameRails (h.set f v) :=
  a.trans ⟨rfl, rfl, rfl, rfl, fun k hk => h.get_set_apart v (by simp only [Fld.apart, Bool.or_eq_true, bne_iff_ne]; exact .inl (.inl fun e => hk (e ▸ out)))⟩

theorem Gov.SameRails.withFcu (a : g.SameRails h) (x : FcuSt) : g.SameRails (h.withFcu x) := a.trans ⟨rfl, rfl, rfl, rfl, fun _ _ => rfl⟩
theorem Gov.SameRails.setRgn (a : g.SameRails h) (rg : Nat) (x : RegionSt → RegionSt) : g.SameRails (h.setRgn rg x) := a.trans ⟨rfl, rfl, rfl, rfl, fun _ _ => rfl⟩
theorem Gov.SameRails.setSyn (a : g.SameRails h) (s : Nat) (x : SynSt → SynSt) : g.SameRails (h.setSyn s x) := a.trans ⟨rfl, rfl, rfl, rfl, fun _ _ => rfl⟩
theorem Gov.SameRails.setPort (a : g.SameRails h) (p : Nat) (x : PortSt → PortSt) : g.SameRails (h.setPort p x) := a.trans ⟨rfl, rfl, rfl, rfl, fun _ _ => rfl⟩

theorem Gov.SameRails.setTable (a : g.SameRails h) (t : List Entry) : g.SameRails (h.setTable t) := by
  have live := ((a.withFcu { h.fcu with table := t }).set F.FCU_LIVE_LIVE t.length (.inl (by decide))).set F.FCU_LIVE_LIVE_PEAK
  unfold Gov.setTable
  exact (live _ (.inl (by decide))).each _ fun _ b c => c.set _ _ (.inr (by simp only [F.BT_FCU_RCNT]; omega))

theorem Gov.SameRails.settleEntries (a : g.SameRails h) : g.SameRails h.settleEntries := by
  unfold Gov.settleEntries Gov.expireEntries
  extract_lets due n kept
  exact .ite a (((a.setTable _).set _ _ (.inl (by decide))).set _ _ (.inl (by decide)))

theorem Gov.SameRails.settleHints (a : g.SameRails h) : g.SameRails h.settleHints := by
  have hint : ∀ {h : Gov} (lo v : Nat), g.SameRails h → g.SameRails (h.set ⟨W.FCU_HINT_STAT, lo, 1⟩ v) := fun lo v b => b.set _ _ (.inl (by decide : W.FCU_HINT_STAT < 0x24000))
  have drop : ∀ {h : Gov} (k : Nat), g.SameRails h → g.SameRails (h.dropHint k) := fun k b => hint _ _ (hint _ _ (b.withFcu _))
  refine a.each _ fun _ x b => ?_
  split
  · exact .ite (drop _ b) (.ite (hint _ _ b) b)
  · exact .ite (hint _ _ b) b

/-- Time passes: of the rails' tallies nothing changes, and the instant is reached. -/
theorem Gov.passTo_later (g : Gov) {t : Nat} (ht : g.now < t) : ∃ k, g.SameRails k ∧ g.passTo t = k.withNow t := by
  have settled : g.SameRails g.settleClocks := ((Gov.SameRails.refl g).each _ fun _ rg b => .ite b (.ite (b.setRgn rg _) (b.setRgn rg _))).each _ fun _ rg b => b.setRgn rg _
  refine ⟨g.settleClocks.runClocks (t - g.now), (settled.each _ fun _ rg b => b.setRgn rg _).each _ fun _ s b => b.setSyn s _, ?_⟩
  rw [Gov.passTo, if_pos ht]

theorem Gov.SameRails.hawserTick (a : g.SameRails h) : g.SameRails h.hawserTick :=
  a.each _ fun _ p b => .ite ((b.setPort p _).set _ _ (.inl (by decide))) b

theorem Gov.SameRails.alignTick (a : g.SameRails h) : g.SameRails h.alignTick := .ite (a.set _ _ (.inl (by decide))) a

/-- Outside a handshake, and outside step 5, the sequencer does nothing at a base tick. -/
theorem Gov.psTick_quiet (g : Gov) (ha : g.asking = false) (h5 : g.pwr.step ≠ 5) : g.psTick = g := by
  have quiet : g.skipQuar = g := by simp [Gov.skipQuar, ha]
  simp [Gov.psTick, quiet, h5]

/-- A rail's energy accumulator, and its overload bin's sum and count. -/
def Gov.tallies (g : Gov) (r : Nat) : Nat × Nat × Nat := (Tab.get (fun _ => 0) g.led.acc r, (g.rail r).binSum, (g.rail r).binN)

/-- A rail's tallies, its state, and what they gain at a base tick. -/
def Gov.tallied (g : Gov) (r : Nat) : (Nat × Nat × Nat) × Nat × Nat × Nat := (g.tallies r, g.rstate r, g.get (F.RAIL_TELE_VOUT r), g.get (F.RAIL_TELE_IOUT r))

theorem Gov.SameRails.tallied (a : g.SameRails h) (r : Nat) : h.tallied r = g.tallied r := by
  have state : ¬ offRails (F.RAIL_STATE_STATE r).off := by simp only [offRails, F.RAIL_STATE_STATE]; omega
  have tele : ¬ offRails (F.RAIL_TELE_VOUT r).off := by simp only [offRails, F.RAIL_TELE_VOUT]; omega
  simp only [Gov.tallied, Gov.tallies, Gov.rstate, Gov.rail, a.led, a.reg, a.get _ state, a.get (F.RAIL_TELE_VOUT r) tele, a.get (F.RAIL_TELE_IOUT r) tele]

/-- The tick of one rail. -/
def Gov.tally (g : Gov) (r : Nat) : Gov := (g.energyTick r).binTick r

theorem Gov.tally_off {g : Gov} {r : Nat} (off : g.rstate r = rOff) : g.tally r = g := by
  have led : g.energyTick r = g := if_pos off
  rw [Gov.tally, led]
  exact if_pos off

theorem Gov.tally_on {g : Gov} {r : Nat} (on : g.rstate r ≠ rOff) :
    g.tally r = (g.withLed { g.led with acc := Tab.upd (fun _ => 0) g.led.acc r (· + g.get (F.RAIL_TELE_VOUT r) * g.get (F.RAIL_TELE_IOUT r)) }).setRail r
      fun x => { x with binSum := x.binSum + g.get (F.RAIL_TELE_IOUT r), binN := x.binN + 1 } := by
  rw [Gov.tally, Gov.energyTick, if_neg on]
  exact if_neg on

/-- A rail that is not OFF gains its energy, and its bin the current and a count. -/
theorem Gov.tally_self {g : Gov} {r : Nat} (on : g.rstate r ≠ rOff) :
    (g.tally r).tallies r = ((g.tallies r).1 + g.get (F.RAIL_TELE_VOUT r) * g.get (F.RAIL_TELE_IOUT r), (g.tallies r).2.1 + g.get (F.RAIL_TELE_IOUT r), (g.tallies r).2.2 + 1) := by
  rw [Gov.tally_on on, Gov.tallies, Gov.rail_setRail]
  simp only [Gov.setRail_led, Gov.withLed_led, Tab.get_upd, if_pos]
  rfl

theorem Gov.tally_other (g : Gov) {r y : Nat} (h : y ≠ r) : (g.tally y).tallied r = g.tallied r := by
  by_cases off : g.rstate y = rOff
  · rw [Gov.tally_off off]
  · rw [Gov.tally_on off, Gov.tallied, Gov.tallies, Gov.rail_setRail_ne _ _ h.symm]
    simp only [Gov.setRail_led, Gov.withLed_led, Tab.get_upd, if_neg h.symm]
    rfl

theorem Gov.tally_pwr (g : Gov) (r : Nat) : (g.tally r).pwr = g.pwr := by
  by_cases off : g.rstate r = rOff
  · rw [Gov.tally_off off]
  · rw [Gov.tally_on off]; rfl

theorem Gov.tally_now (g : Gov) (r : Nat) : (g.tally r).now = g.now := by
  by_cases off : g.rstate r = rOff
  · rw [Gov.tally_off off]
  · rw [Gov.tally_on off]; rfl

/-- Of the ticks of all rails, a rail's own alone moves its tallies. -/
theorem Gov.tallies_all (g : Gov) (r : Fin 8) (on : g.rstate r ≠ rOff) :
    (g.each (List.range 8) Gov.tally).tallies r = ((g.tallies r).1 + g.get (F.RAIL_TELE_VOUT r) * g.get (F.RAIL_TELE_IOUT r), (g.tallies r).2.1 + g.get (F.RAIL_TELE_IOUT r), (g.tallies r).2.2 + 1) := by
  obtain ⟨g0, base, read⟩ := Gov.each_at List.nodup_range (List.mem_range.2 r.isLt) g (fun h => h.tallies r) (fun h => h.tallied r) (f := Gov.tally)
    (fun h y _ hy => congrArg Prod.fst (h.tally_other hy)) (fun h y _ hy => h.tally_other hy)
  simp only [Gov.tallied, Prod.mk.injEq] at base
  obtain ⟨tallies, state, vout, iout⟩ := base
  rw [read, Gov.tally_self (by rwa [state]), tallies, vout, iout]

/-- What a base tick does besides: the tallies of the rails, and nothing else of theirs. -/
theorem Gov.edge_tallies (g : Gov) (ha : g.asking = false) (h5 : g.pwr.step ≠ 5) : ∃ k, g.SameRails k ∧ (k.each (List.range 8) Gov.tally).SameRails g.edge := by
  have started : g.SameRails (if g.engine then g.startEntries else g) := .ite ((Gov.SameRails.refl g).withFcu _) (.refl g)
  refine ⟨_, started, ?_⟩
  have pwr : ((if g.engine then g.startEntries else g).each (List.range 8) Gov.tally).pwr = g.pwr := (Gov.each_same Gov.pwr Gov.tally_pwr _ _).trans started.pwr
  have quiet := Gov.psTick_quiet ((if g.engine then g.startEntries else g).each (List.range 8) Gov.tally) (by rwa [Gov.asking, pwr]) (by rwa [pwr])
  show Gov.SameRails _ (((if g.engine then g.startEntries else g).each (List.range 8) Gov.tally).psTick.hawserTick.alignTick)
  rw [quiet]
  exact (Gov.SameRails.refl _).hawserTick.alignTick

/-- The instant's own reservations and hints, and the passage to the next base tick. -/
def Gov.nextBase (g : Gov) (next : Nat) : Gov := (if g.engine then g.settleEntries.settleHints else g).passTo next

theorem Gov.IsUp.nextBase (a : g.IsUp) (next : Nat) : (g.nextBase next).IsUp := (Gov.IsUp.ite a.settleEntries.settleHints a).passTo next

theorem Gov.nextBase_later (g : Gov) {next : Nat} (h : g.now < next) : ∃ k, g.SameRails k ∧ g.nextBase next = k.withNow next := by
  have settled : g.SameRails (if g.engine then g.settleEntries.settleHints else g) := .ite (Gov.SameRails.refl g).settleEntries.settleHints (.refl g)
  obtain ⟨k, same, e⟩ := Gov.passTo_later (if g.engine then g.settleEntries.settleHints else g) (t := next) (by rwa [settled.now])
  exact ⟨k, settled.trans same, e⟩

/-- BASE_TICK with the governor up: the base tick's edge at the next multiple of 250 ns. -/
theorem baseTick_next {s : State} (hu : s.gov.up = true) :
    let next := (s.gov.now / 250 + 1) * 250
    exec .baseTick s = .next { s with gov := ((s.gov.moveTo (next - 1) (next - 1)).nextBase next).edge } := by
  intro next
  have up : ((s.gov.moveTo (next - 1) (next - 1)).nextBase next).up = true := Gov.IsUp.nextBase (Gov.IsUp.moveTo hu _ _) next
  have powered : s.gov.powered = true := (Gov.isUp_iff.1 hu).1
  show execBaseTick s = _
  unfold execBaseTick State.onGov
  dsimp only
  rw [if_neg (by simp [powered])]
  exact congrArg (fun g => Host.Outcome.next { s with gov := g }) (if_pos up)

end Sys2Proof.Machine

open Sys2Proof Sys2Proof.Machine

/-- Settles O14: up to the next base tick nothing moves the rails' tallies, and there each rail that is not OFF gains its own. -/
theorem baseTicks : Obligations.BaseTicks := by
  intro s hu next g1 hnow hask hstep
  obtain ⟨k, same, later⟩ := g1.nextBase_later hnow
  have quiet : (k.withNow next).asking = false := by rwa [Gov.asking, Gov.withNow_pwr, same.pwr]
  have idle : (k.withNow next).pwr.step ≠ 5 := by rwa [Gov.withNow_pwr, same.pwr]
  obtain ⟨m, started, ended⟩ := Gov.edge_tallies (k.withNow next) quiet idle
  refine ⟨_, baseTick_next hu, ?_, fun r on => ?_⟩
  · rw [later, ended.now, Gov.each_same Gov.now Gov.tally_now, started.now, Gov.withNow_now]
  · have base : m.tallied r = g1.tallied r := (started.tallied r).trans (same.tallied r)
    simp only [Gov.tallied, Prod.mk.injEq] at base
    obtain ⟨tallies, state, vout, iout⟩ := base
    have gained := (congrArg Prod.fst (ended.tallied r)).trans (m.tallies_all r (by rwa [state]))
    rw [tallies, vout, iout, ← later] at gained
    simpa only [Gov.tallied, Gov.tallies, Prod.mk.injEq] using gained
end

section

-- One proof at a time: side by side they take more threads than the memory limit of the check holds.
set_option Elab.async false

namespace Sys2Proof.Machine

/-! ### Moving while nothing is due (R19, R23) -/

/-- Only the clocks' records differ, and every region has the same connected source. -/
def Gov.SameButClocks (g h : Gov) : Prop := (∃ c, h = g.withClk c) ∧ ∀ rg, (h.rgn rg).out = (g.rgn rg).out

theorem Gov.SameButClocks.refl (g : Gov) : g.SameButClocks g := ⟨⟨g.clk, rfl⟩, fun _ => rfl⟩

theorem Gov.SameButClocks.each {α : Type} {g h : Gov} {f : Gov → α → Gov} (a : g.SameButClocks h) (xs : List α) (step : ∀ h x, g.SameButClocks h → g.SameButClocks (f h x)) : g.SameButClocks (h.each xs f) :=
  Gov.each_keeps (P := fun h => g.SameButClocks h) step xs h a

/-- A region's record with another frame position, crossing or stop, and the same connected source. -/
theorem Gov.SameButClocks.setRgn {g h : Gov} (a : g.SameButClocks h) (rg : Nat) {x : RegionSt → RegionSt} (out : ∀ y, (x y).out = y.out) : g.SameButClocks (h.setRgn rg x) := by
  obtain ⟨⟨c, rfl⟩, same⟩ := a
  refine ⟨⟨_, rfl⟩, fun k => Eq.trans ?_ (same k)⟩
  unfold Gov.rgn Gov.setRgn
  simp only [Gov.withClk_clk, Tab.get_upd]
  split
  · next e => rw [out, e]
  · rfl

theorem Gov.SameButClocks.setSyn {g h : Gov} (a : g.SameButClocks h) (s : Nat) (x : SynSt → SynSt) : g.SameButClocks (h.setSyn s x) := by
  obtain ⟨⟨c, rfl⟩, same⟩ := a
  exact ⟨⟨_, rfl⟩, same⟩

theorem Gov.SameButClocks.noteCross {g h : Gov} (a : g.SameButClocks h) (rg : Nat) : g.SameButClocks (h.noteCross rg) := by
  unfold Gov.noteCross
  split
  · exact a
  · split
    · exact a.setRgn rg fun _ => rfl
    · exact a.setRgn rg fun _ => rfl

theorem Gov.settleClocks_sameButClocks (g : Gov) : g.SameButClocks g.settleClocks :=
  ((Gov.SameButClocks.refl g).each _ fun _ rg b => b.noteCross rg).each _ fun _ rg b => b.setRgn rg fun _ => rfl

theorem Gov.SameButClocks.runClocks {g h : Gov} (a : g.SameButClocks h) (dt : Nat) : g.SameButClocks (h.runClocks dt) := by
  refine (a.each _ fun h rg b => ?_).each _ fun h s b => b.setSyn s _
  exact b.setRgn rg fun _ => rfl

/-- Time passes: the time and the clocks alone change. -/
theorem Gov.passTo_clocks (g : Gov) {t : Nat} (ht : g.now ≤ t) : ∃ c, g.passTo t = (g.withNow t).withClk c ∧ ∀ rg, ((g.passTo t).rgn rg).out = (g.rgn rg).out := by
  unfold Gov.passTo
  split
  · obtain ⟨⟨c, ec⟩, out⟩ := g.settleClocks_sameButClocks.runClocks (t - g.now)
    exact ⟨c, by rw [ec]; rfl, out⟩
  · next h =>
    have e : t = g.now := by omega
    exact ⟨g.clk, by rw [e]; rfl, fun _ => rfl⟩

theorem Gov.passTo_same (g : Gov) {t : Nat} (h : t ≤ g.now) : g.passTo t = g := if_neg (by omega)

/-! The instant of a command lies in the present base tick, and never before the present instant. -/

theorem Gov.adv_now (g : Gov) (t : Fin 250) : (g.adv t).now = max g.now (g.now / 250 * 250 + t.val) := (rfl)

theorem Gov.now_le_adv (g : Gov) (t : Fin 250) : g.now ≤ (g.adv t).now := by rw [Gov.adv_now]; omega

theorem Gov.adv_past (g : Gov) {t : Fin 250} (h : t.val ≤ g.now % 250) : (g.adv t).now = g.now := by rw [Gov.adv_now]; omega

theorem Gov.catchUp_none {g : Gov} {till : Nat} (h : g.inner till = none) (fuel : Nat) : g.catchUp fuel till = g := by
  cases fuel with
  | zero => rfl
  | succ fuel => unfold Gov.catchUp; rw [h]

theorem Gov.settlePower_of_not_ready {g : Gov} (h : g.exitReady = false) : g.settlePower = g := if_neg (by simp [h])

/-- Where nothing comes about by itself before an instant, moving there is the passage of time. -/
theorem Gov.reach_quiet {g : Gov} {t : Fin 250} (h : g.quiet t) : g.reach t = g.passTo (g.adv t).now := by
  obtain ⟨none, notReady⟩ := h
  unfold Gov.reach Gov.moveTo
  dsimp only
  rw [Gov.catchUp_none none, Gov.settlePower_of_not_ready notReady]

end Sys2Proof.Machine

open Sys2Proof Sys2Proof.Machine

/-- Settles O5: with nothing due, moving is the passage of time, which keeps the clocks' account. -/
theorem quietMoves : Obligations.QuietMoves := by
  refine ⟨fun g t => ⟨g.now_le_adv t, ?_, fun h => ?_, g.adv_past⟩, fun g t hq => ?_⟩
  · rw [Gov.adv_now]; omega
  · rw [Gov.adv_now]; omega
  · obtain ⟨c, passed, out⟩ := g.passTo_clocks (g.now_le_adv t)
    rw [Gov.reach_quiet hq]
    refine ⟨?_, out, fun h => g.passTo_same (g.adv_past h).le⟩
    rw [passed]; rfl
end

section

-- One proof at a time: side by side they take more threads than the memory limit of the check holds.
set_option Elab.async false

namespace Sys2Proof.Machine

/-! ### A sluice tick whose raise starts the clock that the GATE output waits for -/

/-- In the first nanosecond, with no late step held, moving changes nothing of the sluice. -/
theorem Gov.reach_zero_fcu {g : Gov} (hnow : g.now = 0) (hlate : g.fcu.late = none) : (g.reach 0).fcu = g.fcu := by
  have there : (g.adv 0).now = 0 := by rw [Gov.adv_now, hnow]; rfl
  have none : g.inner 0 = none := by simp [Gov.inner, hlate]
  have settled : g.settlePower.now = 0 ∧ g.settlePower.fcu = g.fcu := by
    unfold Gov.settlePower
    split
    · exact ⟨hnow, rfl⟩
    · exact ⟨hnow, rfl⟩
  unfold Gov.reach Gov.moveTo
  dsimp only
  rw [there, Gov.catchUp_none none, Gov.passTo_same _ (by omega), settled.2]

/-- Berth 0 is present with GATE 1, and its region is connected to a source with the number 0x2400. No synthesizer has it, and no run leads here; but `State` allows it, and the status word `FSYN_STAT` of that number is the word of the SG-1 bank that counts parity errors. -/
def strayClock : State where
  gov := ((((({} : Gov).withPll true).set (F.BT_CFG_PRESENT 0) 1).set (F.BT_GATE_GATE 0) 1).set (F.FSYN_CTRL_EN 0x2400) 1).setRgn 0 fun x => { x with out := .syn 0x2400 }

/-- The hypotheses of the sluice tick hold there; the region has no clock, and the GATE output is 0. -/
theorem strayClock_meets : strayClock.gov.engine = true ∧ (strayClock.gov.past 0).fcu.tickAt = none ∧ (strayClock.gov.past 0).asleep = false ∧ (strayClock.gov.past 0).present 0 = true ∧
    (strayClock.gov.past 0).clocked ((strayClock.gov.past 0).regionOf 0) = false ∧ (strayClock.gov.past 0).fcu.gateOut = [] ∧ (strayClock.gov.past 0).now = 0 ∧ (strayClock.gov.past 0).fcu.late = none := by decide +kernel

/-- With the target word of berth 0 upset, the raise of 259 counts, the counter's lowest bit reads as the lock of the source, and the output takes the GATE. -/
theorem strayClock_tick : (match exec (.sluiceTick [0] 0) strayClock with | .next s => some s.gov.fcu.gateOut | _ => none) = some [(0, 1)] := by decide +kernel

end Sys2Proof.Machine

open Sys2Proof Sys2Proof.Machine

/-- Refutes O16: the last clause reads the region's clock before the tick, but the raise of 259 comes before the output stage and can give the region a clock, where the region's connected source has a number that no synthesizer has. -/
theorem not_sluiceTicks : ¬ Obligations.SluiceTicks := by
  intro h
  obtain ⟨engine, first, awake, present, stopped, out, now, late⟩ := strayClock_meets
  obtain ⟨g, tick, _, _, hnow, hlate, berths⟩ := h [0] 0 strayClock engine (by simp [first]) awake
  obtain ⟨_, _, _, held⟩ := berths 0 present
  have sluice := Gov.reach_zero_fcu (hnow.trans now) (hlate.trans late)
  have driven := strayClock_tick
  rw [tick] at driven
  have gateOut : g.fcu.gateOut = [(0, 1)] := by rw [← sluice]; exact Option.some.inj driven
  have kept := held stopped
  rw [gateOut, out] at kept
  exact absurd kept (by decide)
end

section

-- One proof at a time: side by side they take more threads than the memory limit of the check holds.
set_option Elab.async false

namespace Sys2Proof.Machine

/-! ### What moving in time leaves alone: the lock of the PLL and the slots' configuration (R23, R25, R86) -/

/-- A configuration word of a loop slot: its block from LS_CTRL up to LS_UHI, before the words that a sample writes. -/
abbrev slotConfig (o : Nat) : Prop := 0x10000 ≤ o ∧ o < 0x20000 ∧ o % 0x40 < 0x28

/-- The lock of the PLL, and every field of the slots' configuration words, are the same in both states. -/
structure Gov.SameSetup (g h : Gov) : Prop where
  pll : h.pll = g.pll
  get : ∀ f : Fld, slotConfig f.off → h.get f = g.get f

/-- Words with an index lie beyond the slots where their first one does. -/
theorem off_beyond {b n : Nat} (h : 0x20000 ≤ b := by decide) : ¬ slotConfig (b + n) := by unfold slotConfig; omega

/-- The words that a sample writes of a slot. -/
theorem off_result {b k : Nat} (h : 0x28 ≤ b % 0x40 := by decide) : ¬ slotConfig (b + 0x40 * k) := by unfold slotConfig; omega

variable {g h k : Gov}

theorem Gov.SameSetup.refl (g : Gov) : g.SameSetup g := ⟨Eq.refl _, fun _ _ => Eq.refl _⟩

theorem Gov.SameSetup.trans (a : g.SameSetup h) (b : h.SameSetup k) : g.SameSetup k := ⟨b.pll.trans a.pll, fun f hf => (b.get f hf).trans (a.get f hf)⟩

/-- A change beside the window and the PLL. -/
theorem Gov.SameSetup.beside (a : g.SameSetup h) (pll : k.pll = h.pll := by rfl) (get : ∀ f, k.get f = h.get f := by intro; rfl) : g.SameSetup k := a.trans ⟨pll, fun f _ => get f⟩

/-! Single stores and records. -/

theorem Gov.SameSetup.setWord (a : g.SameSetup h) (o : Nat) (w : Word) (out : ¬ slotConfig o) : g.SameSetup (h.setWord o w) :=
  a.trans ⟨Eq.refl _, fun _ hf => Gov.get_congr (Gov.word_setWord_ne _ _ fun e => out (e ▸ hf))⟩

theorem Gov.SameSetup.set (a : g.SameSetup h) (f : Fld) (v : Nat) (out : ¬ slotConfig f.off) : g.SameSetup (h.set f v) := a.setWord _ _ out
theorem Gov.SameSetup.mark (a : g.SameSetup h) (f : Fld) (out : ¬ slotConfig f.off) : g.SameSetup (h.mark f) := a.set f 1 out
theorem Gov.SameSetup.inc (a : g.SameSetup h) (f : Fld) (n : Nat) (out : ¬ slotConfig f.off) : g.SameSetup (h.inc f n) := a.set f _ out
theorem Gov.SameSetup.upd (a : g.SameSetup h) (f : Fld) (x : Nat → Nat) (out : ¬ slotConfig f.off) : g.SameSetup (h.upd f x) := a.set f _ out
theorem Gov.SameSetup.sset (a : g.SameSetup h) (f : Fld) (v : Int) (out : ¬ slotConfig f.off) : g.SameSetup (h.sset f v) := a.set f _ out

theorem Gov.SameSetup.withNow (a : g.SameSetup h) (x : Nat) : g.SameSetup (h.withNow x) := a.beside
theorem Gov.SameSetup.withFree (a : g.SameSetup h) (x : Nat) : g.SameSetup (h.withFree x) := a.beside
theorem Gov.SameSetup.withHeld (a : g.SameSetup h) (x : Tab Word) : g.SameSetup (h.withHeld x) := a.beside
theorem Gov.SameSetup.withFlt (a : g.SameSetup h) (x : FaultSt) : g.SameSetup (h.withFlt x) := a.beside
theorem Gov.SameSetup.withPwr (a : g.SameSetup h) (x : PowerSt) : g.SameSetup (h.withPwr x) := a.beside
theorem Gov.SameSetup.withEng (a : g.SameSetup h) (x : EngSt) : g.SameSetup (h.withEng x) := a.beside
theorem Gov.SameSetup.withFcu (a : g.SameSetup h) (x : FcuSt) : g.SameSetup (h.withFcu x) := a.beside
theorem Gov.SameSetup.withSns (a : g.SameSetup h) (x : SnsSt) : g.SameSetup (h.withSns x) := a.beside
theorem Gov.SameSetup.withHws (a : g.SameSetup h) (x : HwsSt) : g.SameSetup (h.withHws x) := a.beside
theorem Gov.SameSetup.withTrc (a : g.SameSetup h) (x : TrcSt) : g.SameSetup (h.withTrc x) := a.beside
theorem Gov.SameSetup.setSyn (a : g.SameSetup h) (s : Nat) (f : SynSt → SynSt) : g.SameSetup (h.setSyn s f) := a.beside
theorem Gov.SameSetup.setRgn (a : g.SameSetup h) (rg : Nat) (f : RegionSt → RegionSt) : g.SameSetup (h.setRgn rg f) := a.beside
theorem Gov.SameSetup.setRail (a : g.SameSetup h) (r : Nat) (f : RailSt → RailSt) : g.SameSetup (h.setRail r f) := a.beside
theorem Gov.SameSetup.setPh (a : g.SameSetup h) (p : Nat) (f : PhaseSt → PhaseSt) : g.SameSetup (h.setPh p f) := a.beside
theorem Gov.SameSetup.setAns (a : g.SameSetup h) (b : Nat) (f : BerthAns → BerthAns) : g.SameSetup (h.setAns b f) := a.beside
theorem Gov.SameSetup.psStep (a : g.SameSetup h) (n : Nat) : g.SameSetup (h.psStep n) := a.beside

theorem Gov.SameSetup.ite {c : Prop} [Decidable c] (a : g.SameSetup h) (b : g.SameSetup k) : g.SameSetup (if c then h else k) := by
  split <;> assumption

theorem Gov.SameSetup.each {α : Type} {f : Gov → α → Gov} (a : g.SameSetup h) (xs : List α) (step : ∀ h, ∀ x ∈ xs, g.SameSetup h → g.SameSetup (f h x)) : g.SameSetup (h.each xs f) :=
  Gov.each_keeps_mem (P := fun h => g.SameSetup h) xs step h a

/-! Faults. -/

theorem Gov.SameSetup.log (a : g.SameSetup h) (time type : Nat) (ps : List Nat) : g.SameSetup (h.log time type ps) := by
  refine a.trans ⟨besideFlt_pll (Gov.log_besideFlt _ _ _ _), fun f hf => Gov.log_get _ _ _ _ ?_⟩
  have away : f.off ≠ W.FLT_LOG_HEAD ∧ f.off ≠ W.FLT_LOG_OVF := by simp only [W.FLT_LOG_HEAD, W.FLT_LOG_OVF]; omega
  simp [logFields, Fld.apart, F.FLT_LOG_HEAD_HEAD, F.FLT_LOG_OVF_COUNT, W.FLT_LOG_HEAD, W.FLT_LOG_OVF] at away ⊢
  simp [away]

theorem Gov.SameSetup.queueRecord (a : g.SameSetup h) (r : Raise) : g.SameSetup (h.queueRecord r) := by
  have b := a.setWord W.FLT_REC_SEQ (BitVec.ofNat 32 ((h.word W.FLT_REC_SEQ).toNat + 1)) (by decide)
  unfold Gov.queueRecord
  exact .ite ((b.inc _ _ (by decide)).withFlt _) ((b.withFlt _).set _ _ (by decide))

theorem Gov.SameSetup.recordRaise (a : g.SameSetup h) (r : Raise) : g.SameSetup (h.recordRaise r) := .ite a ((a.log _ _ _).queueRecord _)

theorem Gov.SameSetup.setTable (a : g.SameSetup h) (t : List Entry) : g.SameSetup (h.setTable t) := by
  unfold Gov.setTable
  exact (((a.withFcu _).set F.FCU_LIVE_LIVE _ (by decide)).upd F.FCU_LIVE_LIVE_PEAK _ (by decide)).each _ fun _ b _ c => c.set _ _ off_beyond

theorem Gov.SameSetup.purge (a : g.SameSetup h) (pick : Entry → Bool) : g.SameSetup (h.purge pick) := .ite a ((a.setTable _).inc _ _ (by decide))

theorem Gov.SameSetup.purgeAll (a : g.SameSetup h) : g.SameSetup h.purgeAll :=
  (((a.purge _).withFcu _).set F.FCU_HINT_STAT_ACTIVE _ (by decide)).set F.FCU_HINT_STAT_HELD _ (by decide)

theorem Gov.SameSetup.hold (a : g.SameSetup h) (o : Nat) : g.SameSetup (h.hold o) := .ite a (a.withHeld _)

theorem Gov.SameSetup.reactRaise (a : g.SameSetup h) (r : Raise) : g.SameSetup (h.reactRaise r) := by
  unfold Gov.reactRaise
  split
  · split
    · exact (a.mark _ off_beyond).purge _
    · exact a
  · exact (a.mark F.FLT_CTRL_TRIPPED (by decide)).each _ fun _ k _ b => .ite ((b.hold _).set _ _ off_beyond) b
  · exact a

theorem Gov.SameSetup.resolve (a : g.SameSetup h) : g.SameSetup h.resolve :=
  (((a.withFlt _).each _ fun _ r _ b => (b.recordRaise r).reactRaise r).set F.FLT_CTRL_THROTTLED _ (by decide)).set F.FLT_CTRL_STOPPED _ (by decide)

theorem Gov.SameSetup.countRaise (a : g.SameSetup h) (src : Nat) : g.SameSetup (h.countRaise src) := by
  unfold Gov.countRaise
  split
  · exact a.set _ _ off_beyond
  · exact a

theorem Gov.SameSetup.raise (a : g.SameSetup h) (src detail : Nat) (silent : Bool := false) : g.SameSetup (h.raise src detail silent) := by
  have b : g.SameSetup ((h.countRaise src).enlist src detail silent) := ((a.countRaise src).mark _ off_beyond).withFlt _
  exact .ite a (.ite (a.countRaise src) (.ite b.resolve b))

theorem Gov.SameSetup.bollard (a : g.SameSetup h) (kind idx : Nat) : g.SameSetup (h.bollard kind idx) :=
  ((a.inc F.HLIM_ACT_CNT_COUNT _ (by decide)).log _ _ _).raise _ _

/-! Commands and fences. -/

theorem Gov.SameSetup.fire (a : g.SameSetup h) (e : SigEvent) : g.SameSetup (h.fire e) :=
  a.trans ⟨besideCmd_pll (Gov.fire_besideCmd _ _), fun _ hf => Gov.fire_get_outside _ _ (.inr (by omega))⟩

theorem Gov.SameSetup.takeUp (a : g.SameSetup h) : g.SameSetup h.takeUp := a.beside (besideCmd_pll (Gov.takeUp_besideCmd _)) (Gov.takeUp_get _)

theorem Gov.SameSetup.post (a : g.SameSetup h) {n : Nat} (hn : n < 16) (ws : List Nat) (status : Nat) {params : List Nat} (hp : params.length ≤ 61) : g.SameSetup (h.post n ws status params) :=
  a.trans ⟨besideCmd_pll (Gov.post_besideCmd _ _ _ _ _), fun _ hf => Gov.post_get _ _ _ _ _ hn hp (.inr (by omega))⟩

theorem Gov.SameSetup.commit (a : g.SameSetup h) {n : Nat} (hn : n < 16) (ws : List Nat) (status : Nat) (at_ : Option SigEvent) : g.SameSetup (h.commit n ws status at_) :=
  a.trans ⟨besideCmd_pll (Gov.commit_besideCmd _ _ _ _ _), fun _ hf => Gov.commit_get _ _ _ _ _ (by simp only [W.SUP_JOURNAL]; omega) (.inr (by omega))⟩

theorem Gov.SameSetup.answerPs (a : g.SameSetup h) (status : Nat) {params : List Nat} (hp : params.length ≤ 61) : g.SameSetup (h.answerPs status params) := by
  unfold Gov.answerPs
  split
  · exact a
  · next n _ =>
    have b : g.SameSetup (h.withPwr { h.pwr with cmdChan := none }) := a.withPwr _
    dsimp only
    split
    · split
      · exact b.post n.isLt _ _ (by simp)
      · exact (b.commit n.isLt _ _ _).post n.isLt _ _ hp
    · exact b

/-! Rails. -/

theorem Gov.SameSetup.refreshTele (a : g.SameSetup h) (r : Nat) : g.SameSetup (h.refreshTele r) :=
  (a.set (F.RAIL_TELE_IOUT r) _ off_beyond).set (F.RAIL_POUT_POUT r) _ off_beyond

theorem Gov.SameSetup.refreshAct (a : g.SameSetup h) (r : Nat) : g.SameSetup (h.refreshAct r) :=
  (a.set (F.RAIL_STATE_N_ACT r) _ off_beyond).refreshTele r

theorem Gov.SameSetup.raisePhase (a : g.SameSetup h) (p : Nat) : g.SameSetup (h.raisePhase p) :=
  (a.mark (F.PH_STAT_ACTIVE p) off_beyond).setPh _ _

theorem Gov.SameSetup.enterState (a : g.SameSetup h) (r st : Nat) : g.SameSetup (h.enterState r st) :=
  (a.set (F.RAIL_STATE_STATE r) _ off_beyond).setRail _ _

theorem Gov.SameSetup.abortShed (a : g.SameSetup h) (r : Nat) : g.SameSetup (h.abortShed r) := by
  unfold Gov.abortShed
  split
  · exact (((a.set _ _ off_beyond).setPh _ _).inc _ _ off_beyond).setRail _ _
  · exact a

theorem Gov.SameSetup.setTarget (a : g.SameSetup h) (r e : Nat) : g.SameSetup (h.setTarget r e) :=
  .ite a ((a.set _ _ off_beyond).set _ _ off_beyond)

theorem Gov.SameSetup.setVcmd (a : g.SameSetup h) (r : Nat) (v : Int) : g.SameSetup (h.setVcmd r v) := by
  unfold Gov.setVcmd
  exact a.sset (F.RAIL_VCMD_VCMD r) _ off_beyond

theorem Gov.SameSetup.rampFrom (a : g.SameSetup h) (r : Nat) (v : Int) : g.SameSetup (h.rampFrom r v) := by
  have b := ((a.each (f := fun g p => if g.phaseOn p then g else g.raisePhase p) (h.inService r) fun _ p _ b => .ite b (b.raisePhase p)).refreshAct r).setVcmd r v
  have c := b.set (F.RAIL_STATE_REACHED r) 0 off_beyond
  unfold Gov.rampFrom
  dsimp only
  refine Gov.SameSetup.enterState (Gov.SameSetup.setRail ?_ _ _) _ _
  exact c

theorem Gov.SameSetup.startRail (a : g.SameSetup h) (r : Nat) : g.SameSetup (h.startRail r) := by
  have b := a.setRail r fun x => { x with psStop := false }
  unfold Gov.startRail Gov.beginStart
  exact .ite b (.ite (b.enterState _ _) (.ite (b.enterState _ _) (.ite (b.enterState _ _) (.ite (b.rampFrom _ _) b))))

/-! Synthesizers and regions. -/

theorem Gov.SameSetup.reglide (a : g.SameSetup h) (s : Nat) : g.SameSetup (h.reglide s) := by
  unfold Gov.reglide
  dsimp only
  refine Gov.SameSetup.set (.set ?_ _ _ off_beyond) _ _ off_beyond
  exact .ite a (a.setSyn _ _)

theorem Gov.SameSetup.retarget (a : g.SameSetup h) (s : Nat) : g.SameSetup (h.retarget s) := by
  unfold Gov.retarget
  refine .ite a ?_
  split
  · exact (a.set _ _ off_beyond).reglide _
  · have b := fun v => a.set (F.FSYN_STAT_FLOOR s) v off_beyond
    have c := fun v => (b v).mark (F.FSYN_STAT_CLAMP s) off_beyond
    exact Gov.SameSetup.reglide (.set (.ite (.ite (c _) (((c _).setSyn _ _).bollard _ _)) ((b _).setSyn _ _)) _ _ off_beyond) _

/-! ### The late steps of an ended sample -/

/-! Step 4. -/

theorem Gov.SameSetup.setLive (a : g.SameSetup h) (o : Nat) (w : Word) (out : ¬ slotConfig o) : g.SameSetup (h.setLive o w) := .ite (a.withHeld _) (a.setWord o w out)

theorem Gov.SameSetup.overrunSlots (a : g.SameSetup h) : g.SameSetup h.overrunSlots.2 := by
  unfold Gov.overrunSlots
  dsimp only
  split
  · exact a
  · exact a.withFree _

theorem Gov.SameSetup.executed (a : g.SameSetup h) (rs : List LoopRes) (late : List Nat) : g.SameSetup (h.executed rs late).2 := by
  unfold Gov.executed
  dsimp only
  split
  · exact a
  · exact a.withFree _

theorem Gov.SameSetup.idleCycles (a : g.SameSetup h) (steps tbls : Nat) : g.SameSetup (h.idleCycles steps tbls).2 := by
  unfold Gov.idleCycles
  dsimp only
  split
  · exact a
  · exact a.withFree _

theorem Gov.SameSetup.overrun (a : g.SameSetup h) (k : Nat) : g.SameSetup (h.overrun k) := ((a.inc _ _ off_result).mark _ off_result).raise _ _

theorem Gov.SameSetup.commitLoop (a : g.SameSetup h) (written : List Nat) (r : LoopRes) : g.SameSetup (h.commitLoop written r) := by
  unfold Gov.commitLoop
  extract_lets k out s0 s1 stat
  have hout : g.SameSetup out := a.sset _ _ off_result
  have hs0 : g.SameSetup s0 := by
    unfold s0
    split
    · exact .ite hout ((hout.setLive _ _ off_result).setLive _ _ off_result)
    · exact hout
  have hs1 : g.SameSetup s1 := by
    unfold s1
    split
    · exact .ite hs0 (hs0.setLive _ _ off_result)
    · exact hs0
  have hstat : g.SameSetup stat := (((hs1.set _ _ off_result).set _ _ off_result).set _ _ off_result).set _ _ off_result
  exact .ite (hstat.mark _ off_result) hstat

theorem Gov.SameSetup.closeLoops (a : g.SameSetup h) (lanes written : List Nat) : g.SameSetup (h.closeLoops lanes written).2 := by
  unfold Gov.closeLoops
  split
  next late g1 e1 =>
  have h1 : g.SameSetup g1 := by simpa [e1] using a.overrunSlots
  extract_lets rs bad overran counted lost done
  have hover : g.SameSetup overran := h1.each _ fun _ r _ b => b.overrun r.slot
  have hcount : g.SameSetup counted := .ite hover ((hover.inc _ _ (by decide)).mark _ (by decide))
  have hlost : g.SameSetup lost := hcount.each _ fun _ k _ b => b.raise 257 k
  split
  next ex g2 e2 =>
  have h2 : g.SameSetup g2 := by simpa [e2] using hlost.executed rs late
  split
  next idle g3 e3 =>
  have h3 : g.SameSetup g3 := by simpa [e3] using h2.idleCycles ex.1 ex.2
  refine Gov.SameSetup.withEng (Gov.SameSetup.each ?_ _ fun _ r _ b => b.commitLoop written r) _
  exact .ite (((h3.upd _ _ (by decide)).upd _ _ (by decide)).mark _ (by decide)) h3

theorem Gov.SameSetup.stepFour (a : g.SameSetup h) (l : LateSt) : g.SameSetup (h.stepFour l) := (a.closeLoops _ _).withFcu _

/-! Step 5. -/

theorem Gov.SameSetup.setWon (a : g.SameSetup h) (winners : List Nat) : g.SameSetup (h.setWon winners) :=
  ((a.each _ fun _ _ _ b => b.set _ _ off_result).each _ fun _ _ _ b => b.mark _ off_result).withEng _

theorem Gov.SameSetup.arbitrate (a : g.SameSetup h) (idx : Nat) (bad : List (Nat × Nat)) : g.SameSetup (h.arbitrate idx bad) := by
  unfold Gov.arbitrate
  extract_lets slots present dest hit railW dieW regW railOut dieOut berthW won own taken rails die regions berths railF regionF shown _ kept ceils
  have htaken : g.SameSetup taken := a.setWon _
  have hrails : g.SameSetup rails := htaken.each _ fun _ r hr b => .ite b (b.setWord _ _ (by have := List.mem_range.1 hr; simp only [W.ENG_WIN_RAIL]; omega))
  have hdie : g.SameSetup die := .ite hrails (hrails.setWord _ _ (by decide))
  have hregions : g.SameSetup regions := hdie.each _ fun _ rg hrg b => .ite b (b.setWord _ _ (by have := List.mem_range.1 hrg; simp only [W.ENG_WIN_REGION]; omega))
  have hberths : g.SameSetup berths := hregions.each _ fun _ _ _ b => .ite b (b.setWord _ _ off_beyond)
  have hceils : g.SameSetup ceils := (hberths.withEng _).each _ fun _ _ _ b => b.set _ _ off_beyond
  exact hceils.each _ fun _ _ _ b => b.raise _ _

theorem Gov.SameSetup.endSteady (a : g.SameSetup h) : g.SameSetup h.endSteady := (a.set _ _ (by decide)).each _ fun _ r _ b => b.setRail r _

theorem Gov.SameSetup.steadyBreak (a : g.SameSetup h) (idx : Nat) : g.SameSetup (h.steadyBreak idx) := by
  unfold Gov.steadyBreak
  split
  · exact a
  · extract_lets low slow word
    clear_value word
    cases word with
    | some w => exact (((a.endSteady.mark _ (by decide)).setWord _ _ (by decide)).log _ _ _).mark _ (by decide)
    | none => exact a

theorem Gov.SameSetup.settleEntries (a : g.SameSetup h) : g.SameSetup h.settleEntries := by
  unfold Gov.settleEntries Gov.expireEntries
  extract_lets due n kept
  exact .ite a (((a.setTable _).inc _ _ (by decide)).inc _ _ (by decide))

theorem Gov.SameSetup.dropHint (a : g.SameSetup h) (k : Nat) : g.SameSetup (h.dropHint k) :=
  ((a.withFcu _).set _ _ (by decide : ¬ slotConfig W.FCU_HINT_STAT)).set _ _ (by decide : ¬ slotConfig W.FCU_HINT_STAT)

theorem Gov.SameSetup.settleHints (a : g.SameSetup h) : g.SameSetup h.settleHints := by
  have hint : ∀ {h : Gov} (k : Nat), g.SameSetup h → g.SameSetup (h.mark ⟨W.FCU_HINT_STAT, k, 1⟩) := fun k b => b.mark _ (by decide : ¬ slotConfig W.FCU_HINT_STAT)
  refine a.each _ fun _ x _ b => ?_
  split
  · exact .ite (b.dropHint _) (.ite (hint _ b) b)
  · exact .ite (hint _ b) b

theorem Gov.SameSetup.freeEntry (a : g.SameSetup h) (e : BadEntry) : g.SameSetup (h.freeEntry e) := .ite ((a.purge _).raise _ _) a

theorem Gov.SameSetup.stepFive (a : g.SameSetup h) (l : LateSt) : g.SameSetup (h.stepFive l) := by
  have targets := ((a.arbitrate l.idx l.dests).steadyBreak l.idx).each (List.range 16) fun _ s _ b => b.retarget s
  have entries := targets.settleEntries.settleHints.each l.entries fun _ e _ b => b.freeEntry e
  exact (entries.withFcu _).withEng _

/-! Step 6. -/

theorem Gov.SameSetup.dropSnap (a : g.SameSetup h) (b : Nat) : g.SameSetup (h.dropSnap b) := .ite ((a.set _ _ off_beyond).set _ _ off_beyond) a

theorem Gov.SameSetup.formTargets (a : g.SameSetup h) (snaps : List Snap) : g.SameSetup (h.formTargets snaps) :=
  ((a.withFcu _).each _ fun _ _ _ b => (b.set _ _ off_beyond).set _ _ off_beyond).each _ fun _ x _ b => b.dropSnap x

theorem Gov.SameSetup.publishForecast (a : g.SameSetup h) (classes : List Nat) (snaps : List Snap) {r : Nat} (hr : r < 8) : g.SameSetup (h.publishForecast classes snaps r) := by
  have low : ¬ slotConfig (0xE80 + 0x4 * r) := by unfold slotConfig; omega
  have rise := a.set (F.FCU_RAIL_FC_RISE r) (h.railRise classes snaps r) low
  unfold Gov.publishForecast
  dsimp only
  split
  · exact (rise.set _ _ low).mark _ low
  · exact (rise.set _ _ low).set _ _ low

theorem Gov.SameSetup.showStage (a : g.SameSetup h) (x : Snap) : g.SameSetup (h.showStage x) :=
  (((a.set _ _ off_beyond).set _ _ off_beyond).set _ _ off_beyond).set _ _ off_beyond

theorem Gov.SameSetup.selectEntry (a : g.SameSetup h) (r : Nat) : g.SameSetup (h.selectEntry r) := by
  unfold Gov.selectEntry
  extract_lets rgs sel low flagged fc want0 want
  have hflag : g.SameSetup flagged := a.set _ _ off_beyond
  exact .ite (hflag.setTarget _ _) (.ite (hflag.setTarget _ _) (.ite (.ite (hflag.setTarget _ _) hflag) (.ite (hflag.fire _) hflag)))

theorem Gov.SameSetup.addPhases (a : g.SameSetup h) (r n : Nat) : g.SameSetup (h.addPhases r n) := .ite a (((a.each _ fun _ p _ b => b.raisePhase p).refreshAct r).setRail r _)

theorem Gov.SameSetup.beginShed (a : g.SameSetup h) (r : Nat) : g.SameSetup (h.beginShed r) := by
  unfold Gov.beginShed
  split
  · exact ((a.mark _ off_beyond).setPh _ _).setRail _ _
  · exact a

theorem Gov.SameSetup.phaseCounts (a : g.SameSetup h) (r : Nat) : g.SameSetup (h.phaseCounts r) := by
  unfold Gov.phaseCounts
  extract_lets n asked added held
  have hadded : g.SameSetup added := (a.set _ _ off_beyond).addPhases r _
  have hheld : g.SameSetup held := hadded.setRail r _
  exact .ite a (.ite hadded (.ite (.ite (hheld.beginShed r) hheld) (hadded.setRail r _)))

theorem Gov.SameSetup.imbalance (a : g.SameSetup h) (r : Nat) : g.SameSetup (h.imbalance r) :=
  a.each _ fun _ p _ b => .ite (.ite ((b.setPh p _).mark _ off_beyond) (b.setPh p _)) (b.setPh p _)

theorem Gov.SameSetup.regulatorStep (a : g.SameSetup h) : g.SameSetup h.regulatorStep := by
  unfold Gov.regulatorStep
  extract_lets on selected counted
  have hsel : g.SameSetup selected := .ite a (a.each _ fun _ r _ b => b.selectEntry r)
  have hcount : g.SameSetup counted := .ite hsel (hsel.each _ fun _ r _ b => b.phaseCounts r)
  exact hcount.each _ fun _ r _ b => b.imbalance r

theorem Gov.SameSetup.trimStep (a : g.SameSetup h) : g.SameSetup h.trimStep := (a.withSns _).each _ fun _ _ _ b => b.set _ _ off_beyond

theorem Gov.SameSetup.stepSix (a : g.SameSetup h) (l : LateSt) : g.SameSetup (h.stepSix l) := by
  unfold Gov.stepSix
  extract_lets published staged
  have hpub : g.SameSetup published := (a.formTargets l.snaps).each _ fun _ r hr b => b.publishForecast _ _ (List.mem_range.1 hr)
  have hshown := hpub.each l.snaps fun _ x _ b => b.showStage x
  have htargets : g.SameSetup (published.each l.snaps Gov.showStage).psTargets := .ite (hshown.psStep 3) hshown
  have hstaged : g.SameSetup staged := (((htargets.withHeld _).regulatorStep).withHeld _).trimStep
  exact (hstaged.withPwr _).withFcu _

/-! Step 7. -/

theorem Gov.SameSetup.setBuf (a : g.SameSetup h) (n : Nat) (b : TraceBuf) : g.SameSetup (h.setBuf n b) := (a.withTrc _).set _ _ off_beyond

theorem Gov.SameSetup.record (a : g.SameSetup h) (n : Nat) (stop : Bool) (idx kind index v0 v1 : Nat) : g.SameSetup (h.record n stop idx kind index v0 v1) := by
  have lost := a.inc (F.TRC_LOST_COUNT n) 1 off_beyond
  exact .ite (a.setBuf n _) (.ite (a.mark _ off_beyond) (.ite (lost.setBuf n _) (lost.setBuf n _)))

theorem Gov.SameSetup.traceSample (a : g.SameSetup h) (idx : Nat) (cfg : List Nat) (sensed : List (Nat × Nat × Nat)) : g.SameSetup (h.traceSample idx cfg sensed) :=
  a.each _ fun _ _ _ b => .ite (b.each _ fun _ _ _ c => c.record _ _ _ _ _ _ _) b

theorem Gov.SameSetup.watchValue (a : g.SameSetup h) (x : WatchHit) (var : Nat) : g.SameSetup (h.watchValue x var).2 := by
  unfold Gov.watchValue
  split
  · exact a
  · split
    · exact a
    · split
      · exact a
      · split
        · exact a
        · dsimp only
          split
          · exact a.withFree _
          · exact a

theorem Gov.SameSetup.watchSample (a : g.SameSetup h) (idx : Nat) (cfg : List Nat) (ran : List LoopRes) (gone : List Nat) : g.SameSetup (h.watchSample idx cfg ran gone) := by
  unfold Gov.watchSample
  extract_lets x named _ noted streams n
  have hnoted : g.SameSetup noted := .ite (a.withTrc _) a
  exact .ite ((hnoted.watchValue x _).record _ _ _ _ _ _ _) hnoted

theorem Gov.SameSetup.stepSeven (a : g.SameSetup h) (l : LateSt) : g.SameSetup (h.stepSeven l) := ((a.traceSample _ _ _).watchSample _ _ _ _).withFcu _

theorem Gov.SameSetup.withCode (a : g.SameSetup h) (code : Nat) {f : Gov → Gov} (step : ∀ h, g.SameSetup h → g.SameSetup (f h)) : g.SameSetup (h.withCode code f) :=
  .ite (step h a) ((step _ (a.set _ _ (by decide))).set _ _ (by decide))

theorem Gov.SameSetup.lateStep (a : g.SameSetup h) (l : LateSt) : g.SameSetup (h.lateStep l) := by
  refine a.withCode l.code fun h b => ?_
  split
  · exact b.stepFour l
  · exact b.stepFive l
  · exact b.stepSix l
  · exact b.stepSeven l



/-! ### Answers, and moving in time -/

theorem Gov.SameSetup.countHold (a : g.SameSetup h) : g.SameSetup h.countHold := .ite (a.set _ _ (by decide)) a

theorem Gov.SameSetup.refusalRecord (a : g.SameSetup h) (b rsn target : Nat) (exit_ : Bool) : g.SameSetup (h.refusalRecord b rsn target exit_).2 := by
  have words : ∀ i ws, i < 8 → ws.length = 8 → g.SameSetup (h.writeWords (W.PS_REFUSE i 0) ws) := fun i ws hi hw =>
    a.each _ fun _ j hj c => c.setWord _ _ (by have := List.mem_range.1 hj; unfold slotConfig; simp only [W.PS_REFUSE]; omega)
  unfold Gov.refusalRecord
  extract_lets i w2 n0 n1 written headed
  have hheaded : g.SameSetup headed := (words i _ (h.get_lt F.PS_LOG_HEAD_HEAD) rfl).set _ _ (by decide)
  exact .ite hheaded (hheaded.log _ _ _)

theorem Gov.SameSetup.refusal (a : g.SameSetup h) (b rsn : Nat) : g.SameSetup (h.refusal b rsn).2 := (a.refusalRecord b rsn h.psTo false).set _ _ (by decide)

theorem Gov.SameSetup.drive (a : g.SameSetup h) (code : Nat) : g.SameSetup (h.drive code) := (a.withPwr _).each _ fun _ b _ c => c.setAns b _

theorem Gov.SameSetup.runCodes (a : g.SameSetup h) : g.SameSetup h.runCodes := ((a.each _ fun _ _ _ b => b.withPwr _).withPwr _).psStep 11

theorem Gov.SameSetup.beginExit (a : g.SameSetup h) (causes : Nat) (replayed : Bool) : g.SameSetup (h.beginExit causes replayed) := by
  unfold Gov.beginExit
  extract_lets phased noted _ started
  have hphased : g.SameSetup phased := (((a.set _ _ (by decide)).set _ _ (by decide)).set _ _ (by decide)).set _ _ (by decide)
  have hstarted : g.SameSetup started := ((hphased.set _ _ (by decide)).set _ _ (by decide)).withPwr _
  exact .ite ((hstarted.withPwr _).psStep 10) hstarted.runCodes

theorem Gov.SameSetup.endRevert (a : g.SameSetup h) : g.SameSetup h.endRevert := by
  have idle := (((a.psStep 0).set F.PS_STAT_TO 0 (by decide)).set F.PS_STAT_BUSY 0 (by decide)).set F.PS_STAT_PHASE 0 (by decide)
  exact .ite (idle.beginExit _ _) (idle.set _ _ (by decide))

/-- The refusals' records, one after another. -/
theorem Gov.SameSetup.refusals (rs : List (Nat × Nat)) {acc : List Nat × Gov} (a : g.SameSetup acc.2) :
    g.SameSetup (rs.foldl (fun (acc : List Nat × Gov) p => ((acc.1 ++ [(acc.2.refusal p.1 p.2).1]), (acc.2.refusal p.1 p.2).2)) acc).2 := by
  induction rs generalizing acc with
  | nil => exact a
  | cons p rs ih => exact ih (a.refusal p.1 p.2)

theorem Gov.SameSetup.abortEntry (a : g.SameSetup h) (rs : List (Nat × Nat)) : g.SameSetup (h.abortEntry rs) := by
  unfold Gov.abortEntry
  extract_lets res counted latched _ answered reverted
  have hcounted : g.SameSetup counted := ((((Gov.SameSetup.refusals rs a.countHold).set _ _ (by decide)).set _ _ (by decide)).set _ _ (by decide)).set _ _ (by decide)
  have hlatched : g.SameSetup latched := .ite hcounted (hcounted.set _ _ (by decide))
  have hanswered : g.SameSetup answered := (hlatched.withPwr _).answerPs _ (by rw [List.length_take]; omega)
  have hreverted : g.SameSetup reverted := (hanswered.drive _).psStep 9
  exact .ite hreverted.endRevert hreverted

theorem Gov.SameSetup.commitEntry (a : g.SameSetup h) : g.SameSetup h.commitEntry := by
  unfold Gov.commitEntry
  extract_lets dst block _ latched stopped purged
  have hlatched : g.SameSetup latched := a.countHold.withPwr _
  have hstopped : g.SameSetup stopped := .ite hlatched ((hlatched.set _ _ (by decide)).each _ fun _ r _ b => b.abortShed r)
  have hpurged : g.SameSetup purged := .ite hstopped.purgeAll hstopped
  exact (hpurged.answerPs _ (by decide)).psStep 2

theorem Gov.SameSetup.endExit (a : g.SameSetup h) : g.SameSetup h.endExit := by
  have ended := ((((a.psStep 0).set F.PS_STAT_STATE 0 (by decide)).set F.PS_STAT_BUSY 0 (by decide)).set F.PS_STAT_PHASE 0 (by decide)).set F.GOV_IRQ_SRC_PS 1 (by decide)
  exact (((ended.set F.PS_CNT_WAKE_COUNT _ (by decide)).withPwr _).fire _).takeUp

theorem Gov.SameSetup.weigh (a : g.SameSetup h) : g.SameSetup h.weigh := by
  unfold Gov.weigh
  exact .ite (.ite (a.abortEntry _) (.ite a.commitEntry a)) (.ite (.ite a.endRevert a) (.ite (.ite a.endExit a) a))

theorem Gov.SameSetup.lateAnswers (a : g.SameSetup h) : g.SameSetup h.lateAnswers := (a.each _ fun _ b _ c => c.setAns b _).weigh

theorem Gov.SameSetup.settlePower (a : g.SameSetup h) : g.SameSetup h.settlePower := .ite (a.psStep 12) a

theorem Gov.SameSetup.noteCross (a : g.SameSetup h) (rg : Nat) : g.SameSetup (h.noteCross rg) := .ite a (.ite (a.setRgn rg _) (a.setRgn rg _))

theorem Gov.SameSetup.passTo (a : g.SameSetup h) (t : Nat) : g.SameSetup (h.passTo t) := by
  have settled : g.SameSetup h.settleClocks := (a.each _ fun _ rg _ b => b.noteCross rg).each _ fun _ rg _ b => b.setRgn rg _
  have ran : g.SameSetup (h.settleClocks.runClocks (t - h.now)) := (settled.each _ fun _ rg _ b => b.setRgn rg _).each _ fun _ s _ b => b.setSyn s _
  exact .ite (ran.withNow t) a

theorem Gov.SameSetup.takeInner (a : g.SameSetup h) (at_ : Nat) (x : Inner) : g.SameSetup (h.takeInner at_ x) := by
  have there := a.settlePower.passTo at_
  cases x with
  | path l => exact there.lateStep l
  | low => exact there.lateAnswers


theorem Gov.SameSetup.catchUp (a : g.SameSetup h) (fuel till : Nat) : g.SameSetup (h.catchUp fuel till) := by
  induction fuel generalizing h with
  | zero => exact a
  | succ fuel ih =>
    unfold Gov.catchUp
    split
    · exact a
    · exact ih (a.takeInner _ _)

/-- Moving to an instant leaves the lock of the PLL and the slots' configuration alone. -/
theorem Gov.reach_sameSetup (g : Gov) (t : Fin 250) : g.SameSetup (g.reach t) := (((Gov.SameSetup.refl g).catchUp 12 _).settlePower).passTo _

end Sys2Proof.Machine
end

section

-- One proof at a time: side by side they take more threads than the memory limit of the check holds.
set_option Elab.async false

namespace Sys2Proof.Machine

/-! ### Words of the loop slots in the register map -/

/-- The registers of the slots are arrays over 1,024 blocks of 0x40 bytes, each register once in a block. -/
theorem regsSlots_shape : ∀ d ∈ regsSlots, 0x10000 ≤ d.base ∧ d.base < 0x10040 ∧ d.n1 = 1024 ∧ d.s1 = 0x40 ∧ d.n2 = 1 := by decide

/-- A register stands in every slot's block where it stands in the first. -/
theorem index_slot {d : RegDef} (hd : d ∈ regsSlots) {o k : Nat} (ho : 0x10000 ≤ o ∧ o < 0x10040) (hk : k < 1024) : (d.index (o + 0x40 * k)).isSome = (d.index o).isSome := by
  obtain ⟨low, high, n1, s1, n2⟩ := regsSlots_shape d hd
  have at_ : ∀ p : Nat, (d.index p).isSome = decide (d.base ≤ p ∧ (p - d.base) / 0x40 < 1024 ∧ (p - d.base) % 0x40 = 0) := fun p => by
    unfold RegDef.index
    rw [n1, s1, n2]
    by_cases hp : p < d.base
    · simp [hp, Nat.not_le.2 hp]
    · by_cases hi : (p - d.base) / 0x40 < 1024 ∧ (p - d.base) % 0x40 = 0
      · simp [hp, hi, Nat.le_of_not_lt hp]
      · simp [hp, hi, Nat.le_of_not_lt hp]
  rw [at_, at_]
  congr 1
  exact propext (by omega)

/-- Every slot's block has the fields of the first. -/
theorem fieldsAt_slot {o k : Nat} (ho : 0x10000 ≤ o ∧ o < 0x10040) (hk : k < 1024) : fieldsAt (o + 0x40 * k) = fieldsAt o := by
  have regs : ∀ p : Nat, 0x10000 ≤ p → p < 0x20000 → regsAt p = regsSlots := fun p hl hu => by
    unfold regsAt
    simp [hl, hu, show ¬ p < 0x100 by omega, show ¬ p < 0x200 by omega, show ¬ p < 0x400 by omega, show ¬ p < 0x500 by omega, show ¬ p < 0x800 by omega, show ¬ p < 0xC00 by omega, show ¬ p < 0xD00 by omega,
      show ¬ p < 0xE00 by omega, show ¬ p < 0x1000 by omega, show ¬ p < 0x4000 by omega, show ¬ p < 0x6000 by omega]
  have found : ∀ ds : List RegDef, (∀ d ∈ ds, d ∈ regsSlots) → ∀ p q : Nat, (∀ d ∈ ds, (d.index p).isSome = (d.index q).isSome) →
      ((ds.findSome? fun d => (d.index p).map fun ij => (d, ij.1, ij.2)).map fun x => x.1.fields) = (ds.findSome? fun d => (d.index q).map fun ij => (d, ij.1, ij.2)).map fun x => x.1.fields := by
    intro ds hs p q same
    induction ds with
    | nil => rfl
    | cons d ds ih =>
      have head := same d (by simp)
      simp only [List.findSome?_cons]
      cases hp : d.index p <;> cases hq : d.index q
      · exact ih (fun d hd => hs d (by simp [hd])) fun d hd => same d (by simp [hd])
      all_goals simp [hp, hq] at head ⊢
  have all : ∀ p, fieldsAt p = ((findReg p).map fun x => x.1.fields).getD [] := fun p => by unfold fieldsAt; cases findReg p <;> rfl
  rw [all, all]
  unfold findReg
  rw [regs _ (by omega) (by omega), regs o ho.1 (by omega), found regsSlots (fun _ h => h) _ _ fun d hd => index_slot hd ho hk]

theorem writable_slot {o k : Nat} (ho : 0x10000 ≤ o ∧ o < 0x10040) (hk : k < 1024) : writable (o + 0x40 * k) = writable o := by
  unfold writable
  rw [fieldsAt_slot ho hk]

/-! ### Words in force beside a later write (R25, R86) -/

/-- A listed key reads its listing, whatever the default. -/
theorem Tab.get_of_any {α : Type} {m : Tab α} {k : Nat} (h : (m.any fun p => p.1 == k) = true) (d d' : Nat → α) : Tab.get d m k = Tab.get d' m k := by
  induction m with
  | nil => simp at h
  | cons p m ih =>
    by_cases e : p.1 = k
    · simp [Tab.get, e]
    · simpa [Tab.get, e] using ih (by simpa [e] using h)

theorem Tab.any_ins {α : Type} (k j : Nat) (v : α) (m : Tab α) : ((Tab.ins k v m).any fun p => p.1 == j) = (k == j || m.any fun p => p.1 == j) := by
  induction m with
  | nil => simp [Tab.ins]
  | cons p m ih =>
    simp only [Tab.ins]
    split
    · simp
    · simp only [List.any_cons, ih]
      cases p.1 == j <;> simp

/-- The word at an offset is kept in force. -/
def Gov.isHeld (g : Gov) (off : Nat) : Bool := g.held.any fun p => p.1 == off

theorem Gov.isHeld_hold (g : Gov) (off o : Nat) : (g.hold off).isHeld o = (off == o || g.isHeld o) := by
  unfold Gov.hold
  split
  · next h =>
    by_cases e : off = o
    · subst e; simpa [Gov.isHeld] using h
    · simp [e]
  · exact Tab.any_ins _ _ _ _

@[simp] theorem Gov.hold_word (g : Gov) (off o : Nat) : (g.hold off).word o = g.word o := by unfold Gov.hold; split <;> rfl

@[simp] theorem Gov.hold_actWord (g : Gov) (off o : Nat) : (g.hold off).actWord o = g.actWord o := by
  unfold Gov.hold
  split
  · rfl
  · next h =>
    have free : ∀ p ∈ g.held, p.1 ≠ off := fun p hp e => h (List.any_eq_true.2 ⟨p, hp, by simp [e]⟩)
    show Tab.get (fun o => g.word o) (Tab.ins off (g.word off) g.held) o = Tab.get (fun o => g.word o) g.held o
    by_cases e : o = off
    · subst e
      rw [Tab.get_ins_self _ _ _ _ free, ← Tab.get_erase_self (fun o => g.word o) g.held o, Tab.erase, List.filter_eq_self.2 (by simpa using free)]
    · exact Tab.get_ins_ne _ _ _ e

/-- A write of a word that is kept in force leaves every word in force as it was. -/
theorem Gov.plain_actWord {g : Gov} {off : Nat} (h : g.isHeld off = true) (w : Word) (o : Nat) : (g.plain off w).actWord o = g.actWord o := by
  show Tab.get (fun o => (g.plain off w).word o) g.held o = Tab.get (fun o => g.word o) g.held o
  by_cases e : o = off
  · subst e; exact Tab.get_of_any h _ _
  · rcases Tab.get_cases g.held o with ⟨v, hv⟩ | hd
    · rw [hv, hv]
    · rw [hd, hd]; exact g.word_plain_ne w e

theorem Gov.merged_congr {g h : Gov} (e : ∀ o, h.word o = g.word o) (off : Nat) (w : Word) : h.merged off w = g.merged off w := by
  have get : ∀ f, h.get f = g.get f := fun f => Gov.get_congr (e f.off)
  have locked : h.locked off = g.locked off := by simp only [Gov.locked, Gov.flag, get]
  rw [Gov.merged, Gov.merged, locked, e]

/-- A plain write, with the words that it overwrites kept in force, is stored to be active later. -/
theorem Gov.plain_storesLater {g h : Gov} {off : Nat} (words : ∀ o, h.word o = g.word o) (acts : ∀ o, h.actWord o = g.actWord o) (held : h.isHeld off = true) (w : Word) (x : EngSt) :
    g.storesLater (((h.plain off w).withEng x).respond 0 0) off w := by
  refine ⟨⟨rfl, ?_, fun o ho => ?_⟩, fun o => ?_⟩
  · exact (h.word_plain_self off w).trans (Gov.merged_congr words off w)
  · exact (h.word_plain_ne w (by simpa using ho)).trans (words o)
  · exact (Gov.plain_actWord held w o).trans (acts o)

theorem Gov.shadow_storesLater (g : Gov) (off : Nat) (w : Word) (x : EngSt) : g.storesLater (((g.shadow off w).withEng x).respond 0 0) off w :=
  Gov.plain_storesLater (g.hold_word off) (g.hold_actWord off) (by simp [Gov.isHeld_hold]) w x

/-! ### Writes of a slot's words (R86, R104) -/

theorem Gov.writeReg_slot (g : Gov) {o k : Nat} (w : Word) (ho : 0x10000 ≤ o ∧ o < 0x10040) (hk : k < 1024) (hw : writable o = true) : g.writeReg (o + 0x40 * k) w = g.writeSlot k (o + 0x40 * k) w := by
  have slot : (o + 0x40 * k - 0x10000) / 64 = k := by omega
  have beyond : ∀ n ≤ 0x10000, ¬ o + 0x40 * k < n := fun n hn => by omega
  unfold Gov.writeReg
  simp [writable_slot ho hk, hw, beyond, slot, show o + 0x40 * k < 0x20000 by omega]

/-- The slot's own words are no words of the others' groups. -/
theorem Gov.slotVerdict_s1 (g : Gov) (k : Nat) (w : Word) : g.slotVerdict k (W.LS_S1 k) w = accept (g.shadow (W.LS_S1 k) w) := by
  simp [Gov.slotVerdict, W.LS_S1, W.LS_CTRL, W.LS_FB, W.LS_SP, W.LS_FBSCALE, W.LS_ULO, W.LS_UHI, W.LS_P2, W.LS_S0_LO, W.LS_S0_HI, W.LS_STAT, W.LS_OUT, W.LS_OVR_CNT]

theorem Gov.slotVerdict_s0 (g : Gov) {k off : Nat} (h : off = W.LS_S0_LO k ∨ off = W.LS_S0_HI k) (w : Word) :
    g.slotVerdict k off w = accept (((g.hold (W.LS_S0_LO k)).hold (W.LS_S0_HI k)).plain off w) := by
  rcases h with rfl | rfl
  · simp [Gov.slotVerdict, W.LS_CTRL, W.LS_FB, W.LS_SP, W.LS_FBSCALE, W.LS_ULO, W.LS_UHI, W.LS_P2, W.LS_S0_LO, W.LS_S0_HI]
  · simp [Gov.slotVerdict, W.LS_CTRL, W.LS_FB, W.LS_SP, W.LS_FBSCALE, W.LS_ULO, W.LS_UHI, W.LS_P2, W.LS_S0_LO, W.LS_S0_HI]

theorem Gov.writeSlot_accept {g h : Gov} {k off : Nat} {w : Word} (e : g.slotVerdict k off w = accept h) :
    ∃ x, g.writeSlot k off w = accept (h.withEng x) := by
  unfold Gov.writeSlot
  rw [e]
  exact ⟨_, rfl⟩

theorem Gov.writeSlot_refuse {g h : Gov} {k off : Nat} {w : Word} (e : g.slotVerdict k off w = refuse h) : g.writeSlot k off w = refuse h := by
  unfold Gov.writeSlot
  rw [e]
  rfl

section
variable {g : Gov} {k off : Nat} {w : Word} (now : (g.plain off w).flag (F.LS_CTRL_EN k) = true)
include now

/-- In anchor mode no slot is enabled (R345). -/
theorem Gov.writeSlotShape_anchored (ha : g.anchored = true) : g.writeSlotShape k off w = g.refuseSlot k F.ENG_STATUS_LAW_REF := by
  simp [Gov.writeSlotShape, now, ha]

theorem Gov.writeSlotShape_capacity (ha : g.anchored = false) (was : g.flag (F.LS_CTRL_EN k) = false) (hc : (g.plain off w).capacityOk (g.plain off w).periodCodes = false) :
    g.writeSlotShape k off w = g.refuseSlot k F.ENG_STATUS_CAP_REF := by
  simp [Gov.writeSlotShape, now, ha, was, hc]

theorem Gov.writeSlotShape_fits (ha : g.anchored = false) (hc : (g.plain off w).capacityOk (g.plain off w).periodCodes = true) (hl : (g.plain off w).limitsCross k = false) (hp : (g.plain off w).poleBad k = false)
    (hs : (g.plain off w).slotShape k = true) (hcap : g.capHolds = true → (g.plain off w).capHolds = true) : g.writeSlotShape k off w = accept (g.shadow off w) := by
  have kept : (g.capHolds && !(g.plain off w).capHolds) = false := by
    cases h : g.capHolds
    · rfl
    · rw [hcap h]; rfl
  simp [Gov.writeSlotShape, now, ha, hc, hl, hp, hs, kept]

end

/-- A refused slot shows its refusal, the reason's flag and its number, and nothing else (R104). -/
theorem Gov.refuseSlot_refuses (g : Gov) {k : Nat} (hk : k < 1024) {flag : Fld} (hf : flag = F.ENG_STATUS_CAP_REF ∨ flag = F.ENG_STATUS_LAW_REF) :
    g.refuses ((g.refuseSlot k flag).gov.respond 0 0) flag [F.LS_STAT_REFUSED k, F.ENG_STATUS_REF_SLOT] ∧ ((g.refuseSlot k flag).gov.respond 0 0).get F.ENG_STATUS_REF_SLOT = k := by
  have flags : flag.apart F.ENG_STATUS_REF_SLOT = true ∧ flag.lo + flag.w ≤ 32 ∧ flag.w = 1 := by rcases hf with rfl | rfl <;> decide
  obtain ⟨apart, inWord, one⟩ := flags
  have marked : (((g.mark (F.LS_STAT_REFUSED k)).mark flag).set F.ENG_STATUS_REF_SLOT k).flag flag = true := by
    rw [Gov.flag_set_apart _ _ apart, Gov.mark_eq _ flag, Gov.flag_set_self _ _ inWord, one]; rfl
  have slot : (((g.mark (F.LS_STAT_REFUSED k)).mark flag).set F.ENG_STATUS_REF_SLOT k).get F.ENG_STATUS_REF_SLOT = k := by
    rw [Gov.get_set_self _ _ (by decide)]; exact Nat.mod_eq_of_lt hk
  have only : g.onlyFields (((g.mark (F.LS_STAT_REFUSED k)).mark flag).set F.ENG_STATUS_REF_SLOT k) (flag :: [F.LS_STAT_REFUSED k, F.ENG_STATUS_REF_SLOT]) :=
    Gov.onlyFields_set _ (Gov.onlyFields_set _ (Gov.onlyFields_set _ (Gov.onlyFields_refl _ _) (by simp)) (by simp)) (by simp)
  refine ⟨⟨rfl, ?_, fun f hf => ?_⟩, ?_⟩
  · rw [Gov.respond_flag]; exact marked
  · rw [Gov.respond_get]; exact only f hf
  · rw [Gov.respond_get]; exact slot

/-- A slot's word that enables it or changes its feedback. -/
def shapeWord (fb : Bool) (k : Nat) : Nat := if fb then W.LS_FB k else W.LS_CTRL k

theorem shapeWord_eq (fb : Bool) (k : Nat) : shapeWord fb k = (if fb then 0x10004 else 0x10000) + 0x40 * k := by cases fb <;> rfl

/-- A write of LS_CTRL with EN, or of the feedback of an enabled slot, leaves the slot enabled as written. -/
theorem Gov.flag_en_plain (g : Gov) {fb : Bool} {k : Nat} (hk : k < 1024) {w : Word} (h : (if fb then g.flag (F.LS_CTRL_EN k) else bit w.toNat 0) = true) : (g.plain (shapeWord fb k) w).flag (F.LS_CTRL_EN k) = true := by
  cases fb with
  | true =>
    have other : (F.LS_CTRL_EN k).off ≠ W.LS_FB k := by simp only [F.LS_CTRL_EN, W.LS_FB]; omega
    exact (congrArg (fun n => n != 0) (Gov.get_congr (f := F.LS_CTRL_EN k) (g.word_plain_ne w other))).trans h
  | false =>
    have field : (⟨"EN", 0, 1, .rw, 0x0, false⟩ : FieldDef) ∈ fieldsAt (0x10000 + 0x40 * k) := by
      rw [fieldsAt_slot (by decide) hk]; decide
    have written := g.get_plain w field
    have set : (fieldWrite (g.locked (0x10000 + 0x40 * k)) (g.word (0x10000 + 0x40 * k)) w ⟨"EN", 0, 1, .rw, 0x0, false⟩ != 0) = true := by
      simpa [fieldWrite, Sys2Proof.Machine.field, bit] using h
    exact (congrArg (fun n => n != 0) written).trans set

theorem Gov.writeReg_shape (g : Gov) {fb : Bool} {k : Nat} (hk : k < 1024) (w : Word) : g.writeReg (shapeWord fb k) w = g.writeSlot k (shapeWord fb k) w ∧ g.slotVerdict k (shapeWord fb k) w = g.writeSlotShape k (shapeWord fb k) w := by
  constructor
  · rw [shapeWord_eq]
    cases fb with
    | true => exact g.writeReg_slot w (by decide) hk (by decide)
    | false => exact g.writeReg_slot w (by decide) hk (by decide)
  · have own : shapeWord fb k = W.LS_CTRL k ∨ shapeWord fb k = W.LS_FB k := by cases fb <;> simp [shapeWord]
    exact if_pos own

/-- A command that writes a word the port takes answers OK with the state that its group's rule leaves, where that keeps OFF_WAKE. -/
theorem portCommand_ends {off : Nat} {wr : PortWrite} {t : Fin 250} {s : State} {v : Verdict} (h : s.gov.writesNow t off wr) (e : (s.gov.reach t).writeReg off wr.data = v)
    (hk : (v.gov.respond 0 0).get F.PS_WAKE_STAT_OFF_WAKE = (s.gov.reach t).get F.PS_WAKE_STAT_OFF_WAKE) : portCommand off wr t s = .next { s with gov := v.gov.respond 0 0 } := by
  subst e
  obtain ⟨up, taken, awake⟩ := h
  exact portCommand_next up taken awake (congrArg (fun n => n != 0) hk)

/-- A stored write of another word keeps OFF_WAKE. -/
theorem Gov.storesLater_offWake {g g' : Gov} {off : Nat} {w : Word} (h : g.storesLater g' off w) (ho : off ≠ W.PS_WAKE_STAT) : g'.get F.PS_WAKE_STAT_OFF_WAKE = g.get F.PS_WAKE_STAT_OFF_WAKE := by
  obtain ⟨⟨_, _, words⟩, _⟩ := h
  exact Gov.get_congr (words W.PS_WAKE_STAT (by simpa using ho.symm))

/-- A stored write leaves the words that a plain write leaves. -/
theorem Gov.stores_get {g g' : Gov} {off : Nat} {w : Word} (h : g.stores g' off w) (f : Fld) : g'.get f = (g.plain off w).get f := by
  obtain ⟨_, written, words⟩ := h
  refine Gov.get_congr ?_
  by_cases e : f.off = off
  · rw [e, written, Gov.word_plain_self]
  · rw [words _ (by simpa using e), g.word_plain_ne w e]

theorem Gov.onlyFields_respond {g h : Gov} {fs : List Fld} (a : g.onlyFields h fs) (c : Nat) (d : Word) : g.onlyFields (h.respond c d) fs := fun f hf => (h.respond_get c d f).trans (a f hf)

/-- The enable of a slot as the statement reads it, at the command's instant, is the one its command reads before. -/
theorem loopSlotEnable_port {fb : Bool} {k : Fin 1024} {wr : PortWrite} {t : Fin 250} {s : State} (h : (if fb then (s.gov.reach t).flag (F.LS_CTRL_EN k) else bit wr.data.toNat 0) = true) :
    exec (.loopSlotEnable k fb wr t) s = portCommand (shapeWord fb k) wr t s := by
  have en : (s.gov.reach t).flag (F.LS_CTRL_EN k) = s.gov.flag (F.LS_CTRL_EN k) :=
    congrArg (fun n => n != 0) ((s.gov.reach_sameSetup t).get _ (by have := k.isLt; simp only [F.LS_CTRL_EN]; omega))
  rw [en] at h
  exact if_pos h

/-- S1 and the halves of S0 are stored with the words in force kept (R86). -/
theorem Gov.stateWord_verdict (g : Gov) (k : Nat) (half : Fin 3) (w : Word) :
    ∃ h, g.slotVerdict k (W.LS_S1 k + 4 * half) w = accept h ∧ ∀ x, g.storesLater ((h.withEng x).respond 0 0) (W.LS_S1 k + 4 * half) w := by
  have s0 : ∀ off, off = W.LS_S0_LO k ∨ off = W.LS_S0_HI k → ∃ h, g.slotVerdict k off w = accept h ∧ ∀ x, g.storesLater ((h.withEng x).respond 0 0) off w := fun off ho =>
    ⟨_, g.slotVerdict_s0 ho w, Gov.plain_storesLater (by simp) (by simp) (by rcases ho with rfl | rfl <;> simp [Gov.isHeld_hold]) w⟩
  match half with
  | 0 => exact ⟨_, g.slotVerdict_s1 k w, g.shadow_storesLater (W.LS_S1 k) w⟩
  | 1 => exact s0 _ (.inl (by simp only [W.LS_S1, W.LS_S0_LO]; omega))
  | 2 => exact s0 _ (.inr (by simp only [W.LS_S1, W.LS_S0_HI]; omega))

theorem Gov.writeReg_stateWord (g : Gov) {k : Nat} (hk : k < 1024) (half : Fin 3) (w : Word) : g.writeReg (W.LS_S1 k + 4 * half) w = g.writeSlot k (W.LS_S1 k + 4 * half) w := by
  have place : W.LS_S1 k + 4 * half = (0x1002C + 4 * half.val) + 0x40 * k := by simp only [W.LS_S1]; omega
  have mapped : ∀ half : Fin 3, writable (0x1002C + 4 * half.val) = true := by decide
  rw [place]
  exact g.writeReg_slot w (by omega) hk (mapped half)

/-! ### Writes of the sample period (R79) -/

theorem Gov.writeReg_period (g : Gov) (w : Word) : g.writeReg W.ENG_CFG w = g.writePeriod w := by
  rw [Gov.writeReg, if_neg (by decide)]
  simp [W.ENG_CFG, Gov.writeEngine]

/-- The state after a period code within range and capacity is programmed (R79). -/
def Gov.withPeriod (g : Gov) (code : Nat) : Gov := (g.set F.ENG_CFG_PERIOD code).set F.ENG_CFG_PER_PEND (b2n (code ≠ g.get F.ENG_CFG_PER_ACT))

theorem Gov.writePeriod_fits {g : Gov} {w : Word} (h6 : field w 0 4 ≤ 6) (hc : g.capacityOk [field w 0 4] = true) : g.writePeriod w = accept (g.withPeriod (field w 0 4)) := by
  unfold Gov.writePeriod
  dsimp only
  rw [if_neg (by simp [hc]; omega)]
  rfl

theorem Gov.writePeriod_bad {g : Gov} {w : Word} (bad : 6 < field w 0 4 ∨ g.capacityOk [field w 0 4] = false) : g.writePeriod w = refuse (g.mark F.ENG_STATUS_CAP_REF) := by
  unfold Gov.writePeriod
  dsimp only
  rw [if_pos (by simpa using bad)]

theorem Gov.withPeriod_only (g : Gov) (code : Nat) : g.onlyFields (g.withPeriod code) [F.ENG_CFG_PERIOD, F.ENG_CFG_PER_PEND] :=
  Gov.onlyFields_set _ (Gov.onlyFields_set _ (Gov.onlyFields_refl _ _) (by simp)) (by simp)

theorem Gov.withPeriod_period (g : Gov) {code : Nat} (h : code ≤ 6) : (g.withPeriod code).get F.ENG_CFG_PERIOD = code := by
  unfold Gov.withPeriod
  rw [Gov.get_set_apart _ _ (by decide), Gov.get_set_self _ _ (by decide)]
  exact Nat.mod_eq_of_lt (by have : 2 ^ F.ENG_CFG_PERIOD.w = 16 := rfl; omega)

/-- The programmed period is pending while it differs from the one in force. -/
theorem Gov.withPeriod_pending (g : Gov) (code : Nat) : (g.withPeriod code).flag F.ENG_CFG_PER_PEND = true ↔ code ≠ g.get F.ENG_CFG_PER_ACT := by
  unfold Gov.withPeriod
  rw [Gov.flag_set_self _ _ (by decide)]
  by_cases h : code = g.get F.ENG_CFG_PER_ACT
  · simp [h, b2n]
  · simp [h, b2n, F.ENG_CFG_PER_PEND]

end Sys2Proof.Machine

open Sys2Proof Sys2Proof.Machine

/-- Settles O37: a slot's word goes through `Gov.writeSlotShape`, whose branches are the clauses; state words and an accepted shape are stored with the word in force kept; the period is one store or one refusal. -/
theorem engineWrites : Obligations.EngineWrites := by
  intro k wr t s g0
  refine ⟨?_, fun half hw => ?_, fun hw h6 hc => ?_, fun hw bad => ?_⟩
  · intro fb off new hw en
    have command := loopSlotEnable_port en
    have now := g0.flag_en_plain k.isLt en
    obtain ⟨group, shape⟩ := g0.writeReg_shape (fb := fb) k.isLt wr.data
    have refused : ∀ flag : Fld, flag = F.ENG_STATUS_CAP_REF ∨ flag = F.ENG_STATUS_LAW_REF → g0.writeSlotShape k (shapeWord fb k) wr.data = g0.refuseSlot k flag →
        Completes (.loopSlotEnable k fb wr t) s fun g => g0.refuses g flag [F.LS_STAT_REFUSED k, F.ENG_STATUS_REF_SLOT] ∧ g.get F.ENG_STATUS_REF_SLOT = k := fun flag hf e => by
      obtain ⟨⟨resp, set, only⟩, slot⟩ := g0.refuseSlot_refuses k.isLt hf
      have wake := only F.PS_WAKE_STAT_OFF_WAKE (by rcases hf with rfl | rfl <;> simp [Fld.apart, F.PS_WAKE_STAT_OFF_WAKE, F.ENG_STATUS_CAP_REF, F.ENG_STATUS_LAW_REF, F.LS_STAT_REFUSED, F.ENG_STATUS_REF_SLOT])
      exact ⟨_, command.trans (portCommand_ends hw (group.trans (Gov.writeSlot_refuse (shape.trans e))) wake), ⟨resp, set, only⟩, slot⟩
    refine ⟨fun ha => ?_, fun ha hc hl hp hs hcap => ?_, fun ha was hc => ?_⟩
    · exact refused _ (.inr rfl) (Gov.writeSlotShape_anchored now ha)
    · obtain ⟨x, e⟩ := Gov.writeSlot_accept (shape.trans (Gov.writeSlotShape_fits now ha hc hl hp hs hcap))
      have stored := g0.shadow_storesLater (shapeWord fb k) wr.data x
      have wake := Gov.storesLater_offWake stored (by rw [shapeWord_eq]; simp only [W.PS_WAKE_STAT]; split <;> omega)
      exact ⟨_, command.trans (portCommand_ends hw (group.trans e) wake), stored, (congrArg (fun n => n != 0) (Gov.stores_get stored.1 _)).trans now⟩
    · exact refused _ (.inl rfl) (Gov.writeSlotShape_capacity now ha was hc)
  · obtain ⟨h, verdict, stored⟩ := g0.stateWord_verdict k half wr.data
    obtain ⟨x, e⟩ := Gov.writeSlot_accept verdict
    have wake := Gov.storesLater_offWake (stored x) (by simp only [W.PS_WAKE_STAT, W.LS_S1]; omega)
    exact ⟨_, portCommand_ends hw ((g0.writeReg_stateWord k.isLt half wr.data).trans e) wake, stored x⟩
  · have only := Gov.onlyFields_respond (g0.withPeriod_only (field wr.data 0 4)) 0 0
    have port := portCommand_ends hw ((g0.writeReg_period _).trans (Gov.writePeriod_fits h6 hc)) (only F.PS_WAKE_STAT_OFF_WAKE (by decide))
    refine ⟨_, port, rfl, ?_, ?_, only⟩
    · exact (Gov.respond_get _ _ _ _).trans (g0.withPeriod_period h6)
    · rw [Gov.respond_flag]; exact g0.withPeriod_pending _
  · have only := Gov.onlyFields_respond (Gov.onlyFields_set 1 (g0.onlyFields_refl [F.ENG_STATUS_CAP_REF]) List.mem_cons_self) 0 0
    have port := portCommand_ends hw ((g0.writeReg_period _).trans (Gov.writePeriod_bad bad)) (only F.PS_WAKE_STAT_OFF_WAKE (by decide))
    refine ⟨_, port, rfl, ?_, only⟩
    rw [Gov.respond_flag]; exact g0.flag_set_self 1 (by decide)
end

section

-- One proof at a time: side by side they take more threads than the memory limit of the check holds.
set_option Elab.async false

namespace Sys2Proof.Machine

/-! ### What the handshake's ends leave alone: the berths, the faults and the ledger (R292 to R296, R301) -/

/-- The lock of the PLL, the words still in force, the fault and ledger records, and every field from the berths' words on, are the same in both states. -/
structure Gov.SameField (g h : Gov) : Prop where
  pll  : h.pll = g.pll
  held : h.held = g.held
  flt  : h.flt = g.flt
  led  : h.led = g.led
  get  : ∀ f : Fld, 0x20000 ≤ f.off → h.get f = g.get f

variable {g h k : Gov}

theorem Gov.SameField.refl (g : Gov) : g.SameField g := ⟨rfl, rfl, rfl, rfl, fun _ _ => rfl⟩

theorem Gov.SameField.trans (a : g.SameField h) (b : h.SameField k) : g.SameField k :=
  ⟨b.pll.trans a.pll, b.held.trans a.held, b.flt.trans a.flt, b.led.trans a.led, fun f hf => (b.get f hf).trans (a.get f hf)⟩

theorem Gov.SameField.set (a : g.SameField h) (f : Fld) (v : Nat) (low : f.off < 0x20000) : g.SameField (h.set f v) :=
  a.trans ⟨rfl, rfl, rfl, rfl, fun k hf => Gov.get_congr (h.word_set_ne (f := f) (o := k.off) v (by omega))⟩

theorem Gov.SameField.withPwr (a : g.SameField h) (x : PowerSt) : g.SameField (h.withPwr x) := a.trans ⟨rfl, rfl, rfl, rfl, fun _ _ => rfl⟩
theorem Gov.SameField.psStep (a : g.SameField h) (n : Nat) : g.SameField (h.psStep n) := a.withPwr _
theorem Gov.SameField.setAns (a : g.SameField h) (b : Nat) (f : BerthAns → BerthAns) : g.SameField (h.setAns b f) := a.withPwr _

theorem Gov.SameField.ite {c : Prop} [Decidable c] (a : g.SameField h) (b : g.SameField k) : g.SameField (if c then h else k) := by split <;> assumption

theorem Gov.SameField.each {α : Type} {f : Gov → α → Gov} (a : g.SameField h) (xs : List α) (step : ∀ h x, g.SameField h → g.SameField (f h x)) : g.SameField (h.each xs f) :=
  Gov.each_keeps (P := g.SameField) step xs h a

/-- A change of the command chapter that leaves the fields from the berths' words on alone. -/
theorem Gov.SameField.command (a : g.SameField h) (e : k.besideCmd = h.besideCmd) (get : ∀ f : Fld, 0x20000 ≤ f.off → k.get f = h.get f) : g.SameField k :=
  a.trans ⟨besideCmd_pll e, besideCmd_held e, besideCmd_flt e, besideCmd_led e, get⟩

theorem Gov.SameField.fire (a : g.SameField h) (e : SigEvent) : g.SameField (h.fire e) := a.command (h.fire_besideCmd e) fun _ hf => h.fire_get_outside e (.inr (by omega))
theorem Gov.SameField.takeUp (a : g.SameField h) : g.SameField h.takeUp := a.command h.takeUp_besideCmd fun _ _ => h.takeUp_get _

theorem Gov.SameField.post (a : g.SameField h) (n : Fin 16) (ws : List Nat) (status : Nat) {params : List Nat} (hp : params.length ≤ 61) : g.SameField (h.post n ws status params) :=
  a.command (Gov.post_besideCmd _ _ _ _ _) fun _ hf => Gov.post_get _ _ _ _ _ n.isLt hp (.inr (by omega))

theorem Gov.SameField.commit (a : g.SameField h) (n : Fin 16) (ws : List Nat) (status : Nat) (at_ : Option SigEvent) : g.SameField (h.commit n ws status at_) :=
  a.command (Gov.commit_besideCmd _ _ _ _ _) fun _ hf => Gov.commit_get _ _ _ _ _ (by simp only [W.SUP_JOURNAL]; omega) (.inr (by omega))

theorem Gov.SameField.answerPs (a : g.SameField h) (status : Nat) {params : List Nat} (hp : params.length ≤ 61) : g.SameField (h.answerPs status params) := by
  unfold Gov.answerPs
  split
  · exact a
  · next n _ =>
    have freed := a.withPwr { h.pwr with cmdChan := none }
    dsimp only
    split
    · split
      · exact freed.post n _ _ (by simp)
      · exact (freed.commit n _ _ _).post n _ _ hp
    · exact freed

theorem Gov.SameField.drive (a : g.SameField h) (code : Nat) : g.SameField (h.drive code) := (a.withPwr _).each _ fun _ b c => c.setAns b _

theorem Gov.SameField.runCodes (a : g.SameField h) : g.SameField h.runCodes := ((a.each _ fun _ _ b => b.withPwr _).withPwr _).psStep 11

theorem Gov.SameField.beginExit (a : g.SameField h) (causes : Nat) (replayed : Bool) : g.SameField (h.beginExit causes replayed) := by
  unfold Gov.beginExit
  extract_lets phased noted _ started
  have hphased : g.SameField phased := (((a.set _ _ (by decide)).set _ _ (by decide)).set _ _ (by decide)).set _ _ (by decide)
  have hstarted : g.SameField started := ((hphased.set _ _ (by decide)).set _ _ (by decide)).withPwr _
  exact .ite ((hstarted.withPwr _).psStep 10) hstarted.runCodes

theorem Gov.SameField.endRevert (a : g.SameField h) : g.SameField h.endRevert := by
  have idle := (((a.psStep 0).set F.PS_STAT_TO 0 (by decide)).set F.PS_STAT_BUSY 0 (by decide)).set F.PS_STAT_PHASE 0 (by decide)
  exact .ite (idle.beginExit _ _) (idle.set _ _ (by decide))

/-- An abort without refusals writes no record: it keeps to the sequencer, its words and the command it answers. -/
theorem Gov.SameField.abortBare (a : g.SameField h) : g.SameField (h.abortEntry []) := by
  unfold Gov.abortEntry
  extract_lets res counted latched _ answered reverted
  have hheld : g.SameField h.countHold := .ite (a.set _ _ (by decide)) a
  have hcounted : g.SameField counted := (((hheld.set _ _ (by decide)).set _ _ (by decide)).set _ _ (by decide)).set _ _ (by decide)
  have hlatched : g.SameField latched := .ite hcounted (hcounted.set _ _ (by decide))
  have hanswered : g.SameField answered := (hlatched.withPwr _).answerPs _ (by rw [List.length_take]; omega)
  have hreverted : g.SameField reverted := (hanswered.drive _).psStep 9
  exact .ite hreverted.endRevert hreverted

theorem Gov.SameField.psStopCheck (a : g.SameField h) : g.SameField h.psStopCheck := .ite a.abortBare a

theorem Gov.SameField.endExit (a : g.SameField h) : g.SameField h.endExit := by
  have ended := ((((a.psStep 0).set F.PS_STAT_STATE 0 (by decide)).set F.PS_STAT_BUSY 0 (by decide)).set F.PS_STAT_PHASE 0 (by decide)).set F.GOV_IRQ_SRC_PS 1 (by decide)
  exact (((ended.set F.PS_CNT_WAKE_COUNT _ (by decide)).withPwr _).fire _).takeUp

theorem Gov.SameField.flag (a : g.SameField h) (f : Fld) (hf : 0x20000 ≤ f.off) : h.flag f = g.flag f := congrArg (fun n => n != 0) (a.get f hf)

/-- A word in force is one kept from before a write, or the stored one. -/
theorem Gov.act_congr {f : Fld} (held : h.held = g.held) (e : h.get f = g.get f) : h.act f = g.act f := by
  unfold Gov.act Gov.actWord
  rw [held]
  rcases Tab.get_cases g.held f.off with ⟨v, kept⟩ | stored
  · rw [kept, kept]
  · rw [stored, stored]
    exact e

theorem Gov.SameField.present (a : g.SameField h) (b : Nat) : h.present b = g.present b := by
  have word : ∀ f : Fld, f.off = 0x20000 + 0x40 * b → 0x20000 ≤ f.off := by omega
  unfold Gov.present Gov.actFlag
  rw [Gov.act_congr a.held (a.get _ (word _ rfl)), a.flag _ (word _ rfl)]

theorem Gov.SameField.quar (a : g.SameField h) (b : Nat) : h.quar b = g.quar b := a.flag _ (by simp only [F.FLT_QUAR_bit]; omega)

/-! ### The PLL's return -/

theorem Gov.SameSetup.returnRails (a : g.SameSetup h) : g.SameSetup h.returnRails := by
  unfold Gov.returnRails
  refine (a.each _ fun h r _ b => ?_).withPwr _
  have returned := b.setRail r fun x => { x with hold := false }
  have started := Gov.SameSetup.ite (c := ((h.setRail r fun x => { x with hold := false }).rail r).psStop = true) (returned.startRail r) returned
  exact .ite (started.setTarget r _) started

theorem Gov.SameSetup.answerLeft (a : g.SameSetup h) (n : Nat) : g.SameSetup (h.answerLeft n) := by
  refine a.each _ fun h m hm b => ?_
  have hm : m < 16 := List.mem_range.1 (List.mem_of_mem_filter hm)
  split
  · exact .ite (b.post hm _ _ (by simp)) (b.post hm _ _ (by simp))
  · exact b

theorem Gov.SameSetup.resumeWork (a : g.SameSetup h) : g.SameSetup h.resumeWork := (a.withFlt _).each _ fun _ n _ b => b.answerLeft n

theorem Gov.SameSetup.forwardWake (a : g.SameSetup h) : g.SameSetup h.forwardWake := .ite (a.withHws _) a

/-- The lock of the PLL during an exit leads to step 11 with the bias yet to settle. -/
theorem Gov.relock_step (g : Gov) : let h := (g.withPll true).returnRails.resumeWork.forwardWake.runCodes
    h.pll = true ∧ h.pwr.step = 11 ∧ h.pwr.settled = false :=
  ⟨(Gov.SameSetup.refl (g.withPll true)).returnRails.resumeWork.forwardWake.runCodes.pll, rfl, rfl⟩

/-! ### The loss of the PLL -/

/-- Outside SLEEP and DEEP the raised source is set and resolution leaves nothing pending; both, and the ended samples, stay through an abort of the handshake. -/
theorem Gov.pllLoss (g : Gov) (awake : g.asleep = false) : let h := ((g.stopEngine.raise 297 0).resolve).psStopCheck
    h.pll = false ∧ h.led.tickAt = none ∧ h.flag (F.FLT_STATUS_bit 297) = true ∧ h.flt.pending = [] := by
  have beside := g.stopEngine.raise_besideFlt 297 0 false awake
  have raised := g.stopEngine.raise_flag 297 0 false awake (.inl (by decide))
  have through := (Gov.SameField.refl (g.stopEngine.raise 297 0).resolve).psStopCheck
  have collector : ¬ resolveWord (F.FLT_STATUS_bit 297).off := by
    rintro (h | h | h | h | h | h | h | h | ⟨b, h⟩ | ⟨b, _, h⟩ | ⟨r, _, h⟩)
    all_goals simp [F.FLT_STATUS_bit, W.FLT_LOG_HEAD, W.FLT_LOG_OVF, W.FLT_REC_SEQ, W.FLT_REC_DROP, W.FLT_REC, W.FCU_LIVE, W.FCU_CNT_PURGE, W.FLT_CTRL, F.BT_FCU_RCNT, F.FLT_QUAR_bit, F.RAIL_CTRL_EN] at h
    all_goals omega
  refine ⟨?_, ?_, ?_, ?_⟩
  · exact through.pll.trans ((resolveFree_pll.resolve _).trans (besideFlt_pll beside))
  · exact congrArg LedSt.tickAt (through.led.trans ((resolveFree_led.resolve _).trans (besideFlt_led beside)))
  · rw [through.flag _ (by decide), ← raised]
    exact congrArg (fun n => n != 0) ((resolveFree_get collector).resolve _)
  · exact (congrArg FaultSt.pending through.flt).trans (Gov.resolve_pending _)

/-! ### Regions restored from OFF (R301 step 5) -/

/-- The regions' records are the same in both states. -/
def Gov.SameRegions (g h : Gov) : Prop := h.clk.regions = g.clk.regions

/-- The regions' records are free of the log, the collector and the fault reactions. -/
theorem resolveFree_regions : ResolveFree (fun g => g.clk.regions) :=
  ⟨fun _ _ _ _ => by simp, fun _ _ => by simp, fun _ _ => by simp, fun _ _ => by simp⟩

theorem Gov.SameRegions.refl (g : Gov) : g.SameRegions g := rfl

theorem Gov.SameRegions.rgn (a : g.SameRegions h) (x : Nat) : h.rgn x = g.rgn x := congrArg (fun m => Tab.get (fun _ => ({} : RegionSt)) m x) a

theorem Gov.SameRegions.set (a : g.SameRegions h) (f : Fld) (v : Nat) : g.SameRegions (h.set f v) := (congrArg ClkSt.regions (h.set_clk f v)).trans a
theorem Gov.SameRegions.setSyn (a : g.SameRegions h) (s : Nat) (f : SynSt → SynSt) : g.SameRegions (h.setSyn s f) := (congrArg ClkSt.regions (h.withClk_clk _)).trans a
theorem Gov.SameRegions.log (a : g.SameRegions h) (time type : Nat) (ps : List Nat) : g.SameRegions (h.log time type ps) := (resolveFree_regions.log _ _ _ _).trans a

theorem Gov.SameRegions.ite {c : Prop} [Decidable c] (a : g.SameRegions h) (b : g.SameRegions k) : g.SameRegions (if c then h else k) := by split <;> assumption

theorem Gov.SameRegions.raise (a : g.SameRegions h) (src detail : Nat) (silent : Bool := false) : g.SameRegions (h.raise src detail silent) := by
  have counted : g.SameRegions (h.countRaise src) := by
    unfold Gov.countRaise
    split
    · exact a.set _ _
    · exact a
  have enlisted : g.SameRegions ((h.countRaise src).enlist src detail silent) := counted.set (F.FLT_STATUS_bit src) 1
  exact .ite a (.ite counted (.ite ((resolveFree_regions.resolve _).trans enlisted) enlisted))

theorem Gov.SameRegions.bollard (a : g.SameRegions h) (kind idx : Nat) : g.SameRegions (h.bollard kind idx) := ((a.set F.HLIM_ACT_CNT_COUNT _).log _ _ _).raise _ _

theorem Gov.SameRegions.reglide (a : g.SameRegions h) (s : Nat) : g.SameRegions (h.reglide s) := ((Gov.SameRegions.ite a (a.setSyn _ _)).set _ _).set _ _

theorem Gov.SameRegions.retarget (a : g.SameRegions h) (s : Nat) : g.SameRegions (h.retarget s) := by
  unfold Gov.retarget
  refine .ite a ?_
  split
  · exact (a.set _ _).reglide _
  · have floored := fun v => a.set (F.FSYN_STAT_FLOOR s) v
    have clamped := fun v => (floored v).set (F.FSYN_STAT_CLAMP s) 1
    exact Gov.SameRegions.reglide (.set (.ite (.ite (clamped _) (((clamped _).setSyn _ _).bollard _ _)) ((floored _).setSyn _ _)) _ _) _

theorem Gov.SameRegions.closeEpisode (a : g.SameRegions h) (rg : Nat) : g.SameRegions (h.closeEpisode rg) := by
  have timed : ∀ v : Nat, g.SameRegions ((h.inc (F.DRP_RGN_EPI_COUNT rg)).set64 (W.DRP_RGN_STIME_LO rg) v) := fun v => by
    unfold Gov.SameRegions Gov.set64
    rw [Gov.setWord_clk, Gov.setWord_clk, Gov.inc_clk]
    exact a
  exact .ite a ((((timed _).log _ _ _).set _ _).set _ _)

/-- Connecting a region to its source writes that region's record alone. -/
theorem Gov.connect_regions (g : Gov) (rg : Nat) : (g.setRgn rg fun x => { x with out := g.source rg, goneAt := none }).SameRegions (g.connect rg) := by
  let start := g.setRgn rg fun x => { x with out := g.source rg, goneAt := none }
  let moved := (g.set (F.DRP_RGN_MUX_BUSY rg) 0).setRgn rg fun x => { x with out := g.source rg, goneAt := none }
  have hmoved : start.SameRegions moved := rfl
  have hleft : ∀ old : Source, start.SameRegions (match old with | .syn s => moved.retarget s | _ => moved) := fun old => by
    split
    · exact hmoved.retarget _
    · exact hmoved
  unfold Gov.connect
  dsimp only
  split
  · exact (Gov.SameRegions.ite ((hleft _).setSyn _ _) (hleft _)).retarget _
  · exact hleft _

theorem Gov.rgn_setRgn (g : Gov) {x rg : Nat} (f : RegionSt → RegionSt) (ne : x ≠ rg) : (g.setRgn rg f).rgn x = g.rgn x := by
  unfold Gov.rgn Gov.setRgn
  rw [Gov.withClk_clk, Tab.get_upd, if_neg ne]

/-- Forcing a region's source leaves every other region's record alone. -/
theorem Gov.rgn_forceSource (g : Gov) {x rg : Nat} (sel alt : Nat) (ne : x ≠ rg) : (g.forceSource rg sel alt).rgn x = g.rgn x := by
  have selected : g.SameRegions (g.selectSource rg sel alt) := ((Gov.SameRegions.refl g).set _ _).set _ _
  exact ((Gov.connect_regions _ rg).rgn x).trans ((Gov.rgn_setRgn _ _ ne).trans ((Gov.SameRegions.ite (selected.closeEpisode rg) selected).rgn x))

/-- One region's return to its saved source. -/
def Gov.restoreRegion (g : Gov) (rg : Nat) : Gov :=
  let x := Tab.get (fun _ => 0) g.pwr.saved rg
  if (g.rgn rg).out == .off then g.forceSource rg (x % 4) (x / 4)
  else if g.source rg == sourceOf rg (x % 4) (x / 4) then g.selectSource rg (x % 4) (x / 4)
  else (g.withPwr { g.pwr with movedRef := g.pwr.movedRef ||| 2 ^ rg }).beginSwitch rg (x % 4) (x / 4)

theorem Gov.restoreRegions_eq (g : Gov) : g.restoreRegions = ((g.each (bitList 16 (g.pwr.stopped ||| g.pwr.movedRef)) Gov.restoreRegion).psStep 14).psRestored := rfl

theorem Gov.restoreRegion_off {rg : Nat} (off : (g.rgn rg).out = .off) : ∃ sel alt, g.restoreRegion rg = g.forceSource rg sel alt :=
  ⟨_, _, if_pos (by rw [off]; decide)⟩

/-- Regions that are off return at once, so that the sequencer has no switch to wait for. -/
theorem Gov.restore_off (g : Gov) (xs : List Nat) (nd : xs.Nodup) (off : ∀ rg ∈ xs, (g.rgn rg).out = .off) : g.samePower (g.each xs Gov.restoreRegion) := by
  induction xs generalizing g with
  | nil => exact .refl g
  | cons rg xs ih =>
    obtain ⟨fresh, nd⟩ := List.nodup_cons.1 nd
    obtain ⟨sel, alt, e⟩ := Gov.restoreRegion_off (off rg List.mem_cons_self)
    rw [Gov.each_cons, e]
    refine ((Gov.samePower.refl g).forceSource rg sel alt).trans (ih _ nd fun x hx => ?_)
    rw [Gov.rgn_forceSource _ _ _ (ne_of_mem_of_not_mem hx fresh)]
    exact off x (List.mem_cons_of_mem _ hx)

/-! ### RUN after the regions' return (R301 steps 6 and 7) -/

theorem Gov.mem_berths (g : Gov) (b : Nat) : b ∈ g.berths ↔ b < 256 ∧ g.present b = true := by simp [Gov.berths]

theorem Gov.ans_setAns (g : Gov) (b c : Nat) (f : BerthAns → BerthAns) : (g.setAns b f).ans c = if c = b then f (g.ans b) else g.ans c := Tab.get_upd _ _ _ _ _

/-- A drive's part for one berth; with `back`, a quarantined one gets the code too. -/
def Gov.askBerth (code : Nat) (back : Bool) (g : Gov) (b : Nat) : Gov :=
  g.setAns b fun x => { x with req := if g.quar b && !back then x.req else code, sawLow := !x.ack && !x.nak, held := x.hold, skip := g.quar b, answer := none }

theorem Gov.drive_eq (g : Gov) (code : Nat) :
    g.drive code = (g.withPwr { g.pwr with psReq := code, reqAt := g.now }).each g.berths (Gov.askBerth code (code == g.state || code == stRun)) := rfl

/-- A berth to which a code is driven is skipped where it is quarantined, and has not answered. -/
theorem Gov.drive_ans (g : Gov) (code : Nat) {b : Nat} (hb : b ∈ g.berths) : ((g.drive code).ans b).skip = g.quar b ∧ ((g.drive code).ans b).answer = none := by
  have nd : g.berths.Nodup := List.nodup_range.filter _
  obtain ⟨k, quar, e⟩ := Gov.each_at (f := Gov.askBerth code (code == g.state || code == stRun)) nd hb (g.withPwr { g.pwr with psReq := code, reqAt := g.now }) (fun h => h.ans b) (fun h => h.quar b)
    (fun _ _ _ ne => (Gov.ans_setAns _ _ _ _).trans (if_neg ne.symm)) (fun _ _ _ _ => rfl)
  rw [g.drive_eq, e, Gov.askBerth, Gov.ans_setAns, if_pos rfl]
  exact ⟨quar, rfl⟩

/-- A drive puts the code on PS_REQ and keeps the sequencer's regions. -/
theorem Gov.drive_pwr (g : Gov) (code : Nat) : (g.drive code).pwr.psReq = code ∧ (g.drive code).pwr.stopped = g.pwr.stopped ∧ (g.drive code).pwr.movedRef = g.pwr.movedRef := by
  rw [g.drive_eq]
  refine Gov.each_keeps (P := fun h => h.pwr.psReq = code ∧ h.pwr.stopped = g.pwr.stopped ∧ h.pwr.movedRef = g.pwr.movedRef) ?_ _ _ ⟨rfl, rfl, rfl⟩
  exact fun _ _ a => a

/-- After a drive to every berth, all have accepted only where every present one is quarantined. -/
theorem Gov.allAccepted_drive (g : Gov) (code n : Nat) : ((g.drive code).psStep n).allAccepted = true ↔ ∀ b < 256, g.present b = true → g.quar b = true := by
  have same := ((Gov.SameField.refl g).drive code).psStep n
  have asks : ∀ b, ((g.drive code).psStep n).ans b = (g.drive code).ans b := fun _ => rfl
  have here : ∀ b, b ∈ ((g.drive code).psStep n).asked ↔ (b < 256 ∧ g.present b = true) ∧ g.quar b = false := fun b => by
    unfold Gov.asked
    rw [List.mem_filter, Gov.mem_berths, same.present, same.quar]
    refine and_congr_right fun hb => ?_
    rw [asks, (g.drive_ans code ((g.mem_berths b).2 hb)).1]
    simp
  unfold Gov.allAccepted
  rw [List.all_eq_true]
  constructor
  · intro all b hb present
    by_contra free
    have accepted := all b ((here b).2 ⟨⟨hb, present⟩, by simpa using free⟩)
    rw [asks, (g.drive_ans code ((g.mem_berths b).2 ⟨hb, present⟩)).2] at accepted
    exact absurd accepted (by decide)
  · intro quarantined b hb
    obtain ⟨⟨lt, present⟩, free⟩ := (here b).1 hb
    rw [quarantined b lt present] at free
    exact absurd free (by decide)

/-- The end of an exit returns the die to RUN. -/
theorem Gov.endExit_run (g : Gov) : g.endExit.state = stRun ∧ g.endExit.pwr = { (g.psStep 0).pwr with step := 0, idle := 0 } := by
  unfold Gov.endExit
  extract_lets marked _ ended
  have same : ended.samePower (ended.fire .psDone).takeUp := ((Gov.samePower.refl ended).fire .psDone).takeUp
  have state : ended.get F.PS_STAT_STATE = 0 := by
    unfold ended marked
    rw [Gov.withPwr_get, Gov.inc_eq, Gov.get_set_apart _ _ (by decide), Gov.mark_eq, Gov.get_set_apart _ _ (by decide), Gov.get_set_apart _ _ (by decide), Gov.get_set_apart _ _ (by decide), Gov.get_set_self _ _ (by decide),
      Nat.zero_mod]
  have kept : marked.pwr = (g.psStep 0).pwr := by simp only [marked, Gov.mark_pwr, Gov.set_pwr]
  exact ⟨same.state.trans state, same.1.trans (congrArg (fun x : PowerSt => { x with step := 0, idle := 0 }) kept)⟩

/-- The regions are restored: the berths are asked for RUN, or the die is in RUN where none is to be asked. -/
def Gov.Restored (g : Gov) : Prop :=
  g.pwr.stopped = 0 ∧ g.pwr.movedRef = 0 ∧ g.pwr.psReq = 0 ∧
    ((∃ b : Fin 256, g.present b = true ∧ g.quar b = false) → g.pwr.step = 13) ∧ ((∀ b : Fin 256, g.present b = true → g.quar b = true) → g.pwr.step = 0 ∧ g.state = stRun)

/-- With every switch of a moved region ended, the exit asks for RUN. -/
theorem Gov.psRestored_done (h14 : g.pwr.step = 14) (done : ∀ rg < 16, bit g.pwr.movedRef rg = true → g.flag (F.DRP_RGN_MUX_BUSY rg) = false) : g.psRestored.Restored := by
  let cleared := g.withPwr { g.pwr with stopped := 0, movedRef := 0, saved := [] }
  let asking := (cleared.drive stRun).psStep 13
  have all : (bitList 16 g.pwr.movedRef).all (fun rg => !g.flag (F.DRP_RGN_MUX_BUSY rg)) = true := by
    rw [List.all_eq_true]
    intro rg hrg
    obtain ⟨lt, set⟩ := List.mem_filter.1 hrg
    rw [done rg (List.mem_range.1 lt) set]
    rfl
  have e : g.psRestored = if asking.allAccepted then asking.endExit else asking := if_pos ⟨h14, all⟩
  obtain ⟨code, stopped, moved⟩ := cleared.drive_pwr stRun
  have berths : cleared.SameField asking := ((Gov.SameField.refl cleared).drive stRun).psStep 13
  have accepted := cleared.allAccepted_drive stRun 13
  rw [e]
  split
  · next none =>
    have quarantined := accepted.1 none
    obtain ⟨run, pwr⟩ := asking.endExit_run
    have same := berths.endExit
    unfold Gov.Restored
    rw [pwr]
    refine ⟨stopped, moved, code, fun ⟨b, present, free⟩ => ?_, fun _ => ⟨rfl, run⟩⟩
    rw [same.present] at present
    rw [same.quar, quarantined b b.isLt present] at free
    exact absurd free (by decide)
  · next some =>
    refine ⟨stopped, moved, code, fun _ => rfl, fun quarantined => absurd (accepted.2 fun b lt present => ?_) some⟩
    rw [← berths.quar]
    exact quarantined ⟨b, lt⟩ ((berths.present b).trans present)

/-- While a moved region still switches, the exit waits. -/
theorem Gov.psRestored_cases (h14 : g.pwr.step = 14) :
    g.psRestored.Restored ∨ (g.psRestored.pwr.step = 14 ∧ ∃ rg : Fin 16, bit g.psRestored.pwr.movedRef rg = true ∧ g.psRestored.flag (F.DRP_RGN_MUX_BUSY rg) = true) := by
  by_cases done : ∀ rg < 16, bit g.pwr.movedRef rg = true → g.flag (F.DRP_RGN_MUX_BUSY rg) = false
  · exact .inl (Gov.psRestored_done h14 done)
  · push Not at done
    obtain ⟨rg, lt, set, busy⟩ := done
    rw [Bool.ne_false_iff] at busy
    have waits : g.psRestored = g := if_neg fun ⟨_, all⟩ => by
      have clear := List.all_eq_true.1 all rg (List.mem_filter.2 ⟨List.mem_range.2 lt, set⟩)
      rw [busy] at clear
      exact absurd clear (by decide)
    rw [waits]
    exact .inr ⟨h14, ⟨rg, lt⟩, set, busy⟩

/-- Where no region was moved and every stopped one is off, none has a switch to end. -/
theorem Gov.restored_off (g : Gov) (moved : g.pwr.movedRef = 0) (off : ∀ rg : Fin 16, bit g.pwr.stopped rg = true → (g.rgn rg).out = .off) : g.restoreRegions.Restored := by
  have kept := (g.restore_off (bitList 16 (g.pwr.stopped ||| g.pwr.movedRef)) (List.nodup_range.filter _) fun rg hrg => by
    obtain ⟨lt, set⟩ := List.mem_filter.1 hrg
    rw [moved, Nat.or_zero] at set
    exact off ⟨rg, List.mem_range.1 lt⟩ set).1
  have none : ((g.each (bitList 16 (g.pwr.stopped ||| g.pwr.movedRef)) Gov.restoreRegion).psStep 14).pwr.movedRef = 0 := (congrArg PowerSt.movedRef kept).trans moved
  rw [Gov.restoreRegions_eq]
  refine Gov.psRestored_done rfl fun rg _ set => absurd set ?_
  rw [none]
  simp [bit]

theorem Gov.settlePower_word (g : Gov) (o : Nat) : g.settlePower.word o = g.word o := by
  unfold Gov.settlePower
  split <;> rfl

/-- A command of the governor alone answers the state it comes to. -/
theorem nextGov {s : State} {g h : Gov} (e : g = h) : (.next { s with gov := g } : Host.Outcome State Fault Refusal) = .next { s with gov := h } := by rw [e]

end Sys2Proof.Machine

open Sys2Proof Sys2Proof.Machine

/-- Settles O32: each step is the branch of its command that the hypotheses select; the regions' return is followed region by region, and the berths asked for RUN are the present ones not quarantined. -/
theorem exitSteps : Obligations.ExitSteps := by
  intro t s g0
  have unlocked : g0.pll = s.gov.pll := (s.gov.reach_sameSetup t).pll
  refine ⟨fun up pll h10 => ?_, fun up pll h10 awake => ?_, fun engine h12 ret => ?_, fun engine h12 ret due locked => ?_, fun engine awake => ?_⟩
  · have e : exec (.pllLock t) s = .next { s with gov := (g0.withPll true).returnRails.resumeWork.forwardWake.runCodes } := nextGov ((if_neg (by simp [up, pll])).trans (if_pos h10))
    exact ⟨_, e, g0.relock_step⟩
  · have e : exec (.pllLock t) s = .next { s with gov := g0.withPll true } := nextGov ((if_neg (by simp [up, pll])).trans ((if_neg h10).trans (if_neg (by simpa using awake))))
    have same : (g0.withPll true).withPll false = g0 := by rw [← unlocked.trans pll]; rfl
    exact ⟨_, e, rfl, fun _ _ => rfl, congrArg Gov.beside same⟩
  · have e : exec (.retRelease t) s = .next { s with gov := g0.settlePower.withPwr { g0.settlePower.pwr with ret := false } } := nextGov (if_pos (by simpa [engine] using And.intro h12 ret))
    exact ⟨_, e, rfl, fun off _ => g0.settlePower_word off⟩
  · have e : exec (.exitRegionsRestore t) s = .next { s with gov := g0.restoreRegions } := nextGov (if_pos (by simpa [engine] using ⟨⟨⟨h12, ret⟩, due⟩, locked⟩))
    exact ⟨fun moved off => ⟨_, e, g0.restored_off moved off⟩, _, e, Gov.psRestored_cases rfl⟩
  · have e : exec (.pllLockLoss t) s = .next { s with gov := ((g0.stopEngine.raise 297 0).resolve).psStopCheck } := nextGov (if_pos engine)
    exact ⟨_, e, g0.pllLoss awake⟩
end

section
namespace Sys2Proof.Machine

/-! ### Answers of the register port (R51, R52, R374, R380) -/

/-- Every field but a raise's bit and its SG-1 counter is as before a raise outside SLEEP and DEEP. -/
theorem Gov.raise_onlyFields {g : Gov} {src detail : Nat} (awake : g.asleep = false) : g.onlyFields (g.raise src detail) (raiseFields src) := fun _ hf =>
  g.raise_get src detail false awake hf

theorem Gov.portWrite_parity (g : Gov) {off : Nat} {wr : PortWrite} (bad : wr.par.toNat ≠ wordParity wr.data) : g.portWrite off wr = (g.raise 265 off).respond 2 0 :=
  if_pos bad

theorem Gov.portWrite_asleep (g : Gov) {off : Nat} {wr : PortWrite} (good : wr.par.toNat = wordParity wr.data) (sleep : g.asleep = true) (high : 0x1000 ≤ off) : g.portWrite off wr = g.respond 3 0 := by
  simp [Gov.portWrite, good, sleep, high]

/-- An access in RUN or IDLE, or below 0x1000, is not one that sleep refuses. -/
theorem Gov.access_reaches {g : Gov} {off : Nat} (reached : g.asleep = false ∨ off < 0x1000) : (g.asleep && decide (0x1000 ≤ off)) = false := by
  rcases reached with awake | low
  · simp [awake]
  · simp [Nat.not_le.2 low]

section
variable (g : Gov) {off : Nat} {wr : PortWrite} (good : wr.par.toNat = wordParity wr.data) (reached : g.asleep = false ∨ off < 0x1000)
include good reached

theorem Gov.portWrite_unmapped (unmapped : fieldsAt off = []) : g.portWrite off wr = g.respond 0 0 := by
  simp [Gov.portWrite, good, Gov.access_reaches reached, unmapped]

theorem Gov.portWrite_unprivileged (mapped : fieldsAt off ≠ []) (user : wr.priv = false) (closed : openWord off = false) : g.portWrite off wr = g.respond 1 0 := by
  simp [Gov.portWrite, good, Gov.access_reaches reached, mapped, user, closed]

end

/-- A register write that leaves OFF_WAKE answers with what the port's write leaves. -/
theorem registerWrite_gives {addr : BitVec 18} {wr : PortWrite} {t : Fin 250} {s : State} {g : Gov} (up : s.gov.up = true) (e : (s.gov.reach t).portWrite (4 * addr.toNat) wr = g)
    (wake : g.flag F.PS_WAKE_STAT_OFF_WAKE = (s.gov.reach t).flag F.PS_WAKE_STAT_OFF_WAKE) : exec (.registerWrite addr wr t) s = .next { s with gov := g } := by
  refine portCommand_eq ((Gov.ev_up _ _ _ up).trans e) ?_
  rw [Gov.ev_up _ _ _ up]
  exact wake

end Sys2Proof.Machine

open Sys2Proof Sys2Proof.Machine

/-- Settles O7: the port's checks in their order, one lemma for each answer; only a wrong parity changes the window, by its raise. -/
theorem portAnswers : Obligations.PortAnswers := by
  intro addr t s g0 up off
  have answers : ∀ {wr : PortWrite} {code : Nat}, g0.portWrite off wr = g0.respond code 0 → Completes (.registerWrite addr wr t) s fun g => g.resp = code ∧ g0.onlyFields g [] := fun e =>
    ⟨_, registerWrite_gives up e rfl, rfl, fun _ _ => rfl⟩
  refine ⟨fun wr bad awake => ?_, fun wr good sleep high => ?_, fun wr good reached unmapped => ?_, fun wr good reached mapped user closed => ?_, fun sleep high => ?_⟩
  · have only : g0.onlyFields (g0.raise 265 off) [F.FLT_STATUS_bit 265, F.SG1_CNT_PARITY_COUNT] := Gov.raise_onlyFields awake
    refine ⟨_, registerWrite_gives up (g0.portWrite_parity bad) ?_, rfl, g0.raise_flag 265 off false awake (.inl (by decide)), only⟩
    exact congrArg (fun n => n != 0) (only F.PS_WAKE_STAT_OFF_WAKE (by decide))
  · exact answers (g0.portWrite_asleep good sleep high)
  · exact answers (g0.portWrite_unmapped good reached unmapped)
  · exact answers (g0.portWrite_unprivileged good reached mapped user closed)
  · have refused : g0.portRead off = g0.respond 3 0 := by simp [Gov.portRead, sleep, high]
    exact ⟨g0.respond 3 0, nextGov ((Gov.ev_up _ _ _ up).trans refused), rfl, rfl, fun _ _ => rfl⟩
end

section
namespace Sys2Proof.Machine

/-! ### Targets that follow VSEL (R71, R187) -/

/-- A new target of a rail writes its RAIL_STATE word alone. -/
theorem Gov.setTarget_get (g : Gov) (k e : Nat) {f : Fld} (apart : f.off ≠ 0x24104 + 0x100 * k) : (g.setTarget k e).get f = g.get f := by
  unfold Gov.setTarget
  split
  · rfl
  · exact (Gov.get_congr (Gov.word_set_ne _ _ apart)).trans (Gov.get_congr (Gov.word_set_ne _ _ apart))

theorem Gov.setTarget_held (g : Gov) (k e : Nat) : (g.setTarget k e).held = g.held := by unfold Gov.setTarget; split <;> simp
theorem Gov.setTarget_pins (g : Gov) (k e : Nat) : (g.setTarget k e).pins = g.pins := by unfold Gov.setTarget; split <;> simp

theorem Gov.tgt_setTarget (g : Gov) (k : Nat) {e : Nat} (small : e < 16) : (g.setTarget k e).tgt k = e := by
  unfold Gov.setTarget
  split
  · assumption
  · have apart : (F.RAIL_STATE_TGT_ENTRY k).apart (F.RAIL_STATE_REACHED k) = true := by simp [Fld.apart, F.RAIL_STATE_TGT_ENTRY, F.RAIL_STATE_REACHED]
    exact (Gov.get_set_apart _ _ apart).trans ((g.get_set_self e (by simp [F.RAIL_STATE_TGT_ENTRY])).trans (Nat.mod_eq_of_lt small))

/-- The fields that a rail's usable entry rests on: its entries, its limits and the bollard on VCORE. -/
structure Gov.SameEntries (g h : Gov) : Prop where
  act : ∀ r < 8, ∀ e < 16, h.act (F.RAIL_ENTRY_ENTRY r e) = g.act (F.RAIL_ENTRY_ENTRY r e)
  max : h.get F.HLIM_VCORE_MAX = g.get F.HLIM_VCORE_MAX
  top : ∀ r, h.act (F.RAIL_SEL_ENTRY_MAX r) = g.act (F.RAIL_SEL_ENTRY_MAX r)
  ol : ∀ r, h.act (F.RAIL_SEL_OL_ENTRY r) = g.act (F.RAIL_SEL_OL_ENTRY r)
  load : ∀ r, h.flag (F.RAIL_FLAGS_OL r) = g.flag (F.RAIL_FLAGS_OL r)

theorem Gov.SameEntries.of_get {g h : Gov} (held : h.held = g.held) (get : ∀ f : Fld, f.off % 0x100 ≠ 4 → h.get f = g.get f) : g.SameEntries h where
  act r _ e _ := Gov.act_congr held (get _ (by simp only [F.RAIL_ENTRY_ENTRY]; omega))
  max := get _ (by decide)
  top r := Gov.act_congr held (get _ (by simp only [F.RAIL_SEL_ENTRY_MAX]; omega))
  ol r := Gov.act_congr held (get _ (by simp only [F.RAIL_SEL_OL_ENTRY]; omega))
  load r := congrArg (· != 0) (get _ (by simp only [F.RAIL_FLAGS_OL]; omega))

theorem Gov.SameEntries.entryOk {g h : Gov} (a : g.SameEntries h) {r e : Nat} (he : e < 16) : h.entryOk r e = g.entryOk r e := by
  unfold Gov.entryOk Gov.entry
  rw [a.act 0 (by decide) e he, a.max]

theorem Gov.SameEntries.topEntry {g h : Gov} (a : g.SameEntries h) (r : Nat) : h.topEntry r = g.topEntry r :=
  List.foldl_ext _ _ _ fun best e he => by rw [a.entryOk (List.mem_range.1 he)]

theorem Gov.SameEntries.eMax {g h : Gov} (a : g.SameEntries h) (r : Nat) : h.eMax r = g.eMax r := by
  simp only [Gov.eMax, a.top, a.ol, a.load]

theorem Gov.SameEntries.usable {g h : Gov} (a : g.SameEntries h) {r e : Nat} (he : e < 16) : h.usable r e = g.usable r e := by
  simp only [Gov.usable, a.entryOk he, a.topEntry]

theorem Gov.eMax_lt (g : Gov) (r : Nat) : g.eMax r < 16 := by
  have top : g.act (F.RAIL_SEL_ENTRY_MAX r) < 16 := field_lt _ _ _
  unfold Gov.eMax
  dsimp only
  split
  · exact Nat.lt_of_le_of_lt (Nat.min_le_left _ _) top
  · exact top

theorem Gov.topEntry_lt (g : Gov) (r : Nat) : g.topEntry r < 16 := by
  have keeps : ∀ es : List Nat, (∀ e ∈ es, e < 16) → ∀ best < 16, es.foldl (fun best e => if g.entryOk r e then e else best) best < 16 := by
    intro es
    induction es with
    | nil => exact fun _ best hb => hb
    | cons e es ih =>
      intro small best hb
      refine ih (fun x hx => small x (by simp [hx])) _ ?_
      dsimp only
      split
      · exact small e (by simp)
      · exact hb
  exact keeps _ (fun e he => List.mem_range.1 he) 0 (by decide)

/-- The entry that a rail takes from VSEL. -/
def Gov.vselEntry (g : Gov) (r : Nat) : Nat := g.usable r (min g.pins.vsel (g.eMax r))

theorem Gov.vselEntry_lt (g : Gov) (r : Nat) : g.vselEntry r < 16 := by
  have low : min g.pins.vsel (g.eMax r) < 16 := Nat.lt_of_le_of_lt (Nat.min_le_right _ _) (g.eMax_lt r)
  unfold Gov.vselEntry Gov.usable
  split
  · exact low
  · exact g.topEntry_lt r

theorem Gov.SameEntries.vselEntry {g h : Gov} (a : g.SameEntries h) (pins : h.pins.vsel = g.pins.vsel) (r : Nat) : h.vselEntry r = g.vselEntry r := by
  unfold Gov.vselEntry
  rw [pins, a.eMax, a.usable (Nat.lt_of_le_of_lt (Nat.min_le_right _ _) (g.eMax_lt r))]

theorem Gov.vselEntry_followVsel (g : Gov) (k r : Nat) : (g.followVsel k).vselEntry r = g.vselEntry r :=
  Gov.SameEntries.vselEntry (.of_get (g.setTarget_held _ _) fun _ hf => g.setTarget_get _ _ (by omega)) (congrArg PinSt.vsel (g.setTarget_pins _ _)) r

/-- Every rail that follows VSEL has its entry as the target. -/
theorem Gov.tgt_eachFollowVsel (g : Gov) {r : Nat} (hr : r < 8) : (g.each (List.range 8) Gov.followVsel).tgt r = g.vselEntry r := by
  obtain ⟨h, same, tgt⟩ := Gov.each_at (f := Gov.followVsel) (List.nodup_range (n := 8)) (List.mem_range.2 hr) g (fun h => h.tgt r) (fun h => h.vselEntry r)
    (fun h k _ ne => h.setTarget_get _ _ (by simp only [F.RAIL_STATE_TGT_ENTRY]; omega)) (fun h k _ _ => h.vselEntry_followVsel k r)
  rw [tgt, ← same]
  exact h.tgt_setTarget r (h.vselEntry_lt r)

theorem Gov.followVsel_strap (g : Gov) (k : Nat) : (g.followVsel k).get F.GOV_STRAP_VSEL = g.get F.GOV_STRAP_VSEL :=
  g.setTarget_get _ _ (by simp only [F.GOV_STRAP_VSEL]; omega)

/-! ### The input pins (R43, R55, R71, R72, R74) -/

/-- A VSEL code on its pins and in GOV_STRAP. -/
def Gov.strapVsel (g : Gov) (p : PinSt) : Gov := (g.withPins p).set F.GOV_STRAP_VSEL p.vsel

theorem Gov.strapVsel_vsel (g : Gov) {p : PinSt} (small : p.vsel < 16) : (g.strapVsel p).get F.GOV_STRAP_VSEL = p.vsel :=
  (Gov.get_set_self _ _ (by decide)).trans (Nat.mod_eq_of_lt small)

theorem Gov.strapVsel_get (g : Gov) (p : PinSt) {f : Fld} (apart : f.apart F.GOV_STRAP_VSEL = true) : (g.strapVsel p).get f = g.get f :=
  Gov.get_set_apart _ _ apart

theorem Gov.strapVsel_byVsel (g : Gov) (p : PinSt) : (g.strapVsel p).byVsel = g.byVsel := by
  have strap := g.strapVsel_get p (f := F.GOV_STRAP_VSEL_EN) (by decide)
  have mode := g.strapVsel_get p (f := F.SUP_STAT_MODE) (by decide)
  simp only [Gov.byVsel, Gov.boardMode, Gov.anchored, Gov.flag, strap, mode]

theorem Gov.strapVsel_psRails (g : Gov) (p : PinSt) : (g.strapVsel p).psRails = g.psRails := by
  have state := g.strapVsel_get p (f := F.PS_STAT_STATE) (by decide)
  have target := g.strapVsel_get p (f := F.PS_STAT_TO) (by decide)
  have pwr : (g.strapVsel p).pwr = g.pwr := rfl
  simp only [Gov.psRails, Gov.psTo, Gov.asleep, Gov.state, state, target, pwr]

theorem Gov.strapVsel_entry (g : Gov) (p : PinSt) (r : Nat) : (g.strapVsel p).vselEntry r = g.usable r (min p.vsel (g.eMax r)) := by
  have same : (g.withPins p).SameEntries (g.strapVsel p) := .of_get rfl fun f hf => Gov.get_congr (Gov.word_set_ne _ _ (by simp only [F.GOV_STRAP_VSEL]; omega))
  exact same.vselEntry rfl r

/-- The fields that a berth's own raise writes. -/
theorem raiseFields_berth {b : Nat} (hb : b < 256) : raiseFields b = [F.FLT_STATUS_bit b, F.SG1_CNT_PARTITION_COUNT] := by
  simp [raiseFields, sg1Counter, hb, F.SG1_CNT_PARTITION_COUNT, W.SG1_CNT]

/-- A change of the pins alone. -/
theorem Gov.withPins_only (g : Gov) (p : PinSt) : (g.withPins p).pins = p ∧ g.onlyWords (g.withPins p) [] ∧ g.sameBeside ((g.withPins p).withPins g.pins) := ⟨rfl, fun _ _ => rfl, rfl⟩

end Sys2Proof.Machine

open Sys2Proof Sys2Proof.Machine

/-- Settles O12: a pin's level is the pin's alone but for VSEL, whose targets are those of `tgt_eachFollowVsel`; the raises write their bit and their counter. -/
theorem pinInputs : Obligations.PinInputs := by
  intro t s g0 up
  have level : ∀ p, s.gov.pinLevel t p = g0.withPins p := fun p => by rw [Gov.pinLevel, if_pos up]
  have vsel : ∀ v : BitVec 4, let g := g0.strapVsel { s.gov.pins with vsel := v.toNat }
      exec (.vselChange v t) s = .next { s with gov := if s.gov.up && g.byVsel && !g.psRails then g.each (List.range 8) Gov.followVsel else g } := fun v => by
    show execVselChange v t s = _
    unfold execVselChange State.onGov
    dsimp only
    rw [level]
    rfl
  refine ⟨⟨_, nextGov (level _), g0.withPins_only _⟩, ⟨_, nextGov (level _), g0.withPins_only _⟩, fun v off => ?_, fun v rules free => ?_, fun awake fresh => ?_, fun awake => ?_, fun b awake present => ?_⟩
  · refine ⟨g0.strapVsel _, (vsel v).trans (nextGov (if_neg ?_)), rfl, g0.strapVsel_vsel v.isLt, fun f hf => g0.strapVsel_get _ (by simpa using hf), rfl⟩
    rw [g0.strapVsel_byVsel, g0.strapVsel_psRails]
    rcases off with off | off <;> simp [off]
  · refine ⟨_, (vsel v).trans (nextGov (if_pos ?_)), ?_, ?_, fun r => (Gov.tgt_eachFollowVsel _ r.isLt).trans (g0.strapVsel_entry _ r)⟩
    · rw [g0.strapVsel_byVsel, g0.strapVsel_psRails, up, rules, free]; rfl
    · exact Gov.each_same Gov.pins (fun h k => h.setTarget_pins _ _) _ _
    · exact (Gov.each_same (fun h => h.get F.GOV_STRAP_VSEL) Gov.followVsel_strap _ _).trans (g0.strapVsel_vsel v.isLt)
  · have trip : exec (.thermalTrip t) s = .next { s with gov := g0.bollard 3 0, keep := { s.keep with trip := true } } := by
      show execThermalTrip t s = _
      simp [execThermalTrip, State.onBoth, up, fresh, g0]
    exact ⟨_, trip, g0.bollard_count 3 0 awake, g0.bollard_flag 3 0 awake⟩
  · refine ⟨g0.raise 269 0, nextGov (Gov.ev_up _ _ _ up), g0.raise_flag 269 0 false awake (.inl (by decide)), fun f hf => g0.raise_get 269 0 false awake hf, besideFlt_reg (g0.raise_besideFlt 269 0 false awake)⟩
  · refine ⟨g0.raise b 0, nextGov (Gov.ev_up _ _ _ up), g0.raise_flag b 0 false awake (.inr present), fun f hf => g0.raise_get b 0 false awake ?_, besideFlt_fcu (g0.raise_besideFlt b 0 false awake)⟩
    rw [raiseFields_berth b.isLt]
    exact hf
end

section
namespace Sys2Proof.Machine

/-! ### The berth inputs (R41, R42, R246) -/

theorem Gov.actSt_setAct (g : Gov) (b c : Nat) (x : ActSt) : (g.setAct b x).actSt c = if c = b then x else g.actSt c := Tab.get_put _ _ _ _ _
theorem Gov.tog_setTog (g : Gov) (b : Nat) (x : BerthTog) : (g.setTog b x).tog b = x := Tab.get_put_self _ _ _ _

/-- A toggle's capture: the account that ends, the count and the instant, and a violation within 20 ns of the last one. -/
def Gov.capture (g : Gov) (b : Nat) (gray : BitVec 16) : Gov :=
  g.setTog b { caps := (g.tog b).caps ++ [(g.get (F.BT_ACCT_ACCT b), grayToBin gray.toNat, g.now)], viol := (g.tog b).viol || (g.tog b).near g.now, lastAt := some g.now }

/-- The counters that a switch record may move. -/
def switchCounters (old new : Nat) : List Fld := [F.LDG_SW_OVF_COUNT, F.ACC_SWITCH_COUNT old, F.ACC_SWITCH_COUNT new]

/-- A switch record is put in the ring at its place and SW_HEAD moves behind it; the rest is counting. -/
theorem Gov.switchRecord_spec (g : Gov) (b old new : Nat) (viol : Bool) :
    (g.switchRecord b old new viol).led = (g.ringPut (g.switchWords b old new viol)).led ∧
      ∀ f : Fld, (switchCounters old new).all f.apart = true → (g.switchRecord b old new viol).get f = ((g.ringPut (g.switchWords b old new viol)).set F.LDG_SW_HEAD_HEAD ((g.led.written + 1) % 1024)).get f := by
  have countIf : ∀ (h : Gov) (c : Prop) [Decidable c] (k : Fld), (if c then h.inc k else h).led = h.led ∧ ∀ f : Fld, f.apart k = true → (if c then h.inc k else h).get f = h.get f := fun h c _ k => by
    split
    · exact ⟨rfl, fun f hf => Gov.get_set_apart _ _ hf⟩
    · exact ⟨rfl, fun _ _ => rfl⟩
  unfold Gov.switchRecord
  dsimp only
  refine ⟨(countIf _ _ _).1.trans ((countIf _ _ _).1.trans (countIf _ _ _).1), fun f hf => ?_⟩
  simp only [switchCounters, List.all_cons, List.all_nil, Bool.and_true, Bool.and_eq_true] at hf
  obtain ⟨ovf, closing, opening⟩ := hf
  exact ((countIf _ _ _).2 f opening).trans (((countIf _ _ _).2 f closing).trans ((countIf _ _ _).2 f ovf))

/-- The third word of a switch record packs the berth and the two accounts below its flags. -/
theorem Gov.switchWords_third (g : Gov) {b old new : Nat} (viol : Bool) (hb : b < 256) (hold : old < 256) (hnew : new < 256) :
    (g.switchWords b old new viol).getD 2 0 % 2 ^ 24 = b + old * 2 ^ 8 + new * 2 ^ 16 := by
  simp only [Gov.switchWords, List.getD_cons_succ, List.getD_cons_zero]
  omega

/-- The record just put stands at the ring's next place. -/
theorem Gov.ringPut_ring (g : Gov) (x : List Nat) : Tab.get (fun _ => []) (g.ringPut x).led.ring (g.led.written % 1024) = x := Tab.get_put_self _ _ _ _

end Sys2Proof.Machine

open Sys2Proof Sys2Proof.Machine

/-- Settles O13: FCST is one entry of the berths' table; a toggle puts its capture, and a change of account the record of `switchRecord_spec`. -/
theorem berthInputs : Obligations.BerthInputs := by
  intro b t s g0 engine present
  have runs : ¬ (!s.gov.engine ∨ !g0.present b) := by simp [engine, present]
  refine ⟨fun v => ?_, fun a gray => ?_⟩
  · refine ⟨_, nextGov (if_neg runs), (g0.actSt_setAct b b _).trans (if_pos rfl), fun c ne => (g0.actSt_setAct b c _).trans (if_neg fun e => ne (Fin.ext e)), fun _ _ => rfl⟩
  · intro old near
    have toggle : exec (.acctToggle b a gray t) s = .next { s with gov := if old = a then g0.capture b gray else ((g0.capture b gray).switchRecord b old a near).set (F.BT_ACCT_ACCT b) a } := nextGov (if_neg runs)
    have small : old < 256 := g0.get_lt (F.BT_ACCT_ACCT b)
    by_cases same : old = a
    · exact ⟨_, toggle.trans (nextGov (if_pos same)), same, g0.tog_setTog _ _, fun _ => ⟨fun _ _ => rfl, rfl, rfl⟩, fun differs => absurd same differs⟩
    · obtain ⟨led, get⟩ := (g0.capture b gray).switchRecord_spec b old a near
      refine ⟨_, toggle.trans (nextGov (if_neg same)), ?_, ?_, fun e => absurd e same, fun _ => ⟨?_, ?_, ?_⟩⟩
      · exact (Gov.get_set_self _ _ (by simp [F.BT_ACCT_ACCT])).trans (Nat.mod_eq_of_lt a.isLt)
      · exact (congrArg (fun l : LedSt => Tab.get (fun _ => ({} : BerthTog)) l.toggles b) led).trans (g0.tog_setTog _ _)
      · exact congrArg LedSt.written led
      · rw [Gov.get_set_apart _ _ (by simp [Fld.apart, F.LDG_SW_HEAD_HEAD, F.BT_ACCT_ACCT]; omega), get _ (by simp [switchCounters, Fld.apart, F.LDG_SW_HEAD_HEAD, F.LDG_SW_OVF_COUNT, F.ACC_SWITCH_COUNT]; omega)]
        exact (Gov.get_set_self _ _ (by decide)).trans (Nat.mod_eq_of_lt (Nat.mod_lt _ (by decide)))
      · have ring : Tab.get (fun _ => []) ((g0.capture b gray).switchRecord b old a near).led.ring (g0.led.written % 1024) = (g0.capture b gray).switchWords b old a near := by
          rw [led]; exact (g0.capture b gray).ringPut_ring _
        exact (congrArg (fun x : List Nat => x.getD 2 0 % 2 ^ 24) ring).trans ((g0.capture b gray).switchWords_third near b.isLt small a.isLt)
end

section
namespace Sys2Proof.Machine

/-! ### A new reservation table (R136, R150) -/

theorem Gov.setTable_fcu (g : Gov) (table : List Entry) : (g.setTable table).fcu = { g.fcu with table := table } :=
  (Gov.each_same Gov.fcu (fun _ _ => Gov.set_fcu _ _ _) _ _).trans (by simp)

/-- Putting a table writes LIVE, its peak and the berths' counts, which lie beyond the words below 0x20000. -/
theorem Gov.setTable_get (g : Gov) (table : List Entry) {f : Fld} (low : f.off < 0x20000) :
    (g.setTable table).get f = ((g.set F.FCU_LIVE_LIVE table.length).upd F.FCU_LIVE_LIVE_PEAK (max table.length)).get f :=
  Gov.each_same (fun h => h.get f) (fun _ _ => Gov.get_congr (Gov.word_set_ne _ _ (by simp only [F.BT_FCU_RCNT]; omega))) _ _

theorem Gov.setTable_live (g : Gov) {table : List Entry} (small : table.length < 2 ^ 16) : (g.setTable table).get F.FCU_LIVE_LIVE = table.length := by
  rw [g.setTable_get table (by decide), Gov.upd_eq, Gov.get_set_apart _ _ (by decide), Gov.get_set_self _ _ (by decide)]
  exact Nat.mod_eq_of_lt small

theorem Gov.setTable_get_apart (g : Gov) (table : List Entry) {f : Fld} (low : f.off < 0x20000) (apart : f.off ≠ 0xE1C) : (g.setTable table).get f = g.get f :=
  (g.setTable_get table low).trans ((Gov.get_congr (Gov.word_set_ne _ _ apart)).trans (Gov.get_congr (Gov.word_set_ne _ _ apart)))

/-- The counters of the forecast unit, 32 bits each. -/
abbrev fcuCounter (c : Fld) : Prop := 0xE40 ≤ c.off ∧ c.off < 0xE80 ∧ c.lo = 0 ∧ c.w = 32

theorem Gov.setTable_counts (g : Gov) (table : List Entry) {c : Fld} (n : Nat) (counter : fcuCounter c) : ((g.setTable table).inc c n).get c = usat 32 (g.get c + n) := by
  obtain ⟨from_, below, lo, w⟩ := counter
  rw [Gov.inc_eq, Gov.get_set_self _ _ (by omega), usat_mod, w, g.setTable_get_apart table (by omega) (by omega)]

/-! ### A word of the hint port that has its row (R138, R141, R143) -/

theorem Gov.settleEntries_idle {g : Gov} (idle : g.nothingDue) : g.settleEntries = g := by
  have none : (g.fcu.table.filter fun e => g.entryDue e && true) = [] := List.filter_eq_nil_iff.2 fun e he => by simp [idle e he]
  unfold Gov.settleEntries Gov.expireEntries
  rw [none]
  rfl

/-- Where nothing is due, the row of the next word's kind takes it from its FIFO and gives it its effect. -/
theorem Gov.onHint_next {g : Gov} {t : Fin 250} {n : Nat} {w : BitVec 64} {kind : HintKind} (f : Gov → Nat → BitVec 64 → Gov) (engine : g.engine = true) (idle : (g.reach t).nothingDue)
    (next : (g.reach t).nextHint = some (n, w, kind)) : g.onHint t kind f = f ((g.reach t).dequeue n) n w := by
  have idle' : ((g.reach t).dequeue n).settleEntries = (g.reach t).dequeue n := Gov.settleEntries_idle idle
  simp [Gov.onHint, engine, next, idle']

/-- The entry of a RESERVE word at the present base tick (R140, R141). -/
def Gov.reserved (g : Gov) (w : BitVec 64) : Entry :=
  { berth := bits w.toNat 48 8, acct := bits w.toNat 40 8, igid := bits w.toNat 24 16, act := bits w.toNat 12 12, start := g.tick + bits w.toNat 4 8, deadline := g.tick + g.act F.FCU_CFG_HORIZON + 1, st := if bits w.toNat 4 8 = 0 then .opened else .pending, confEnd := 0 }

/-- A new key that passes its checks is appended. -/
theorem Gov.reserve_new {g : Gov} {n : Nat} {w : BitVec 64} (new : (g.fcu.table.find? fun e => e.hasKey (bits w.toNat 48 8) (bits w.toNat 40 8) (bits w.toNat 24 16)) = none)
    (room : g.fcu.table.length < resCapacity) (good : g.reserveBad (bits w.toNat 48 8) (bits w.toNat 40 8) (bits w.toNat 4 8) (bits w.toNat 12 12) = none) :
    g.reserve n w = (g.setTable (g.fcu.table ++ [g.reserved w])).inc F.FCU_CNT_ACCEPT_COUNT := by
  unfold Gov.reserve
  dsimp only
  rw [new]
  dsimp only
  rw [if_neg (Nat.not_le.2 room), good]
  rfl

theorem Gov.confirm_live {g : Gov} {w : BitVec 64} (live : (g.fcu.table.any fun e => e.hasKey (bits w.toNat 48 8) (bits w.toNat 40 8) (bits w.toNat 24 16) && e.st != .confirmed) = true) :
    g.confirm w = (g.setTable (g.fcu.table.map fun e => if e.hasKey (bits w.toNat 48 8) (bits w.toNat 40 8) (bits w.toNat 24 16) then
      { e with st := .confirmed, confEnd := g.now + 1000 * g.act F.FCU_CONF_MAX_CONF_MAX } else e)).inc F.FCU_CNT_CONFIRM_COUNT := if_pos live

theorem Gov.retract_hits {g : Gov} {w : BitVec 64} (hits : 0 < g.fcu.table.countP (rangeHit w)) :
    g.retract w = (g.setTable (g.fcu.table.filter fun e => !rangeHit w e)).inc F.FCU_CNT_RETRACT_COUNT (g.fcu.table.countP (rangeHit w)) := if_neg (Nat.ne_of_gt hits)

/-- A RELEASE whose entries in range are all confirmed frees each of them. -/
theorem Gov.release_hits {g : Gov} {w : BitVec 64} (confirmed : ∀ e ∈ g.fcu.table, rangeHit w e = true → e.st = .confirmed) (hits : 0 < g.fcu.table.countP (rangeHit w)) :
    g.release w = (g.setTable (g.fcu.table.filter fun e => !rangeHit w e)).inc F.FCU_CNT_RELEASE_COUNT (g.fcu.table.countP (rangeHit w)) := by
  have frees : ∀ e ∈ g.fcu.table, (rangeHit w e && e.st == ResState.confirmed) = rangeHit w e := fun e he => by
    cases h : rangeHit w e with
    | false => rfl
    | true => simp [confirmed e he h]
  have count : g.fcu.table.countP (fun e => rangeHit w e && e.st == ResState.confirmed) = g.fcu.table.countP (rangeHit w) := List.countP_congr fun e he => by rw [frees e he]
  have kept : g.fcu.table.filter (fun e => !(rangeHit w e && e.st == ResState.confirmed)) = g.fcu.table.filter fun e => !rangeHit w e := List.filter_congr fun e he => by rw [frees e he]
  have left : (g.fcu.table.any fun e => rangeHit w e && e.st != ResState.confirmed) = false := List.any_eq_false.2 fun e he => by
    cases h : rangeHit w e with
    | false => simp
    | true => simp [confirmed e he h]
  unfold Gov.release
  dsimp only
  rw [count, kept, left, if_neg (Nat.ne_of_gt hits), if_neg (by simp [Nat.ne_of_gt hits])]

end Sys2Proof.Machine

open Sys2Proof Sys2Proof.Machine

/-- Settles O18: each row takes its word by `Gov.onHint_next`, and its effect is one new table and one count. -/
theorem hintEntries : Obligations.HintEntries := by
  intro n w t s g0 engine idle b a i old taken
  have took : ∀ table cnt k, taken (((g0.dequeue n).setTable table).inc cnt k) := fun table cnt k =>
    have fcu := (g0.dequeue n).setTable_fcu table
    ⟨congrArg FcuSt.fifos fcu, congrArg FcuSt.turn fcu, (congrArg FcuSt.hints fcu).trans rfl⟩
  have put : ∀ table cnt k, (((g0.dequeue n).setTable table).inc cnt k).fcu.table = table := fun table cnt k => congrArg FcuSt.table ((g0.dequeue n).setTable_fcu table)
  refine ⟨fun next => ?_, fun next new room good => ?_, fun next live => ?_, fun next hits => ?_, fun next confirmed hits => ?_⟩
  · exact ⟨g0.dequeue n, nextGov (Gov.onHint_next _ engine idle next), ⟨rfl, rfl, rfl⟩, rfl, fun _ _ => rfl⟩
  · have appended : (g0.dequeue n).reserve n w = ((g0.dequeue n).setTable (old ++ [g0.reserved w])).inc F.FCU_CNT_ACCEPT_COUNT := Gov.reserve_new new room good
    have length : (old ++ [g0.reserved w]).length = old.length + 1 := List.length_append
    refine ⟨_, nextGov ((Gov.onHint_next _ engine idle next).trans appended), took _ _ _, put _ _ _, ?_, Gov.setTable_counts _ _ 1 (by decide)⟩
    rw [Gov.inc_eq, Gov.get_set_apart _ _ (by decide), Gov.setTable_live _ (by unfold resCapacity at room; omega), length]
  · exact ⟨_, nextGov ((Gov.onHint_next _ engine idle next).trans (Gov.confirm_live live)), took _ _ _, put _ _ _, Gov.setTable_counts _ _ 1 (by decide)⟩
  · exact ⟨_, nextGov ((Gov.onHint_next _ engine idle next).trans (Gov.retract_hits hits)), took _ _ _, put _ _ _, Gov.setTable_counts _ _ _ (by decide)⟩
  · exact ⟨_, nextGov ((Gov.onHint_next _ engine idle next).trans (Gov.release_hits confirmed hits)), took _ _ _, put _ _ _, Gov.setTable_counts _ _ _ (by decide)⟩
end

section
namespace Sys2Proof.Machine

/-- A counter of 32 bits after counting. -/
theorem Gov.get_inc32 (g : Gov) {f : Fld} (n : Nat) (h : f.lo = 0 ∧ f.w = 32) : (g.inc f n).get f = usat 32 (g.get f + n) := by
  rw [Gov.inc_eq, Gov.get_set_self _ _ (by omega), usat_mod, h.2]

/-! ### Words of wrong parity and bad words (R50, R137) -/

/-- The next word has the wrong parity. -/
def Gov.wrongParity (g : Gov) : Bool :=
  match g.nextInput with
  | some n => match (g.fcu.fifos.getD n []).head? with
    | some (w, p) => p != hintParity w
    | none => false
  | none => false

/-- The next word is bad by its parity, or by itself. -/
theorem Gov.nextHint_bad {g : Gov} {n : Nat} {w : BitVec 64} (next : g.nextHint = some (n, w, .bad)) :
    (g.wrongParity = true ∧ (g.fcu.fifos.getD n []).head? ≠ some (w, hintParity w)) ∨ (g.wrongParity = false ∧ hintKind w = .bad) := by
  unfold Gov.nextHint at next
  unfold Gov.wrongParity
  cases input : g.nextInput with
  | none => simp [input] at next
  | some m =>
    cases head : (g.fcu.fifos.getD m []).head? with
    | none => simp only [input, head] at next; cases next
    | some x =>
      obtain ⟨v, p⟩ := x
      simp only [input, head, Option.some.injEq, Prod.mk.injEq] at next ⊢
      obtain ⟨rfl, rfl, kind⟩ := next
      by_cases good : p = hintParity v
      · rw [if_pos good] at kind
        exact .inr ⟨by simp [good], kind⟩
      · refine .inl ⟨by simpa using good, ?_⟩
        rw [head]
        simpa using good

theorem badHintWord_next {t : Fin 250} {s : State} {n : Nat} {w : BitVec 64} (engine : s.gov.engine = true) (idle : (s.gov.reach t).nothingDue) (next : (s.gov.reach t).nextHint = some (n, w, .bad)) :
    exec (.badHintWord t) s = .next { s with gov :=
      if (s.gov.reach t).wrongParity = true then ((s.gov.reach t).dequeue n).raise 264 n else ((s.gov.reach t).dequeue n).inc F.FCU_CNT_BADWORD_COUNT } :=
  nextGov (Gov.onHint_next (fun g n _ => if (s.gov.reach t).wrongParity = true then g.raise 264 n else g.inc F.FCU_CNT_BADWORD_COUNT) engine idle next)

end Sys2Proof.Machine

open Sys2Proof Sys2Proof.Machine

/-- Settles O20: a word joins the FIFO of an enabled input; a bad one is raised or counted by its parity, as `Gov.nextHint_bad` tells. -/
theorem hintPort : Obligations.HintPort := by
  intro t s g0 engine
  have arrival : ∀ (n : Fin 4) (w : BitVec 64) (p : BitVec 8), g0.hintReady n = true → exec (.hintWordArrival n w p t) s =
      .next { s with gov := if g0.hintEnabled n then g0.withFcu { g0.fcu with fifos := g0.fcu.fifos.set n (g0.fcu.fifos.getD n [] ++ [(w, p)]) } else g0 } := fun n w p ready =>
    nextGov (if_neg (show ¬ (!g0.hintReady n) = true by simp [ready]))
  refine ⟨fun n w p ready on => ?_, fun n w p ready off => ?_, fun n w idle awake next => ?_⟩
  · exact ⟨_, (arrival n w p ready).trans (nextGov (if_pos on)), rfl, fun _ _ => rfl⟩
  · exact ⟨g0, (arrival n w p ready).trans (nextGov (if_neg (by simp [off]))), rfl, fun _ _ => rfl⟩
  · rcases Gov.nextHint_bad next with ⟨wrong, head⟩ | ⟨right, kind⟩
    · exact ⟨_, (badHintWord_next engine idle next).trans (nextGov (if_pos wrong)), (congrArg FcuSt.table (besideFlt_fcu ((g0.dequeue n).raise_besideFlt 264 n false awake))).trans rfl,
        fun _ => (g0.dequeue n).raise_flag 264 n false awake (.inl (by decide)), fun h => absurd h head⟩
    · refine ⟨_, (badHintWord_next engine idle next).trans (nextGov (if_neg (by rw [right]; decide))), ?_, fun h => absurd kind h, fun _ => Gov.get_inc32 _ 1 (by decide)⟩
      exact (congrArg FcuSt.table ((g0.dequeue n).inc_fcu F.FCU_CNT_BADWORD_COUNT 1)).trans rfl
end

section
namespace Sys2Proof.Machine

/-! ### Words that a change leaves alone -/

/-- The words kept active, and every word of a set, are the same in both states. -/
structure Gov.Keeps (P : Nat → Prop) (g h : Gov) : Prop where
  held : h.held = g.held
  word : ∀ o, P o → h.word o = g.word o

section
variable {P : Nat → Prop} {g h k : Gov}

theorem Gov.Keeps.refl (g : Gov) : Gov.Keeps P g g := ⟨rfl, fun _ _ => rfl⟩
theorem Gov.Keeps.trans (a : Gov.Keeps P g h) (b : Gov.Keeps P h k) : Gov.Keeps P g k := ⟨b.held.trans a.held, fun o ho => (b.word o ho).trans (a.word o ho)⟩
theorem Gov.Keeps.mono {Q : Nat → Prop} (a : Gov.Keeps Q g h) (sub : ∀ o, P o → Q o) : Gov.Keeps P g h := ⟨a.held, fun o ho => a.word o (sub o ho)⟩

theorem Gov.Keeps.setWord (a : Gov.Keeps P g h) (o : Nat) (w : Word) (out : ¬ P o) : Gov.Keeps P g (h.setWord o w) :=
  a.trans ⟨rfl, fun _ hp => h.word_setWord_ne _ fun e => out (e ▸ hp)⟩

theorem Gov.Keeps.set (a : Gov.Keeps P g h) (f : Fld) (v : Nat) (out : ¬ P f.off) : Gov.Keeps P g (h.set f v) := a.setWord _ _ out
theorem Gov.Keeps.withPwr (a : Gov.Keeps P g h) (x : PowerSt) : Gov.Keeps P g (h.withPwr x) := a.trans ⟨rfl, fun _ _ => rfl⟩
theorem Gov.Keeps.withFlt (a : Gov.Keeps P g h) (x : FaultSt) : Gov.Keeps P g (h.withFlt x) := a.trans ⟨rfl, fun _ _ => rfl⟩
theorem Gov.Keeps.psStep (a : Gov.Keeps P g h) (n : Nat) : Gov.Keeps P g (h.psStep n) := a.withPwr _
theorem Gov.Keeps.setAns (a : Gov.Keeps P g h) (b : Nat) (f : BerthAns → BerthAns) : Gov.Keeps P g (h.setAns b f) := a.withPwr _

theorem Gov.Keeps.ite {c : Prop} [Decidable c] (a : Gov.Keeps P g h) (b : Gov.Keeps P g k) : Gov.Keeps P g (if c then h else k) := by split <;> assumption

theorem Gov.Keeps.each {α : Type} {f : Gov → α → Gov} (a : Gov.Keeps P g h) (xs : List α) (step : ∀ h, ∀ x ∈ xs, Gov.Keeps P g h → Gov.Keeps P g (f h x)) : Gov.Keeps P g (h.each xs f) :=
  Gov.each_keeps_mem (P := Gov.Keeps P g) xs step h a

theorem Gov.Keeps.get (a : Gov.Keeps P g h) {f : Fld} (hf : P f.off) : h.get f = g.get f := Gov.get_congr (a.word _ hf)
theorem Gov.Keeps.flag (a : Gov.Keeps P g h) {f : Fld} (hf : P f.off) : h.flag f = g.flag f := congrArg (fun n => n != 0) (a.get hf)
theorem Gov.Keeps.act (a : Gov.Keeps P g h) {f : Fld} (hf : P f.off) : h.act f = g.act f := Gov.act_congr a.held (a.get hf)

/-- Presence and quarantine lie in the berths' configuration words and in FLT_QUAR. -/
theorem Gov.Keeps.present (a : Gov.Keeps P g h) {b : Nat} (hb : P (0x20000 + 0x40 * b)) : h.present b = g.present b := by
  unfold Gov.present Gov.actFlag
  rw [a.act hb, a.flag hb]

theorem Gov.Keeps.quar (a : Gov.Keeps P g h) {b : Nat} (hb : P (0x500A0 + 4 * (b / 32))) : h.quar b = g.quar b := a.flag hb

theorem Gov.Keeps.log (a : Gov.Keeps P g h) (time type : Nat) (ps : List Nat) (head : ¬ P 0x50078) (ovf : ¬ P 0x5007C) : Gov.Keeps P g (h.log time type ps) := by
  have put : Gov.Keeps P g ((h.logPut time type ps).set F.FLT_LOG_HEAD_HEAD ((h.flt.written + 1) % 8192)) := Gov.Keeps.set (a.withFlt _) _ _ head
  exact .ite (put.set _ _ ovf) put

/-- A word reads alike where each of its fields does. -/
theorem Gov.Keeps.of_get (held : h.held = g.held) (get : ∀ f : Fld, P f.off → h.get f = g.get f) : Gov.Keeps P g h where
  held := held
  word o ho := by
    have whole : ∀ x : Word, field x 0 32 = x.toNat := fun x => by simp [field, Nat.mod_eq_of_lt x.isLt]
    have e := get ⟨o, 0, 32⟩ ho
    exact BitVec.eq_of_toNat_eq (by rw [← whole, ← whole]; exact e)

/-- What an answer of a command channel writes: the journal, the channels' words and the fences. -/
abbrev answerWord (o : Nat) : Prop := (0x180 ≤ o ∧ o < 0x1C0) ∨ (0x1000 ≤ o ∧ o < 0x4000)

theorem Gov.Keeps.post (a : Gov.Keeps P g h) (n : Fin 16) (ws : List Nat) (status : Nat) {params : List Nat} (hp : params.length ≤ 61) (out : ∀ o, P o → ¬ answerWord o) : Gov.Keeps P g (h.post n ws status params) :=
  a.trans (.of_get (besideCmd_held (Gov.post_besideCmd _ _ _ _ _)) fun f hf => Gov.post_get _ _ _ _ _ n.isLt hp (by have := out _ hf; omega))

theorem Gov.Keeps.commit (a : Gov.Keeps P g h) (n : Fin 16) (ws : List Nat) (status : Nat) (at_ : Option SigEvent) (out : ∀ o, P o → ¬ answerWord o) : Gov.Keeps P g (h.commit n ws status at_) :=
  a.trans (.of_get (besideCmd_held (Gov.commit_besideCmd _ _ _ _ _)) fun f hf => Gov.commit_get _ _ _ _ _ (by have := out _ hf; simp only [W.SUP_JOURNAL]; omega) (by have := out _ hf; omega))

theorem Gov.Keeps.answerPs (a : Gov.Keeps P g h) (status : Nat) {params : List Nat} (hp : params.length ≤ 61) (out : ∀ o, P o → ¬ answerWord o) : Gov.Keeps P g (h.answerPs status params) := by
  unfold Gov.answerPs
  split
  · exact a
  · next n _ =>
    have freed := a.withPwr { h.pwr with cmdChan := none }
    dsimp only
    split
    · split
      · exact freed.post n _ _ (by simp) out
      · exact (freed.commit n _ _ _ out).post n _ _ hp out
    · exact freed

theorem Gov.Keeps.drive (a : Gov.Keeps P g h) (code : Nat) : Gov.Keeps P g (h.drive code) := (a.withPwr _).each _ fun _ b _ c => c.setAns b _

/-! ### Refusals and the abort of an entry (R295, R296) -/

/-- What the record of a refusal writes: the record, its head and the event log. -/
abbrev refusalWord (o : Nat) : Prop := o = 0x534 ∨ (0x700 ≤ o ∧ o < 0x800) ∨ o = 0x50078 ∨ o = 0x5007C

theorem Gov.Keeps.refusalRecord (a : Gov.Keeps P g h) (b rsn target : Nat) (exit_ : Bool) (out : ∀ o, P o → ¬ refusalWord o) : Gov.Keeps P g (h.refusalRecord b rsn target exit_).2 := by
  have words : ∀ i ws, i < 8 → ws.length = 8 → Gov.Keeps P g (h.writeWords (W.PS_REFUSE i 0) ws) := fun i ws hi hw =>
    a.each _ fun _ j hj c => c.setWord _ _ fun ho => out _ ho (by have := List.mem_range.1 hj; simp only [W.PS_REFUSE]; omega)
  unfold Gov.refusalRecord
  extract_lets i w2 n0 n1 written headed
  have hheaded : Gov.Keeps P g headed := (words i _ (h.get_lt F.PS_LOG_HEAD_HEAD) rfl).set _ _ fun ho => out _ ho (.inl rfl)
  exact .ite hheaded (hheaded.log _ _ _ (fun ho => out _ ho (by decide)) fun ho => out _ ho (by decide))

theorem Gov.Keeps.refusal (a : Gov.Keeps P g h) (b rsn : Nat) (out : ∀ o, P o → ¬ refusalWord o ∧ o ≠ 0x528) : Gov.Keeps P g (h.refusal b rsn).2 :=
  (a.refusalRecord b rsn h.psTo false fun o ho => (out o ho).1).set _ _ fun ho => (out _ ho).2 rfl

/-- The refusals' records, one after another. -/
theorem Gov.Keeps.refusals (rs : List (Nat × Nat)) {acc : List Nat × Gov} (a : Gov.Keeps P g acc.2) (out : ∀ o, P o → ¬ refusalWord o ∧ o ≠ 0x528) :
    Gov.Keeps P g (rs.foldl (fun (acc : List Nat × Gov) p => ((acc.1 ++ [(acc.2.refusal p.1 p.2).1]), (acc.2.refusal p.1 p.2).2)) acc).2 := by
  induction rs generalizing acc with
  | nil => exact a
  | cons p rs ih => exact ih (a.refusal p.1 p.2 out)

end

theorem Gov.refusal_count (g : Gov) (b rsn : Nat) : (g.refusal b rsn).2.get F.PS_CNT_REFUSE_COUNT = usat 32 (g.get F.PS_CNT_REFUSE_COUNT + 1) := by
  have record : Gov.Keeps (· = 0x528) g (g.refusalRecord b rsn g.psTo false).2 := (Gov.Keeps.refl g).refusalRecord _ _ _ _ (by omega)
  show ((g.refusalRecord b rsn g.psTo false).2.inc F.PS_CNT_REFUSE_COUNT).get F.PS_CNT_REFUSE_COUNT = _
  rw [Gov.get_inc32 _ _ (by decide), record.get rfl]

/-- The entry is aborted and waits for the berths' answers to the code of the present state. -/
def Gov.Aborted (g h : Gov) : Prop :=
  h.pwr.step = 9 ∧ h.pwr.psReq = g.state ∧ h.get F.PS_STAT_PHASE = 5 ∧ h.get F.PS_STAT_RESULT = 2 ∧ h.flag F.PS_STAT_BUSY = g.flag F.PS_STAT_BUSY ∧
    h.get F.PS_CNT_ABORT_COUNT = usat 32 (g.get F.PS_CNT_ABORT_COUNT + 1) ∧ h.flag F.GOV_IRQ_SRC_PS = true

/-- An abort's result, phase, count and interrupt. -/
def Gov.countAbort (g : Gov) : Gov := (((g.inc F.PS_CNT_ABORT_COUNT).set F.PS_STAT_RESULT 2).set F.PS_STAT_PHASE 5).mark F.GOV_IRQ_SRC_PS

theorem Gov.countAbort_get (g : Gov) {f : Fld} (apart : [F.PS_CNT_ABORT_COUNT, F.PS_STAT_RESULT, F.PS_STAT_PHASE, F.GOV_IRQ_SRC_PS].all f.apart = true) : g.countAbort.get f = g.get f := by
  simp only [List.all_cons, List.all_nil, Bool.and_true, Bool.and_eq_true] at apart
  obtain ⟨count, result, phase, irq⟩ := apart
  unfold Gov.countAbort
  rw [Gov.mark_eq, Gov.get_set_apart _ _ irq, Gov.get_set_apart _ _ phase, Gov.get_set_apart _ _ result, Gov.inc_eq, Gov.get_set_apart _ _ count]

theorem Gov.countAbort_phase (g : Gov) : g.countAbort.get F.PS_STAT_PHASE = 5 := by
  unfold Gov.countAbort
  rw [Gov.mark_eq, Gov.get_set_apart _ _ (by decide), Gov.get_set_self _ _ (by decide)]; rfl

theorem Gov.countAbort_result (g : Gov) : g.countAbort.get F.PS_STAT_RESULT = 2 := by
  unfold Gov.countAbort
  rw [Gov.mark_eq, Gov.get_set_apart _ _ (by decide), Gov.get_set_apart _ _ (by decide), Gov.get_set_self _ _ (by decide)]; rfl

theorem Gov.countAbort_count (g : Gov) : g.countAbort.get F.PS_CNT_ABORT_COUNT = usat 32 (g.get F.PS_CNT_ABORT_COUNT + 1) := by
  unfold Gov.countAbort
  rw [Gov.mark_eq, Gov.get_set_apart _ _ (by decide), Gov.get_set_apart _ _ (by decide), Gov.get_set_apart _ _ (by decide), Gov.get_inc32 _ _ (by decide)]

theorem Gov.countAbort_irq (g : Gov) : g.countAbort.flag F.GOV_IRQ_SRC_PS = true := Gov.flag_set_self _ _ (by decide)

theorem Gov.psStep_psReq (g : Gov) (n : Nat) : (g.psStep n).pwr.psReq = g.pwr.psReq := rfl

/-- What follows the counting of an abort leaves its words, and the berths, alone. -/
abbrev abortWord (o : Nat) : Prop := o = 0x30 ∨ o = 0x504 ∨ o = 0x524 ∨ o = 0x528 ∨ (0x20000 ≤ o ∧ o ≠ 0x50078 ∧ o ≠ 0x5007C)

/-- The refusals of an abort, recorded one after another: the records' words and the state. -/
def Gov.refuseAll (g : Gov) (rs : List (Nat × Nat)) : List Nat × Gov :=
  rs.foldl (fun (acc : List Nat × Gov) p => ((acc.1 ++ [(acc.2.refusal p.1 p.2).1]), (acc.2.refusal p.1 p.2).2)) ([], g.countHold)

theorem Gov.refuseAll_keeps (g : Gov) (rs : List (Nat × Nat)) : Gov.Keeps (fun o => abortWord o ∧ o ≠ 0x528) g (g.refuseAll rs).2 :=
  Gov.Keeps.refusals rs (.ite ((Gov.Keeps.refl g).set _ _ (by decide)) (.refl g)) fun o ho => by omega

theorem Gov.refuseAll_count (g : Gov) (c rsn : Nat) : (g.refuseAll [(c, rsn)]).2.get F.PS_CNT_REFUSE_COUNT = usat 32 (g.get F.PS_CNT_REFUSE_COUNT + 1) := by
  have held : Gov.Keeps (· = 0x528) g g.countHold := .ite ((Gov.Keeps.refl g).set _ _ (by decide)) (.refl g)
  exact (g.countHold.refusal_count c rsn).trans (by rw [held.get rfl])

/-- With a berth to ask, an abort records the refusals, counts itself and drives the present state's code; then it waits. -/
theorem Gov.abortEntry_waits (g : Gov) (rs : List (Nat × Nat)) {b : Nat} (hb : b < 256) (present : g.present b = true) (free : g.quar b = false) :
    Gov.Keeps abortWord (g.refuseAll rs).2.countAbort (g.abortEntry rs) ∧ (g.abortEntry rs).pwr.step = 9 ∧ (g.abortEntry rs).pwr.psReq = g.state := by
  unfold Gov.abortEntry
  extract_lets res counted latched _ answered reverted
  have latches : Gov.Keeps abortWord counted latched := .ite (.refl _) ((Gov.Keeps.refl _).set _ _ (by decide))
  have answers : Gov.Keeps abortWord counted answered := (latches.withPwr _).answerPs _ (by rw [List.length_take]; omega) fun o ho => by omega
  have recorded : Gov.Keeps (fun o => abortWord o ∧ o ≠ 0x528) g res.2 := g.refuseAll_keeps rs
  have counts : Gov.Keeps (0x20000 ≤ ·) res.2 counted := ((((Gov.Keeps.refl res.2).set _ _ (by decide)).set _ _ (by decide)).set _ _ (by decide)).set _ _ (by decide)
  have same : Gov.Keeps (fun o => 0x20000 ≤ o ∧ o ≠ 0x50078 ∧ o ≠ 0x5007C) g answered :=
    ((recorded.mono fun o ho => by omega).trans (counts.mono fun o ho => by omega)).trans (answers.mono fun o ho => by omega)
  have waits : ¬ reverted.allAccepted = true := fun all => by
    have quarantined := (answered.allAccepted_drive answered.state 9).1 all b hb ((same.present (by omega)).trans present)
    rw [same.quar (by omega), free] at quarantined
    exact absurd quarantined (by decide)
  have state : answered.state = g.state := by
    have before : counted.get F.PS_STAT_STATE = res.2.get F.PS_STAT_STATE := res.2.countAbort_get (by decide)
    exact (answers.get (f := F.PS_STAT_STATE) (by decide)).trans (before.trans (recorded.get (by decide)))
  rw [if_neg waits]
  refine ⟨(answers.drive _).psStep 9, rfl, ?_⟩
  rw [show reverted = (answered.drive answered.state).psStep 9 from rfl, Gov.psStep_psReq, (answered.drive_pwr answered.state).1, state]

theorem Gov.abortEntry_aborted (g : Gov) (rs : List (Nat × Nat)) {b : Nat} (hb : b < 256) (present : g.present b = true) (free : g.quar b = false) : g.Aborted (g.abortEntry rs) := by
  obtain ⟨after, step, code⟩ := g.abortEntry_waits rs hb present free
  have recorded := g.refuseAll_keeps rs
  refine ⟨step, code, ?_, ?_, ?_, ?_, ?_⟩
  · rw [after.get (by decide), Gov.countAbort_phase]
  · rw [after.get (by decide), Gov.countAbort_result]
  · rw [Gov.flag, Gov.flag, after.get (by decide), Gov.countAbort_get _ (by decide), recorded.get (by decide)]
  · rw [after.get (by decide), Gov.countAbort_count, recorded.get (by decide)]
  · rw [after.flag (by decide), Gov.countAbort_irq]

/-- An abort for one refusal counts it. -/
theorem Gov.abortEntry_refused (g : Gov) (c rsn : Nat) {b : Nat} (hb : b < 256) (present : g.present b = true) (free : g.quar b = false) :
    (g.abortEntry [(c, rsn)]).get F.PS_CNT_REFUSE_COUNT = usat 32 (g.get F.PS_CNT_REFUSE_COUNT + 1) := by
  rw [(g.abortEntry_waits [(c, rsn)] hb present free).1.get (by decide), Gov.countAbort_get _ (by decide), g.refuseAll_count]

/-! ### The berths' answers (R45 to R47, R294) -/

/-- A berth's pins take new levels. -/
def Gov.takePins (g : Gov) (b : Nat) (ack nak hold : Bool) (rsn : Nat) : Gov :=
  g.setAns b fun x => { x with ack := ack, nak := nak, hold := hold, rsn := rsn, wasLow := x.wasLow || !ack }

/-- A berth's levels are judged as its answer; a hold is marked. -/
def Gov.judge (g : Gov) (b : Nat) (hold : Bool) : Gov :=
  let g := g.setAns b fun x => { judgeAnswer x with held := x.held || (hold && g.pwr.step == 1) }
  if hold ∧ g.pwr.step = 1 then g.mark F.PS_STAT_HELD else g

/-- The berths that a handshake asks are the same, and so is the rest of the window but for HELD. -/
structure Gov.SameAsked (g h : Gov) : Prop where
  asked : h.asked = g.asked
  keeps : Gov.Keeps (· ≠ 0x504) g h
  only : g.onlyFields h [F.PS_STAT_HELD]

theorem Gov.SameAsked.setAns (g : Gov) (b : Nat) (f : BerthAns → BerthAns) (skip : ∀ x, (f x).skip = x.skip) : g.SameAsked (g.setAns b f) where
  asked := by
    unfold Gov.asked
    refine List.filter_congr fun c _ => ?_
    rw [Gov.ans_setAns]
    split
    · next e => rw [skip, e]; rfl
    · rfl
  keeps := (Gov.Keeps.refl g).setAns b f
  only _ _ := rfl

theorem Gov.SameAsked.trans {g h k : Gov} (a : g.SameAsked h) (b : h.SameAsked k) : g.SameAsked k := ⟨b.asked.trans a.asked, a.keeps.trans b.keeps, Gov.onlyFields_trans a.only b.only⟩

theorem Gov.SameAsked.markHeld (g : Gov) : g.SameAsked (g.mark F.PS_STAT_HELD) where
  asked := by
    have keeps : Gov.Keeps (· ≠ 0x504) g (g.mark F.PS_STAT_HELD) := (Gov.Keeps.refl g).set _ _ (by decide)
    have present : (g.mark F.PS_STAT_HELD).present = g.present := funext fun b => keeps.present (by omega)
    have quar : (g.mark F.PS_STAT_HELD).quar = g.quar := funext fun b => keeps.quar (by omega)
    unfold Gov.asked Gov.berths
    rw [present, quar]
    rfl
  keeps := (Gov.Keeps.refl g).set _ _ (by decide)
  only := Gov.onlyFields_set 1 (Gov.onlyFields_refl g _) (by simp)

theorem Gov.SameAsked.takePins (g : Gov) (b : Nat) (ack nak hold : Bool) (rsn : Nat) : g.SameAsked (g.takePins b ack nak hold rsn) := .setAns g b _ fun _ => rfl

theorem judgeAnswer_skip (x : BerthAns) : (judgeAnswer x).skip = x.skip := by
  unfold judgeAnswer
  split_ifs <;> rfl

theorem Gov.SameAsked.judge (g : Gov) (b : Nat) (hold : Bool) : g.SameAsked (g.judge b hold) := by
  have judged := Gov.SameAsked.setAns g b (fun x => { judgeAnswer x with held := x.held || (hold && g.pwr.step == 1) }) judgeAnswer_skip
  unfold Gov.judge
  dsimp only
  split
  · exact judged.trans (.markHeld _)
  · exact judged

theorem Gov.judge_ans (g : Gov) (b c : Nat) (hold : Bool) : ((g.judge b hold).ans c).answer = if c = b then (judgeAnswer (g.ans b)).answer else (g.ans c).answer := by
  have judged := g.ans_setAns b c fun x => { judgeAnswer x with held := x.held || (hold && g.pwr.step == 1) }
  have marked : ∀ h : Gov, (h.mark F.PS_STAT_HELD).ans c = h.ans c := fun _ => rfl
  unfold Gov.judge
  dsimp only
  split
  · rw [marked, judged]; split <;> rfl
  · rw [judged]; split <;> rfl

theorem Gov.judge_step (g : Gov) (b : Nat) (hold : Bool) : (g.judge b hold).pwr.step = g.pwr.step := by
  unfold Gov.judge
  dsimp only
  split <;> rfl

theorem Gov.judge_held (g : Gov) (b : Nat) (step : g.pwr.step = 1) : (g.judge b true).flag F.PS_STAT_HELD = true := by
  have marks : true = true ∧ (g.setAns b fun x => { judgeAnswer x with held := x.held || (true && g.pwr.step == 1) }).pwr.step = 1 := ⟨rfl, step⟩
  unfold Gov.judge
  dsimp only
  rw [if_pos marks]
  exact Gov.flag_set_self _ _ (by decide)

/-- What a berth's answer that is due comes to, judged and weighed. -/
theorem psAnswer_next {b : Fin 256} {ack nak hold : Bool} {rsn : BitVec 4} {t : Fin 250} {s : State} (up : s.gov.up = true) (asking : (s.gov.reach t).asking = true)
    (asked : b.val ∈ (s.gov.reach t).asked) (late : (s.gov.reach t).now ≠ (s.gov.reach t).pwr.reqAt) :
    exec (.psAnswer b ack nak hold rsn t) s = .next { s with gov := (((s.gov.reach t).takePins b ack nak hold rsn.toNat).judge b hold).weigh } := by
  have present : (s.gov.reach t).present b = true := ((Gov.mem_berths _ _).1 (List.mem_of_mem_filter asked)).2
  have pins := (Gov.SameAsked.takePins (s.gov.reach t) b ack nak hold rsn.toNat).asked
  have here : ¬ (!s.gov.up ∨ !(s.gov.reach t).present b) := by simp [up, present]
  have due : ¬ (!((s.gov.reach t).takePins b ack nak hold rsn.toNat).asking ∨ !((s.gov.reach t).takePins b ack nak hold rsn.toNat).asked.contains b.val) := by
    rw [pins]
    simpa using ⟨asking, asked⟩
  exact nextGov ((if_neg here).trans ((if_neg due).trans (if_neg late)))

/-- Without a refusal the asking goes on while a berth has not accepted, and else the entry is committed. -/
theorem Gov.weigh_asking {g : Gov} (step : g.pwr.step = 1) (none : g.refusalsSeen = []) : g.weigh = if g.allAccepted then g.commitEntry else g := by
  unfold Gov.weigh
  simp [step, none]

theorem Gov.weigh_refused {g : Gov} (step : g.pwr.step = 1) (some : g.refusalsSeen ≠ []) : g.weigh = g.abortEntry g.refusalsSeen := by
  unfold Gov.weigh
  simp [step, some]

theorem Gov.refusalsSeen_none {g : Gov} (quiet : ∀ c ∈ g.asked, (g.ans c).answer = none ∨ (g.ans c).answer = some none) : g.refusalsSeen = [] := by
  refine List.filterMap_eq_nil_iff.2 fun c hc => ?_
  rcases quiet c hc with e | e <;> rw [e] <;> rfl

theorem Gov.asked_nodup (g : Gov) : g.asked.Nodup := (List.nodup_range.filter _).filter _

/-- The only refusal seen is that of the one berth that refuses. -/
theorem Gov.refusalsSeen_one {g : Gov} {b rsn : Nat} (asked : b ∈ g.asked) (refuses : (g.ans b).answer = some (some rsn)) (quiet : ∀ c ∈ g.asked, c ≠ b → (g.ans c).answer = none ∨ (g.ans c).answer = some none) :
    g.refusalsSeen = [(b, rsn)] := by
  have nd := g.asked_nodup
  unfold Gov.refusalsSeen
  obtain ⟨ys, zs, e⟩ := List.append_of_mem asked
  rw [e] at nd quiet ⊢
  have silent : ∀ l : List Nat, (∀ c ∈ l, c ∈ ys ++ b :: zs ∧ c ≠ b) → (l.filterMap fun c => ((g.ans c).answer.getD none).map fun rsn => (c, rsn)) = [] := fun l hl =>
    List.filterMap_eq_nil_iff.2 fun c hc => by rcases quiet c (hl c hc).1 (hl c hc).2 with e | e <;> rw [e] <;> rfl
  have left : ∀ c ∈ ys, c ≠ b := fun c hc eq => (List.nodup_append.1 nd).2.2 c hc b (by simp) eq
  have right : ∀ c ∈ zs, c ≠ b := fun c hc eq => (List.nodup_cons.1 (List.nodup_append.1 nd).2.1).1 (eq ▸ hc)
  rw [List.filterMap_append, List.filterMap_cons, silent ys fun c hc => ⟨by simp [hc], left c hc⟩, silent zs fun c hc => ⟨by simp [hc], right c hc⟩, refuses]
  rfl

/-- The commit of an entry: step 2, and phase 2 but for IDLE. -/
theorem Gov.commitEntry_step (g : Gov) : g.commitEntry.pwr.step = 2 ∧ (g.psTo ≠ stIdle → g.commitEntry.get F.PS_STAT_PHASE = 2) := by
  unfold Gov.commitEntry
  extract_lets dst block _ latched stopped purged
  refine ⟨rfl, fun busy => ?_⟩
  have base : stopped = (latched.set F.PS_STAT_PHASE 2).each (List.range 8) Gov.abortShed := if_neg busy
  have sheds : (latched.set F.PS_STAT_PHASE 2).samePower stopped := by
    rw [base]
    exact (Gov.samePower.refl _).each _ fun _ r _ a => a.abortShed r
  have purges : (latched.set F.PS_STAT_PHASE 2).samePower purged := .ite sheds.purgeAll sheds
  have phase : (latched.set F.PS_STAT_PHASE 2).get F.PS_STAT_PHASE = 2 := Gov.get_set_self _ _ (by decide)
  rw [Gov.psStep_get, Gov.answerPs_get _ _ (by decide) (by decide) (by decide), purges.get F.PS_STAT_PHASE, phase]

/-! ### T_HOLD (R295, R296) -/

/-- T_HOLD is over for the asked berths: one without an answer refuses with reason 6. -/
def Gov.timeOut (g : Gov) : Gov := g.each g.asked fun g b => g.setAns b fun x => if x.answer.isNone then { x with answer := some (some 6) } else x

theorem Gov.SameAsked.timeOut (g : Gov) : g.SameAsked g.timeOut :=
  Gov.each_keeps (P := g.SameAsked) (fun _ _ a => a.trans (.setAns _ _ _ fun x => by split <;> rfl)) _ _ ⟨rfl, .refl g, g.onlyFields_refl _⟩

theorem Gov.timeOut_ans {g : Gov} {b : Nat} (asked : b ∈ g.asked) (silent : (g.ans b).answer = none) : (g.timeOut.ans b).answer = some (some 6) := by
  obtain ⟨k, same, e⟩ := Gov.each_at (f := fun g b => g.setAns b fun x => if x.answer.isNone then { x with answer := some (some 6) } else x) g.asked_nodup asked g (fun h => h.ans b) (fun h => h.ans b)
    (fun _ _ _ ne => (Gov.ans_setAns _ _ _ _).trans (if_neg ne.symm)) (fun _ _ _ ne => (Gov.ans_setAns _ _ _ _).trans (if_neg ne.symm))
  unfold Gov.timeOut
  rw [e, Gov.ans_setAns, if_pos rfl, same, silent]
  rfl

theorem Gov.timeOut_step (g : Gov) : g.timeOut.pwr.step = g.pwr.step :=
  Gov.each_same (f := fun g b => g.setAns b fun x => if x.answer.isNone then { x with answer := some (some 6) } else x) (fun h => h.pwr.step) (fun _ _ => rfl) _ _

/-- A berth that does not acknowledge a code: its record, EXIT_FAULT and source 280. -/
def Gov.exitFault (target : Gov → Nat) (g : Gov) (b : Nat) : Gov :=
  ((g.refusalRecord b (((g.ans b).answer.getD none).getD 6) (target g) true).2.mark F.PS_WAKE_STAT_EXIT_FAULT).raise 280 b

/-- What the faults of an exit leave alone of the sequencer's words. -/
abbrev exitWord (o : Nat) : Prop := 0x500 ≤ o ∧ o < 0x700 ∧ o ≠ 0x514 ∧ o ≠ 0x534

theorem Gov.exitFault_get (target : Gov → Nat) (g : Gov) (b : Nat) {f : Fld} (hf : exitWord f.off ∨ f = F.PS_WAKE_STAT_LATCH) : (g.exitFault target b).get f = g.get f := by
  have low : 0x500 ≤ f.off ∧ f.off < 0x700 ∧ f.off ≠ 0x534 := by
    rcases hf with hf | rfl
    · omega
    · decide
  have apart : f.apart F.PS_WAKE_STAT_EXIT_FAULT = true := by
    rcases hf with ⟨_, _, ne, _⟩ | rfl
    · simp [Fld.apart, F.PS_WAKE_STAT_EXIT_FAULT, ne]
    · decide
  have record : Gov.Keeps (fun o => 0x500 ≤ o ∧ o < 0x700 ∧ o ≠ 0x534) g (g.refusalRecord b (((g.ans b).answer.getD none).getD 6) (target g) true).2 := (Gov.Keeps.refl g).refusalRecord _ _ _ _ fun o ho => by omega
  have raised := ((Gov.samePower.refl ((g.refusalRecord b (((g.ans b).answer.getD none).getD 6) (target g) true).2.mark F.PS_WAKE_STAT_EXIT_FAULT)).raise 280 b).2 f (by omega) (by omega)
  exact raised.trans ((Gov.get_set_apart _ _ apart).trans (record.get low))

theorem Gov.exitFault_asleep (target : Gov → Nat) (g : Gov) (b : Nat) : (g.exitFault target b).asleep = g.asleep := Gov.asleep_of_get (g.exitFault_get target b (.inl (by decide)))

/-- A fault of an exit sets EXIT_FAULT and the bit of source 280. -/
theorem Gov.exitFault_flags (target : Gov → Nat) {g : Gov} (b : Nat) (awake : g.asleep = false) :
    (g.exitFault target b).flag F.PS_WAKE_STAT_EXIT_FAULT = true ∧ (g.exitFault target b).flag (F.FLT_STATUS_bit 280) = true := by
  unfold Gov.exitFault
  generalize e : (g.refusalRecord b (((g.ans b).answer.getD none).getD 6) (target g) true).2.mark F.PS_WAKE_STAT_EXIT_FAULT = marked
  have record : Gov.Keeps (· = 0x504) g (g.refusalRecord b (((g.ans b).answer.getD none).getD 6) (target g) true).2 := (Gov.Keeps.refl g).refusalRecord _ _ _ _ fun o ho => by omega
  have still : marked.asleep = false := by
    rw [← e, ← awake]
    exact Gov.asleep_of_get ((Gov.get_set_apart _ _ (by decide)).trans (record.get rfl))
  have fault : marked.flag F.PS_WAKE_STAT_EXIT_FAULT = true := by
    rw [← e]
    exact Gov.flag_set_self _ _ (by decide)
  exact ⟨(((Gov.samePower.refl marked).raise 280 b).flag F.PS_WAKE_STAT_EXIT_FAULT).trans fault, marked.raise_flag 280 b false still (.inl (by decide))⟩

theorem Gov.each_concat {α : Type} (g : Gov) (f : Gov → α → Gov) (xs : List α) (x : α) : g.each (xs ++ [x]) f = f (g.each xs f) x := by
  rw [Gov.each_append]; rfl

/-- The faults of the berths that did not acknowledge leave the transition's words alone. -/
theorem Gov.exitFaults_get (target : Gov → Nat) (g : Gov) (bad : List Nat) {f : Fld} (hf : exitWord f.off ∨ f = F.PS_WAKE_STAT_LATCH) : (g.each bad (Gov.exitFault target)).get f = g.get f :=
  Gov.each_same (f := Gov.exitFault target) (fun h => h.get f) (fun h b => h.exitFault_get target b hf) _ _

theorem Gov.exitFaults_flags (target : Gov → Nat) {g : Gov} (awake : g.asleep = false) {bad : List Nat} (some : bad ≠ []) :
    (g.each bad (Gov.exitFault target)).flag F.PS_WAKE_STAT_EXIT_FAULT = true ∧ (g.each bad (Gov.exitFault target)).flag (F.FLT_STATUS_bit 280) = true := by
  obtain ⟨first, last, e⟩ := bad.eq_nil_or_concat'.resolve_left some
  have before : (g.each first (Gov.exitFault target)).asleep = false := (Gov.each_same (f := Gov.exitFault target) Gov.asleep (fun h b => h.exitFault_asleep target b) _ _).trans awake
  rw [e, Gov.each_concat]
  exact Gov.exitFault_flags target last before

/-- An acknowledged reverted code ends the transition; without a wake to replay it leaves the state as it is. -/
theorem Gov.endRevert_rest {g : Gov} (rest : g.state ≠ stIdle ∨ g.get F.PS_WAKE_STAT_LATCH = 0) :
    g.endRevert = ((((g.psStep 0).set F.PS_STAT_TO 0).set F.PS_STAT_BUSY 0).set F.PS_STAT_PHASE 0).set F.PS_WAKE_STAT_LATCH 0 := by
  unfold Gov.endRevert
  refine if_neg fun ⟨idle, latch⟩ => ?_
  rw [Gov.get_set_apart _ _ (by decide), Gov.get_set_apart _ _ (by decide), Gov.get_set_apart _ _ (by decide)] at latch
  rw [Gov.state, Gov.get_set_apart _ _ (by decide), Gov.get_set_apart _ _ (by decide), Gov.get_set_apart _ _ (by decide)] at idle
  rcases rest with h | h
  · exact h idle
  · exact latch h

/-- The transition is over: the sequencer rests, BUSY and PHASE are 0. -/
def Gov.AtRest (g : Gov) : Prop := g.pwr.step = 0 ∧ g.flag F.PS_STAT_BUSY = false ∧ g.get F.PS_STAT_PHASE = 0

theorem Gov.endRevert_atRest {g : Gov} (rest : g.state ≠ stIdle ∨ g.get F.PS_WAKE_STAT_LATCH = 0) : g.endRevert.AtRest ∧ ∀ f : Fld, (f = F.PS_WAKE_STAT_EXIT_FAULT ∨ f = F.FLT_STATUS_bit 280) → g.endRevert.flag f = g.flag f := by
  rw [Gov.endRevert_rest rest]
  refine ⟨⟨?_, ?_, ?_⟩, fun f hf => ?_⟩
  · rw [Gov.set_pwr, Gov.set_pwr, Gov.set_pwr, Gov.set_pwr]; rfl
  · rw [Gov.flag, Gov.get_set_apart _ _ (by decide), Gov.get_set_apart _ _ (by decide), Gov.get_set_self _ _ (by decide)]; rfl
  · rw [Gov.get_set_apart _ _ (by decide), Gov.get_set_self _ _ (by decide)]; rfl
  · have same : ((((((g.psStep 0).set F.PS_STAT_TO 0).set F.PS_STAT_BUSY 0).set F.PS_STAT_PHASE 0).set F.PS_WAKE_STAT_LATCH 0)).get f = g.get f := by
      rcases hf with rfl | rfl
      all_goals rw [Gov.get_set_apart _ _ (by decide), Gov.get_set_apart _ _ (by decide), Gov.get_set_apart _ _ (by decide), Gov.get_set_apart _ _ (by decide), Gov.psStep_get]
    exact congrArg (fun n => n != 0) same

/-- What the end of an exit writes before its event fires. -/
def Gov.exitEnded (g : Gov) : Gov := (((((g.psStep 0).set F.PS_STAT_STATE 0).set F.PS_STAT_BUSY 0).set F.PS_STAT_PHASE 0).mark F.GOV_IRQ_SRC_PS).inc F.PS_CNT_WAKE_COUNT

theorem Gov.endExit_get (g : Gov) {f : Fld} (hf : f.off < 0x1000 ∨ 0x4000 ≤ f.off) : g.endExit.get f = g.exitEnded.get f := by
  unfold Gov.endExit Gov.exitEnded
  rw [Gov.takeUp_get, Gov.fire_get_outside _ _ (by omega), Gov.withPwr_get]

theorem Gov.endExit_atRest (g : Gov) : g.endExit.AtRest := by
  refine ⟨by rw [g.endExit_run.2], ?_, ?_⟩
  · rw [Gov.flag, g.endExit_get (by decide), Gov.exitEnded, Gov.inc_eq, Gov.get_set_apart _ _ (by decide), Gov.mark_eq, Gov.get_set_apart _ _ (by decide), Gov.get_set_apart _ _ (by decide), Gov.get_set_self _ _ (by decide)]; rfl
  · rw [g.endExit_get (by decide), Gov.exitEnded, Gov.inc_eq, Gov.get_set_apart _ _ (by decide), Gov.mark_eq, Gov.get_set_apart _ _ (by decide), Gov.get_set_self _ _ (by decide)]; rfl

theorem Gov.endExit_count (g : Gov) : g.endExit.get F.PS_CNT_WAKE_COUNT = usat 32 (g.get F.PS_CNT_WAKE_COUNT + 1) := by
  rw [g.endExit_get (by decide), Gov.exitEnded, Gov.get_inc32 _ _ (by decide), Gov.mark_eq, Gov.get_set_apart _ _ (by decide), Gov.get_set_apart _ _ (by decide), Gov.get_set_apart _ _ (by decide), Gov.get_set_apart _ _ (by decide), Gov.psStep_get]

theorem Gov.endExit_flag (g : Gov) {f : Fld} (hf : f = F.PS_WAKE_STAT_EXIT_FAULT ∨ f = F.FLT_STATUS_bit 280) : g.endExit.flag f = g.flag f := by
  have same : g.endExit.get f = g.get f := by
    rcases hf with rfl | rfl
    all_goals
      rw [g.endExit_get (by decide), Gov.exitEnded, Gov.inc_eq, Gov.get_set_apart _ _ (by decide), Gov.mark_eq, Gov.get_set_apart _ _ (by decide), Gov.get_set_apart _ _ (by decide), Gov.get_set_apart _ _ (by decide), Gov.get_set_apart _ _ (by decide), Gov.psStep_get]
  exact congrArg (fun n => n != 0) same

/-- A handshake's answer judged: the berth that answers by its new levels, every other as before. -/
theorem Gov.judged_answer (g : Gov) (b c : Nat) (ack nak hold : Bool) (rsn : Nat) :
    (((g.takePins b ack nak hold rsn).judge b hold).ans c).answer =
      if c = b then (judgeAnswer { g.ans b with ack := ack, nak := nak, hold := hold, rsn := rsn, wasLow := (g.ans b).wasLow || !ack }).answer else (g.ans c).answer := by
  rw [Gov.judge_ans, Gov.takePins, Gov.ans_setAns, Gov.ans_setAns, if_pos rfl]
  split
  · rfl
  · rfl

theorem judgeAnswer_accept {x : BerthAns} (low : x.sawLow = true) (silent : x.answer = none) (ack : x.ack = true) (nak : x.nak = false) : (judgeAnswer x).answer = some none := by
  simp [judgeAnswer, low, silent, ack, nak]

theorem judgeAnswer_refuse {x : BerthAns} (low : x.sawLow = true) (silent : x.answer = none) (ack : x.ack = false) (nak : x.nak = true) : (judgeAnswer x).answer = some (some (if x.rsn = 6 then 7 else x.rsn)) := by
  simp [judgeAnswer, low, silent, ack, nak]

theorem Gov.SameAsked.get {g h : Gov} (a : g.SameAsked h) (f : Fld) (apart : [F.PS_STAT_HELD].all f.apart = true := by decide) : h.get f = g.get f := a.only f apart

/-- An entry aborted with the same berths asked is aborted for the state before. -/
theorem Gov.SameAsked.aborted {g h : Gov} (a : g.SameAsked h) (rs : List (Nat × Nat)) {b : Nat} (asked : b ∈ g.asked) : g.Aborted (h.abortEntry rs) := by
  obtain ⟨member, free⟩ := List.mem_filter.1 (a.asked ▸ asked)
  obtain ⟨low, present⟩ := (Gov.mem_berths _ _).1 member
  have quar : h.quar b = false := by simpa using (Bool.and_eq_true_iff.1 free).1
  obtain ⟨step, code, phase, result, busy, count, irq⟩ := h.abortEntry_aborted rs low present quar
  refine ⟨step, code.trans (a.get F.PS_STAT_STATE), phase, result, busy.trans ?_, ?_, irq⟩
  · rw [Gov.flag, Gov.flag, a.get F.PS_STAT_BUSY]
  · rw [count, a.get F.PS_CNT_ABORT_COUNT]

/-- The refusal that aborts the entry is counted. -/
theorem Gov.SameAsked.refused {g h : Gov} (a : g.SameAsked h) (c rsn : Nat) {b : Nat} (asked : b ∈ g.asked) :
    (h.abortEntry [(c, rsn)]).get F.PS_CNT_REFUSE_COUNT = usat 32 (g.get F.PS_CNT_REFUSE_COUNT + 1) := by
  obtain ⟨member, free⟩ := List.mem_filter.1 (a.asked ▸ asked)
  obtain ⟨low, present⟩ := (Gov.mem_berths _ _).1 member
  have quar : h.quar b = false := by simpa using (Bool.and_eq_true_iff.1 free).1
  rw [h.abortEntry_refused c rsn low present quar, a.get F.PS_CNT_REFUSE_COUNT]

/-- T_HOLD runs out in an entry with a berth outstanding: the entry is aborted. -/
theorem Gov.timeOut_aborted {g : Gov} {b : Nat} (step : g.pwr.step = 1) (asked : b ∈ g.asked) (silent : (g.ans b).answer = none) : g.Aborted g.timeOut.weigh := by
  have same := Gov.SameAsked.timeOut g
  have seen : g.timeOut.refusalsSeen ≠ [] := by
    refine List.ne_nil_of_mem (a := (b, 6)) (List.mem_filterMap.2 ⟨b, same.asked ▸ asked, ?_⟩)
    rw [Gov.timeOut_ans asked silent]; rfl
  rw [Gov.weigh_refused (g.timeOut_step.trans step) seen]
  exact same.aborted _ asked

/-- The asked berths that have not accepted the code. -/
def Gov.unacknowledged (g : Gov) : List Nat := g.asked.filter fun b => (g.ans b).answer != some none

/-- T_HOLD is over for a reverted or an exit's code: the faults of the berths that have not accepted it. -/
def Gov.faultLate (g : Gov) : Gov := g.each g.unacknowledged (Gov.exitFault fun h => if g.pwr.step == 9 then h.psTo else 0)

theorem Gov.faultLate_get (g : Gov) {f : Fld} (hf : exitWord f.off ∨ f = F.PS_WAKE_STAT_LATCH) : g.faultLate.get f = g.get f := Gov.exitFaults_get _ _ _ hf

theorem Gov.faultLate_flags {g : Gov} (awake : g.asleep = false) (late : ∃ c ∈ g.asked, ¬ (g.ans c).answer = some none) :
    g.faultLate.flag F.PS_WAKE_STAT_EXIT_FAULT = true ∧ g.faultLate.flag (F.FLT_STATUS_bit 280) = true := by
  obtain ⟨c, asked, silent⟩ := late
  exact Gov.exitFaults_flags _ awake (List.ne_nil_of_mem (List.mem_filter.2 ⟨asked, by simpa using silent⟩))

/-- After the faults the revert or the exit ends all the same. -/
def Gov.ackTimeout (g : Gov) : Gov := if g.pwr.step == 9 then g.faultLate.endRevert else g.faultLate.endExit

theorem Gov.ackTimeout_revert {g : Gov} (revert : g.pwr.step = 9) (rest : g.state ≠ stIdle ∨ g.get F.PS_WAKE_STAT_LATCH = 0) :
    g.ackTimeout.AtRest ∧ ∀ f : Fld, (f = F.PS_WAKE_STAT_EXIT_FAULT ∨ f = F.FLT_STATUS_bit 280) → g.ackTimeout.flag f = g.faultLate.flag f := by
  have ends : g.ackTimeout = g.faultLate.endRevert := if_pos (by simp [revert])
  rw [ends]
  exact Gov.endRevert_atRest (rest.imp (fun ne e => ne ((g.faultLate_get (f := F.PS_STAT_STATE) (.inl (by decide))).symm.trans e)) fun e => (g.faultLate_get (.inr rfl)).trans e)

theorem Gov.ackTimeout_exit {g : Gov} (leaves : g.pwr.step = 13) : g.ackTimeout = g.faultLate.endExit := if_neg (by simp [leaves])

end Sys2Proof.Machine

open Sys2Proof Sys2Proof.Machine

/-- Settles O30: a berth's answer is judged and weighed; `abortEntry_aborted`, `commitEntry_step` and the ends of a revert and of an exit tell what the weighing brings about. -/
theorem handshakeAnswers : Obligations.HandshakeAnswers := by
  intro t s g0 up aborted accepted
  refine ⟨fun b ack nak hold rsn present quiet => ?_, fun b rsn step asked late low silent others => ?_, fun step due waiting => ?_, fun awake due phase rest => ?_⟩
  · have here : ¬ (!s.gov.up ∨ !g0.present b) := by simp [up, present]
    have idle : !(g0.takePins b ack nak hold rsn.toNat).asking ∨ !(g0.takePins b ack nak hold rsn.toNat).asked.contains b.val := .inl (by rw [Bool.not_eq_true']; exact quiet)
    refine ⟨_, nextGov ((if_neg here).trans (if_pos idle)), (Gov.ans_setAns _ _ _ _).trans (if_pos rfl), fun _ _ => rfl, fun c ne => (Gov.ans_setAns _ _ _ _).trans (if_neg ne)⟩
  · have asking : g0.asking = true := by simp [Gov.asking, step]
    have same : ∀ ack nak hold, g0.SameAsked ((g0.takePins b ack nak hold rsn.toNat).judge b hold) := fun ack nak hold => (Gov.SameAsked.takePins g0 b ack nak hold rsn.toNat).trans (.judge _ b hold)
    have still : ∀ ack nak hold, ((g0.takePins b ack nak hold rsn.toNat).judge b hold).pwr.step = 1 := fun ack nak hold => (Gov.judge_step _ _ _).trans step
    have accepts : ∀ hold, (((g0.takePins b true false hold rsn.toNat).judge b hold).ans b).answer = some none := fun hold => by
      rw [Gov.judged_answer, if_pos rfl]
      exact judgeAnswer_accept low silent rfl rfl
    have unseen : ∀ hold, ((g0.takePins b true false hold rsn.toNat).judge b hold).refusalsSeen = [] := fun hold => Gov.refusalsSeen_none fun c hc => by
      by_cases eq : c = b
      · exact .inr (eq ▸ accepts hold)
      · rw [Gov.judged_answer, if_neg eq]
        exact others c ((same true false hold).asked ▸ hc)
    refine ⟨fun ⟨c, askedC, ne, waits⟩ hold => ⟨_, psAnswer_next up asking asked late, ?_⟩, fun rest hold => ⟨_, psAnswer_next up asking asked late, ?_⟩, fun hold => ⟨_, psAnswer_next up asking asked late, ?_⟩⟩
    · have outstanding : ¬ ((g0.takePins b true false hold rsn.toNat).judge b hold).allAccepted = true := fun all => by
        have answer := List.all_eq_true.1 all c ((same true false hold).asked ▸ askedC)
        rw [Gov.judged_answer, if_neg ne, waits] at answer
        exact absurd answer (by decide)
      have weighed := (Gov.weigh_asking (still true false hold) (unseen hold)).trans (if_neg outstanding)
      show ((Gov.weigh _).ans b).answer = _ ∧ _
      rw [weighed]
      exact ⟨accepts hold, still true false hold, (same true false hold).only, fun h => by subst h; exact Gov.judge_held _ _ step⟩
    · have all : ((g0.takePins b true false hold rsn.toNat).judge b hold).allAccepted = true := List.all_eq_true.2 fun c hc => by
        by_cases eq : c = b
        · rw [eq, accepts hold]; rfl
        · rw [Gov.judged_answer, if_neg eq, rest c ((same true false hold).asked ▸ hc) eq]; rfl
      have weighed := (Gov.weigh_asking (still true false hold) (unseen hold)).trans (if_pos all)
      show (Gov.weigh _).pwr.step = 2 ∧ _
      rw [weighed]
      obtain ⟨committed, phase⟩ := Gov.commitEntry_step ((g0.takePins b true false hold rsn.toNat).judge b hold)
      exact ⟨committed, fun busy => phase fun e => busy (((same true false hold).get F.PS_STAT_TO).symm.trans e)⟩
    · have refuses : (((g0.takePins b false true hold rsn.toNat).judge b hold).ans b).answer = some (some (if rsn.toNat = 6 then 7 else rsn.toNat)) := by
        rw [Gov.judged_answer, if_pos rfl]
        exact judgeAnswer_refuse low silent rfl rfl
      have seen := Gov.refusalsSeen_one ((same false true hold).asked.symm ▸ asked) refuses fun c hc ne => by
        rw [Gov.judged_answer, if_neg ne]
        exact others c ((same false true hold).asked ▸ hc)
      have weighed := (Gov.weigh_refused (still false true hold) (by rw [seen]; simp)).trans (congrArg _ seen)
      show aborted (Gov.weigh _) ∧ _
      rw [weighed]
      exact ⟨(same false true hold).aborted _ asked, (same false true hold).refused _ _ asked⟩
  · obtain ⟨c, asked, silent⟩ := waiting
    refine ⟨_, nextGov (if_pos ?_), Gov.timeOut_aborted step asked silent⟩
    simp only [up, Bool.true_and, Bool.and_eq_true, beq_iff_eq, decide_eq_true_eq]
    exact ⟨step, due⟩
  · have cond : (s.gov.up && (g0.pwr.step == 9 || g0.pwr.step == 13) && decide (g0.pwr.reqAt + g0.tHold ≤ g0.now)) = true := by
      simp only [up, Bool.true_and, Bool.and_eq_true, Bool.or_eq_true, beq_iff_eq, decide_eq_true_eq]
      exact ⟨phase, due⟩
    refine ⟨g0.ackTimeout, nextGov (if_pos cond), ?_⟩
    rcases phase with nine | thirteen
    · obtain ⟨⟨step, busy, phase⟩, flags⟩ := Gov.ackTimeout_revert nine (rest nine)
      refine ⟨step, busy, phase, fun e => absurd (nine.symm.trans e) (by decide), fun late => ?_⟩
      rw [flags _ (.inl rfl), flags _ (.inr rfl)]
      exact Gov.faultLate_flags awake late
    · rw [Gov.ackTimeout_exit thirteen]
      obtain ⟨step, busy, phase⟩ := g0.faultLate.endExit_atRest
      refine ⟨step, busy, phase, fun _ => ⟨g0.faultLate.endExit_run.1, ?_⟩, fun late => ?_⟩
      · rw [Gov.endExit_count, Gov.faultLate_get _ (.inl (by decide))]
      · rw [Gov.endExit_flag _ (.inl rfl), Gov.endExit_flag _ (.inr rfl)]
        exact Gov.faultLate_flags awake late
end

section
namespace Sys2Proof.Machine

/-! ### Regions that an entry stops (R297 step 3) -/

theorem bit_eq_testBit (x n : Nat) : bit x n = x.testBit n := by rw [bit, Nat.testBit_eq_decide_div_mod_eq]; rfl

theorem mem_bitList {bound x n : Nat} : n ∈ bitList bound x ↔ n < bound ∧ bit x n = true := by simp [bitList]

/-- Stopping regions: those stopped before stay so, and the words of the power states and the latched block are the same. -/
structure Gov.MoreStopped (g h : Gov) : Prop where
  stopped : ∀ rg, bit g.pwr.stopped rg = true → bit h.pwr.stopped rg = true
  get : ∀ f : Fld, 0x500 ≤ f.off → f.off < 0x800 → h.get f = g.get f
  block : h.pwr.block = g.pwr.block

section
variable {g h k : Gov}

theorem Gov.MoreStopped.refl (g : Gov) : g.MoreStopped g := ⟨fun _ a => a, fun _ _ _ => rfl, rfl⟩
theorem Gov.MoreStopped.trans (a : g.MoreStopped h) (b : h.MoreStopped k) : g.MoreStopped k := ⟨fun rg x => b.stopped rg (a.stopped rg x), fun f l u => (b.get f l u).trans (a.get f l u), b.block.trans a.block⟩
theorem Gov.MoreStopped.ofSame (a : g.samePower h) : g.MoreStopped h := ⟨fun rg x => by rw [a.1]; exact x, a.2, by rw [a.1]⟩
theorem Gov.MoreStopped.each {α : Type} {f : Gov → α → Gov} (xs : List α) (step : ∀ (h : Gov) x, h.MoreStopped (f h x)) : g.MoreStopped (g.each xs f) :=
  Gov.each_keeps (P := g.MoreStopped) (fun h x a => a.trans (step h x)) _ _ (.refl g)

end

theorem Gov.psStopRegion_stops (g : Gov) (rg : Nat) : g.MoreStopped (g.psStopRegion rg) ∧ bit (g.psStopRegion rg).pwr.stopped rg = true := by
  unfold Gov.psStopRegion
  extract_lets source _ noted
  have notes : g.MoreStopped noted := ⟨fun r x => by
    rw [bit_eq_testBit] at x ⊢
    rw [show noted.pwr.stopped = g.pwr.stopped ||| 2 ^ rg from rfl, Nat.testBit_or, x, Bool.true_or], fun _ _ _ => rfl, rfl⟩
  have here : bit noted.pwr.stopped rg = true := by rw [bit_eq_testBit, show noted.pwr.stopped = g.pwr.stopped ||| 2 ^ rg from rfl, Nat.testBit_or, Nat.testBit_two_pow_self, Bool.or_true]
  split
  · exact ⟨notes, here⟩
  · have switched := Gov.MoreStopped.ofSame ((Gov.samePower.refl noted).beginSwitch rg 3 (noted.get (F.DRP_RGN_MUX_ALT rg)))
    exact ⟨notes.trans switched, switched.stopped rg here⟩

theorem Gov.psMoveRegion_stops (g : Gov) (rg : Nat) : g.MoreStopped (g.psMoveRegion rg) := by
  unfold Gov.psMoveRegion
  split
  · split
    · extract_lets source _ moved
      have moves : g.MoreStopped moved := ⟨fun _ a => a, fun _ _ _ => rfl, rfl⟩
      exact moves.trans (.ofSame ((Gov.samePower.refl moved).beginSwitch _ _ _))
    · exact (g.psStopRegion_stops rg).1.trans (.ofSame ((Gov.samePower.refl _).log _ _ _))
  · exact .refl g

/-- Every affected region is stopped. -/
theorem Gov.psRegions_stops (g : Gov) : g.MoreStopped g.psRegions ∧ ∀ rg < 16, bit g.offMask rg = true → bit g.psRegions.pwr.stopped rg = true := by
  have all : g.MoreStopped (g.each (bitList 16 g.offMask) Gov.psStopRegion) := .each _ fun h rg => (h.psStopRegion_stops rg).1
  have moved : (g.each (bitList 16 g.offMask) Gov.psStopRegion).MoreStopped g.psRegions := by
    unfold Gov.psRegions
    dsimp only
    split
    · exact .each _ Gov.psMoveRegion_stops
    · exact .refl _
  refine ⟨all.trans moved, fun rg lt on => moved.stopped rg ?_⟩
  obtain ⟨ys, zs, e, _⟩ := Gov.each_split (f := Gov.psStopRegion) (List.nodup_range.filter _) (mem_bitList.2 ⟨lt, on⟩) g
  have rest : ((g.each ys Gov.psStopRegion).psStopRegion rg).MoreStopped (g.each (bitList 16 g.offMask) Gov.psStopRegion) := by
    unfold bitList
    rw [e]
    exact .each _ fun h rg => (h.psStopRegion_stops rg).1
  exact rest.stopped rg (Gov.psStopRegion_stops _ rg).2

/-! ### Steps 5 and 6 of an entry -/

/-- The rails' settling follows the beginning of step 5, and leaves the sequencer alone. -/
theorem Gov.psSettle_step (g : Gov) : g.psSettle.pwr.step = 5 ∧ g.psSettle.pwr.stopped = g.pwr.stopped ∧ g.psSettle.pwr.ret = g.pwr.ret ∧ (g.psTo ≠ stIdle → g.psSettle.get F.PS_STAT_PHASE = 3) := by
  unfold Gov.psSettle
  extract_lets dst coded _ settling five
  have codes : coded.pwr.stopped = g.pwr.stopped ∧ coded.pwr.ret = g.pwr.ret := by
    unfold coded
    split
    · exact ⟨rfl, rfl⟩
    · refine Gov.each_keeps (P := fun h => h.pwr.stopped = g.pwr.stopped ∧ h.pwr.ret = g.pwr.ret) ?_ _ _ ⟨rfl, rfl⟩
      exact fun _ _ a => a
  have begun : five.pwr.step = 5 ∧ five.pwr.stopped = g.pwr.stopped ∧ five.pwr.ret = g.pwr.ret ∧ (dst ≠ stIdle → five.get F.PS_STAT_PHASE = 3) := by
    have phased : (if dst = stIdle then settling else settling.set F.PS_STAT_PHASE 3).pwr = settling.pwr := by split <;> rfl
    refine ⟨rfl, ?_, ?_, fun busy => ?_⟩
    · exact (congrArg PowerSt.stopped phased).trans codes.1
    · exact (congrArg PowerSt.ret phased).trans codes.2
    · show (Gov.psStep _ 5).get F.PS_STAT_PHASE = 3
      rw [Gov.psStep_get, if_neg busy, Gov.get_set_self _ _ (by decide)]; rfl
  split
  · exact begun
  · have rails : five.samePower (five.each ((List.range 8).filter five.railOn) fun g r =>
        let x := g.psRail r
        if dst = stOff ∨ !x.2.2 then g.stopRail r else (g.abortShed r).setTarget r (g.usable r (min x.1 (g.eMax r)))) :=
      (Gov.samePower.refl five).each _ fun h r _ a => .ite (a.stopRail r) ((a.abortShed r).setTarget r _)
    obtain ⟨step, stopped, ret, phase⟩ := begun
    rw [rails.1, rails.get F.PS_STAT_PHASE]
    exact ⟨step, stopped, ret, phase⟩

/-- A change of the sequencer alone. -/
theorem Gov.withPwr_only (g : Gov) (x : PowerSt) : (g.withPwr x).pwr = x ∧ g.onlyWords (g.withPwr x) [] ∧ g.sameBeside ((g.withPwr x).withPwr g.pwr) := ⟨rfl, fun _ _ => rfl, rfl⟩

/-! ### The end of an entry (R297 step 7, R306) -/

/-- SLEEP and DEEP stop the engine and leave the power-state words alone. -/
theorem Gov.fallAsleep_engine (g : Gov) : g.fallAsleep.pll = false ∧ g.fallAsleep.led.tickAt = none ∧ ∀ f : Fld, 0x500 ≤ f.off → f.off < 0x800 → g.fallAsleep.get f = g.get f := by
  have links : ∀ d : Gov, d.samePower ((d.linkOff 0).linkOff 1).stopEngine := fun d => (((Gov.samePower.refl d).linkOff 0).linkOff 1).stopEngine
  refine ⟨rfl, rfl, fun f l u => ?_⟩
  unfold Gov.fallAsleep Gov.suspendSweeps
  dsimp only
  rw [(links _).2 f l u, Gov.withCmd_get, Gov.withFlt_get, Gov.withFcu_get, Gov.withSns_get, Gov.withPwr_get]
  have holds := (Gov.samePower.refl g).each (f := fun g r => g.setRail r fun x => { x with hold := true }) ((List.range 8).filter g.railWant) fun _ r _ a => a.setRail r _
  exact (holds.each (f := Gov.stopSyn) _ fun _ s _ a => a.stopSyn s).2 f l u

/-- The record of an entry's result. -/
def Gov.recordEntry (g : Gov) (dst : Nat) : Gov := ((((((g.set F.PS_STAT_STATE dst).set F.PS_STAT_TO 0).set F.PS_STAT_BUSY 0).set F.PS_STAT_RESULT 1).set F.PS_STAT_PHASE 0).inc F.PS_CNT_DONE_COUNT).mark F.GOV_IRQ_SRC_PS

theorem Gov.recordEntry_result (g : Gov) {dst : Nat} (hd : dst < 8) : (g.recordEntry dst).state = dst ∧ (g.recordEntry dst).get F.PS_STAT_TO = 0 ∧ (g.recordEntry dst).get F.PS_STAT_BUSY = 0 ∧ (g.recordEntry dst).get F.PS_STAT_PHASE = 0 ∧
    (g.recordEntry dst).get F.PS_STAT_RESULT = 1 ∧ (g.recordEntry dst).get F.PS_CNT_DONE_COUNT = usat 32 (g.get F.PS_CNT_DONE_COUNT + 1) := by
  unfold Gov.recordEntry Gov.state
  refine ⟨?_, ?_, ?_, ?_, ?_, ?_⟩
  · rw [Gov.mark_eq, Gov.get_set_apart _ _ (by decide), Gov.inc_eq, Gov.get_set_apart _ _ (by decide), Gov.get_set_apart _ _ (by decide), Gov.get_set_apart _ _ (by decide), Gov.get_set_apart _ _ (by decide), Gov.get_set_apart _ _ (by decide), Gov.get_set_self _ _ (by decide)]
    exact Nat.mod_eq_of_lt hd
  · rw [Gov.mark_eq, Gov.get_set_apart _ _ (by decide), Gov.inc_eq, Gov.get_set_apart _ _ (by decide), Gov.get_set_apart _ _ (by decide), Gov.get_set_apart _ _ (by decide), Gov.get_set_apart _ _ (by decide), Gov.get_set_self _ _ (by decide)]; rfl
  · rw [Gov.mark_eq, Gov.get_set_apart _ _ (by decide), Gov.inc_eq, Gov.get_set_apart _ _ (by decide), Gov.get_set_apart _ _ (by decide), Gov.get_set_apart _ _ (by decide), Gov.get_set_self _ _ (by decide)]; rfl
  · rw [Gov.mark_eq, Gov.get_set_apart _ _ (by decide), Gov.inc_eq, Gov.get_set_apart _ _ (by decide), Gov.get_set_self _ _ (by decide)]; rfl
  · rw [Gov.mark_eq, Gov.get_set_apart _ _ (by decide), Gov.inc_eq, Gov.get_set_apart _ _ (by decide), Gov.get_set_apart _ _ (by decide), Gov.get_set_self _ _ (by decide)]; rfl
  · rw [Gov.mark_eq, Gov.get_set_apart _ _ (by decide), Gov.get_inc32 _ _ (by decide), Gov.get_set_apart _ _ (by decide), Gov.get_set_apart _ _ (by decide), Gov.get_set_apart _ _ (by decide), Gov.get_set_apart _ _ (by decide), Gov.get_set_apart _ _ (by decide)]

/-- What a recorded entry leaves alone below the channels' words. -/
theorem Gov.recordEntry_get (g : Gov) (dst : Nat) {f : Fld} (hf : f.off ≠ 0x504 ∧ f.off ≠ 0x520 ∧ f.off ≠ 0x30) : (g.recordEntry dst).get f = g.get f := by
  obtain ⟨stat, count, irq⟩ := hf
  have keeps : Gov.Keeps (fun o => o ≠ 0x504 ∧ o ≠ 0x520 ∧ o ≠ 0x30) g (g.recordEntry dst) :=
    (((((((Gov.Keeps.refl g).set _ _ (by decide)).set _ _ (by decide)).set _ _ (by decide)).set _ _ (by decide)).set _ _ (by decide)).set _ _ (by decide)).set _ _ (by decide)
  exact keeps.get ⟨stat, count, irq⟩

/-- The entry's result is recorded, the sequencer rests, the event fires, and the interrupt outputs are held. -/
def Gov.closeEntry (g : Gov) (dst : Nat) : Gov :=
  let g := ((g.recordEntry dst).psStep 0).fire .psDone
  g.withPwr { g.pwr with irqHeld := mapBits 4 g.irqLevel }

theorem Gov.closeEntry_get (g : Gov) (dst : Nat) {f : Fld} (hf : f.off < 0x3000 ∨ 0x4000 ≤ f.off) : (g.closeEntry dst).get f = (g.recordEntry dst).get f := by
  unfold Gov.closeEntry
  rw [Gov.withPwr_get, Gov.fire_get_outside _ _ hf, Gov.psStep_get]

theorem Gov.closeEntry_besideCmd (g : Gov) (dst : Nat) : (g.closeEntry dst).pwr.step = 0 ∧ (g.closeEntry dst).pll = g.pll ∧ (g.closeEntry dst).led = g.led ∧ (g.closeEntry dst).now = g.now ∧ (g.closeEntry dst).powered = g.powered := by
  have fired := ((g.recordEntry dst).psStep 0).fire_besideCmd .psDone
  unfold Gov.closeEntry
  rw [Gov.withPwr_pwr, Gov.withPwr_pll, Gov.withPwr_led, Gov.withPwr_now, Gov.withPwr_powered]
  refine ⟨?_, (besideCmd_pll fired).trans ?_, (besideCmd_led fired).trans ?_, (besideCmd_now fired).trans ?_, (Gov.powered_of_besideCmd fired).trans ?_⟩
  · show (Gov.fire _ _).pwr.step = 0
    rw [besideCmd_pwr fired]; rfl
  · simp only [Gov.psStep_pll, Gov.recordEntry, Gov.mark_pll, Gov.inc_pll, Gov.set_pll]
  · simp only [Gov.psStep_led, Gov.recordEntry, Gov.mark_led, Gov.inc_led, Gov.set_led]
  · simp only [Gov.psStep_now, Gov.recordEntry, Gov.mark_now, Gov.inc_now, Gov.set_now]
  · simp only [Gov.psStep, Gov.withPwr_powered, Gov.recordEntry, Gov.mark_powered, Gov.inc_powered, Gov.set_powered]

/-- The entry into SLEEP or DEEP stops the domains before it is recorded. -/
def Gov.entered (g : Gov) : Gov := (if g.psTo = stSleep ∨ g.psTo = stDeep then g.fallAsleep else g).closeEntry g.psTo

theorem Gov.finishEntry_quiet {g : Gov} (target : g.psTo ≠ stOff) (latch : g.get F.PS_WAKE_STAT_LATCH = 0) : g.finishEntry = g.entered :=
  (if_neg target).trans (if_neg fun some => some latch)

theorem Gov.finishEntry_off {g : Gov} (target : g.psTo = stOff) :
    g.finishEntry = (g.entered.withPwr { g.entered.pwr with notice := some (g.entered.now, g.get F.PS_WAKE_STAT_LATCH != 0, none) }).sendNotice := if_pos target

/-- An entry is recorded as done in its target state. -/
def Gov.EntryDone (g h : Gov) : Prop :=
  h.state = g.psTo ∧ h.get F.PS_STAT_TO = 0 ∧ h.flag F.PS_STAT_BUSY = false ∧ h.get F.PS_STAT_PHASE = 0 ∧ h.get F.PS_STAT_RESULT = 1 ∧ h.pwr.step = 0 ∧ h.get F.PS_CNT_DONE_COUNT = usat 32 (g.get F.PS_CNT_DONE_COUNT + 1)

theorem Gov.EntryDone.congr {g h k : Gov} (a : g.EntryDone h) (get : ∀ f, k.get f = h.get f) (step : k.pwr.step = h.pwr.step) : g.EntryDone k := by
  unfold Gov.EntryDone Gov.state Gov.flag at *
  rw [get, get, get, get, get, get, step]
  exact a

theorem Gov.entered_done (g : Gov) : g.EntryDone g.entered := by
  unfold Gov.entered
  generalize e : (if g.psTo = stSleep ∨ g.psTo = stDeep then g.fallAsleep else g) = slept
  have done : slept.get F.PS_CNT_DONE_COUNT = g.get F.PS_CNT_DONE_COUNT := by
    rw [← e]
    split
    · exact g.fallAsleep_engine.2.2 _ (by decide) (by decide)
    · rfl
  obtain ⟨state, target, busy, phase, result, count⟩ := slept.recordEntry_result (dst := g.psTo) (g.get_lt F.PS_STAT_TO)
  refine ⟨(slept.closeEntry_get _ (by decide)).trans state, (slept.closeEntry_get _ (by decide)).trans target, ?_, (slept.closeEntry_get _ (by decide)).trans phase, (slept.closeEntry_get _ (by decide)).trans result, (slept.closeEntry_besideCmd _).1, ?_⟩
  · rw [Gov.flag, slept.closeEntry_get _ (by decide), busy]; rfl
  · rw [slept.closeEntry_get _ (by decide), count, done]

theorem Gov.entered_asleep {g : Gov} (target : g.psTo = stSleep ∨ g.psTo = stDeep) : g.entered.pll = false ∧ g.entered.led.tickAt = none := by
  unfold Gov.entered
  rw [if_pos target]
  obtain ⟨_, pll, led, _⟩ := g.fallAsleep.closeEntry_besideCmd g.psTo
  rw [pll, led]
  exact ⟨g.fallAsleep_engine.1, g.fallAsleep_engine.2.1⟩

/-- Pilot C can send a notice. -/
def Gov.canNotify (g : Gov) : Bool := g.powered && g.running && g.pilotUp 2

/-- A notice that was not sent yet is sent where pilot C can send one. -/
theorem Gov.sendNotice_first (g : Gov) (time : Nat) (wake : Bool) :
    (∀ f, ((g.withPwr { g.pwr with notice := some (time, wake, none) }).sendNotice).get f = g.get f) ∧ ((g.withPwr { g.pwr with notice := some (time, wake, none) }).sendNotice).pwr.step = g.pwr.step ∧
      ((g.withPwr { g.pwr with notice := some (time, wake, none) }).sendNotice).pwr.notice = some (time, wake, if g.canNotify then some g.now else none) := by
  generalize e : g.withPwr { g.pwr with notice := some (time, wake, none) } = waiting
  have notice : waiting.pwr.notice = some (time, wake, none) := by rw [← e]; rfl
  have can : waiting.canNotify = g.canNotify := by rw [← e]; rfl
  have get : ∀ f, waiting.get f = g.get f := fun f => by rw [← e]; rfl
  have step : waiting.pwr.step = g.pwr.step := by rw [← e]; rfl
  have now : waiting.now = g.now := by rw [← e]; rfl
  unfold Gov.sendNotice
  rw [notice]
  dsimp only
  rw [show (waiting.powered && waiting.running && waiting.pilotUp 2 && noticeDue none waiting.now) = g.canNotify from (Bool.and_true _).trans can]
  cases g.canNotify with
  | true => exact ⟨get, step, by rw [if_pos rfl, if_pos rfl, ← now]; rfl⟩
  | false => exact ⟨get, step, notice⟩

/-- A notice that was not sent within 100 ms is sent again. -/
theorem Gov.sendNotice_due {g : Gov} {time : Nat} {wake : Bool} {last : Option Nat} (notice : g.pwr.notice = some (time, wake, last)) (can : g.canNotify = true) (due : ∀ p, last = some p → p + 100000000 ≤ g.now) :
    g.sendNotice.pwr = { g.pwr with notice := some (time, wake, some g.now) } ∧ g.sendNotice.flt = { g.flt with event := some (g.noticeEvent time wake) } ∧ g.onlyWords g.sendNotice [] := by
  have waits : noticeDue last g.now = true := by
    cases last with
    | none => rfl
    | some p => exact decide_eq_true (due p rfl)
  have sends : (g.powered && g.running && g.pilotUp 2 && noticeDue last g.now) = true := Bool.and_eq_true_iff.2 ⟨can, waits⟩
  unfold Gov.sendNotice
  rw [notice]
  dsimp only
  rw [if_pos sends]
  exact ⟨rfl, rfl, fun _ _ => rfl⟩

/-- OFF leaves a notice. -/
theorem Gov.finishEntry_notice {g : Gov} (target : g.psTo = stOff) : g.EntryDone g.finishEntry ∧ g.finishEntry.pwr.notice = some (g.now, g.get F.PS_WAKE_STAT_LATCH != 0, if g.canNotify then some g.now else none) := by
  have awake : ¬ (g.psTo = stSleep ∨ g.psTo = stDeep) := by rw [target]; decide
  have entered : g.entered = g.closeEntry g.psTo := by rw [Gov.entered, if_neg awake]
  obtain ⟨_, _, _, now, powered⟩ := g.closeEntry_besideCmd g.psTo
  have words : ∀ f : Fld, f.off = 0x144 ∨ f.off = 0x148 → (g.closeEntry g.psTo).get f = g.get f := fun f hf => (g.closeEntry_get _ (by omega)).trans (g.recordEntry_get _ (by omega))
  have can : g.entered.canNotify = g.canNotify := by
    rw [entered, Gov.canNotify, Gov.canNotify, powered, Gov.running, Gov.running, words F.SUP_STAT_MODE (.inl rfl), Gov.pilotUp, Gov.pilotUp, words (F.FWP_PSTATE_STATE 2) (.inr rfl)]
  rw [Gov.finishEntry_off target]
  obtain ⟨get, step, notice⟩ := g.entered.sendNotice_first g.entered.now (g.get F.PS_WAKE_STAT_LATCH != 0)
  refine ⟨g.entered_done.congr get step, notice.trans ?_⟩
  rw [can, entered, now]

end Sys2Proof.Machine

open Sys2Proof Sys2Proof.Machine

/-- Settles O31: the regions stop (`psRegions_stops`), the bias and the rails settle (`psSettle_step`), and the entry is recorded (`entered_done`), for OFF with its notice (`finishEntry_notice`). -/
theorem entrySteps : Obligations.EntrySteps := by
  intro t s g0
  refine ⟨fun engine step closed => ?_, fun engine step due => ?_, fun engine step waits due => ?_, fun engine step settled tick rails latch => ?_, fun time wake last notice powered0 powered running pilot due => ?_⟩
  · have cond : (s.gov.engine && g0.pwr.step == 3 && g0.closing.all fun b => g0.get (F.BT_GATE_GATE b) == 0) = true := by
      simp only [engine, step, beq_self_eq_true, Bool.and_self, Bool.true_and, List.all_eq_true, beq_iff_eq]
      exact closed
    obtain ⟨more, stopped⟩ := g0.psRegions_stops
    have target : (g0.psRegions.psStep 4).psTo = g0.psTo := more.get F.PS_STAT_TO (by decide) (by decide)
    refine ⟨if (g0.psRegions.psStep 4).psTo = stDeep then g0.psRegions.psStep 4 else (g0.psRegions.psStep 4).psSettle, nextGov (if_pos cond), ?_⟩
    rw [target]
    by_cases deep : g0.psTo = stDeep
    · rw [if_pos deep]
      exact ⟨fun rg on => stopped rg rg.isLt on, fun _ => ⟨rfl, rfl⟩, fun ne => absurd deep ne⟩
    · rw [if_neg deep]
      obtain ⟨five, kept, _, phase⟩ := (g0.psRegions.psStep 4).psSettle_step
      exact ⟨fun rg on => by rw [kept]; exact stopped rg rg.isLt on, fun e => absurd e deep, fun _ => ⟨five, fun busy => phase (target ▸ busy)⟩⟩
  · obtain ⟨five, _, ret, phase⟩ := (g0.withPwr { g0.pwr with ret := true }).psSettle_step
    exact ⟨_, nextGov (if_pos (by simp only [Bool.and_eq_true, beq_iff_eq, decide_eq_true_eq]; exact ⟨⟨engine, step⟩, due⟩)), ret, five, phase⟩
  · refine ⟨g0.withPwr { g0.pwr with settled := true }, nextGov (if_pos ?_), g0.withPwr_only _⟩
    simp only [Bool.and_eq_true, Bool.or_eq_true, Bool.not_eq_true', beq_iff_eq, decide_eq_true_eq]
    exact ⟨⟨⟨engine, step⟩, waits⟩, due⟩
  · have cond : (s.gov.engine && g0.pwr.step == 5 && g0.pwr.settled && g0.onTick && g0.railsSettled) = true := by simp [engine, step, settled, tick, rails]
    refine ⟨g0.finishEntry, nextGov (if_pos cond), ?_⟩
    by_cases off : g0.psTo = stOff
    · obtain ⟨⟨state, to_, busy, phase, result, rests, count⟩, notice⟩ := Gov.finishEntry_notice off
      exact ⟨state, to_, busy, phase, result, rests, count, fun asleep => by rw [off] at asleep; exact absurd asleep (by decide), fun _ => notice⟩
    · rw [Gov.finishEntry_quiet off (latch.resolve_left off)]
      obtain ⟨state, to_, busy, phase, result, rests, count⟩ := g0.entered_done
      exact ⟨state, to_, busy, phase, result, rests, count, Gov.entered_asleep, fun e => absurd e off⟩
  · obtain ⟨sent, noted, words⟩ := Gov.sendNotice_due notice (by rw [Gov.canNotify, powered, running, pilot]; rfl) due
    exact ⟨_, nextGov (if_pos powered0), sent, noted, words⟩
end

section
namespace Sys2Proof.Machine

/-! ### The start of an exit (R301, R302) -/

theorem Gov.withPwr_withPwr (g : Gov) (x y : PowerSt) : (g.withPwr x).withPwr y = g.withPwr y := rfl

/-- The codes of RUN and the bias' settling are the sequencer's alone. -/
theorem Gov.runCodes_pwr (g : Gov) : ∃ x : PowerSt, g.runCodes = g.withPwr x ∧ x.step = 11 := by
  unfold Gov.runCodes
  extract_lets coded _ settling
  obtain ⟨x, hx⟩ : ∃ x, coded = g.withPwr x := by
    refine Gov.each_keeps (P := fun h => ∃ x, h = g.withPwr x) ?_ _ _ ⟨g.pwr, rfl⟩
    rintro h rg ⟨x, rfl⟩
    exact ⟨_, Gov.withPwr_withPwr _ _ _⟩
  have settles : settling = g.withPwr settling.pwr := by
    rw [show settling = coded.withPwr settling.pwr from rfl, hx]; rfl
  rw [settles]
  exact ⟨_, Gov.withPwr_withPwr _ _ _, rfl⟩

/-- What the start of an exit writes. -/
def Gov.exitMarks (g : Gov) (causes : Nat) (replayed : Bool) : Gov :=
  (((((g.set F.PS_STAT_PHASE 4).mark F.PS_STAT_BUSY).set F.PS_STAT_TO 0).set F.PS_WAKE_STAT_CAUSE causes).set F.PS_WAKE_STAT_LATCH 0).set F.PS_WAKE_STAT_REPLAYED (b2n replayed)

/-- What the start of an exit leaves alone. -/
theorem Gov.exitMarks_keeps (g : Gov) (causes : Nat) (replayed : Bool) : Gov.Keeps (fun o => o ≠ 0x504 ∧ o ≠ 0x514) g (g.exitMarks causes replayed) :=
  ((((((Gov.Keeps.refl g).set _ _ (by decide)).set _ _ (by decide)).set _ _ (by decide)).set _ _ (by decide)).set _ _ (by decide)).set _ _ (by decide)

theorem Gov.exitMarks_asleep (g : Gov) (causes : Nat) (replayed : Bool) : (g.exitMarks causes replayed).asleep = g.asleep := by
  refine Gov.asleep_of_get ?_
  unfold Gov.exitMarks
  rw [Gov.get_set_apart _ _ (by decide), Gov.get_set_apart _ _ (by decide), Gov.get_set_apart _ _ (by decide), Gov.get_set_apart _ _ (by decide), Gov.mark_eq, Gov.get_set_apart _ _ (by decide), Gov.get_set_apart _ _ (by decide)]

theorem Gov.exitMarks_words (g : Gov) {causes : Nat} (small : causes < 2 ^ 6) : (g.exitMarks causes false).flag F.PS_STAT_BUSY = true ∧ (g.exitMarks causes false).get F.PS_STAT_PHASE = 4 ∧
    (g.exitMarks causes false).get F.PS_WAKE_STAT_CAUSE = causes ∧ (g.exitMarks causes false).get F.PS_WAKE_STAT_LATCH = 0 ∧ (g.exitMarks causes false).flag F.PS_WAKE_STAT_REPLAYED = false := by
  unfold Gov.exitMarks
  refine ⟨?_, ?_, ?_, ?_, ?_⟩
  · rw [Gov.flag, Gov.get_set_apart _ _ (by decide), Gov.get_set_apart _ _ (by decide), Gov.get_set_apart _ _ (by decide), Gov.get_set_apart _ _ (by decide), Gov.mark_eq, Gov.get_set_self _ _ (by decide)]; rfl
  · rw [Gov.get_set_apart _ _ (by decide), Gov.get_set_apart _ _ (by decide), Gov.get_set_apart _ _ (by decide), Gov.get_set_apart _ _ (by decide), Gov.mark_eq, Gov.get_set_apart _ _ (by decide), Gov.get_set_self _ _ (by decide)]; rfl
  · rw [Gov.get_set_apart _ _ (by decide), Gov.get_set_apart _ _ (by decide), Gov.get_set_self _ _ (by decide)]
    exact Nat.mod_eq_of_lt small
  · rw [Gov.get_set_apart _ _ (by decide), Gov.get_set_self _ _ (by decide)]; rfl
  · rw [Gov.flag, Gov.get_set_self _ _ (by decide)]; rfl

/-- An exit begins with its marks, at step 10 where the die sleeps and else at step 11. -/
theorem Gov.beginExit_pwr (g : Gov) (causes : Nat) (replayed : Bool) : ∃ x : PowerSt, g.beginExit causes replayed = (g.exitMarks causes replayed).withPwr x ∧ x.step = if g.asleep = true then 10 else 11 := by
  have awake := g.exitMarks_asleep causes replayed
  unfold Gov.beginExit
  extract_lets phased marked _ started
  have marks : marked = g.exitMarks causes replayed := rfl
  rw [← marks] at awake ⊢
  clear_value marked
  have same : started.asleep = g.asleep := awake
  rw [same]
  split
  · exact ⟨_, Gov.withPwr_withPwr _ _ _, rfl⟩
  · obtain ⟨x, e, step⟩ := started.runCodes_pwr
    exact ⟨x, e.trans (Gov.withPwr_withPwr _ _ _), step⟩

/-! ### Wake sources (R302, R304) -/

/-- A wake source has occurred. -/
def Gov.Woken (g : Gov) (src : Nat) (h : Gov) : Prop :=
  (g.flag F.PS_STAT_BUSY = true → 10 ≤ g.pwr.step → h.get F.PS_WAKE_STAT_CAUSE = g.get F.PS_WAKE_STAT_CAUSE ||| 2 ^ src) ∧
  (g.flag F.PS_STAT_BUSY = true → g.pwr.step < 10 → h.get F.PS_WAKE_STAT_LATCH = g.get F.PS_WAKE_STAT_LATCH ||| 2 ^ src) ∧
  (g.flag F.PS_STAT_BUSY = false → g.wakeActs src = true → h.flag F.PS_STAT_BUSY = true ∧ h.get F.PS_STAT_PHASE = 4 ∧ h.get F.PS_WAKE_STAT_CAUSE = 2 ^ src ∧ h.get F.PS_WAKE_STAT_LATCH = 0 ∧
    h.flag F.PS_WAKE_STAT_REPLAYED = false ∧ h.pwr.step = if g.asleep = true then 10 else 11)

theorem Gov.wake_disabled {g : Gov} {src : Nat} (off : bit (g.get F.PS_WAKE_EN_EN) src = false) : g.wake src = g := if_pos (by rw [off]; rfl)

/-- A bit added to a six-bit field. -/
theorem or_bit_small {x src : Nat} (hx : x < 2 ^ 6) (hs : src < 6) : (x ||| 2 ^ src) % 2 ^ 6 = x ||| 2 ^ src :=
  Nat.mod_eq_of_lt (Nat.or_lt_two_pow hx (Nat.pow_lt_pow_right (by decide) hs))

theorem Gov.wake_woken {g : Gov} {src : Nat} (small : src < 6) (on : bit (g.get F.PS_WAKE_EN_EN) src = true) : g.Woken src (g.wake src) := by
  have enabled : ¬ (!bit (g.get F.PS_WAKE_EN_EN) src) = true := by simp [on]
  unfold Gov.wake
  rw [if_neg enabled]
  refine ⟨fun busy exits => ?_, fun busy enters => ?_, fun rests acts => ?_⟩
  · rw [if_pos busy, if_pos exits, Gov.upd_eq, Gov.get_set_self _ _ (by decide)]
    exact or_bit_small (g.get_lt F.PS_WAKE_STAT_CAUSE) small
  · rw [if_pos busy, if_neg (by omega), Gov.upd_eq, Gov.get_set_self _ _ (by decide)]
    exact or_bit_small (g.get_lt F.PS_WAKE_STAT_LATCH) small
  · obtain ⟨x, e, step⟩ := g.beginExit_pwr (2 ^ src) false
    obtain ⟨busy, phase, cause, latch, replayed⟩ := g.exitMarks_words (Nat.pow_lt_pow_right (by decide) small : 2 ^ src < 2 ^ 6)
    rw [if_neg (by rw [rests]; decide), if_pos acts, e, Gov.withPwr_pwr, Gov.withPwr_flag, Gov.withPwr_flag, Gov.withPwr_get, Gov.withPwr_get, Gov.withPwr_get]
    exact ⟨busy, phase, cause, latch, replayed, step⟩

/-- A reading that neither the words nor the sequencer move is not moved by a wake source. -/
theorem Gov.wake_read {α : Type} (rd : Gov → α) (set : ∀ g f v, rd (g.set f v) = rd g) (pwr : ∀ g x, rd (g.withPwr x) = rd g) (g : Gov) (src : Nat) : rd (g.wake src) = rd g := by
  unfold Gov.wake
  split
  · rfl
  · split
    · split
      · exact set _ _ _
      · exact set _ _ _
    · split
      · obtain ⟨x, e, _⟩ := g.beginExit_pwr (2 ^ src) false
        rw [e, pwr, Gov.exitMarks, set, set, set, set, Gov.mark_eq, set, set]
      · rfl

theorem Gov.wake_pins (g : Gov) (src : Nat) : (g.wake src).pins = g.pins := Gov.wake_read Gov.pins Gov.set_pins Gov.withPwr_pins g src

/-- A wake source leaves every word but PS_STAT and PS_WAKE_STAT alone. -/
theorem Gov.wake_get (g : Gov) (src : Nat) {f : Fld} (hf : f.off ≠ 0x504 ∧ f.off ≠ 0x514) : (g.wake src).get f = g.get f := by
  unfold Gov.wake
  split
  · rfl
  · split
    · split
      · exact Gov.get_congr (Gov.word_set_ne _ _ hf.2)
      · exact Gov.get_congr (Gov.word_set_ne _ _ hf.2)
    · split
      · obtain ⟨x, e, _⟩ := g.beginExit_pwr (2 ^ src) false
        rw [e, Gov.withPwr_get, (g.exitMarks_keeps _ _).get hf]
      · rfl

/-- A wake source occurs at a state that differs in its pins and in the sequencer's idle record alone. -/
theorem Gov.Woken.congr {g k h : Gov} {src : Nat} (a : k.Woken src h) (get : ∀ f, k.get f = g.get f) (step : k.pwr.step = g.pwr.step) : g.Woken src h := by
  unfold Gov.Woken Gov.wakeActs Gov.asleep Gov.state Gov.flag at *
  simpa only [get, step] using a

/-- A row that changes the governor and what outlives its resets. -/
theorem nextBoth {s : State} {f : Gov → Persist → Gov × Persist} {g : Gov} {k : Persist} (e : f s.gov s.keep = (g, k)) : s.onBoth f = .next { s with gov := g, keep := k } := by
  unfold State.onBoth
  rw [e]

/-! ### The request for IDLE (R292, R293) -/

/-- What a request writes. -/
def Gov.requestMarks (g : Gov) (target : Nat) : Gov :=
  (((((g.mark F.PS_STAT_BUSY).upd F.PS_STAT_ATTEMPT fun a => (a + 1) % 2 ^ 16).set F.PS_STAT_TO target).set F.PS_STAT_PHASE 1).set F.PS_STAT_HELD 0).set F.PS_WAKE_STAT_LATCH 0

theorem Gov.requestMarks_words (g : Gov) {target : Nat} (small : target < 8) : (g.requestMarks target).get F.PS_STAT_BUSY = 1 ∧ (g.requestMarks target).psTo = target ∧ (g.requestMarks target).get F.PS_STAT_PHASE = 1 ∧
    (g.requestMarks target).get F.PS_STAT_ATTEMPT = (g.get F.PS_STAT_ATTEMPT + 1) % 2 ^ 16 := by
  unfold Gov.requestMarks Gov.psTo
  refine ⟨?_, ?_, ?_, ?_⟩
  · rw [Gov.get_set_apart _ _ (by decide), Gov.get_set_apart _ _ (by decide), Gov.get_set_apart _ _ (by decide), Gov.get_set_apart _ _ (by decide), Gov.upd_eq, Gov.get_set_apart _ _ (by decide), Gov.mark_eq, Gov.get_set_self _ _ (by decide)]; rfl
  · rw [Gov.get_set_apart _ _ (by decide), Gov.get_set_apart _ _ (by decide), Gov.get_set_apart _ _ (by decide), Gov.get_set_self _ _ (by decide)]
    exact Nat.mod_eq_of_lt small
  · rw [Gov.get_set_apart _ _ (by decide), Gov.get_set_apart _ _ (by decide), Gov.get_set_self _ _ (by decide)]; rfl
  · rw [Gov.get_set_apart _ _ (by decide), Gov.get_set_apart _ _ (by decide), Gov.get_set_apart _ _ (by decide), Gov.get_set_apart _ _ (by decide), Gov.upd_eq, Gov.get_set_self _ _ (by decide), Gov.mark_eq, Gov.get_set_apart _ _ (by decide)]
    exact Nat.mod_mod _ _

theorem Gov.psStep_ans (g : Gov) (n : Nat) : (g.psStep n).pwr.ans = g.pwr.ans := rfl

/-- The berths are asked for the target. -/
def Gov.askTarget (g : Gov) (target : Nat) (chan : Option (Fin 16)) : Gov :=
  let g := g.requestMarks target
  ((g.withPwr { g.pwr with cmdChan := chan }).drive target).psStep 1

/-- A hold is noted at once. -/
def Gov.requested (g : Gov) (target : Nat) (chan : Option (Fin 16)) : Gov :=
  let g := g.askTarget target chan
  if g.asked.any fun b => (g.ans b).hold then g.mark F.PS_STAT_HELD else g

theorem Gov.psRequest_taken {g : Gov} {target : Nat} (chan : Option (Fin 16))
    (ok : ((g.state == stRun || g.state == stIdle) && decide (1 ≤ target) && decide (target ≤ 4) && target != g.state && !g.flag F.PS_STAT_BUSY && !g.flag F.LIM_STEADY_STAT_ACTIVE) = true) :
    (g.psRequest target chan).2 = (g.requested target chan).weigh := by
  have refused : ¬ (!((g.state == stRun || g.state == stIdle) && decide (1 ≤ target) && decide (target ≤ 4) && target != g.state && !g.flag F.PS_STAT_BUSY && !g.flag F.LIM_STEADY_STAT_ACTIVE)) = true := by rw [ok]; decide
  exact congrArg Prod.snd (if_neg refused)

theorem Gov.askTarget_keeps (g : Gov) (target : Nat) (chan : Option (Fin 16)) {P : Nat → Prop} : Gov.Keeps P (g.requestMarks target) (g.askTarget target chan) := (((Gov.Keeps.refl _).withPwr _).drive target).psStep 1

theorem Gov.SameAsked.requested (g : Gov) (target : Nat) (chan : Option (Fin 16)) : (g.askTarget target chan).SameAsked (g.requested target chan) := by
  unfold Gov.requested
  dsimp only
  split
  · exact .markHeld _
  · exact ⟨rfl, .refl _, Gov.onlyFields_refl _ _⟩

theorem Gov.requested_pwr (g : Gov) (target : Nat) (chan : Option (Fin 16)) : (g.requested target chan).pwr = (g.askTarget target chan).pwr := by
  unfold Gov.requested
  dsimp only
  split
  · rw [Gov.mark_pwr]
  · rfl

/-- No berth that is asked has answered yet. -/
theorem Gov.requested_silent (g : Gov) (target : Nat) (chan : Option (Fin 16)) {c : Nat} (asked : c ∈ (g.requested target chan).asked) : ((g.requested target chan).ans c).answer = none := by
  have member := ((Gov.SameAsked.requested g target chan).asked ▸ asked : c ∈ (g.askTarget target chan).asked)
  obtain ⟨low, present⟩ := (Gov.mem_berths _ _).1 (List.mem_of_mem_filter member)
  have before : ((g.requestMarks target).withPwr { (g.requestMarks target).pwr with cmdChan := chan }).present c = true :=
    (((Gov.Keeps.refl (P := fun _ => True) (g.requestMarks target)).withPwr _).present trivial).trans (((g.askTarget_keeps target chan (P := fun _ => True)).present trivial).symm.trans present)
  have driven := (Gov.drive_ans _ target ((Gov.mem_berths _ _).2 ⟨low, before⟩)).2
  rw [Gov.ans, g.requested_pwr]
  unfold Gov.askTarget
  dsimp only
  rw [Gov.psStep_ans]
  exact driven

/-- With a berth to ask, the request waits for its answers. -/
theorem Gov.requested_waits {g : Gov} (target : Nat) (chan : Option (Fin 16)) {b : Nat} (hb : b < 256) (present : g.present b = true) (free : g.quar b = false) : (g.requested target chan).weigh = g.requested target chan := by
  have marks : Gov.Keeps (fun o => 0x20000 ≤ o) g (g.requestMarks target) :=
    ((((((Gov.Keeps.refl g).set _ _ (by decide)).set _ _ (by decide)).set _ _ (by decide)).set _ _ (by decide)).set _ _ (by decide)).set _ _ (by decide)
  have keeps : Gov.Keeps (fun o => 0x20000 ≤ o) g ((g.requestMarks target).withPwr { (g.requestMarks target).pwr with cmdChan := chan }) := marks.withPwr _
  have asks : ¬ (g.askTarget target chan).allAccepted = true := fun all => by
    have quarantined := (Gov.allAccepted_drive _ target 1).1 all b hb ((keeps.present (by omega)).trans present)
    rw [keeps.quar (by omega), free] at quarantined
    exact absurd quarantined (by decide)
  have waits : ¬ (g.requested target chan).allAccepted = true := fun all => asks <| by
    have same : ∀ c, (g.requested target chan).ans c = (g.askTarget target chan).ans c := fun c => by rw [Gov.ans, Gov.ans, g.requested_pwr]
    unfold Gov.allAccepted at all ⊢
    rw [(Gov.SameAsked.requested g target chan).asked] at all
    simpa only [same] using all
  have step : (g.requested target chan).pwr.step = 1 := by rw [g.requested_pwr]; rfl
  exact (Gov.weigh_asking step (Gov.refusalsSeen_none fun c hc => .inl (g.requested_silent target chan hc))).trans (if_neg waits)

/-- What a request for a power state brings about while its berths are asked. -/
theorem Gov.requested_words (g : Gov) {target : Nat} (small : target < 8) (chan : Option (Fin 16)) : (g.requested target chan).flag F.PS_STAT_BUSY = true ∧ (g.requested target chan).psTo = target ∧
    (g.requested target chan).get F.PS_STAT_PHASE = 1 ∧ (g.requested target chan).pwr.step = 1 ∧ (g.requested target chan).pwr.psReq = target ∧ (g.requested target chan).get F.PS_STAT_ATTEMPT = (g.get F.PS_STAT_ATTEMPT + 1) % 2 ^ 16 := by
  have words : ∀ f : Fld, [F.PS_STAT_HELD].all f.apart = true → (g.requested target chan).get f = (g.requestMarks target).get f := fun f apart =>
    ((Gov.SameAsked.requested g target chan).only f apart).trans ((g.askTarget_keeps target chan (P := fun _ => True)).get trivial)
  obtain ⟨busy, dst, phase, attempt⟩ := g.requestMarks_words small
  refine ⟨?_, (words F.PS_STAT_TO (by decide)).trans dst, (words _ (by decide)).trans phase, ?_, ?_, (words _ (by decide)).trans attempt⟩
  · rw [Gov.flag, words _ (by decide), busy]; rfl
  · rw [g.requested_pwr]; rfl
  · rw [g.requested_pwr]
    exact (Gov.drive_pwr _ target).1

end Sys2Proof.Machine

open Sys2Proof Sys2Proof.Machine

/-- Settles O33: an enabled source acts as `wake_woken` says, a disabled one not at all; the request for IDLE waits for the berths (`requested_waits`). -/
theorem wakes : Obligations.Wakes := by
  intro t s g0 woken enabled
  have disabled : ∀ {src : Nat}, ¬ enabled src → bit (g0.get F.PS_WAKE_EN_EN) src = false := fun off => Bool.eq_false_of_not_eq_true off
  have row : exec (.wakeNAssert t) s = execWakeNAssert t s := rfl
  refine ⟨fun stays up => ?_, fun up => ?_, fun dark => ?_, fun p up asleep port => ?_, fun up on due => ?_, fun engine auto run some idle rests steady present => ?_⟩
  · let waiting := (g0.withPins { s.gov.pins with linkAct := stays }).withPwr { g0.pwr with restless := true }
    have level : s.gov.pinLevel t { s.gov.pins with linkAct := stays } = g0.withPins { s.gov.pins with linkAct := stays } := by rw [Gov.pinLevel, if_pos up]
    have rises : exec (.linkActRise stays t) s = .next { s with gov := waiting.wake 0 } := nextGov ((if_pos up).trans (by rw [level]; rfl))
    refine ⟨_, rises, waiting.wake_pins 0, fun on => ?_, fun off => ?_⟩
    · exact (Gov.wake_woken (g := waiting) (by decide) on).congr (fun _ => rfl) rfl
    · rw [Gov.wake_disabled (g := waiting) (disabled off)]
      exact fun _ _ => rfl
  · have asserts : exec (.wakeNAssert t) s = .next { s with gov := g0.wake 3 } := by
      rw [row, execWakeNAssert]
      exact nextBoth (if_pos up)
    exact ⟨_, asserts, fun on => Gov.wake_woken (by decide) on, fun off => by rw [Gov.wake_disabled (disabled off)]; exact fun _ _ => rfl⟩
  · have down : ¬ s.gov.up = true := by
      rcases dark with dark | ⟨_, off⟩
      · simp [Gov.up, Gov.powered, dark]
      · simp [Gov.up, off]
    have latches : (s.gov.dark || (s.gov.powered && s.gov.state == stOff)) = true := by simpa using dark
    rw [row, execWakeNAssert]
    exact nextBoth ((if_neg down).trans (if_pos latches))
  · have cond : (s.gov.up && g0.asleep && g0.flag (portEnable p)) = true := by rw [up, asleep, port]; rfl
    refine ⟨_, nextGov (if_pos cond), fun on => Gov.wake_woken (by omega) on, fun off => ?_⟩
    show g0.onlyWords (g0.wake (1 + p)) []
    rw [Gov.wake_disabled (disabled off)]
    exact fun _ _ => rfl
  · have cond : (s.gov.up && bit (g0.get F.PS_WAKE_EN_EN) 5 && decide (g0.get64 W.PS_WAKE_TIME_LO ≤ g0.now)) = true := by
      simp only [Bool.and_eq_true, decide_eq_true_eq]
      exact ⟨⟨up, on⟩, due⟩
    have fired : ∀ f : Fld, f.off = 0x504 ∨ f.off = 0x514 → ((g0.wake 5).upd F.PS_WAKE_EN_EN (· % 32)).get f = (g0.wake 5).get f := fun f hf => Gov.get_congr (Gov.word_set_ne _ _ (by rcases hf with e | e <;> rw [e] <;> decide))
    obtain ⟨exits, enters, starts⟩ := Gov.wake_woken (g := g0) (src := 5) (by decide) on
    refine ⟨_, nextGov (if_pos cond), ⟨fun busy step => ?_, fun busy step => ?_, fun rests acts => ?_⟩, ?_⟩
    · exact (fired _ (.inr rfl)).trans (exits busy step)
    · exact (fired _ (.inr rfl)).trans (enters busy step)
    · obtain ⟨busy, phase, cause, latch, replayed, step⟩ := starts rests acts
      exact ⟨(congrArg (· != 0) (fired _ (.inl rfl))).trans busy, (fired _ (.inl rfl)).trans phase, (fired _ (.inr rfl)).trans cause, (fired _ (.inr rfl)).trans latch, (congrArg (· != 0) (fired _ (.inr rfl))).trans replayed, step⟩
    · show ((g0.wake 5).upd F.PS_WAKE_EN_EN (· % 32)).get F.PS_WAKE_EN_EN = _
      rw [Gov.upd_eq, Gov.get_set_self _ _ (by decide), g0.wake_get 5 (by decide)]
      exact Nat.mod_eq_of_lt (Nat.lt_of_lt_of_le (Nat.mod_lt _ (by decide)) (by decide))
  · obtain ⟨b, here, free⟩ := present
    have cond : (s.gov.engine && g0.flag F.PS_CFG_IDLE_AUTO && g0.state == stRun && decide (max 1 (g0.get F.PS_IDLE_IDLE_SMP) ≤ g0.pwr.idle)) = true := by
      simp only [Bool.and_eq_true, beq_iff_eq, decide_eq_true_eq]
      exact ⟨⟨⟨engine, auto⟩, run⟩, by omega⟩
    have ok : ((g0.state == stRun || g0.state == stIdle) && decide (1 ≤ stIdle) && decide (stIdle ≤ 4) && stIdle != g0.state && !g0.flag F.PS_STAT_BUSY && !g0.flag F.LIM_STEADY_STAT_ACTIVE) = true := by
      rw [run, rests, steady]; rfl
    have asks := (Gov.psRequest_taken none ok).trans (Gov.requested_waits stIdle none b.isLt here free)
    obtain ⟨busy, dst, phase, step, code, attempt⟩ := g0.requested_words (target := stIdle) (by decide) none
    exact ⟨_, nextGov ((if_pos cond).trans asks), busy, dst, phase, step, code, attempt⟩
end

section
namespace Sys2Proof.Machine

/-! ### PLDM commands (R59, R63) -/

/-- A PLDM command of an endpoint that is assigned gives its answer and writes no register. -/
theorem pldm_answers {f : Gov → Gov} {t : Fin 250} {s : State} {h : Gov} (up : s.gov.up = true) (eid : (s.gov.reach t).mgmt.eid ≠ 0) (e : f (s.gov.reach t) = h) :
    s.onGov (fun g => g.ev t fun g => g.pldm f) = .next { s with gov := h } := nextGov ((Gov.ev_up _ _ _ up).trans ((if_neg eid).trans e))

/-- The management port gives an answer, and no register changes. -/
def Gov.Says (g : Gov) (bs : List Byte) (h : Gov) : Prop := h.mgmt = { g.mgmt with answer := some bs } ∧ g.onlyWords h []

theorem Gov.reply_says (g : Gov) (bs : List Byte) : g.Says bs (g.reply (some bs)) := ⟨rfl, fun _ _ => rfl⟩

theorem Gov.reply_flt (g : Gov) (bs : Option (List Byte)) : (g.reply bs).flt = g.flt := rfl

/-- An event that is given waits for its acceptance. -/
theorem Gov.reply_polled (g : Gov) (x : FaultSt) (bs : List Byte) : g.Says bs ((g.withFlt x).reply (some bs)) ∧ ((g.withFlt x).reply (some bs)).flt = x := ⟨⟨rfl, fun _ _ => rfl⟩, rfl⟩

theorem pldm_says {f : Gov → Gov} {t : Fin 250} {s : State} {bs : List Byte} (up : s.gov.up = true) (eid : (s.gov.reach t).mgmt.eid ≠ 0) (e : f (s.gov.reach t) = (s.gov.reach t).reply (some bs)) :
    ∃ g, s.onGov (fun g => g.ev t fun g => g.pldm f) = .next { s with gov := g } ∧ (s.gov.reach t).Says bs g := ⟨_, pldm_answers up eid e, Gov.reply_says _ _⟩

/-- Without an endpoint ID a PLDM command is not answered. -/
theorem pldm_silent {f : Gov → Gov} {t : Fin 250} {s : State} (up : s.gov.up = true) (eid : (s.gov.reach t).mgmt.eid = 0) :
    ∃ g, s.onGov (fun g => g.ev t fun g => g.pldm f) = .next { s with gov := g } ∧ g.mgmt = { (s.gov.reach t).mgmt with answer := none } ∧ (s.gov.reach t).onlyWords g [] :=
  ⟨_, nextGov ((Gov.ev_up _ _ _ up).trans (if_pos eid)), rfl, fun _ _ => rfl⟩

theorem Gov.not_monitors {g : Gov} (off : ¬ (g.mgmtServes = true ∧ g.anchored = false)) : (!g.monitors) = true := by
  rw [Bool.not_eq_true', Gov.monitors]
  exact Bool.eq_false_of_not_eq_true fun on => off (by simpa using on)

theorem Gov.monitors_of_ready {g : Gov} (on : g.mgmtServes = true ∧ g.anchored = false) : ¬ (!g.monitors) = true := by simpa [Gov.monitors] using on

/-- An accepted section leaves the queue. -/
theorem Gov.acceptEvent_record {g : Gov} {a b : Nat} {c : List Byte} {d e : Option (List Byte)} {f : List Byte} (sent : g.flt.event = some (.cper a b c d e f)) :
    g.acceptEvent = (g.withFlt { g.flt with queue := g.flt.queue.drop 1, event := none }).set F.FLT_REC_QUEUED (g.flt.queue.drop 1).length := by
  unfold Gov.acceptEvent
  rw [sent]
  rfl

/-- An accepted notice waits no longer. -/
theorem Gov.acceptEvent_notice {g : Gov} {d : List Byte} (sent : g.flt.event = some (.notice d)) : g.acceptEvent = { g with flt := { g.flt with event := none }, pwr := { g.pwr with notice := none } } := by
  unfold Gov.acceptEvent
  rw [sent]

end Sys2Proof.Machine

open Sys2Proof Sys2Proof.Machine

/-- Settles O56: each command's answer is the branch that the hypotheses select. -/
theorem platformMonitoring : Obligations.PlatformMonitoring := by
  intro t s g0 up said ready
  refine ⟨fun none => ?_, fun eid => ?_, fun x rest queue serves on idle => ?_, fun powered => ⟨fun a b c d e f sent => ?_, fun d sent => ?_⟩⟩
  · simp only [List.forall_mem_cons]
    exact ⟨pldm_silent up none, pldm_silent up none, pldm_silent up none, pldm_silent up none, pldm_silent up none, pldm_silent up none, pldm_silent up none, pldm_silent up none, pldm_silent up none, pldm_silent up none, pldm_silent up none, by simp⟩
  · refine ⟨pldm_says up eid rfl, pldm_says up eid rfl, fun type known => ⟨_, pldm_answers up eid (if_pos known), fun _ _ => rfl, _, rfl⟩, fun type base monitoring => ?_, pldm_says up eid (if_pos (.inl rfl)), pldm_says up eid (if_pos (.inr rfl)),
      fun r => ⟨_, pldm_answers up eid rfl, rfl, fun _ _ => rfl⟩, pldm_says up eid rfl, fun size => pldm_says up eid rfl, pldm_says up eid rfl, fun id h => ⟨fun off => ?_, fun on => ⟨fun v on' signed reads => ?_, fun unknown => ?_, fun beyond => ?_, fun first => ?_, fun x low here => ?_⟩⟩,
      fun off ack => ?_, fun serves => ⟨fun e next => ?_, fun next => ?_⟩⟩
    · have unknown : ¬ (type = 0 ∨ type = 2) := fun known => known.elim base monitoring
      exact ⟨pldm_says up eid (if_neg unknown), pldm_says up eid (if_neg unknown)⟩
    · exact ⟨pldm_says up eid (if_pos (Gov.not_monitors off)), pldm_says up eid (if_pos (Gov.not_monitors off))⟩
    · refine pldm_says up eid ((if_neg (Gov.monitors_of_ready on)).trans ?_)
      rw [reads]
    · refine pldm_says up eid ((if_neg (Gov.monitors_of_ready on)).trans ?_)
      rw [unknown]
    · exact pldm_says up eid ((if_neg (Gov.monitors_of_ready on)).trans (if_pos beyond))
    · exact pldm_says up eid ((if_neg (Gov.monitors_of_ready on)).trans ((if_neg (by unfold pdrCount; omega)).trans (if_pos first)))
    · obtain ⟨inside, _⟩ := List.getElem?_eq_some_iff.1 here
      have few : ¬ pdrCount < h.toNat := by
        have count : sensorIds.length = 45 := rfl
        unfold pdrCount
        omega
      refine pldm_says up eid ((if_neg (Gov.monitors_of_ready on)).trans ((if_neg few).trans ((if_neg (by omega)).trans ?_)))
      rw [List.getD_eq_getElem?_getD, here]
      rfl
    · exact pldm_says up eid (if_pos (by rw [off]; rfl))
    · have busy : ¬ (!(s.gov.reach t).mgmtServes) = true := by rw [show (s.gov.reach t).mgmtServes = true from serves]; decide
      refine ⟨_, pldm_answers (h := (g0.withFlt { g0.flt with event := some e }).reply (some ([0] ++ leBytes 1 g0.mgmt.tid ++ [eventClass e]))) up eid ((if_neg busy).trans ?_), g0.reply_polled _ _⟩
      rw [if_neg Bool.false_ne_true]
      dsimp only
      rw [show (s.gov.reach t).nextEvent = some e from next]
    · have busy : ¬ (!(s.gov.reach t).mgmtServes) = true := by rw [show (s.gov.reach t).mgmtServes = true from serves]; decide
      refine ⟨_, pldm_answers (h := g0.reply (some ([0] ++ leBytes 1 g0.mgmt.tid ++ [0, 0]))) up eid ((if_neg busy).trans ?_), g0.reply_says _, g0.reply_flt _⟩
      rw [if_neg Bool.false_ne_true]
      dsimp only
      rw [show (s.gov.reach t).nextEvent = none from next]
  · have sends : (g0.mgmtServes && g0.state != stOff && g0.flt.event.isNone) = true := by simp [serves, on, idle]
    refine ⟨_, nextGov (h := g0.withFlt { g0.flt with event := some (g0.recordEvent x) }) ?_, rfl, fun _ _ => rfl⟩
    dsimp only
    rw [show (s.gov.reach t).flt.queue = x :: rest from queue]
    exact if_pos sends
  all_goals
    have on : s.gov.powered = true := by
      unfold Gov.up at up
      exact (Bool.and_eq_true_iff.1 up).1
    have accepts : (s.gov.powered && (s.gov.reach t).flt.event.isSome) = true := by
      rw [on, show (s.gov.reach t).flt.event = _ from sent]; rfl
  · refine ⟨_, nextGov ((if_pos accepts).trans (Gov.acceptEvent_record sent)), rfl, fun few => ?_, Gov.onlyFields_set _ (Gov.onlyFields_refl _ _) (by simp)⟩
    rw [Gov.get_set_self _ _ (by decide), List.length_drop]
    exact Nat.mod_eq_of_lt (Nat.lt_of_le_of_lt (Nat.sub_le _ _) (Nat.lt_of_le_of_lt few (by decide)))
  · exact ⟨_, nextGov ((if_pos accepts).trans (Gov.acceptEvent_notice sent)), rfl, rfl, fun _ _ => rfl⟩
end

section

-- One proof at a time: side by side they take more threads than the memory limit of the check holds.
set_option Elab.async false

namespace Sys2Proof.Machine

/-! ### Moving in time leaves the firmware's record alone (R23, R343) -/

/-- The record of the firmware is the same in both states. -/
def Gov.SameFirm (g h : Gov) : Prop := h.firm = g.firm

variable {g h k : Gov}

theorem Gov.SameFirm.refl (g : Gov) : g.SameFirm g := rfl
theorem Gov.SameFirm.setWord (a : g.SameFirm h) (o : Nat) (w : Word) : g.SameFirm (h.setWord o w) := a
theorem Gov.SameFirm.set (a : g.SameFirm h) (f : Fld) (v : Nat) : g.SameFirm (h.set f v) := a
theorem Gov.SameFirm.mark (a : g.SameFirm h) (f : Fld) : g.SameFirm (h.mark f) := a
theorem Gov.SameFirm.inc (a : g.SameFirm h) (f : Fld) (n : Nat) : g.SameFirm (h.inc f n) := a
theorem Gov.SameFirm.upd (a : g.SameFirm h) (f : Fld) (x : Nat → Nat) : g.SameFirm (h.upd f x) := a
theorem Gov.SameFirm.sset (a : g.SameFirm h) (f : Fld) (v : Int) : g.SameFirm (h.sset f v) := a
theorem Gov.SameFirm.withNow (a : g.SameFirm h) (x : Nat) : g.SameFirm (h.withNow x) := a
theorem Gov.SameFirm.withFree (a : g.SameFirm h) (x : Nat) : g.SameFirm (h.withFree x) := a
theorem Gov.SameFirm.withHeld (a : g.SameFirm h) (x : Tab Word) : g.SameFirm (h.withHeld x) := a
theorem Gov.SameFirm.withFlt (a : g.SameFirm h) (x : FaultSt) : g.SameFirm (h.withFlt x) := a
theorem Gov.SameFirm.withPwr (a : g.SameFirm h) (x : PowerSt) : g.SameFirm (h.withPwr x) := a
theorem Gov.SameFirm.withEng (a : g.SameFirm h) (x : EngSt) : g.SameFirm (h.withEng x) := a
theorem Gov.SameFirm.withFcu (a : g.SameFirm h) (x : FcuSt) : g.SameFirm (h.withFcu x) := a
theorem Gov.SameFirm.withSns (a : g.SameFirm h) (x : SnsSt) : g.SameFirm (h.withSns x) := a
theorem Gov.SameFirm.withTrc (a : g.SameFirm h) (x : TrcSt) : g.SameFirm (h.withTrc x) := a
theorem Gov.SameFirm.setSyn (a : g.SameFirm h) (s : Nat) (f : SynSt → SynSt) : g.SameFirm (h.setSyn s f) := a
theorem Gov.SameFirm.setRgn (a : g.SameFirm h) (rg : Nat) (f : RegionSt → RegionSt) : g.SameFirm (h.setRgn rg f) := a
theorem Gov.SameFirm.setRail (a : g.SameFirm h) (r : Nat) (f : RailSt → RailSt) : g.SameFirm (h.setRail r f) := a
theorem Gov.SameFirm.setPh (a : g.SameFirm h) (p : Nat) (f : PhaseSt → PhaseSt) : g.SameFirm (h.setPh p f) := a
theorem Gov.SameFirm.setAns (a : g.SameFirm h) (b : Nat) (f : BerthAns → BerthAns) : g.SameFirm (h.setAns b f) := a
theorem Gov.SameFirm.psStep (a : g.SameFirm h) (n : Nat) : g.SameFirm (h.psStep n) := a

theorem Gov.SameFirm.ite {c : Prop} [Decidable c] (a : g.SameFirm h) (b : g.SameFirm k) : g.SameFirm (if c then h else k) := by
  split <;> assumption

theorem Gov.SameFirm.each {α : Type} {f : Gov → α → Gov} (a : g.SameFirm h) (xs : List α) (step : ∀ h, ∀ x ∈ xs, g.SameFirm h → g.SameFirm (f h x)) : g.SameFirm (h.each xs f) :=
  Gov.each_keeps_mem (P := fun h => g.SameFirm h) xs step h a

/-! Faults. -/

theorem Gov.SameFirm.log (a : g.SameFirm h) (time type : Nat) (ps : List Nat) : g.SameFirm (h.log time type ps) := by
  exact (besideFlt_firm (Gov.log_besideFlt _ _ _ _)).trans a

theorem Gov.SameFirm.queueRecord (a : g.SameFirm h) (r : Raise) : g.SameFirm (h.queueRecord r) := by
  have b := a.setWord W.FLT_REC_SEQ (BitVec.ofNat 32 ((h.word W.FLT_REC_SEQ).toNat + 1))
  unfold Gov.queueRecord
  exact .ite ((b.inc _ _).withFlt _) ((b.withFlt _).set _ _)

theorem Gov.SameFirm.recordRaise (a : g.SameFirm h) (r : Raise) : g.SameFirm (h.recordRaise r) := .ite a ((a.log _ _ _).queueRecord _)

theorem Gov.SameFirm.setTable (a : g.SameFirm h) (t : List Entry) : g.SameFirm (h.setTable t) := by
  unfold Gov.setTable
  exact (((a.withFcu _).set F.FCU_LIVE_LIVE _).upd F.FCU_LIVE_LIVE_PEAK _).each _ fun _ b _ c => c.set _ _

theorem Gov.SameFirm.purge (a : g.SameFirm h) (pick : Entry → Bool) : g.SameFirm (h.purge pick) := .ite a ((a.setTable _).inc _ _)

theorem Gov.SameFirm.purgeAll (a : g.SameFirm h) : g.SameFirm h.purgeAll :=
  (((a.purge _).withFcu _).set F.FCU_HINT_STAT_ACTIVE _).set F.FCU_HINT_STAT_HELD _

theorem Gov.SameFirm.hold (a : g.SameFirm h) (o : Nat) : g.SameFirm (h.hold o) := .ite a (a.withHeld _)

theorem Gov.SameFirm.reactRaise (a : g.SameFirm h) (r : Raise) : g.SameFirm (h.reactRaise r) := by
  unfold Gov.reactRaise
  split
  · split
    · exact (a.mark _).purge _
    · exact a
  · exact (a.mark F.FLT_CTRL_TRIPPED).each _ fun _ k _ b => .ite ((b.hold _).set _ _) b
  · exact a

theorem Gov.SameFirm.resolve (a : g.SameFirm h) : g.SameFirm h.resolve :=
  (((a.withFlt _).each _ fun _ r _ b => (b.recordRaise r).reactRaise r).set F.FLT_CTRL_THROTTLED _).set F.FLT_CTRL_STOPPED _

theorem Gov.SameFirm.countRaise (a : g.SameFirm h) (src : Nat) : g.SameFirm (h.countRaise src) := by
  unfold Gov.countRaise
  split
  · exact a.set _ _
  · exact a

theorem Gov.SameFirm.raise (a : g.SameFirm h) (src detail : Nat) (silent : Bool := false) : g.SameFirm (h.raise src detail silent) := by
  have b : g.SameFirm ((h.countRaise src).enlist src detail silent) := ((a.countRaise src).mark _).withFlt _
  exact .ite a (.ite (a.countRaise src) (.ite b.resolve b))

theorem Gov.SameFirm.bollard (a : g.SameFirm h) (kind idx : Nat) : g.SameFirm (h.bollard kind idx) :=
  ((a.inc F.HLIM_ACT_CNT_COUNT _).log _ _ _).raise _ _

/-! Commands and fences. -/

theorem Gov.SameFirm.fire (a : g.SameFirm h) (e : SigEvent) : g.SameFirm (h.fire e) := (besideCmd_firm (Gov.fire_besideCmd _ _)).trans a
theorem Gov.SameFirm.takeUp (a : g.SameFirm h) : g.SameFirm h.takeUp := (besideCmd_firm (Gov.takeUp_besideCmd _)).trans a
theorem Gov.SameFirm.post (a : g.SameFirm h) (n : Nat) (ws : List Nat) (status : Nat) (params : List Nat) : g.SameFirm (h.post n ws status params) := (besideCmd_firm (Gov.post_besideCmd _ _ _ _ _)).trans a
theorem Gov.SameFirm.commit (a : g.SameFirm h) (n : Nat) (ws : List Nat) (status : Nat) (at_ : Option SigEvent) : g.SameFirm (h.commit n ws status at_) := (besideCmd_firm (Gov.commit_besideCmd _ _ _ _ _)).trans a

theorem Gov.SameFirm.answerPs (a : g.SameFirm h) (status : Nat) (params : List Nat) : g.SameFirm (h.answerPs status params) := by
  unfold Gov.answerPs
  split
  · exact a
  · next n _ =>
    have b : g.SameFirm (h.withPwr { h.pwr with cmdChan := none }) := a.withPwr _
    dsimp only
    split
    · split
      · exact b.post _ _ _ _
      · exact (b.commit _ _ _ _).post _ _ _ _
    · exact b

/-! Rails. -/

theorem Gov.SameFirm.refreshTele (a : g.SameFirm h) (r : Nat) : g.SameFirm (h.refreshTele r) :=
  (a.set (F.RAIL_TELE_IOUT r) _).set (F.RAIL_POUT_POUT r) _

theorem Gov.SameFirm.refreshAct (a : g.SameFirm h) (r : Nat) : g.SameFirm (h.refreshAct r) :=
  (a.set (F.RAIL_STATE_N_ACT r) _).refreshTele r

theorem Gov.SameFirm.raisePhase (a : g.SameFirm h) (p : Nat) : g.SameFirm (h.raisePhase p) :=
  (a.mark (F.PH_STAT_ACTIVE p)).setPh _ _

theorem Gov.SameFirm.enterState (a : g.SameFirm h) (r st : Nat) : g.SameFirm (h.enterState r st) :=
  (a.set (F.RAIL_STATE_STATE r) _).setRail _ _

theorem Gov.SameFirm.abortShed (a : g.SameFirm h) (r : Nat) : g.SameFirm (h.abortShed r) := by
  unfold Gov.abortShed
  split
  · exact (((a.set _ _).setPh _ _).inc _ _).setRail _ _
  · exact a

theorem Gov.SameFirm.setTarget (a : g.SameFirm h) (r e : Nat) : g.SameFirm (h.setTarget r e) :=
  .ite a ((a.set _ _).set _ _)

theorem Gov.SameFirm.setVcmd (a : g.SameFirm h) (r : Nat) (v : Int) : g.SameFirm (h.setVcmd r v) := by
  unfold Gov.setVcmd
  exact a.sset (F.RAIL_VCMD_VCMD r) _

theorem Gov.SameFirm.rampFrom (a : g.SameFirm h) (r : Nat) (v : Int) : g.SameFirm (h.rampFrom r v) := by
  have b := ((a.each (f := fun g p => if g.phaseOn p then g else g.raisePhase p) (h.inService r) fun _ p _ b => .ite b (b.raisePhase p)).refreshAct r).setVcmd r v
  have c := b.set (F.RAIL_STATE_REACHED r) 0
  unfold Gov.rampFrom
  dsimp only
  refine Gov.SameFirm.enterState (Gov.SameFirm.setRail ?_ _ _) _ _
  exact c

theorem Gov.SameFirm.startRail (a : g.SameFirm h) (r : Nat) : g.SameFirm (h.startRail r) := by
  have b := a.setRail r fun x => { x with psStop := false }
  unfold Gov.startRail Gov.beginStart
  exact .ite b (.ite (b.enterState _ _) (.ite (b.enterState _ _) (.ite (b.enterState _ _) (.ite (b.rampFrom _ _) b))))

/-! Synthesizers and regions. -/

theorem Gov.SameFirm.reglide (a : g.SameFirm h) (s : Nat) : g.SameFirm (h.reglide s) := by
  unfold Gov.reglide
  dsimp only
  refine Gov.SameFirm.set (.set ?_ _ _) _ _
  exact .ite a (a.setSyn _ _)

theorem Gov.SameFirm.retarget (a : g.SameFirm h) (s : Nat) : g.SameFirm (h.retarget s) := by
  unfold Gov.retarget
  refine .ite a ?_
  split
  · exact (a.set _ _).reglide _
  · have b := fun v => a.set (F.FSYN_STAT_FLOOR s) v
    have c := fun v => (b v).mark (F.FSYN_STAT_CLAMP s)
    exact Gov.SameFirm.reglide (.set (.ite (.ite (c _) (((c _).setSyn _ _).bollard _ _)) ((b _).setSyn _ _)) _ _) _

/-! ### The late steps of an ended sample -/

/-! Step 4. -/

theorem Gov.SameFirm.setLive (a : g.SameFirm h) (o : Nat) (w : Word) : g.SameFirm (h.setLive o w) := .ite (a.withHeld _) (a.setWord o w)

theorem Gov.SameFirm.overrunSlots (a : g.SameFirm h) : g.SameFirm h.overrunSlots.2 := by
  unfold Gov.overrunSlots
  dsimp only
  split
  · exact a
  · exact a.withFree _

theorem Gov.SameFirm.executed (a : g.SameFirm h) (rs : List LoopRes) (late : List Nat) : g.SameFirm (h.executed rs late).2 := by
  unfold Gov.executed
  dsimp only
  split
  · exact a
  · exact a.withFree _

theorem Gov.SameFirm.idleCycles (a : g.SameFirm h) (steps tbls : Nat) : g.SameFirm (h.idleCycles steps tbls).2 := by
  unfold Gov.idleCycles
  dsimp only
  split
  · exact a
  · exact a.withFree _

theorem Gov.SameFirm.overrun (a : g.SameFirm h) (k : Nat) : g.SameFirm (h.overrun k) := ((a.inc _ _).mark _).raise _ _

theorem Gov.SameFirm.commitLoop (a : g.SameFirm h) (written : List Nat) (r : LoopRes) : g.SameFirm (h.commitLoop written r) := by
  unfold Gov.commitLoop
  extract_lets k out s0 s1 stat
  have hout : g.SameFirm out := a.sset _ _
  have hs0 : g.SameFirm s0 := by
    unfold s0
    split
    · exact .ite hout ((hout.setLive _ _).setLive _ _)
    · exact hout
  have hs1 : g.SameFirm s1 := by
    unfold s1
    split
    · exact .ite hs0 (hs0.setLive _ _)
    · exact hs0
  have hstat : g.SameFirm stat := (((hs1.set _ _).set _ _).set _ _).set _ _
  exact .ite (hstat.mark _) hstat

theorem Gov.SameFirm.closeLoops (a : g.SameFirm h) (lanes written : List Nat) : g.SameFirm (h.closeLoops lanes written).2 := by
  unfold Gov.closeLoops
  split
  next late g1 e1 =>
  have h1 : g.SameFirm g1 := by simpa [e1] using a.overrunSlots
  extract_lets rs bad overran counted lost done
  have hover : g.SameFirm overran := h1.each _ fun _ r _ b => b.overrun r.slot
  have hcount : g.SameFirm counted := .ite hover ((hover.inc _ _).mark _)
  have hlost : g.SameFirm lost := hcount.each _ fun _ k _ b => b.raise 257 k
  split
  next ex g2 e2 =>
  have h2 : g.SameFirm g2 := by simpa [e2] using hlost.executed rs late
  split
  next idle g3 e3 =>
  have h3 : g.SameFirm g3 := by simpa [e3] using h2.idleCycles ex.1 ex.2
  refine Gov.SameFirm.withEng (Gov.SameFirm.each ?_ _ fun _ r _ b => b.commitLoop written r) _
  exact .ite (((h3.upd _ _).upd _ _).mark _) h3

theorem Gov.SameFirm.stepFour (a : g.SameFirm h) (l : LateSt) : g.SameFirm (h.stepFour l) := (a.closeLoops _ _).withFcu _

/-! Step 5. -/

theorem Gov.SameFirm.setWon (a : g.SameFirm h) (winners : List Nat) : g.SameFirm (h.setWon winners) :=
  ((a.each _ fun _ _ _ b => b.set _ _).each _ fun _ _ _ b => b.mark _).withEng _

theorem Gov.SameFirm.arbitrate (a : g.SameFirm h) (idx : Nat) (bad : List (Nat × Nat)) : g.SameFirm (h.arbitrate idx bad) := by
  unfold Gov.arbitrate
  extract_lets slots present dest hit railW dieW regW railOut dieOut berthW won own taken rails die regions berths railF regionF shown _ kept ceils
  have htaken : g.SameFirm taken := a.setWon _
  have hrails : g.SameFirm rails := htaken.each _ fun _ r hr b => .ite b (b.setWord _ _)
  have hdie : g.SameFirm die := .ite hrails (hrails.setWord _ _)
  have hregions : g.SameFirm regions := hdie.each _ fun _ rg hrg b => .ite b (b.setWord _ _)
  have hberths : g.SameFirm berths := hregions.each _ fun _ _ _ b => .ite b (b.setWord _ _)
  have hceils : g.SameFirm ceils := (hberths.withEng _).each _ fun _ _ _ b => b.set _ _
  exact hceils.each _ fun _ _ _ b => b.raise _ _

theorem Gov.SameFirm.endSteady (a : g.SameFirm h) : g.SameFirm h.endSteady := (a.set _ _).each _ fun _ r _ b => b.setRail r _

theorem Gov.SameFirm.steadyBreak (a : g.SameFirm h) (idx : Nat) : g.SameFirm (h.steadyBreak idx) := by
  unfold Gov.steadyBreak
  split
  · exact a
  · extract_lets low slow word
    clear_value word
    cases word with
    | some w => exact (((a.endSteady.mark _).setWord _ _).log _ _ _).mark _
    | none => exact a

theorem Gov.SameFirm.settleEntries (a : g.SameFirm h) : g.SameFirm h.settleEntries := by
  unfold Gov.settleEntries Gov.expireEntries
  extract_lets due n kept
  exact .ite a (((a.setTable _).inc _ _).inc _ _)

theorem Gov.SameFirm.dropHint (a : g.SameFirm h) (k : Nat) : g.SameFirm (h.dropHint k) :=
  ((a.withFcu _).set _ _).set _ _

theorem Gov.SameFirm.settleHints (a : g.SameFirm h) : g.SameFirm h.settleHints := by
  have hint : ∀ {h : Gov} (k : Nat), g.SameFirm h → g.SameFirm (h.mark ⟨W.FCU_HINT_STAT, k, 1⟩) := fun k b => b.mark _
  refine a.each _ fun _ x _ b => ?_
  split
  · exact .ite (b.dropHint _) (.ite (hint _ b) b)
  · exact .ite (hint _ b) b

theorem Gov.SameFirm.freeEntry (a : g.SameFirm h) (e : BadEntry) : g.SameFirm (h.freeEntry e) := .ite ((a.purge _).raise _ _) a

theorem Gov.SameFirm.stepFive (a : g.SameFirm h) (l : LateSt) : g.SameFirm (h.stepFive l) := by
  have targets := ((a.arbitrate l.idx l.dests).steadyBreak l.idx).each (List.range 16) fun _ s _ b => b.retarget s
  have entries := targets.settleEntries.settleHints.each l.entries fun _ e _ b => b.freeEntry e
  exact (entries.withFcu _).withEng _

/-! Step 6. -/

theorem Gov.SameFirm.dropSnap (a : g.SameFirm h) (b : Nat) : g.SameFirm (h.dropSnap b) := .ite ((a.set _ _).set _ _) a

theorem Gov.SameFirm.formTargets (a : g.SameFirm h) (snaps : List Snap) : g.SameFirm (h.formTargets snaps) :=
  ((a.withFcu _).each _ fun _ _ _ b => (b.set _ _).set _ _).each _ fun _ x _ b => b.dropSnap x

theorem Gov.SameFirm.publishForecast (a : g.SameFirm h) (classes : List Nat) (snaps : List Snap) (r : Nat) : g.SameFirm (h.publishForecast classes snaps r) := by
  have rise := a.set (F.FCU_RAIL_FC_RISE r) (h.railRise classes snaps r)
  unfold Gov.publishForecast
  dsimp only
  split
  · exact (rise.set _ _).mark _
  · exact (rise.set _ _).set _ _

theorem Gov.SameFirm.showStage (a : g.SameFirm h) (x : Snap) : g.SameFirm (h.showStage x) :=
  (((a.set _ _).set _ _).set _ _).set _ _

theorem Gov.SameFirm.selectEntry (a : g.SameFirm h) (r : Nat) : g.SameFirm (h.selectEntry r) := by
  unfold Gov.selectEntry
  extract_lets rgs sel low flagged fc want0 want
  have hflag : g.SameFirm flagged := a.set _ _
  exact .ite (hflag.setTarget _ _) (.ite (hflag.setTarget _ _) (.ite (.ite (hflag.setTarget _ _) hflag) (.ite (hflag.fire _) hflag)))

theorem Gov.SameFirm.addPhases (a : g.SameFirm h) (r n : Nat) : g.SameFirm (h.addPhases r n) := .ite a (((a.each _ fun _ p _ b => b.raisePhase p).refreshAct r).setRail r _)

theorem Gov.SameFirm.beginShed (a : g.SameFirm h) (r : Nat) : g.SameFirm (h.beginShed r) := by
  unfold Gov.beginShed
  split
  · exact ((a.mark _).setPh _ _).setRail _ _
  · exact a

theorem Gov.SameFirm.phaseCounts (a : g.SameFirm h) (r : Nat) : g.SameFirm (h.phaseCounts r) := by
  unfold Gov.phaseCounts
  extract_lets n asked added held
  have hadded : g.SameFirm added := (a.set _ _).addPhases r _
  have hheld : g.SameFirm held := hadded.setRail r _
  exact .ite a (.ite hadded (.ite (.ite (hheld.beginShed r) hheld) (hadded.setRail r _)))

theorem Gov.SameFirm.imbalance (a : g.SameFirm h) (r : Nat) : g.SameFirm (h.imbalance r) :=
  a.each _ fun _ p _ b => .ite (.ite ((b.setPh p _).mark _) (b.setPh p _)) (b.setPh p _)

theorem Gov.SameFirm.regulatorStep (a : g.SameFirm h) : g.SameFirm h.regulatorStep := by
  unfold Gov.regulatorStep
  extract_lets on selected counted
  have hsel : g.SameFirm selected := .ite a (a.each _ fun _ r _ b => b.selectEntry r)
  have hcount : g.SameFirm counted := .ite hsel (hsel.each _ fun _ r _ b => b.phaseCounts r)
  exact hcount.each _ fun _ r _ b => b.imbalance r

theorem Gov.SameFirm.trimStep (a : g.SameFirm h) : g.SameFirm h.trimStep := (a.withSns _).each _ fun _ _ _ b => b.set _ _

theorem Gov.SameFirm.stepSix (a : g.SameFirm h) (l : LateSt) : g.SameFirm (h.stepSix l) := by
  unfold Gov.stepSix
  extract_lets published staged
  have hpub : g.SameFirm published := (a.formTargets l.snaps).each _ fun _ r _ b => b.publishForecast _ _ r
  have hshown := hpub.each l.snaps fun _ x _ b => b.showStage x
  have htargets : g.SameFirm (published.each l.snaps Gov.showStage).psTargets := .ite (hshown.psStep 3) hshown
  have hstaged : g.SameFirm staged := (((htargets.withHeld _).regulatorStep).withHeld _).trimStep
  exact (hstaged.withPwr _).withFcu _

/-! Step 7. -/

theorem Gov.SameFirm.setBuf (a : g.SameFirm h) (n : Nat) (b : TraceBuf) : g.SameFirm (h.setBuf n b) := (a.withTrc _).set _ _

theorem Gov.SameFirm.record (a : g.SameFirm h) (n : Nat) (stop : Bool) (idx kind index v0 v1 : Nat) : g.SameFirm (h.record n stop idx kind index v0 v1) := by
  have lost := a.inc (F.TRC_LOST_COUNT n) 1
  exact .ite (a.setBuf n _) (.ite (a.mark _) (.ite (lost.setBuf n _) (lost.setBuf n _)))

theorem Gov.SameFirm.traceSample (a : g.SameFirm h) (idx : Nat) (cfg : List Nat) (sensed : List (Nat × Nat × Nat)) : g.SameFirm (h.traceSample idx cfg sensed) :=
  a.each _ fun _ _ _ b => .ite (b.each _ fun _ _ _ c => c.record _ _ _ _ _ _ _) b

theorem Gov.SameFirm.watchValue (a : g.SameFirm h) (x : WatchHit) (var : Nat) : g.SameFirm (h.watchValue x var).2 := by
  unfold Gov.watchValue
  split
  · exact a
  · split
    · exact a
    · split
      · exact a
      · split
        · exact a
        · dsimp only
          split
          · exact a.withFree _
          · exact a

theorem Gov.SameFirm.watchSample (a : g.SameFirm h) (idx : Nat) (cfg : List Nat) (ran : List LoopRes) (gone : List Nat) : g.SameFirm (h.watchSample idx cfg ran gone) := by
  unfold Gov.watchSample
  extract_lets x named _ noted streams n
  have hnoted : g.SameFirm noted := .ite (a.withTrc _) a
  exact .ite ((hnoted.watchValue x _).record _ _ _ _ _ _ _) hnoted

theorem Gov.SameFirm.stepSeven (a : g.SameFirm h) (l : LateSt) : g.SameFirm (h.stepSeven l) := ((a.traceSample _ _ _).watchSample _ _ _ _).withFcu _

theorem Gov.SameFirm.withCode (a : g.SameFirm h) (code : Nat) {f : Gov → Gov} (step : ∀ h, g.SameFirm h → g.SameFirm (f h)) : g.SameFirm (h.withCode code f) :=
  .ite (step h a) ((step _ (a.set _ _)).set _ _)

theorem Gov.SameFirm.lateStep (a : g.SameFirm h) (l : LateSt) : g.SameFirm (h.lateStep l) := by
  refine a.withCode l.code fun h b => ?_
  split
  · exact b.stepFour l
  · exact b.stepFive l
  · exact b.stepSix l
  · exact b.stepSeven l

/-! ### Answers, and moving in time -/

theorem Gov.SameFirm.countHold (a : g.SameFirm h) : g.SameFirm h.countHold := .ite (a.set _ _) a

theorem Gov.SameFirm.refusalRecord (a : g.SameFirm h) (b rsn target : Nat) (exit_ : Bool) : g.SameFirm (h.refusalRecord b rsn target exit_).2 := by
  have words : ∀ i ws, g.SameFirm (h.writeWords (W.PS_REFUSE i 0) ws) := fun i ws => a.each _ fun _ _ _ c => c.setWord _ _
  unfold Gov.refusalRecord
  extract_lets i w2 n0 n1 written headed
  have hheaded : g.SameFirm headed := (words i _).set _ _
  exact .ite hheaded (hheaded.log _ _ _)

theorem Gov.SameFirm.refusal (a : g.SameFirm h) (b rsn : Nat) : g.SameFirm (h.refusal b rsn).2 := (a.refusalRecord b rsn h.psTo false).set _ _

theorem Gov.SameFirm.drive (a : g.SameFirm h) (code : Nat) : g.SameFirm (h.drive code) := (a.withPwr _).each _ fun _ b _ c => c.setAns b _

theorem Gov.SameFirm.runCodes (a : g.SameFirm h) : g.SameFirm h.runCodes := ((a.each _ fun _ _ _ b => b.withPwr _).withPwr _).psStep 11

theorem Gov.SameFirm.beginExit (a : g.SameFirm h) (causes : Nat) (replayed : Bool) : g.SameFirm (h.beginExit causes replayed) := by
  unfold Gov.beginExit
  extract_lets phased noted _ started
  have hphased : g.SameFirm phased := (((a.set _ _).set _ _).set _ _).set _ _
  have hstarted : g.SameFirm started := ((hphased.set _ _).set _ _).withPwr _
  exact .ite ((hstarted.withPwr _).psStep 10) hstarted.runCodes

theorem Gov.SameFirm.endRevert (a : g.SameFirm h) : g.SameFirm h.endRevert := by
  have idle := (((a.psStep 0).set F.PS_STAT_TO 0).set F.PS_STAT_BUSY 0).set F.PS_STAT_PHASE 0
  exact .ite (idle.beginExit _ _) (idle.set _ _)

/-- The refusals' records, one after another. -/
theorem Gov.SameFirm.refusals (rs : List (Nat × Nat)) {acc : List Nat × Gov} (a : g.SameFirm acc.2) :
    g.SameFirm (rs.foldl (fun (acc : List Nat × Gov) p => ((acc.1 ++ [(acc.2.refusal p.1 p.2).1]), (acc.2.refusal p.1 p.2).2)) acc).2 := by
  induction rs generalizing acc with
  | nil => exact a
  | cons p rs ih => exact ih (a.refusal p.1 p.2)

theorem Gov.SameFirm.abortEntry (a : g.SameFirm h) (rs : List (Nat × Nat)) : g.SameFirm (h.abortEntry rs) := by
  unfold Gov.abortEntry
  extract_lets res counted latched _ answered reverted
  have hcounted : g.SameFirm counted := ((((Gov.SameFirm.refusals rs a.countHold).set _ _).set _ _).set _ _).set _ _
  have hlatched : g.SameFirm latched := .ite hcounted (hcounted.set _ _)
  have hanswered : g.SameFirm answered := (hlatched.withPwr _).answerPs _ _
  have hreverted : g.SameFirm reverted := (hanswered.drive _).psStep 9
  exact .ite hreverted.endRevert hreverted

theorem Gov.SameFirm.commitEntry (a : g.SameFirm h) : g.SameFirm h.commitEntry := by
  unfold Gov.commitEntry
  extract_lets dst block _ latched stopped purged
  have hlatched : g.SameFirm latched := a.countHold.withPwr _
  have hstopped : g.SameFirm stopped := .ite hlatched ((hlatched.set _ _).each _ fun _ r _ b => b.abortShed r)
  have hpurged : g.SameFirm purged := .ite hstopped.purgeAll hstopped
  exact (hpurged.answerPs _ _).psStep 2

theorem Gov.SameFirm.endExit (a : g.SameFirm h) : g.SameFirm h.endExit := by
  have ended := ((((a.psStep 0).set F.PS_STAT_STATE 0).set F.PS_STAT_BUSY 0).set F.PS_STAT_PHASE 0).set F.GOV_IRQ_SRC_PS 1
  exact (((ended.set F.PS_CNT_WAKE_COUNT _).withPwr _).fire _).takeUp

theorem Gov.SameFirm.weigh (a : g.SameFirm h) : g.SameFirm h.weigh := by
  unfold Gov.weigh
  exact .ite (.ite (a.abortEntry _) (.ite a.commitEntry a)) (.ite (.ite a.endRevert a) (.ite (.ite a.endExit a) a))

theorem Gov.SameFirm.lateAnswers (a : g.SameFirm h) : g.SameFirm h.lateAnswers := (a.each _ fun _ b _ c => c.setAns b _).weigh

theorem Gov.SameFirm.settlePower (a : g.SameFirm h) : g.SameFirm h.settlePower := .ite (a.psStep 12) a

theorem Gov.SameFirm.noteCross (a : g.SameFirm h) (rg : Nat) : g.SameFirm (h.noteCross rg) := .ite a (.ite (a.setRgn rg _) (a.setRgn rg _))

theorem Gov.SameFirm.passTo (a : g.SameFirm h) (t : Nat) : g.SameFirm (h.passTo t) := by
  have settled : g.SameFirm h.settleClocks := (a.each _ fun _ rg _ b => b.noteCross rg).each _ fun _ rg _ b => b.setRgn rg _
  have ran : g.SameFirm (h.settleClocks.runClocks (t - h.now)) := (settled.each _ fun _ rg _ b => b.setRgn rg _).each _ fun _ s _ b => b.setSyn s _
  exact .ite (ran.withNow t) a

theorem Gov.SameFirm.takeInner (a : g.SameFirm h) (at_ : Nat) (x : Inner) : g.SameFirm (h.takeInner at_ x) := by
  have there := a.settlePower.passTo at_
  cases x with
  | path l => exact there.lateStep l
  | low => exact there.lateAnswers

theorem Gov.SameFirm.catchUp (a : g.SameFirm h) (fuel till : Nat) : g.SameFirm (h.catchUp fuel till) := by
  induction fuel generalizing h with
  | zero => exact a
  | succ fuel ih =>
    unfold Gov.catchUp
    split
    · exact a
    · exact ih (a.takeInner _ _)

/-- Moving to an instant leaves the firmware's record alone. -/
theorem Gov.reach_firm (g : Gov) (t : Fin 250) : (g.reach t).firm = g.firm := (((Gov.SameFirm.refl g).catchUp 12 _).settlePower).passTo _

end Sys2Proof.Machine
end

section
namespace Sys2Proof.Machine

/-! ### Bytes and words -/

theorem leBytes_succ (n x : Nat) : leBytes (n + 1) x = BitVec.ofNat 8 x :: leBytes n (x / 256) := by
  simp only [leBytes, List.range_succ_eq_map, List.map_cons, List.map_map, pow_zero, Nat.div_one, List.cons.injEq, true_and]
  refine List.map_congr_left fun k _ => ?_
  simp only [Function.comp_apply, Nat.succ_eq_add_one, pow_succ', Nat.div_div_eq_div_mul]

theorem leBytes_one (x : Nat) : leBytes 1 x = [BitVec.ofNat 8 x] := leBytes_succ 0 x

theorem ofLeBytes_lt (bs : List Byte) : ofLeBytes bs < 256 ^ bs.length := by
  induction bs with
  | nil => decide
  | cons b bs ih =>
    have low := b.isLt
    simp only [ofLeBytes, List.foldr_cons, List.length_cons, pow_succ] at ih ⊢
    omega

/-- The bytes of a list's number are the list. -/
theorem leBytes_ofLeBytes (bs : List Byte) : leBytes bs.length (ofLeBytes bs) = bs := by
  induction bs with
  | nil => rfl
  | cons b bs ih =>
    have value : ofLeBytes (b :: bs) = b.toNat + 256 * ofLeBytes bs := rfl
    have low := b.isLt
    rw [List.length_cons, leBytes_succ, value, show (b.toNat + 256 * ofLeBytes bs) / 256 = ofLeBytes bs by omega, ih]
    refine congrArg (· :: bs) (BitVec.eq_of_toNat_eq ?_)
    rw [BitVec.toNat_ofNat]
    omega

/-- A list of words' bytes, read back from the registers that hold the words. -/
theorem leBytes_byteWords (n : Nat) (bs : List Byte) (h : bs.length = 4 * n) : ((List.range n).flatMap fun k => leBytes 4 (BitVec.ofNat 32 (ofLeBytes ((bs.drop (4 * k)).take 4))).toNat) = bs := by
  induction n generalizing bs with
  | zero => exact (List.length_eq_zero_iff.1 h).symm
  | succ n ih =>
    have size : (bs.take 4).length = 4 := by rw [List.length_take]; omega
    have first : leBytes 4 (BitVec.ofNat 32 (ofLeBytes (bs.take 4))).toNat = bs.take 4 := by
      have small := ofLeBytes_lt (bs.take 4)
      have bytes := leBytes_ofLeBytes (bs.take 4)
      rw [size] at small bytes
      rw [BitVec.toNat_ofNat, Nat.mod_eq_of_lt (Nat.lt_of_lt_of_le small (by decide)), bytes]
    have rest := ih (bs.drop 4) (by rw [List.length_drop]; omega)
    simp only [List.drop_drop] at rest
    rw [List.range_succ_eq_map, List.flatMap_cons, List.flatMap_map, Nat.mul_zero, List.drop_zero, first]
    simp only [Nat.mul_succ, Nat.add_comm _ 4]
    rw [rest, List.take_append_drop]

/-! ### Vendor-defined requests (R61, R62) -/

/-- The request is for this endpoint. -/
def Gov.Hears (g : Gov) (q : VendorReq) : Prop := g.mgmt.eid ≠ 0 ∧ q.pen.toNat = g.fuses.pen ∧ 128 ≤ q.rq.toNat

/-- The answer to a request; no register changes. -/
def Gov.Replies (g : Gov) (q : VendorReq) (code cc : Nat) (payload : List Byte) (h : Gov) : Prop :=
  h.mgmt = { g.mgmt with answer := some ([q.rq &&& 0x1F, BitVec.ofNat 8 code, BitVec.ofNat 8 cc] ++ payload) } ∧ g.onlyWords h []

theorem Gov.vendorReply_replies (g : Gov) (q : VendorReq) (code cc : Nat) (payload : List Byte) : g.Replies q code cc payload (g.vendorReply q code cc payload) := ⟨rfl, fun _ _ => rfl⟩

theorem vendorCodes_contains (c : Nat) : vendorCodes.contains c = true ↔ c ∈ [1, 2, 3, 4, 5, 0x10, 0x11, 0x12] := List.contains_iff_mem

section
variable {g : Gov} {q : VendorReq} {code : Nat} {always owner : Bool} {size : Nat → Bool} {f : Gov → Gov}

theorem Gov.vendor_unheard (no : ¬ g.Hears q) : g.vendor q code always owner size f = g.reply none := by
  refine if_pos ?_
  unfold Gov.Hears at no
  by_contra heard
  exact no (by omega)

theorem Gov.vendor_heard (heard : g.Hears q) : ¬ (g.mgmt.eid = 0 ∨ q.pen.toNat ≠ g.fuses.pen ∨ q.rq.toNat < 128) := by
  unfold Gov.Hears at heard
  omega

theorem Gov.vendor_unlisted (heard : g.Hears q) (unlisted : q.code.toNat ∉ [1, 2, 3, 4, 5, 0x10, 0x11, 0x12]) : g.vendor q code always owner size f = g.vendorReply q q.code.toNat ccInvalidCode [] :=
  (if_neg (Gov.vendor_heard heard)).trans (if_pos (by rw [Bool.not_eq_true', ← Bool.not_eq_true, vendorCodes_contains]; exact unlisted))

theorem Gov.vendor_listed (heard : g.Hears q) (listed : q.code.toNat ∈ [1, 2, 3, 4, 5, 0x10, 0x11, 0x12]) :
    g.vendor q code always owner size f = if q.code.toNat ≠ code then g else if (!always && !g.mgmtServes) = true then g.vendorReply q code ccBusy [] else if (owner && !q.owner) = true then g.vendorReply q code ccNotOwner [] else
      if bits q.rq.toNat 5 2 ≠ 0 ∨ (!size q.payload.length) = true then g.vendorReply q code ccError [] else f g :=
  (if_neg (Gov.vendor_heard heard)).trans (if_neg (by rw [(vendorCodes_contains _).2 listed]; decide))

theorem Gov.vendor_other (heard : g.Hears q) (listed : q.code.toNat ∈ [1, 2, 3, 4, 5, 0x10, 0x11, 0x12]) (ne : q.code.toNat ≠ code) : g.vendor q code always owner size f = g := (Gov.vendor_listed heard listed).trans (if_pos ne)

theorem Gov.vendor_busy (heard : g.Hears q) (is : q.code.toNat = code) (listed : code ∈ [1, 2, 3, 4, 5, 0x10, 0x11, 0x12]) (shut : g.mgmtServes = false) : g.vendor q code false owner size f = g.vendorReply q code ccBusy [] :=
  (Gov.vendor_listed heard (is ▸ listed)).trans ((if_neg (not_not.2 is)).trans (if_pos (by rw [shut]; rfl)))

/-- The request reaches its row: its serving part is available, or the row is always served. -/
theorem Gov.vendor_served (heard : g.Hears q) (is : q.code.toNat = code) (listed : code ∈ [1, 2, 3, 4, 5, 0x10, 0x11, 0x12]) (on : always = true ∨ g.mgmtServes = true) :
    g.vendor q code always owner size f = if (owner && !q.owner) = true then g.vendorReply q code ccNotOwner [] else if bits q.rq.toNat 5 2 ≠ 0 ∨ (!size q.payload.length) = true then g.vendorReply q code ccError [] else f g :=
  (Gov.vendor_listed heard (is ▸ listed)).trans ((if_neg (not_not.2 is)).trans (if_neg (by rcases on with e | e <;> simp [e])))

theorem Gov.vendor_notOwner (heard : g.Hears q) (is : q.code.toNat = code) (listed : code ∈ [1, 2, 3, 4, 5, 0x10, 0x11, 0x12]) (on : always = true ∨ g.mgmtServes = true) (other : q.owner = false) :
    g.vendor q code always true size f = g.vendorReply q code ccNotOwner [] := (Gov.vendor_served heard is listed on).trans (if_pos (by rw [other]; rfl))

theorem Gov.vendor_malformed (heard : g.Hears q) (is : q.code.toNat = code) (listed : code ∈ [1, 2, 3, 4, 5, 0x10, 0x11, 0x12]) (on : always = true ∨ g.mgmtServes = true) (own : owner = false ∨ q.owner = true)
    (bad : ¬ (bits q.rq.toNat 5 2 = 0 ∧ size q.payload.length = true)) : g.vendor q code always owner size f = g.vendorReply q code ccError [] := by
  refine (Gov.vendor_served heard is listed on).trans ((if_neg (by rcases own with e | e <;> simp [e])).trans (if_pos ?_))
  rw [Bool.not_eq_true', ← Bool.not_eq_true]
  exact not_and_or.1 bad

theorem Gov.vendor_acts (heard : g.Hears q) (is : q.code.toNat = code) (listed : code ∈ [1, 2, 3, 4, 5, 0x10, 0x11, 0x12]) (on : always = true ∨ g.mgmtServes = true) (own : owner = false ∨ q.owner = true)
    (form : bits q.rq.toNat 5 2 = 0) (len : size q.payload.length = true) : g.vendor q code always owner size f = f g :=
  (Gov.vendor_served heard is listed on).trans ((if_neg (by rcases own with e | e <;> simp [e])).trans (if_neg (by simp [form, len])))

end

/-! ### The rows of vendor-defined requests -/

section
variable {q : VendorReq} {code : Nat} {always owner : Bool} {size : Nat → Bool} {f : Gov → Gov} {t : Fin 250} {s : State}

theorem vendor_next (up : s.gov.up = true) {h : Gov} (e : (s.gov.reach t).vendor q code always owner size f = h) : s.onGov (fun g => g.ev t fun g => g.vendor q code always owner size f) = .next { s with gov := h } :=
  nextGov ((Gov.ev_up _ _ _ up).trans e)

theorem vendor_replies (up : s.gov.up = true) {c cc : Nat} {payload : List Byte} (e : (s.gov.reach t).vendor q code always owner size f = (s.gov.reach t).vendorReply q c cc payload) :
    ∃ g, s.onGov (fun g => g.ev t fun g => g.vendor q code always owner size f) = .next { s with gov := g } ∧ (s.gov.reach t).Replies q c cc payload g := ⟨_, vendor_next up e, Gov.vendorReply_replies _ _ _ _ _⟩

theorem vendor_discards (up : s.gov.up = true) (no : ¬ (s.gov.reach t).Hears q) :
    ∃ g, s.onGov (fun g => g.ev t fun g => g.vendor q code always owner size f) = .next { s with gov := g } ∧ g.mgmt = { (s.gov.reach t).mgmt with answer := none } ∧ (s.gov.reach t).onlyWords g [] :=
  ⟨_, vendor_next up (Gov.vendor_unheard no), rfl, fun _ _ => rfl⟩

theorem vendor_leaves (up : s.gov.up = true) (heard : (s.gov.reach t).Hears q) (listed : q.code.toNat ∈ [1, 2, 3, 4, 5, 0x10, 0x11, 0x12]) (ne : q.code.toNat ≠ code) :
    ∃ g, s.onGov (fun g => g.ev t fun g => g.vendor q code always owner size f) = .next { s with gov := g } ∧ g.mgmt = (s.gov.reach t).mgmt ∧ (s.gov.reach t).onlyWords g [] :=
  ⟨_, vendor_next up (Gov.vendor_other heard listed ne), rfl, fun _ _ => rfl⟩

/-- A request that is not the row's own. -/
theorem vendor_elsewhere (up : s.gov.up = true) : (¬ (s.gov.reach t).Hears q → ∃ g, s.onGov (fun g => g.ev t fun g => g.vendor q code always owner size f) = .next { s with gov := g } ∧ g.mgmt = { (s.gov.reach t).mgmt with answer := none } ∧ (s.gov.reach t).onlyWords g []) ∧
    ((s.gov.reach t).Hears q → q.code.toNat ∉ [1, 2, 3, 4, 5, 0x10, 0x11, 0x12] → ∃ g, s.onGov (fun g => g.ev t fun g => g.vendor q code always owner size f) = .next { s with gov := g } ∧ (s.gov.reach t).Replies q q.code.toNat ccInvalidCode [] g) ∧
    ((s.gov.reach t).Hears q → q.code.toNat ∈ [1, 2, 3, 4, 5, 0x10, 0x11, 0x12] → q.code.toNat ≠ code → ∃ g, s.onGov (fun g => g.ev t fun g => g.vendor q code always owner size f) = .next { s with gov := g } ∧ g.mgmt = (s.gov.reach t).mgmt ∧ (s.gov.reach t).onlyWords g []) :=
  ⟨vendor_discards up, fun hears un => vendor_replies up (Gov.vendor_unlisted hears un), vendor_leaves up⟩

end

/-! ### REFLASH_DATA, which also writes the flash (R346) -/

/-- The governor's part of the row. -/
def Gov.reflashRow (g : Gov) (q : VendorReq) : Gov := g.reflash q 0x11 (fun n => decide (8 ≤ n) && decide (n ≤ 260)) fun g => g.reflashData q

/-- A request that takes no block leaves the flash alone. -/
theorem reflashData_same {q : VendorReq} {t : Fin 250} {s : State} {h : Gov} (up : s.gov.up = true) (e : (s.gov.reach t).reflashRow q = h) (same : h.firm = (s.gov.reach t).firm) :
    exec (.reflashData q t) s = .next { s with gov := h } := by
  have row : exec (.reflashData q t) s = execReflashData q t s := rfl
  have kept : h.firm.written = s.gov.firm.written := by rw [same, s.gov.reach_firm t]
  rw [row, execReflashData]
  refine nextBoth ?_
  dsimp only
  rw [Gov.ev_up _ _ _ up, show (s.gov.reach t).reflash q 0x11 (fun n => decide (8 ≤ n) && decide (n ≤ 260)) (fun g => g.reflashData q) = h from e, if_pos kept]

/-- A block that is taken is written to the flash. -/
theorem reflashData_block {q : VendorReq} {t : Fin 250} {s : State} {h : Gov} (up : s.gov.up = true) (e : (s.gov.reach t).reflashRow q = h) (more : h.firm.written ≠ (s.gov.reach t).firm.written) :
    exec (.reflashData q t) s = .next { s with gov := h, keep := { s.keep with flash := flashBlock s.keep.dev s.keep.flash (s.gov.reach t).firm.written (q.payload.drop 4) } } := by
  have row : exec (.reflashData q t) s = execReflashData q t s := rfl
  rw [s.gov.reach_firm t] at more ⊢
  rw [row, execReflashData]
  refine nextBoth ?_
  dsimp only
  rw [Gov.ev_up _ _ _ up, show (s.gov.reach t).reflash q 0x11 (fun n => decide (8 ≤ n) && decide (n ≤ 260)) (fun g => g.reflashData q) = h from e, if_neg more]

theorem reflashData_replies {q : VendorReq} {t : Fin 250} {s : State} {c cc : Nat} {payload : List Byte} (up : s.gov.up = true) (e : (s.gov.reach t).reflashRow q = (s.gov.reach t).vendorReply q c cc payload) :
    ∃ g, exec (.reflashData q t) s = .next { s with gov := g } ∧ (s.gov.reach t).Replies q c cc payload g := ⟨_, reflashData_same up e rfl, Gov.vendorReply_replies _ _ _ _ _⟩

theorem Gov.reflashRow_eq (g : Gov) (q : VendorReq) :
    g.reflashRow q = g.vendor q 0x11 false true (fun n => decide (8 ≤ n) && decide (n ≤ 260)) fun g => if g.anchored then g.reflashData q else g.vendorReply q 0x11 ccState [] := rfl

theorem reflashData_discards {q : VendorReq} {t : Fin 250} {s : State} (up : s.gov.up = true) (no : ¬ (s.gov.reach t).Hears q) :
    ∃ g, exec (.reflashData q t) s = .next { s with gov := g } ∧ g.mgmt = { (s.gov.reach t).mgmt with answer := none } ∧ (s.gov.reach t).onlyWords g [] :=
  ⟨_, reflashData_same up ((Gov.reflashRow_eq _ q).trans (Gov.vendor_unheard no)) rfl, rfl, fun _ _ => rfl⟩

theorem reflashData_leaves {q : VendorReq} {t : Fin 250} {s : State} (up : s.gov.up = true) (heard : (s.gov.reach t).Hears q) (listed : q.code.toNat ∈ [1, 2, 3, 4, 5, 0x10, 0x11, 0x12]) (ne : q.code.toNat ≠ 0x11) :
    ∃ g, exec (.reflashData q t) s = .next { s with gov := g } ∧ g.mgmt = (s.gov.reach t).mgmt ∧ (s.gov.reach t).onlyWords g [] :=
  ⟨_, reflashData_same up ((Gov.reflashRow_eq _ q).trans (Gov.vendor_other heard listed ne)) rfl, rfl, fun _ _ => rfl⟩

theorem reflashData_elsewhere {q : VendorReq} {t : Fin 250} {s : State} (up : s.gov.up = true) : (¬ (s.gov.reach t).Hears q → ∃ g, exec (.reflashData q t) s = .next { s with gov := g } ∧ g.mgmt = { (s.gov.reach t).mgmt with answer := none } ∧ (s.gov.reach t).onlyWords g []) ∧
    ((s.gov.reach t).Hears q → q.code.toNat ∉ [1, 2, 3, 4, 5, 0x10, 0x11, 0x12] → ∃ g, exec (.reflashData q t) s = .next { s with gov := g } ∧ (s.gov.reach t).Replies q q.code.toNat ccInvalidCode [] g) ∧
    ((s.gov.reach t).Hears q → q.code.toNat ∈ [1, 2, 3, 4, 5, 0x10, 0x11, 0x12] → q.code.toNat ≠ 0x11 → ∃ g, exec (.reflashData q t) s = .next { s with gov := g } ∧ g.mgmt = (s.gov.reach t).mgmt ∧ (s.gov.reach t).onlyWords g []) :=
  ⟨reflashData_discards up, fun hears un => reflashData_replies up ((Gov.reflashRow_eq _ q).trans (Gov.vendor_unlisted hears un)), reflashData_leaves up⟩

/-! ### Reflash in anchor mode (R346) -/

section
variable {g : Gov} {q : VendorReq} {code : Nat} {size : Nat → Bool} {f : Gov → Gov}

/-- The request reaches the reflash of an available endpoint, from the bus owner. -/
structure Gov.ReflashDue (g : Gov) (q : VendorReq) (code : Nat) (size : Nat → Bool) : Prop where
  heard : g.Hears q
  is : q.code.toNat = code
  listed : code ∈ [1, 2, 3, 4, 5, 0x10, 0x11, 0x12]
  serves : g.mgmtServes = true
  owner : q.owner = true
  form : bits q.rq.toNat 5 2 = 0
  len : size q.payload.length = true

theorem Gov.ReflashDue.acts (due : g.ReflashDue q code size) : g.reflash q code size f = if g.anchored then f g else g.vendorReply q code ccState [] :=
  Gov.vendor_acts due.heard due.is due.listed (.inr due.serves) (.inr due.owner) due.form due.len

theorem Gov.ReflashDue.refused (due : g.ReflashDue q code size) (away : g.anchored = false) : g.reflash q code size f = g.vendorReply q code ccState [] := due.acts.trans (if_neg (by rw [away]; decide))

theorem Gov.ReflashDue.taken (due : g.ReflashDue q code size) (here : g.anchored = true) : g.reflash q code size f = f g := due.acts.trans (if_pos here)

end

theorem reflash_next {q : VendorReq} {code : Nat} {size : Nat → Bool} {f : Gov → Gov} {t : Fin 250} {s : State} (up : s.gov.up = true) {h : Gov} (e : (s.gov.reach t).reflash q code size f = h) :
    s.onGov (fun g => g.ev t fun g => g.reflash q code size f) = .next { s with gov := h } := nextGov ((Gov.ev_up _ _ _ up).trans e)

theorem reflash_replies {q : VendorReq} {code : Nat} {size : Nat → Bool} {f : Gov → Gov} {t : Fin 250} {s : State} (up : s.gov.up = true) {c cc : Nat} {payload : List Byte}
    (e : (s.gov.reach t).reflash q code size f = (s.gov.reach t).vendorReply q c cc payload) : ∃ g, s.onGov (fun g => g.ev t fun g => g.reflash q code size f) = .next { s with gov := g } ∧ (s.gov.reach t).Replies q c cc payload g :=
  ⟨_, reflash_next up e, Gov.vendorReply_replies _ _ _ _ _⟩

/-- An answer after a change that keeps the port's record. -/
theorem Gov.vendorReply_mgmt {g h : Gov} (same : h.mgmt = g.mgmt) (q : VendorReq) (code cc : Nat) (payload : List Byte) :
    (h.vendorReply q code cc payload).mgmt = { g.mgmt with answer := some ([q.rq &&& 0x1F, BitVec.ofNat 8 code, BitVec.ofNat 8 cc] ++ payload) } := by
  rw [← same]; rfl

theorem Gov.vendorReply_only {g h : Gov} {l : List Nat} (only : g.onlyWords h l) (q : VendorReq) (code cc : Nat) (payload : List Byte) : g.onlyWords (h.vendorReply q code cc payload) l := only

theorem Gov.vendorReply_shows {g : Gov} {o n : Nat} (shown : (g.word o).toNat = n) (q : VendorReq) (code cc : Nat) (payload : List Byte) : ((g.vendorReply q code cc payload).word o).toNat = n := shown

/-- The state after REFLASH_BEGIN, and what it leaves alone. -/
theorem Gov.reflashBegun (g : Gov) (q : VendorReq) (x : FirmSt) : let h := ((g.set F.FWP_UPD_USTATE 1).withFirm x).vendorReply q 0x10 ccSuccess []
    h.mgmt = { g.mgmt with answer := some ([q.rq &&& 0x1F, 0x10, 0] ++ []) } ∧ h.get F.FWP_UPD_USTATE = 1 ∧ h.firm = x ∧ g.onlyFields h [F.FWP_UPD_USTATE] :=
  ⟨rfl, g.get_set_self (f := F.FWP_UPD_USTATE) 1 (by decide), rfl, Gov.onlyFields_set (f := F.FWP_UPD_USTATE) 1 (g.onlyFields_refl _) (by simp)⟩

theorem imageFault_small {fl : Tab Byte} {keyHash svn : Nat} {readOk : Bool} {c : Nat} (h : imageFault fl keyHash svn readOk = some c) : c < 16 := by
  unfold imageFault at h
  split_ifs at h <;> simp_all <;> omega

/-- An update's state and its reason of failure. -/
def Gov.failUpdate (g : Gov) (c : Nat) : Gov := (g.set F.FWP_UPD_USTATE 4).set F.FWP_UPD_FAIL_RSN c

theorem Gov.failUpdate_words (g : Gov) {c : Nat} (small : c < 16) : (g.failUpdate c).get F.FWP_UPD_USTATE = 4 ∧ (g.failUpdate c).get F.FWP_UPD_FAIL_RSN = c ∧ g.onlyFields (g.failUpdate c) [F.FWP_UPD_USTATE, F.FWP_UPD_FAIL_RSN] := by
  refine ⟨?_, ?_, Gov.onlyFields_set c (Gov.onlyFields_set 4 (g.onlyFields_refl _) (by simp)) (by simp)⟩
  · rw [Gov.failUpdate, Gov.get_set_apart _ _ (by decide), Gov.get_set_self _ _ (by decide)]; rfl
  · rw [Gov.failUpdate, Gov.get_set_self _ _ (by decide)]
    exact Nat.mod_eq_of_lt small

theorem Gov.verifiedUpdate (g : Gov) : (g.set F.FWP_UPD_USTATE 5).get F.FWP_UPD_USTATE = 5 ∧ g.onlyFields (g.set F.FWP_UPD_USTATE 5) [F.FWP_UPD_USTATE] :=
  ⟨g.get_set_self (f := F.FWP_UPD_USTATE) 5 (by decide), Gov.onlyFields_set (f := F.FWP_UPD_USTATE) 5 (g.onlyFields_refl _) (by simp)⟩

theorem Gov.failUpdate_mgmt (g : Gov) (c : Nat) : (g.failUpdate c).mgmt = g.mgmt := rfl

/-! ### The identity fields (R327) -/

/-- The words that FRU_WRITE writes. -/
def Gov.writeFru (g : Gov) (id text : List Byte) (valid : Nat) : Gov := ((g.writeWords (W.FLT_FRU_ID 0) (byteWords 4 id)).writeWords (W.FLT_FRU_TEXT 0) (byteWords 5 text)).setWord W.FLT_FRU_VALID (BitVec.ofNat 32 valid)

theorem byteWords_length (n : Nat) (bs : List Byte) : (byteWords n bs).length = n := by simp [byteWords]

theorem pw_byteWords {n k : Nat} (bs : List Byte) (hk : k < n) : pw (byteWords n bs) k = ofLeBytes ((bs.drop (4 * k)).take 4) := by simp [pw, byteWords, hk]

theorem Gov.writeFru_id (g : Gov) {id : List Byte} (text : List Byte) (valid : Nat) (h : id.length = 16) : (g.writeFru id text valid).fruId = id := by
  have word : ∀ k < 4, (g.writeFru id text valid).word (W.FLT_FRU_ID k) = BitVec.ofNat 32 (ofLeBytes ((id.drop (4 * k)).take 4)) := fun k hk => by
    have at_ : W.FLT_FRU_ID k = W.FLT_FRU_ID 0 + 4 * k := by simp [W.FLT_FRU_ID]
    rw [Gov.writeFru, Gov.word_setWord_ne _ _ (by simp only [W.FLT_FRU_ID, W.FLT_FRU_VALID]; omega), Gov.writeWords_word_outside _ _ _ (.inl (by simp only [W.FLT_FRU_ID, W.FLT_FRU_TEXT]; omega)), at_,
      Gov.writeWords_word _ _ _ (by rw [byteWords_length]; exact hk), pw_byteWords _ hk]
  refine (List.flatMap_congr fun k hk => ?_).trans (leBytes_byteWords 4 id h)
  rw [word k (List.mem_range.1 hk)]

theorem Gov.writeFru_text (g : Gov) (id : List Byte) {text : List Byte} (valid : Nat) (h : text.length = 20) : (g.writeFru id text valid).fruText = text := by
  have word : ∀ k < 5, (g.writeFru id text valid).word (W.FLT_FRU_TEXT k) = BitVec.ofNat 32 (ofLeBytes ((text.drop (4 * k)).take 4)) := fun k hk => by
    have at_ : W.FLT_FRU_TEXT k = W.FLT_FRU_TEXT 0 + 4 * k := by simp [W.FLT_FRU_TEXT]
    rw [Gov.writeFru, Gov.word_setWord_ne _ _ (by simp only [W.FLT_FRU_TEXT, W.FLT_FRU_VALID]; omega), at_, Gov.writeWords_word _ _ _ (by rw [byteWords_length]; exact hk), pw_byteWords _ hk]
  refine (List.flatMap_congr fun k hk => ?_).trans (leBytes_byteWords 5 text h)
  rw [word k (List.mem_range.1 hk)]

theorem Gov.writeFru_words (g : Gov) (id text : List Byte) {valid : Nat} (small : valid < 4) : ((g.writeFru id text valid).word W.FLT_FRU_VALID).toNat = valid ∧
    g.onlyWords (g.writeFru id text valid) ((List.range 4).map W.FLT_FRU_ID ++ (List.range 5).map W.FLT_FRU_TEXT ++ [W.FLT_FRU_VALID]) := by
  refine ⟨?_, fun o ho => ?_⟩
  · rw [Gov.writeFru, Gov.word_setWord_self, BitVec.toNat_ofNat]
    omega
  · simp only [List.mem_append, List.mem_map, List.mem_range, List.mem_singleton, not_or, not_exists, not_and] at ho
    obtain ⟨⟨outId, outText⟩, outValid⟩ := ho
    have ids : ∀ k, k < 4 → 0x50050 + 4 * k ≠ o := outId
    have texts : ∀ k, k < 5 → 0x50060 + 4 * k ≠ o := outText
    rw [Gov.writeFru, Gov.word_setWord_ne _ _ outValid]
    have apart : ∀ (h : Gov) (off n : Nat) (ws : List Nat), ws.length = n → (∀ k, k < n → off + 4 * k ≠ o) → (h.writeWords off ws).word o = h.word o := fun h off n ws len ne =>
      Gov.each_same_mem (fun h => h.word o) _ (fun h i hi => h.word_setWord_ne _ (ne i (len ▸ List.mem_range.1 hi)).symm) _
    exact (apart _ _ 5 _ (byteWords_length 5 text) texts).trans (apart _ _ 4 _ (byteWords_length 4 id) ids)

theorem Gov.vendorReply_fru (g : Gov) (q : VendorReq) (code cc : Nat) (payload : List Byte) : (g.vendorReply q code cc payload).fruId = g.fruId ∧ (g.vendorReply q code cc payload).fruText = g.fruText := ⟨rfl, rfl⟩

theorem Gov.writeFru_mgmt (g : Gov) (id text : List Byte) (valid : Nat) : (g.writeFru id text valid).mgmt = g.mgmt := by
  have writes : ∀ (h : Gov) (off : Nat) (ws : List Nat), (h.writeWords off ws).mgmt = h.mgmt := fun h off ws => besideCmd_mgmt (h.writeWords_besideCmd off ws)
  rw [Gov.writeFru, Gov.setWord_mgmt, writes, writes]

/-- The state after FRU_WRITE, and what it leaves alone. -/
theorem Gov.fruWritten (g : Gov) {q : VendorReq} (len : q.payload.length = 37) (right : (q.payload.getD 36 0).toNat < 4) :
    let h := (g.writeFru (q.payload.take 16) ((q.payload.drop 16).take 20) (q.payload.getD 36 0).toNat).vendorReply q 3 ccSuccess []
    h.mgmt = { g.mgmt with answer := some ([q.rq &&& 0x1F, BitVec.ofNat 8 3, BitVec.ofNat 8 ccSuccess] ++ []) } ∧ h.fruId = q.payload.take 16 ∧ h.fruText = (q.payload.drop 16).take 20 ∧
      (h.word W.FLT_FRU_VALID).toNat = (q.payload.getD 36 0).toNat ∧ g.onlyWords h ((List.range 4).map W.FLT_FRU_ID ++ (List.range 5).map W.FLT_FRU_TEXT ++ [W.FLT_FRU_VALID]) := by
  have idLength : (q.payload.take 16).length = 16 := by rw [List.length_take, len]; rfl
  have textLength : ((q.payload.drop 16).take 20).length = 20 := by rw [List.length_take, List.length_drop, len]; rfl
  obtain ⟨shown, words⟩ := g.writeFru_words (q.payload.take 16) ((q.payload.drop 16).take 20) right
  exact ⟨Gov.vendorReply_mgmt (g.writeFru_mgmt _ _ _) q 3 ccSuccess [], (Gov.vendorReply_fru _ q 3 ccSuccess []).1.trans (g.writeFru_id _ _ idLength), (Gov.vendorReply_fru _ q 3 ccSuccess []).2.trans (g.writeFru_text _ _ textLength), Gov.vendorReply_shows shown q 3 ccSuccess [], Gov.vendorReply_only words q 3 ccSuccess []⟩

/-- The state after WAKE with its source enabled. -/
theorem Gov.wokenByRequest (g : Gov) (q : VendorReq) : let h := (g.wake 4).vendorReply q 2 ccSuccess []
    h.mgmt = { g.mgmt with answer := some ([q.rq &&& 0x1F, BitVec.ofNat 8 2, BitVec.ofNat 8 ccSuccess] ++ []) } ∧ (g.wake 4).onlyWords h [] :=
  ⟨Gov.vendorReply_mgmt (Gov.wake_read Gov.mgmt Gov.set_mgmt Gov.withPwr_mgmt g 4) q 2 ccSuccess [], fun _ _ => rfl⟩

/-- The answer to a block that is taken. -/
theorem Gov.blockTaken (g : Gov) (q : VendorReq) (x : FirmSt) (payload : List Byte) : g.Replies q 0x11 ccSuccess payload ((g.withFirm x).vendorReply q 0x11 ccSuccess payload) ∧ ((g.withFirm x).vendorReply q 0x11 ccSuccess payload).firm = x :=
  ⟨⟨rfl, fun _ _ => rfl⟩, rfl⟩

/-- A port that only answers. -/
theorem Gov.reply_only (g : Gov) (a : Option (List Byte)) : (g.reply a).mgmt = { g.mgmt with answer := a } ∧ g.onlyWords (g.reply a) [] := ⟨rfl, fun _ _ => rfl⟩

/-- A port that takes an endpoint ID. -/
theorem Gov.eidTaken (g : Gov) (eid : Nat) (a : Option (List Byte)) : ((g.withMgmt { g.mgmt with eid := eid }).reply a).mgmt = { g.mgmt with eid := eid, answer := a } ∧ g.onlyWords ((g.withMgmt { g.mgmt with eid := eid }).reply a) [] :=
  ⟨rfl, fun _ _ => rfl⟩

/-! ### The requests, row by row -/

/-- A completed row whose only effect is the answer. -/
def Answers (c : Instr) (q : VendorReq) (t : Fin 250) (s : State) (code cc : Nat) (payload : List Byte) : Prop := Completes c s ((s.gov.reach t).Replies q code cc payload)

section
variable {q : VendorReq} {t : Fin 250} {s : State} (up : s.gov.up = true)
include up

theorem address_requests (addr : BitVec 7) : (∀ c ∈ [Instr.entdaa addr t, Instr.setdasa addr t], Completes c s fun g => g.mgmt = { (s.gov.reach t).mgmt with i3c := true, dynAddr := addr.toNat } ∧ (s.gov.reach t).onlyWords g []) ∧
    Completes (.rstdaa t) s fun g => g.mgmt = { (s.gov.reach t).mgmt with i3c := false, dynAddr := 0 } ∧ (s.gov.reach t).onlyWords g [] := by
  refine ⟨?_, ⟨_, nextGov (Gov.ev_up _ _ _ up), Gov.withMgmt_mgmt _ _, fun _ _ => rfl⟩⟩
  have taken : ∀ g : Gov, (g.toI3c addr.toNat).mgmt = { g.mgmt with i3c := true, dynAddr := addr.toNat } ∧ g.onlyWords (g.toI3c addr.toNat) [] := fun _ => ⟨rfl, fun _ _ => rfl⟩
  simp only [List.forall_mem_cons]
  exact ⟨⟨_, nextGov (Gov.ev_up _ _ _ up), taken _⟩, ⟨_, nextGov (Gov.ev_up _ _ _ up), taken _⟩, by simp⟩

theorem setEndpointId_request (eid : BitVec 8) : Completes (.setEndpointId eid t) s fun g =>
    g.mgmt = (if eid = 0 ∨ eid = 0xFF then { (s.gov.reach t).mgmt with answer := some [2] } else { (s.gov.reach t).mgmt with eid := eid.toNat, answer := some [0, 0, eid, 0] }) ∧ (s.gov.reach t).onlyWords g [] := by
  have row : exec (.setEndpointId eid t) s = execSetEndpointId eid t s := rfl
  by_cases none : eid = 0 ∨ eid = 0xFF
  · rw [if_pos none]
    exact ⟨_, row.trans (nextGov ((Gov.ev_up _ _ _ up).trans (if_pos none))), Gov.reply_only _ _⟩
  · rw [if_neg none]
    exact ⟨_, row.trans (nextGov ((Gov.ev_up _ _ _ up).trans (if_neg none))), Gov.eidTaken _ _ _⟩

theorem wake_request (hears : (s.gov.reach t).Hears q) (is : q.code.toNat = 2) (own : q.owner = true) (form : bits q.rq.toNat 5 2 = 0 ∧ q.payload.length = 0) :
    (bit ((s.gov.reach t).get F.PS_WAKE_EN_EN) 4 = false → Answers (.wake q t) q t s 2 ccState []) ∧
    (bit ((s.gov.reach t).get F.PS_WAKE_EN_EN) 4 = true → Completes (.wake q t) s fun g =>
      g.mgmt = { (s.gov.reach t).mgmt with answer := some ([q.rq &&& 0x1F, BitVec.ofNat 8 2, BitVec.ofNat 8 ccSuccess] ++ []) } ∧ ((s.gov.reach t).wake 4).onlyWords g []) := by
  have acts := fun f => Gov.vendor_acts (always := true) (owner := true) (size := (· == 0)) (f := f) hears is (by decide) (.inl rfl) (.inr own) form.1 (beq_iff_eq.2 form.2)
  refine ⟨fun off => vendor_replies up ((acts _).trans (if_pos (by rw [off]; rfl))), fun on => ?_⟩
  exact ⟨_, vendor_next up ((acts _).trans (if_neg (by rw [on]; decide))), (s.gov.reach t).wokenByRequest q⟩

theorem fruWrite_request (hears : (s.gov.reach t).Hears q) (on : (s.gov.reach t).mgmtServes = true) (is : q.code.toNat = 3) (own : q.owner = true) (form : bits q.rq.toNat 5 2 = 0 ∧ q.payload.length = 37) :
    (4 ≤ (q.payload.getD 36 0).toNat → Answers (.fruWrite q t) q t s 3 ccError []) ∧
    ((q.payload.getD 36 0).toNat < 4 → (s.gov.reach t).flag F.FLT_CTRL_LOCK = true → Answers (.fruWrite q t) q t s 3 ccLocked []) ∧
    ((q.payload.getD 36 0).toNat < 4 → (s.gov.reach t).flag F.FLT_CTRL_LOCK = false → Completes (.fruWrite q t) s fun g =>
      g.mgmt = { (s.gov.reach t).mgmt with answer := some ([q.rq &&& 0x1F, BitVec.ofNat 8 3, BitVec.ofNat 8 ccSuccess] ++ []) } ∧ g.fruId = q.payload.take 16 ∧ g.fruText = (q.payload.drop 16).take 20 ∧
      (g.word W.FLT_FRU_VALID).toNat = (q.payload.getD 36 0).toNat ∧ (s.gov.reach t).onlyWords g ((List.range 4).map W.FLT_FRU_ID ++ (List.range 5).map W.FLT_FRU_TEXT ++ [W.FLT_FRU_VALID])) := by
  have acts := fun f => Gov.vendor_acts (always := false) (owner := true) (size := (· == 37)) (f := f) hears is (by decide) (.inr on) (.inr own) form.1 (beq_iff_eq.2 form.2)
  refine ⟨fun wrong => vendor_replies up ((acts _).trans (if_pos wrong)), fun right locked => vendor_replies up ((acts _).trans ((if_neg (Nat.not_le.2 right)).trans (if_pos locked))), fun right free => ?_⟩
  exact ⟨_, vendor_next up ((acts _).trans ((if_neg (Nat.not_le.2 right)).trans (if_neg (by rw [free]; decide)))), (s.gov.reach t).fruWritten form.2 right⟩

theorem reflashBegin_request (due : (s.gov.reach t).ReflashDue q 0x10 (· == 4)) (here : (s.gov.reach t).anchored = true) :
    (ofLeBytes q.payload < 0x200 ∨ 0x100000 < ofLeBytes q.payload → Answers (.reflashBegin q t) q t s 0x10 ccError []) ∧
    (0x200 ≤ ofLeBytes q.payload → ofLeBytes q.payload ≤ 0x100000 → (s.gov.reach t).get F.FWP_UPD_USTATE = 1 ∨ (s.gov.reach t).get F.FWP_UPD_USTATE = 2 → Answers (.reflashBegin q t) q t s 0x10 ccBusy []) ∧
    (0x200 ≤ ofLeBytes q.payload → ofLeBytes q.payload ≤ 0x100000 → (s.gov.reach t).get F.FWP_UPD_USTATE ≠ 1 → (s.gov.reach t).get F.FWP_UPD_USTATE ≠ 2 → Completes (.reflashBegin q t) s fun g =>
      g.mgmt = { (s.gov.reach t).mgmt with answer := some ([q.rq &&& 0x1F, BitVec.ofNat 8 0x10, BitVec.ofNat 8 ccSuccess] ++ []) } ∧ g.get F.FWP_UPD_USTATE = 1 ∧
      g.firm = { (s.gov.reach t).firm with imgLen := ofLeBytes q.payload, written := 0 } ∧ (s.gov.reach t).onlyFields g [F.FWP_UPD_USTATE]) := by
  refine ⟨fun wrong => reflash_replies up ((due.taken here).trans (if_pos wrong)), fun least most busy => reflash_replies up ((due.taken here).trans ((if_neg (not_or.2 ⟨Nat.not_lt.2 least, Nat.not_lt.2 most⟩)).trans (if_pos busy))), fun least most no1 no2 => ?_⟩
  obtain ⟨answer, state, firm, words⟩ := (s.gov.reach t).reflashBegun q { (s.gov.reach t).firm with imgLen := ofLeBytes q.payload, written := 0 }
  exact ⟨_, reflash_next up ((due.taken here).trans ((if_neg (not_or.2 ⟨Nat.not_lt.2 least, Nat.not_lt.2 most⟩)).trans (if_neg (not_or.2 ⟨no1, no2⟩)))), answer, state, firm, words⟩

theorem reflashData_request (due : (s.gov.reach t).ReflashDue q 0x11 (fun n => decide (8 ≤ n) && decide (n ≤ 260))) (here : (s.gov.reach t).anchored = true) {size : Nat} (low : 4 ≤ size) (len : q.payload.length = size + 4) :
    ((s.gov.reach t).get F.FWP_UPD_USTATE ≠ 1 → Answers (.reflashData q t) q t s 0x11 ccState []) ∧
    ((s.gov.reach t).get F.FWP_UPD_USTATE = 1 → ¬ (ofLeBytes (q.payload.take 4) = (s.gov.reach t).firm.written ∧ (s.gov.reach t).firm.written + size ≤ (s.gov.reach t).firm.imgLen) → Answers (.reflashData q t) q t s 0x11 ccError []) ∧
    ((s.gov.reach t).get F.FWP_UPD_USTATE = 1 → ofLeBytes (q.payload.take 4) = (s.gov.reach t).firm.written ∧ (s.gov.reach t).firm.written + size ≤ (s.gov.reach t).firm.imgLen →
      ∃ g, exec (.reflashData q t) s = .next { s with gov := g, keep := { s.keep with flash := flashBlock s.keep.dev s.keep.flash (s.gov.reach t).firm.written (q.payload.drop 4) } } ∧
        (s.gov.reach t).Replies q 0x11 ccSuccess (leBytes 4 ((s.gov.reach t).firm.written + size)) g ∧ g.firm = { (s.gov.reach t).firm with written := (s.gov.reach t).firm.written + size }) := by
  have takes : (s.gov.reach t).reflashRow q = (s.gov.reach t).reflashData q := due.taken here
  have block : q.payload.length - 4 = size := by omega
  unfold Gov.reflashData at takes
  simp only [block] at takes
  refine ⟨fun idle => reflashData_replies up (takes.trans (if_pos idle)), fun busy out => reflashData_replies up (takes.trans ((if_neg (not_not.2 busy)).trans (if_pos ?_))), fun busy follows => ?_⟩
  · exact (not_and_or.1 out).imp id Nat.lt_of_not_le
  · exact ⟨_, reflashData_block up (takes.trans ((if_neg (not_not.2 busy)).trans (if_neg (not_or.2 ⟨not_not.2 follows.1, Nat.not_lt.2 follows.2⟩)))) (show (s.gov.reach t).firm.written + size ≠ (s.gov.reach t).firm.written by omega), Gov.blockTaken _ _ _ _⟩

theorem reflashFinish_request {readOk : Bool} (due : (s.gov.reach t).ReflashDue q 0x12 (· == 0)) (here : (s.gov.reach t).anchored = true) :
    ((s.gov.reach t).get F.FWP_UPD_USTATE ≠ 1 ∨ (s.gov.reach t).firm.written ≠ (s.gov.reach t).firm.imgLen → Answers (.reflashFinish q readOk t) q t s 0x12 ccState []) ∧
    ((s.gov.reach t).get F.FWP_UPD_USTATE = 1 → (s.gov.reach t).firm.written = (s.gov.reach t).firm.imgLen →
      (∀ c, imageFault s.keep.flash (s.gov.reach t).fuses.keyHash s.keep.svn readOk = some c → Completes (.reflashFinish q readOk t) s fun g =>
        g.mgmt = { (s.gov.reach t).mgmt with answer := some ([q.rq &&& 0x1F, BitVec.ofNat 8 0x12, BitVec.ofNat 8 ccVerifyFailed] ++ [4, BitVec.ofNat 8 c]) } ∧ g.get F.FWP_UPD_USTATE = 4 ∧ g.get F.FWP_UPD_FAIL_RSN = c ∧
        (s.gov.reach t).onlyFields g [F.FWP_UPD_USTATE, F.FWP_UPD_FAIL_RSN]) ∧
      (imageFault s.keep.flash (s.gov.reach t).fuses.keyHash s.keep.svn readOk = none → Completes (.reflashFinish q readOk t) s fun g =>
        g.mgmt = { (s.gov.reach t).mgmt with answer := some ([q.rq &&& 0x1F, BitVec.ofNat 8 0x12, BitVec.ofNat 8 ccSuccess] ++ [5, BitVec.ofNat 8 ((s.gov.reach t).get F.FWP_UPD_FAIL_RSN)]) } ∧ g.get F.FWP_UPD_USTATE = 5 ∧
        (s.gov.reach t).onlyFields g [F.FWP_UPD_USTATE])) := by
  have acts := fun f => due.taken (f := f) here
  refine ⟨fun wrong => reflash_replies up ((acts _).trans (if_pos wrong)), fun busy whole => ⟨fun c fails => ?_, fun passes => ?_⟩⟩
  · obtain ⟨state, reason, words⟩ := (s.gov.reach t).failUpdate_words (imageFault_small fails)
    refine ⟨((s.gov.reach t).failUpdate c).vendorReply q 0x12 ccVerifyFailed (leBytes 1 4 ++ leBytes 1 c), reflash_next up ((acts _).trans ((if_neg (by rw [busy, whole]; simp)).trans ?_)), ?_, state, reason, words⟩
    · rw [fails]; rfl
    · rw [leBytes_one, leBytes_one]
      exact Gov.vendorReply_mgmt (Gov.failUpdate_mgmt _ _) _ _ _ _
  · obtain ⟨state, words⟩ := (s.gov.reach t).verifiedUpdate
    refine ⟨((s.gov.reach t).set F.FWP_UPD_USTATE 5).vendorReply q 0x12 ccSuccess (leBytes 1 5 ++ leBytes 1 ((s.gov.reach t).get F.FWP_UPD_FAIL_RSN)), reflash_next up ((acts _).trans ((if_neg (by rw [busy, whole]; simp)).trans ?_)), ?_, state, words⟩
    · rw [passes]
    · rw [leBytes_one, leBytes_one]
      exact Gov.vendorReply_mgmt (Gov.set_mgmt _ _ _) _ _ _ _

end

end Sys2Proof.Machine

open Sys2Proof Sys2Proof.Machine

/-- Settles O55: each request is the branch that `vendor_listed` and the row select; REFLASH_DATA alone writes the flash. -/
theorem managementRequests : Obligations.ManagementRequests := by
  intro q t s g0 up said only heard served formed ust
  have code : ∀ {c : BitVec 8}, q.code = c → q.code.toNat = c.toNat := fun e => by rw [e]
  refine ⟨address_requests up, setEndpointId_request up, ?_, fun hears shut => ?_, fun ⟨hears, on⟩ other => ?_, fun hears form => ⟨fun is => ?_, fun is => ?_⟩, fun hears bad => ⟨fun is => ?_, fun is => ?_⟩,
    fun hears is own form => wake_request up hears (code is) own form, fun ⟨hears, on⟩ is form => ?_, fun ⟨hears, on⟩ is own form => fruWrite_request up hears on (code is) own form, fun ⟨hears, on⟩ own away => ⟨fun is form => ?_, fun is form => ?_, fun is form readOk => ?_⟩,
    fun ⟨hears, on⟩ own here => ⟨fun is form => ?_, fun size low high is form => ?_, fun is form readOk => ?_⟩⟩
  · simp only [List.forall_mem_cons]
    exact ⟨vendor_elsewhere up, vendor_elsewhere up, vendor_elsewhere up, vendor_elsewhere up, vendor_elsewhere up, vendor_elsewhere up, reflashData_elsewhere up, vendor_elsewhere up, by simp⟩
  · simp only [List.forall_mem_cons]
    exact ⟨fun is => vendor_replies up (Gov.vendor_busy hears is (by decide) shut), fun is => vendor_replies up (Gov.vendor_busy hears is (by decide) shut), fun is => vendor_replies up (Gov.vendor_busy hears is (by decide) shut),
      fun is => reflashData_replies up ((Gov.reflashRow_eq _ q).trans (Gov.vendor_busy hears is (by decide) shut)), fun is => vendor_replies up (Gov.vendor_busy hears is (by decide) shut), by simp⟩
  · simp only [List.forall_mem_cons]
    exact ⟨fun is => vendor_replies up (Gov.vendor_notOwner hears is (by decide) (.inl rfl) other), fun is => vendor_replies up (Gov.vendor_notOwner hears is (by decide) (.inr on) other), fun is => vendor_replies up (Gov.vendor_notOwner hears is (by decide) (.inr on) other),
      fun is => reflashData_replies up ((Gov.reflashRow_eq _ q).trans (Gov.vendor_notOwner hears is (by decide) (.inr on) other)), fun is => vendor_replies up (Gov.vendor_notOwner hears is (by decide) (.inr on) other), by simp⟩
  · exact vendor_replies up (Gov.vendor_acts hears (code is) (by decide) (.inl rfl) (.inl rfl) form.1 (beq_iff_eq.2 form.2))
  · exact vendor_replies up (Gov.vendor_acts hears (code is) (by decide) (.inl rfl) (.inl rfl) form.1 (beq_iff_eq.2 form.2))
  · exact vendor_replies up (Gov.vendor_malformed hears (code is) (by decide) (.inl rfl) (.inl rfl) fun ok => bad ⟨ok.1, beq_iff_eq.1 ok.2⟩)
  · exact vendor_replies up (Gov.vendor_malformed hears (code is) (by decide) (.inl rfl) (.inl rfl) fun ok => bad ⟨ok.1, beq_iff_eq.1 ok.2⟩)
  · exact vendor_replies up (Gov.vendor_acts hears (code is) (by decide) (.inr on) (.inl rfl) form.1 (beq_iff_eq.2 form.2))
  · exact reflash_replies up (Gov.ReflashDue.refused ⟨hears, code is, by decide, on, own, form.1, beq_iff_eq.2 form.2⟩ away)
  · exact reflashData_replies up (Gov.ReflashDue.refused ⟨hears, code is, by decide, on, own, form.1, by rw [form.2]; rfl⟩ away)
  · exact reflash_replies up (Gov.ReflashDue.refused ⟨hears, code is, by decide, on, own, form.1, beq_iff_eq.2 form.2⟩ away)
  · exact reflashBegin_request up ⟨hears, code is, by decide, on, own, form.1, beq_iff_eq.2 form.2⟩ here
  · exact reflashData_request up ⟨hears, code is, by decide, on, own, form.1, by rw [form.2, Bool.and_eq_true, decide_eq_true_eq, decide_eq_true_eq]; omega⟩ here low form.2
  · exact reflashFinish_request up ⟨hears, code is, by decide, on, own, form.1, beq_iff_eq.2 form.2⟩ here
end

section
namespace Sys2Proof.Machine

/-! ### An answer's journal word and the words it leaves alone (R353, R354, R359) -/

theorem Gov.journal_journalled (g : Gov) {n seq status : Nat} (small : seq < 2 ^ 16) (code : status < 256) (told : status / 32 ≠ 1) :
    (g.journal n seq status).get (F.SUP_JOURNAL_SEQ n) = seq ∧ (g.journal n seq status).flag (F.SUP_JOURNAL_VALID n) = true ∧ (g.journal n seq status).get (F.SUP_JOURNAL_RESULT n) = status := by
  have sv : (F.SUP_JOURNAL_SEQ n).apart (F.SUP_JOURNAL_VALID n) = true := by simp [Fld.apart, F.SUP_JOURNAL_SEQ, F.SUP_JOURNAL_VALID]
  have sr : (F.SUP_JOURNAL_SEQ n).apart (F.SUP_JOURNAL_RESULT n) = true := by simp [Fld.apart, F.SUP_JOURNAL_SEQ, F.SUP_JOURNAL_RESULT]
  have vr : (F.SUP_JOURNAL_VALID n).apart (F.SUP_JOURNAL_RESULT n) = true := by simp [Fld.apart, F.SUP_JOURNAL_VALID, F.SUP_JOURNAL_RESULT]
  rw [Gov.journal, if_neg told, Gov.mark_eq]
  refine ⟨?_, ?_, ?_⟩
  · rw [Gov.get_set_apart _ _ sr, Gov.get_set_apart _ _ sv, Gov.get_set_self _ _ (by simp [F.SUP_JOURNAL_SEQ])]
    exact Nat.mod_eq_of_lt small
  · rw [Gov.flag_set_apart _ _ vr, Gov.flag_set_self _ _ (by simp [F.SUP_JOURNAL_VALID])]
    rfl
  · rw [Gov.get_set_self _ _ (by simp [F.SUP_JOURNAL_RESULT])]
    exact Nat.mod_eq_of_lt code

theorem Gov.journal_word (g : Gov) (n seq status : Nat) {o : Nat} (h : o ≠ W.SUP_JOURNAL n) : (g.journal n seq status).word o = g.word o := by
  unfold Gov.journal
  split
  · rfl
  · rw [Gov.word_set_ne _ _ h, Gov.mark_eq, Gov.word_set_ne _ _ h, Gov.word_set_ne _ _ h]

theorem Gov.commit_journal (g : Gov) (n : Nat) (ws : List Nat) (status : Nat) {f : Fld} (low : f.off < 0x3000) : (g.commit n ws status none).get f = (g.journal n (pkSeq ws) status).get f := by
  unfold Gov.commit
  dsimp only
  split
  · exact Gov.signalFence_get _ _ (notFence (.inl low))
  · rfl

theorem Gov.post_word_elsewhere (g : Gov) (n : Nat) (ws : List Nat) (status : Nat) {params : List Nat} (hp : params.length ≤ 61) {o : Nat} (stat : o ≠ W.CMD_STAT n) (out : o < W.CMD_REQ n 0 ∨ W.CMD_REQ n 0 + 0x200 ≤ o) :
    (g.post n ws status params).word o = g.word o := by
  have len := replyWords_length n ws status params
  simp only [W.CMD_REQ] at out
  rw [Gov.post_eq]
  split
  · rw [Gov.freeWindow, Gov.zeroWords_word, if_neg, Gov.unasked_word _ _ stat]
    simp only [List.mem_map, List.mem_range, not_exists, not_and, W.CMD_REQ]
    omega
  · rw [Gov.mark_eq, Gov.word_set_ne _ _ stat, Gov.writeWords_word_outside _ _ _ (by simp only [W.CMD_RPL]; omega), Gov.unasked_word _ _ stat]

/-- An answer that follows a change of some words is the answer of R353 with its journal word. -/
theorem Gov.answer_answered {g h : Gov} {n : Nat} (hn : n < 16) (ws : List Nat) {status : Nat} (code : status < 256) {params : List Nat} (hp : params.length ≤ 61) {others : List Nat} (only : g.onlyWords h others) :
    g.answered (h.answer n ws status params) n ws status params others := by
  have seq : pkSeq ws < 2 ^ 16 := Nat.mod_lt _ (by decide)
  have kept : ∀ f : Fld, f.off = W.SUP_JOURNAL n → (h.answer n ws status params).get f = (h.journal n (pkSeq ws) status).get f := fun f hf => by
    have low : f.off < 0x1000 := by rw [hf, W.SUP_JOURNAL]; omega
    exact (Gov.post_get _ _ _ _ _ hn hp (.inl low)).trans (h.commit_journal n ws status (by omega))
  refine ⟨h.answer_replied n ws status params hn hp, fun told => ?_, fun quiet o listed out => ?_⟩
  · obtain ⟨number, valid, result⟩ := h.journal_journalled (n := n) seq code told
    refine ⟨(kept _ rfl).trans number, ?_, (kept _ rfl).trans result⟩
    rw [Gov.flag, kept _ rfl]
    exact valid
  · simp only [List.mem_cons, not_or] at listed
    obtain ⟨stat, word, rest⟩ := listed
    have noFence : h.commit n ws status none = h.journal n (pkSeq ws) status := by rw [Gov.commit, quiet]; rfl
    rw [Gov.answer, Gov.post_word_elsewhere _ _ _ _ hp stat out, noFence, Gov.journal_word _ _ _ _ word]
    exact only o rest

/-- An answer keeps the update's record. -/
theorem Gov.answer_firm (g : Gov) (n : Nat) (ws : List Nat) (status : Nat) (params : List Nat) : (g.answer n ws status params).firm = g.firm := besideCmd_firm (g.answer_besideCmd n ws status params)

/-- An answer keeps the update's word. -/
theorem Gov.answer_upd (g : Gov) {n : Nat} (hn : n < 16) (ws : List Nat) (status : Nat) {params : List Nat} (hp : params.length ≤ 61) {f : Fld} (hf : f.off = W.FWP_UPD) : (g.answer n ws status params).get f = g.get f :=
  g.answer_get n ws status params hn hp (by rw [hf, W.FWP_UPD, W.SUP_JOURNAL]; omega) (.inl (by rw [hf, W.FWP_UPD]; decide))

/-- A refused command answers and changes nothing else. -/
theorem Gov.refused (g : Gov) {n : Nat} (hn : n < 16) (ws : List Nat) {status : Nat} (code : status < 256) : g.answered (g.answer n ws status []) n ws status [] [] ∧ (g.answer n ws status []).firm = g.firm :=
  ⟨Gov.answer_answered hn ws code (by simp) fun _ _ => rfl, g.answer_firm n ws status []⟩

/-! ### A request that is taken up for a later answer (R361) -/

/-- Channel n's one request is this one. -/
def Gov.Holds (n : Nat) (r : Req) (g : Gov) : Prop := g.req n = some r ∧ ∀ p ∈ g.cmd.reqs, p.1 = n → p.2 = r

theorem Gov.setReq_holds (g : Gov) (n : Nat) (r : Req) : (g.setReq n (some r)).Holds n r := by
  have others : ∀ p ∈ g.cmd.reqs.filter fun (p : Nat × Req) => p.1 != n, ¬ (p.1 == n) = true := fun p hp => by
    have apart := (List.mem_filter.1 hp).2
    simpa using apart
  constructor
  · simp only [Gov.req, Gov.setReq, Gov.withCmd, List.find?_append, List.find?_eq_none.2 others]
    simp
  · intro p hp own
    rcases List.mem_append.1 (show p ∈ (g.cmd.reqs.filter fun (p : Nat × Req) => p.1 != n) ++ [(n, r)] from hp) with old | new
    · exact absurd (beq_iff_eq.2 own) (others p old)
    · rw [List.mem_singleton.1 new]

/-- A pilot that takes up another channel's request leaves this one. -/
theorem Gov.Holds.setPhase {n m : Nat} {r : Req} {g : Gov} (holds : g.Holds n r) (ne : m ≠ n) (x : ReqPhase) : (g.setPhase m x).Holds n r := by
  obtain ⟨found, only⟩ := holds
  constructor
  · have same : (fun p : Nat × Req => p.1 == n) ∘ (fun q : Nat × Req => if q.1 = m then (q.1, { q.2 with phase := x }) else q) = fun p => p.1 == n := by
      funext q
      simp only [Function.comp_apply]
      split <;> rfl
    simp only [Gov.req, Gov.setPhase, Gov.withCmd, List.find?_map, same, Option.map_map] at found ⊢
    cases first : g.cmd.reqs.find? fun p => p.1 == n with
    | none => rw [first] at found; cases found
    | some p =>
      have own : p.1 = n := by simpa using List.find?_some first
      rw [first] at found
      simpa [own, ne.symm] using found
  · intro p hp own
    obtain ⟨q, hq, rfl⟩ := List.mem_map.1 (show p ∈ g.cmd.reqs.map fun (q : Nat × Req) => if q.1 = m then (q.1, { q.2 with phase := x }) else q from hp)
    by_cases e : q.1 = m
    · rw [if_pos e] at own
      exact absurd (e.symm.trans own) ne
    · rw [if_neg e] at own ⊢
      exact only q hq own

theorem Gov.Holds.takeUp {n : Nat} {r : Req} {g : Gov} (holds : g.Holds n r) (serving : r.phase = .serving) : g.takeUp.Holds n r := by
  unfold Gov.takeUp
  split
  · exact holds
  · refine Gov.each_keeps (P := Gov.Holds n r) (fun g k holds => ?_) _ _ holds
    dsimp only
    split
    · exact holds
    · split
      · next p _ order =>
        have chosen := (mem_sortBy _ _ _).1 (order ▸ List.mem_cons_self)
        obtain ⟨mine, ready⟩ := List.mem_filter.1 chosen
        refine holds.setPhase (fun own => ?_) _
        rw [holds.2 p (List.mem_filter.1 mine).1 own, serving] at ready
        simp at ready
      · exact holds

theorem Gov.begin_serving {g : Gov} {n : Nat} {r : Req} (req : g.req n = some r) : (g.begin n).req n = some { r with phase := .serving } ∧ g.onlyWords (g.begin n) [] := by
  unfold Gov.begin
  rw [req]
  exact ⟨((g.setReq_holds n _).takeUp rfl).1, fun o _ => Gov.takeUp_word _ o⟩

/-! ### The rolling restart begins with pilot C (R343, R349) -/

/-- Pilot C is held in reset at once where no pilot is being reloaded. -/
theorem Gov.haltPilot_free (g : Gov) (free : g.firm.cur = none) : (g.haltPilot 2).firm = { g.firm with cur := some 2 } ∧ (g.haltPilot 2).get (F.FWP_PSTATE_STATE 2) = 3 ∧
    ∀ f : Fld, f.apart (F.FWP_PSTATE_STATE 2) = true → (g.haltPilot 2).get f = g.get f := by
  unfold Gov.haltPilot
  extract_lets mine reqs _ condemned _ halted held
  have firm : held.firm = g.firm := rfl
  rw [firm, free]
  exact ⟨rfl, halted.get_set_self (f := F.FWP_PSTATE_STATE 2) 3 (by decide), fun f apart => halted.get_set_apart 3 apart⟩

/-- Pilot C's restart is counted and the pilot noted. -/
def Gov.counted (g : Gov) : Gov := (g.inc (F.FWP_RST_CNT_COUNT 2)).set F.FWP_RST_LAST_PILOT 2

theorem Gov.restartPilot_eq (g : Gov) (cause : Nat) (runs : g.get (F.FWP_PSTATE_STATE 2) ≠ 3) :
    g.restartPilot 2 cause = ((g.counted.set F.FWP_RST_LAST_CAUSE cause).log g.counted.now 0xC [2 + cause * 2 ^ 8]).haltPilot 2 := if_neg runs

theorem Gov.counted_firm (g : Gov) : g.counted.firm = g.firm := by rw [Gov.counted, Gov.inc_eq, Gov.set_firm, Gov.set_firm]

theorem Gov.counted_upd (g : Gov) : g.counted.get F.FWP_UPD_USTATE = g.get F.FWP_UPD_USTATE := by rw [Gov.counted, Gov.inc_eq, Gov.get_set_apart _ _ (by decide), Gov.get_set_apart _ _ (by decide)]

theorem Gov.counted_pilot (g : Gov) : g.counted.get F.FWP_RST_LAST_PILOT = 2 := Gov.get_set_self _ (f := F.FWP_RST_LAST_PILOT) 2 (by decide)

theorem Gov.restartPilot_free (g : Gov) {cause : Nat} (small : cause < 256) (runs : g.get (F.FWP_PSTATE_STATE 2) ≠ 3) (free : g.firm.cur = none) :
    (g.restartPilot 2 cause).firm = { g.firm with cur := some 2 } ∧ (g.restartPilot 2 cause).get (F.FWP_PSTATE_STATE 2) = 3 ∧ (g.restartPilot 2 cause).get F.FWP_RST_LAST_PILOT = 2 ∧
      (g.restartPilot 2 cause).get F.FWP_RST_LAST_CAUSE = cause ∧ (g.restartPilot 2 cause).get F.FWP_UPD_USTATE = g.get F.FWP_UPD_USTATE := by
  rw [Gov.restartPilot_eq g cause runs]
  have logged := Gov.log_besideFlt (g.counted.set F.FWP_RST_LAST_CAUSE cause) g.counted.now 0xC [2 + cause * 2 ^ 8]
  have read : ∀ f : Fld, logFields.all f.apart = true → ((g.counted.set F.FWP_RST_LAST_CAUSE cause).log g.counted.now 0xC [2 + cause * 2 ^ 8]).get f = (g.counted.set F.FWP_RST_LAST_CAUSE cause).get f := fun f apart => Gov.log_get _ _ _ _ apart
  generalize (g.counted.set F.FWP_RST_LAST_CAUSE cause).log g.counted.now 0xC [2 + cause * 2 ^ 8] = h at logged read ⊢
  have firm : h.firm = g.firm := (besideFlt_firm logged).trans ((Gov.set_firm _ _ _).trans g.counted_firm)
  obtain ⟨restarts, held, others⟩ := Gov.haltPilot_free h ((congrArg FirmSt.cur firm).trans free)
  refine ⟨restarts.trans (by rw [firm]), held, ?_, ?_, ?_⟩
  · rw [others _ (by decide), read _ (by decide), Gov.get_set_apart _ _ (by decide), g.counted_pilot]
  · rw [others _ (by decide), read _ (by decide), Gov.get_set_self _ _ (by decide)]
    exact Nat.mod_eq_of_lt small
  · rw [others _ (by decide), read _ (by decide), Gov.get_set_apart _ _ (by decide), g.counted_upd]

/-! ### The commands of an update (R342, R362, R364) -/

theorem blockBytes_length (ws : List Nat) : (blockBytes ws).length = 4 * ((pkParams ws).length - 1) := by
  simp [blockBytes, List.length_flatMap, leBytes, Nat.mul_comm]

theorem flashBlock_nil (dev : Option FlashDev) (fl : Tab Byte) (off : Nat) : flashBlock dev fl off [] = fl := rfl

section
variable {g : Gov} {n : Nat} (hn : n < 16) (ws : List Nat)
include hn

theorem Gov.updateBegun (x : FirmSt) : let h := ((g.set F.FWP_UPD_USTATE 1).withFirm x).answer n ws stOk []
    g.answered h n ws stOk [] [W.FWP_UPD] ∧ h.get F.FWP_UPD_USTATE = 1 ∧ h.firm = x := by
  refine ⟨Gov.answer_answered hn ws (by decide) (by simp) fun o out => ?_, ?_, Gov.answer_firm _ _ _ _ _⟩
  · exact (Gov.withFirm_word _ _ _).trans (Gov.word_set_ne _ _ (List.ne_of_not_mem_cons out))
  · rw [Gov.answer_upd _ hn ws stOk (by simp) rfl, Gov.withFirm_get, Gov.get_set_self _ _ (by decide)]; rfl

theorem Gov.updateData_taken (follows : param ws 0 = g.firm.written ∧ g.firm.written + (blockBytes ws).length ≤ g.firm.imgLen) (busy : g.get F.FWP_UPD_USTATE = 1) :
    g.answered (g.updateData n ws) n ws stOk [g.firm.written + (blockBytes ws).length] [] ∧ (g.updateData n ws).firm = { g.firm with written := g.firm.written + (blockBytes ws).length } := by
  have good : g.blockBad ws = none := by
    rw [Gov.blockBad, ← blockBytes_length, if_neg (not_or.2 ⟨not_not.2 follows.1, Nat.not_lt.2 follows.2⟩), if_neg (not_not.2 busy)]
  rw [Gov.updateData, good]
  exact ⟨Gov.answer_answered hn ws (by decide) (by simp) fun _ _ => rfl, Gov.answer_firm _ _ _ _ _⟩

theorem Gov.updateData_refused {st : Nat} (code : st < 256) (bad : g.blockBad ws = some st) : g.answered (g.updateData n ws) n ws st [] [] ∧ (g.updateData n ws).firm = g.firm := by
  rw [Gov.updateData, bad]
  exact g.refused hn ws code

end

/-- UPDATE_FINISH of a whole image: the request stays for its later answer. -/
theorem Gov.updateFinished {g : Gov} {n : Nat} {r : Req} (req : g.req n = some r) : let h := (g.set F.FWP_UPD_USTATE 2).begin n
    h.get F.FWP_UPD_USTATE = 2 ∧ g.onlyWords h [W.FWP_UPD] ∧ h.req n = some { r with phase := .serving } := by
  obtain ⟨held, same⟩ := Gov.begin_serving ((Gov.req_of_cmd (g.set_cmd F.FWP_UPD_USTATE 2) n).trans req)
  refine ⟨?_, fun o out => (same o (by simp)).trans (Gov.word_set_ne _ _ (List.ne_of_not_mem_cons out)), held⟩
  rw [Gov.get_congr (same _ (by simp)), Gov.get_set_self _ _ (by decide)]; rfl

/-- The row of UPDATE_DATA: the flash takes the block that the governor takes. -/
theorem updateData_row {n : Fin 16} {ws : List Nat} {t : Fin 250} {s : State} (serves : s.gov.serves t n 0x04 ws) (count : paramCount ws blockCount = true) :
    exec (.updateData n t) s = .next { s with gov := (s.gov.reach t).updateData n ws, keep := { s.keep with flash :=
      if ((s.gov.reach t).updateData n ws).firm.written = (s.gov.reach t).firm.written then s.keep.flash else flashBlock s.keep.dev s.keep.flash (s.gov.reach t).firm.written (blockBytes ws) } } := by
  have row : exec (.updateData n t) s = execUpdateData n t s := rfl
  have served := Gov.serve_eq (f := fun g ws => g.updateData n ws) serves count
  obtain ⟨up, _, ⟨r, req, words, _⟩, _⟩ := serves
  rw [row, execUpdateData]
  refine nextBoth ?_
  dsimp only
  rw [Gov.ev_up _ _ _ up, Gov.ev_up _ _ _ up, served, id, req, ← words]

/-! ### Verification and an abandoned flash operation (R343, R67) -/

/-- A verification that fails; its command is answered where it still waits. -/
theorem verify_fails {readOk : Bool} {t : Fin 250} {s : State} {c : Nat} (on : (s.gov.reach t).pilotsOn = true) (busy : (s.gov.reach t).get F.FWP_UPD_USTATE = 2)
    (fails : imageFault s.keep.flash (s.gov.reach t).fuses.keyHash s.keep.svn readOk = some c) : ∃ h, exec (.updateVerifyComplete readOk t) s = .next { s with gov := h } ∧
      (h = (s.gov.reach t).failUpdate c ∨ ∃ ws, h = ((s.gov.reach t).failUpdate c).answer 2 ws stVerifyFailed [c]) ∧
      ∀ r, ((s.gov.reach t).failUpdate c).req 2 = some r → r.doom = none → pkOpcode r.words = 5 → h = ((s.gov.reach t).failUpdate c).answer 2 r.words stVerifyFailed [c] := by
  refine ⟨_, nextGov rfl, ?_⟩
  dsimp only
  rw [if_neg (by rw [on, busy]; simp), fails]
  dsimp only
  rw [← Gov.failUpdate]
  cases ((s.gov.reach t).failUpdate c).req 2 with
  | none => exact ⟨.inl rfl, by simp⟩
  | some r =>
    obtain ⟨ws, phase, at_, doom⟩ := r
    cases doom with
    | some st => exact ⟨.inl rfl, fun r same free => by cases same; cases free⟩
    | none =>
      by_cases finish : pkOpcode ws = 5
      · exact ⟨.inr ⟨ws, if_pos finish⟩, fun r same _ _ => by cases same; exact if_pos finish⟩
      · exact ⟨.inl (if_neg finish), fun r same _ is => by cases same; exact absurd is finish⟩

/-- The state of an update whose image has passed. -/
def Gov.passUpdate (g : Gov) (m : Image) : Gov := (g.set F.FWP_UPD_USTATE 3).withFirm { g.firm with next := m, image := { g.firm.image with secDig := m.secDig }, rolling := [2, 1, 0] }

theorem Gov.passUpdate_cur (g : Gov) (m : Image) : (g.passUpdate m).firm.cur = g.firm.cur := rfl

section
variable {readOk : Bool} {t : Fin 250} {s : State} (on : (s.gov.reach t).pilotsOn = true) (busy : (s.gov.reach t).get F.FWP_UPD_USTATE = 2)
  (passes : imageFault s.keep.flash (s.gov.reach t).fuses.keyHash s.keep.svn readOk = none)
include on busy passes

theorem verify_restarts (free : (s.gov.reach t).firm.cur = none) : exec (.updateVerifyComplete readOk t) s = .next { s with gov := ((s.gov.reach t).passUpdate (readImage s.keep.flash)).nextRestart } := by
  refine nextGov ?_
  dsimp only
  rw [if_neg (by rw [on, busy]; simp), passes]
  exact if_pos ((Gov.passUpdate_cur _ _).trans free)

theorem verify_waits (other : (s.gov.reach t).firm.cur ≠ none) : exec (.updateVerifyComplete readOk t) s = .next { s with gov := (s.gov.reach t).passUpdate (readImage s.keep.flash) } := by
  refine nextGov ?_
  dsimp only
  rw [if_neg (by rw [on, busy]; simp), passes]
  exact if_neg fun e => other ((Gov.passUpdate_cur _ _).symm.trans e)

end

/-- The rolling restart begins with pilot C. -/
theorem Gov.passUpdate_restarts (g : Gov) (m : Image) (free : g.firm.cur = none) (alone : g.firm.waiting = []) (runs : g.get (F.FWP_PSTATE_STATE 2) ≠ 3) : let h := (g.passUpdate m).nextRestart
    h.get F.FWP_UPD_USTATE = 3 ∧ h.firm.next = m ∧ h.firm.rolling = [1, 0] ∧ h.firm.cur = some 2 ∧ h.get (F.FWP_PSTATE_STATE 2) = 3 ∧ h.get F.FWP_RST_LAST_PILOT = 2 ∧ h.get F.FWP_RST_LAST_CAUSE = 4 := by
  have first : (g.passUpdate m).nextRestart = ((g.passUpdate m).withFirm { (g.passUpdate m).firm with rolling := [1, 0] }).restartPilot 2 4 := by
    rw [Gov.nextRestart, show (g.passUpdate m).firm.waiting = [] from alone, show (g.passUpdate m).firm.rolling = [2, 1, 0] from rfl]
  have still : ((g.passUpdate m).withFirm { (g.passUpdate m).firm with rolling := [1, 0] }).get (F.FWP_PSTATE_STATE 2) ≠ 3 := by
    rw [Gov.withFirm_get, Gov.passUpdate, Gov.withFirm_get, Gov.get_set_apart _ _ (by decide)]
    exact runs
  have state : ((g.passUpdate m).withFirm { (g.passUpdate m).firm with rolling := [1, 0] }).get F.FWP_UPD_USTATE = 3 := g.get_set_self (f := F.FWP_UPD_USTATE) 3 (by decide)
  obtain ⟨firm, held, pilot, cause, same⟩ := Gov.restartPilot_free _ (show 4 < 256 by decide) still free
  rw [first]
  exact ⟨same.trans state, congrArg FirmSt.next firm, congrArg FirmSt.rolling firm, congrArg FirmSt.cur firm, held, pilot, cause⟩

/-- The epoch advance that is abandoned. -/
theorem Gov.epochFails_bad (g : Gov) (k : Persist) (down : g.led.epochUp = false) : (g.epochFails k).flag F.LDG_STATUS_EPOCH_BAD = true ∧ g.onlyWords (g.epochFails k) [W.LDG_EPOCH, W.LDG_STATUS] := by
  unfold Gov.epochFails
  rw [down, Bool.false_or]
  split
  · next bad => exact ⟨bad, fun _ _ => rfl⟩
  · refine ⟨?_, fun o out => ?_⟩
    · rw [Gov.mark_eq, Gov.flag_set_self _ _ (by decide)]; rfl
    · simp only [List.mem_cons, List.not_mem_nil, or_false, not_or] at out
      rw [Gov.mark_eq, Gov.word_set_ne _ _ out.2, Gov.word_setWord_ne _ _ out.1]

/-- An update whose image has passed waits for the pilot that is being reloaded. -/
theorem Gov.passUpdate_waits (g : Gov) (m : Image) : (g.passUpdate m).get F.FWP_UPD_USTATE = 3 ∧ (g.passUpdate m).firm.next = m ∧ (g.passUpdate m).firm.rolling = [2, 1, 0] ∧ (g.passUpdate m).firm.cur = g.firm.cur ∧
    g.onlyWords (g.passUpdate m) [W.FWP_UPD] :=
  ⟨g.get_set_self (f := F.FWP_UPD_USTATE) 3 (by decide), rfl, rfl, rfl, fun _ out => g.word_set_ne (f := F.FWP_UPD_USTATE) _ (List.ne_of_not_mem_cons out)⟩

/-- A failed verification's registers, answered or not. -/
theorem Gov.verifyFailed (g : Gov) {c : Nat} (small : c < 16) {h : Gov} (shape : h = g.failUpdate c ∨ ∃ ws, h = (g.failUpdate c).answer 2 ws stVerifyFailed [c]) :
    h.get F.FWP_UPD_USTATE = 4 ∧ h.get F.FWP_UPD_FAIL_RSN = c ∧ h.firm = g.firm := by
  obtain ⟨state, reason, -⟩ := g.failUpdate_words small
  rcases shape with rfl | ⟨ws, rfl⟩
  · exact ⟨state, reason, rfl⟩
  · have kept : ∀ f : Fld, f.off = W.FWP_UPD → ((g.failUpdate c).answer 2 ws stVerifyFailed [c]).get f = (g.failUpdate c).get f := fun f hf => Gov.answer_upd _ (by decide) ws stVerifyFailed (by simp) hf
    exact ⟨(kept _ rfl).trans state, (kept _ rfl).trans reason, Gov.answer_firm _ _ _ _ _⟩

section
variable {n : Fin 16} {ws : List Nat} {t : Fin 250} {s : State} (serves : s.gov.serves t n 0x04 ws) (count : paramCount ws blockCount = true)
include serves count

/-- A block that is refused leaves the flash and the update alone. -/
theorem updateData_left {st : Nat} (code : st < 256) (bad : (s.gov.reach t).blockBad ws = some st) :
    Completes (.updateData n t) s fun g => (s.gov.reach t).answered g n ws st [] [] ∧ g.firm = (s.gov.reach t).firm := by
  obtain ⟨answer, firm⟩ := Gov.updateData_refused n.isLt ws code bad
  refine ⟨_, (updateData_row serves count).trans ?_, answer, firm⟩
  rw [if_pos (congrArg FirmSt.written firm)]

/-- A block that is taken is written to the flash. -/
theorem updateData_block (follows : param ws 0 = (s.gov.reach t).firm.written ∧ (s.gov.reach t).firm.written + 4 * ((pkParams ws).length - 1) ≤ (s.gov.reach t).firm.imgLen) (busy : (s.gov.reach t).get F.FWP_UPD_USTATE = 1) :
    ∃ g, exec (.updateData n t) s = .next { s with gov := g, keep := { s.keep with flash := flashBlock s.keep.dev s.keep.flash (s.gov.reach t).firm.written (blockBytes ws) } } ∧
      (s.gov.reach t).answered g n ws stOk [(s.gov.reach t).firm.written + 4 * ((pkParams ws).length - 1)] [] ∧ g.firm = { (s.gov.reach t).firm with written := (s.gov.reach t).firm.written + 4 * ((pkParams ws).length - 1) } := by
  rw [← blockBytes_length] at follows ⊢
  obtain ⟨answer, firm⟩ := Gov.updateData_taken n.isLt ws follows busy
  refine ⟨_, (updateData_row serves count).trans ?_, answer, firm⟩
  have grows : ((s.gov.reach t).updateData n ws).firm.written = (s.gov.reach t).firm.written + (blockBytes ws).length := congrArg FirmSt.written firm
  by_cases empty : blockBytes ws = []
  · rw [empty, flashBlock_nil, ite_self]
  · have some := List.length_pos_iff.2 empty
    rw [if_neg (by omega)]

end

/-- The governor's part of an abandoned flash operation. -/
theorem flashTimeout_epoch {erase : Bool} {busy : Nat} {t : Fin 250} {s : State} (awake : (s.gov.reach t).flashShut = false) (beyond : flashLimit s.keep.dev erase < busy) (running : (s.gov.reach t).running = true) :
    exec (.flashOperationTimeout ⟨true, erase, busy⟩ t) s = .next { s with gov := (s.gov.reach t).epochFails s.keep } :=
  nextGov ((if_neg (not_or.2 ⟨by rw [awake]; decide, Nat.not_le.2 beyond⟩)).trans ((if_pos rfl).trans (if_pos running)))

theorem flashTimeout_update {erase : Bool} {busy : Nat} {t : Fin 250} {s : State} (awake : (s.gov.reach t).flashShut = false) (beyond : flashLimit s.keep.dev erase < busy) (is : (s.gov.reach t).get F.FWP_UPD_USTATE = 1) :
    exec (.flashOperationTimeout ⟨false, erase, busy⟩ t) s = .next { s with gov := (s.gov.reach t).failUpdate 6 } :=
  nextGov ((if_neg (not_or.2 ⟨by rw [awake]; decide, Nat.not_le.2 beyond⟩)).trans ((if_neg Bool.false_ne_true).trans (if_pos is)))

end Sys2Proof.Machine

open Sys2Proof Sys2Proof.Machine

/-- Settles O54: a served command is its branch and the answer of R353; a verification ends in failure or in the first restart of the rolling restart. -/
theorem updates : Obligations.Updates := by
  intro n ws t s g0 ust idle
  have answers : ∀ {op : Nat} {ok : Nat → Bool} {f : Gov → List Nat → Gov} {h : Gov}, s.gov.serves t n op ws → paramCount ws ok = true → f (s.gov.reach t) ws = h → command n op ok t s f = .next { s with gov := h } :=
    fun serves count e => e ▸ command_eq serves count
  refine ⟨fun serves count => ⟨fun out => ?_, fun inside busy => ?_, fun inside free => ?_⟩, fun serves count => ⟨fun out => ?_, fun follows off => ?_, fun follows on => ?_⟩, fun serves count => ⟨fun part => ?_, fun whole => ?_⟩,
    fun readOk on busy => ⟨fun c fails => ?_, fun passes => ⟨fun free alone runs => ?_, fun other => ?_⟩⟩, fun erase busy awake beyond => ⟨fun running down => ?_, fun is => ?_⟩⟩
  · exact ⟨_, answers serves count (if_pos ((not_and_or.1 out).imp Nat.lt_of_not_le Nat.lt_of_not_le)), Gov.refused _ n.isLt ws (by decide)⟩
  · exact ⟨_, answers serves count ((if_neg (not_or.2 ⟨Nat.not_lt.2 inside.1, Nat.not_lt.2 inside.2⟩)).trans (if_pos ((not_and_or.1 busy).imp not_not.1 not_not.1))), Gov.refused _ n.isLt ws (by decide)⟩
  · exact ⟨_, answers serves count ((if_neg (not_or.2 ⟨Nat.not_lt.2 inside.1, Nat.not_lt.2 inside.2⟩)).trans (if_neg (not_or.2 free))), Gov.updateBegun n.isLt ws _⟩
  · exact updateData_left serves count (by decide) (if_pos ((not_and_or.1 out).imp id Nat.lt_of_not_le))
  · exact updateData_left serves count (by decide) ((if_neg (not_or.2 ⟨not_not.2 follows.1, Nat.not_lt.2 follows.2⟩)).trans (if_pos off))
  · exact updateData_block serves count follows on
  · obtain ⟨answer, -⟩ := g0.refused n.isLt ws (status := stState) (by decide)
    exact ⟨_, answers serves count (if_pos ((not_and_or.1 part).imp id id)), answer, g0.answer_upd n.isLt ws stState (by simp) rfl⟩
  · obtain ⟨r, req, words, -⟩ := serves.2.2.1
    obtain ⟨state, only, held⟩ := Gov.updateFinished req
    exact ⟨_, answers serves count (if_neg (not_or.2 ⟨not_not.2 whole.1, not_not.2 whole.2⟩)), state, only, _, held, words, rfl⟩
  · obtain ⟨h, next, shape, answered⟩ := verify_fails on busy fails
    obtain ⟨state, reason, firm⟩ := g0.verifyFailed (imageFault_small fails) shape
    refine ⟨h, next, state, reason, firm, fun r req free finish => ?_⟩
    rw [answered r req free finish]
    exact Gov.answer_replied _ 2 _ _ _ (by decide) (by simp)
  · exact ⟨_, verify_restarts on busy passes free, g0.passUpdate_restarts _ free alone runs⟩
  · exact ⟨_, verify_waits on busy passes other, g0.passUpdate_waits _⟩
  · exact ⟨_, flashTimeout_epoch awake beyond running, g0.epochFails_bad s.keep down⟩
  · exact ⟨_, flashTimeout_update awake beyond is, g0.failUpdate_words (by decide)⟩
end

section
namespace Sys2Proof.Machine

/-! ### The TAP's instructions are judged where the instant begins (R76, R77) -/

/-- IDCODE changes nothing where the TAP does not answer before the state has moved to the instant. -/
theorem idcode_unanswered {t : Fin 250} {s : State} (off : s.gov.tapOn = false) : exec (.idcode t) s = .next s := by
  have row : exec (.idcode t) s = execIdcode t s := rfl
  rw [row, execIdcode, State.onGov, if_neg (by rw [off]; decide)]

/-- The TAP's clause of IDCODE fails where the TAP begins to answer between the state and the instant. -/
theorem idcode_missed {t : Fin 250} {s : State} {r : TapSt} (off : s.gov.tapOn = false) (other : s.gov.tap.ir ≠ r.ir) (P : Gov → Prop) : ¬ Completes (.idcode t) s fun g => g.tap = r ∧ P g := by
  rintro ⟨g, next, shown, -⟩
  rw [idcode_unanswered off] at next
  have same : s.gov = g := congrArg State.gov (Host.Outcome.next.inj next)
  exact other (congrArg TapSt.ir (same ▸ shown))

end Sys2Proof.Machine

open Sys2Proof Sys2Proof.Machine

/-- Refutes O60: in DEEP, at step 13 of an exit, berth 0's standing ACK is taken 100 ns after the code was driven and ends the exit. Then, 200 ns into the base tick, the die is in RUN and the statement has the TAP answer, but IDCODE looks for DEEP before the state moves to that instant, and changes nothing. -/
theorem not_scrubAndTap : ¬ Obligations.ScrubAndTap := by
  intro h
  obtain ⟨-, -, -, -, tap⟩ := h 200 (Test.on [(F.PS_STAT_STATE, stDeep), (F.PS_STAT_BUSY, 1), (F.PS_STAT_PHASE, 4), (F.BT_CFG_PRESENT 0, 1)] fun g => (g.withPwr { g.pwr with step := 13, reqAt := g.now }).setAns 0 fun x => { x with ack := true })
  obtain ⟨idcode, -⟩ := tap (by decide +kernel)
  exact idcode_missed (by decide +kernel) (by decide +kernel) _ idcode
end

section
namespace Sys2Proof.Machine

/-! ### Purged reservations (R144) -/

theorem Gov.purge_table (g : Gov) (pick : Entry → Bool) : (g.purge pick).fcu.table = g.fcu.table.filter fun e => !pick e := by
  unfold Gov.purge
  dsimp only
  split
  · next none => exact (List.filter_eq_self.2 fun e he => by simpa using List.countP_eq_zero.1 none e he).symm
  · rw [Gov.inc_fcu, Gov.setTable_fcu]

theorem Gov.setTable_held (g : Gov) (table : List Entry) : (g.setTable table).held = g.held :=
  (Gov.each_same Gov.held (fun _ _ => Gov.set_held _ _ _) _ _).trans (by simp)

theorem Gov.purge_held (g : Gov) (pick : Entry → Bool) : (g.purge pick).held = g.held := by
  unfold Gov.purge
  dsimp only
  split
  · rfl
  · rw [Gov.inc_held, Gov.setTable_held]

/-- A purge writes words of the forecast unit and BT_FCU words, which stand at 0x1C of a berth's block. -/
theorem Gov.purge_get (g : Gov) (pick : Entry → Bool) {f : Fld} (high : 0x1000 ≤ f.off) (other : f.off % 0x40 ≠ 0x1C) : (g.purge pick).get f = g.get f := by
  have live : f.off ≠ 0xE1C := by omega
  have count : f.off ≠ 0xE58 := by omega
  unfold Gov.purge
  dsimp only
  split
  · rfl
  · refine (Gov.get_congr (Gov.word_set_ne _ _ count)).trans ?_
    refine (Gov.each_same (fun h => h.get f) (fun _ _ => Gov.get_congr (Gov.word_set_ne _ _ ?_)) _ _).trans ?_
    · simp only [F.BT_FCU_RCNT]; omega
    · exact (Gov.get_congr (Gov.word_set_ne _ _ live)).trans (Gov.get_congr (Gov.word_set_ne _ _ live))

/-! ### The end of a retirement (R48, R384) -/

/-- A berth whose retirement has ended: neither retiring nor written present, and without reservations. -/
def Gov.retired (g : Gov) (b : Nat) : Gov := ((g.set (F.BT_CFG_RETIRING b) 0).purgeBerth b).setAns b fun x => { x with req := 0 }

theorem Gov.retired_get (g : Gov) (b : Nat) {f : Fld} (word : f.off = W.BT_CFG b) : (g.retired b).get f = (g.set (F.BT_CFG_RETIRING b) 0).get f :=
  Gov.purge_get _ _ (by rw [word, W.BT_CFG]; omega) (by rw [word, W.BT_CFG]; omega)

theorem Gov.retired_retiring (g : Gov) (b : Nat) : (g.retired b).flag (F.BT_CFG_RETIRING b) = false := by
  rw [Gov.flag, g.retired_get b rfl, Gov.get_set_self _ _ (by simp [F.BT_CFG_RETIRING])]
  rfl

theorem Gov.retired_absent {g : Gov} {b : Nat} (absent : g.actFlag (F.BT_CFG_PRESENT b) = false) : (g.retired b).present b = false := by
  have held : (g.retired b).held = (g.set (F.BT_CFG_RETIRING b) 0).held := Gov.purge_held _ _
  have kept : (g.retired b).act (F.BT_CFG_PRESENT b) = g.act (F.BT_CFG_PRESENT b) :=
    (Gov.act_congr held (g.retired_get b rfl)).trans (g.act_set_apart 0 (by simp [Fld.apart, F.BT_CFG_PRESENT, F.BT_CFG_RETIRING]))
  rw [Gov.present, g.retired_retiring, Gov.actFlag, kept, ← Gov.actFlag, absent]
  rfl

theorem Gov.retired_table (g : Gov) (b : Nat) : (g.retired b).fcu.table = g.fcu.table.filter fun e => e.berth != b := Gov.purge_table _ _

/-! ### A pending period comes into force (R79) -/

theorem Gov.periodChange_due {g : Gov} (due : g.periodDue = true) : g.periodChange = (g.set F.ENG_CFG_PER_ACT (g.get F.ENG_CFG_PERIOD)).set F.ENG_CFG_PER_PEND 0 := by
  simp only [Gov.periodDue, Bool.and_eq_true, beq_iff_eq] at due
  obtain ⟨⟨⟨⟨pending, -⟩, -⟩, old⟩, new⟩ := due
  exact if_pos ⟨pending, old, new⟩

theorem Gov.periodChange_period {g : Gov} (due : g.periodDue = true) : g.periodChange.get F.ENG_CFG_PER_ACT = g.get F.ENG_CFG_PERIOD := by
  rw [Gov.periodChange_due due, Gov.get_set_apart _ _ (by decide), Gov.get_set_self _ _ (by decide)]
  exact Nat.mod_eq_of_lt (g.get_lt F.ENG_CFG_PERIOD)

theorem Gov.periodChange_pending {g : Gov} (due : g.periodDue = true) : g.periodChange.flag F.ENG_CFG_PER_PEND = false := by
  rw [Gov.periodChange_due due, Gov.flag_set_self _ _ (by decide)]
  rfl

end Sys2Proof.Machine

open Sys2Proof Sys2Proof.Machine

/-- Settles O17: the retired berth's word and reservations are told by `Gov.retired`, the period's word by `Gov.periodChange_due`. -/
theorem berthsAndPeriods : Obligations.BerthsAndPeriods := by
  intro t s g0 engine
  refine ⟨fun b retiring absent shut => ⟨g0.retired b, nextGov ?_, g0.retired_retiring b, Gov.retired_absent absent, g0.retired_table b⟩,
    fun due => ⟨_, nextGov (if_pos ?_), Gov.periodChange_period due, Gov.periodChange_pending due⟩⟩
  · exact if_pos (by rw [engine, retiring, absent, shut]; rfl)
  · rw [engine, due]; rfl
end

section
namespace Sys2Proof.Machine

/-! ### What a rail's approach to its target leaves alone (R152, R189) -/

/-- What a move of vcmd leaves alone: the rail's record but for the detector's reference, the rail's state, and the power state. -/
def Gov.loop (g : Gov) (r : Nat) : RailSt × Nat × Nat := ({ g.rail r with detRef := none }, g.rstate r, g.state)

theorem Gov.loop_setDetector (g : Gov) (r : Nat) (d : RailSt → Option Int) : (g.setRail r fun x => { x with detRef := d x }).loop r = g.loop r := by
  simp [Gov.loop, Gov.rstate, Gov.state]

theorem Gov.loop_set (g : Gov) (r : Nat) {f : Fld} (v : Nat) (high : 0x1000 ≤ f.off) (apart : (F.RAIL_STATE_STATE r).apart f = true) : (g.set f v).loop r = g.loop r := by
  have state : F.PS_STAT_STATE.off ≠ f.off := by simp only [F.PS_STAT_STATE]; omega
  rw [Gov.loop, Gov.rail_set, Gov.rstate, Gov.get_set_apart _ _ apart, Gov.state, Gov.get_congr (g.word_set_ne v state)]
  rfl

theorem Gov.loop_reglideAll (g : Gov) (r : Nat) : g.reglideAll.loop r = g.loop r := by
  have glide : ∀ (h : Gov) (s v : Nat), (h.set (F.FSYN_STAT_GLIDE s) v).loop r = h.loop r := fun h s v =>
    h.loop_set r v (by simp only [F.FSYN_STAT_GLIDE]; omega) (by simp [Fld.apart, F.RAIL_STATE_STATE, F.FSYN_STAT_GLIDE]; omega)
  have held : ∀ (h : Gov) (s v : Nat), (h.set (F.FSYN_STAT_HELD s) v).loop r = h.loop r := fun h s v =>
    h.loop_set r v (by simp only [F.FSYN_STAT_HELD]; omega) (by simp [Fld.apart, F.RAIL_STATE_STATE, F.FSYN_STAT_HELD]; omega)
  refine Gov.each_same (fun h => h.loop r) (fun h s => ?_) _ _
  split
  · unfold Gov.reglide
    extract_lets _ _ x _ dir turned
    have same : turned.loop r = h.loop r := by
      by_cases e : dir = x.dir
      · rw [show turned = h from if_pos e]
      · rw [show turned = _ from if_neg e]; rfl
    rw [held, glide, same]
  · rfl

theorem Gov.loop_fire (g : Gov) (r : Nat) (e : SigEvent) : (g.fire e).loop r = g.loop r := by
  have state : (g.fire e).rstate r = g.rstate r := g.fire_get_outside e (.inr (by simp only [F.RAIL_STATE_STATE]; omega))
  have power : (g.fire e).state = g.state := g.fire_get_outside e (.inl (by decide))
  rw [Gov.loop, Gov.rail_of_reg (besideCmd_reg (g.fire_besideCmd e)), state, power]
  rfl

theorem Gov.loop_reached (g : Gov) (r : Nat) : (g.reached r).loop r = g.loop r := by
  have apart : (F.RAIL_STATE_STATE r).apart (F.RAIL_STATE_REACHED r) = true ∧ (F.RAIL_STATE_STATE r).apart (F.RAIL_STATE_RCH_ENTRY r) = true := by simp [Fld.apart, F.RAIL_STATE_STATE, F.RAIL_STATE_REACHED, F.RAIL_STATE_RCH_ENTRY]
  unfold Gov.reached
  dsimp only
  split
  · exact g.loop_setDetector r fun _ => none
  · rw [Gov.loop_fire, Gov.loop_reglideAll, Gov.loop_set _ _ _ (by simp only [F.RAIL_STATE_RCH_ENTRY]; omega) apart.2, Gov.mark_eq, Gov.loop_set _ _ _ (by simp only [F.RAIL_STATE_REACHED]; omega) apart.1]
    exact g.loop_setDetector r fun _ => none

theorem Gov.loop_setVcmd (g : Gov) (r : Nat) (v : Int) : (g.setVcmd r v).loop r = g.loop r :=
  g.loop_set r _ (by simp only [F.RAIL_VCMD_VCMD]; omega) (by simp [Fld.apart, F.RAIL_STATE_STATE, F.RAIL_VCMD_VCMD])

theorem Gov.loop_approach (g : Gov) (r : Nat) (up dn : Nat) : (g.approach r up dn).loop r = g.loop r := by
  have arrive : ∀ (h : Gov) (p : Prop) [Decidable p], h.loop r = g.loop r → (if p then h.reached r else h).loop r = g.loop r := fun h p _ same => by
    split
    · exact (h.loop_reached r).trans same
    · exact same
  unfold Gov.approach
  extract_lets target v below n risen down fallen
  split
  · exact arrive _ _ ((Gov.loop_setVcmd _ r _).trans (g.loop_setDetector r _))
  · split
    · exact arrive _ _ ((Gov.loop_setDetector _ r fun _ => none).trans (g.loop_setVcmd r _))
    · exact g.loop_reached r

/-! ### The compensator's step on a rail that is ON (R183, R189, R317) -/

/-- The state in which the compensator of a rail that is ON computes: vcmd has moved, and the step is counted. -/
def Gov.stepped (g : Gov) (r : Nat) : Gov := (g.approach r (g.act (F.RAIL_SLEW_SLEW_UP r)) (g.act (F.RAIL_SLEW_SLEW_DN r))).countStep

theorem Gov.stepped_loop (g : Gov) (r : Nat) : (g.stepped r).loop r = g.loop r := by
  have counted : ∀ h : Gov, h.countStep.loop r = h.loop r := fun h => by simp [Gov.loop, Gov.rail_of_reg h.countStep_reg, Gov.rstate, Gov.state]
  exact (counted _).trans (g.loop_approach r _ _)

theorem Gov.stepped_rail (g : Gov) (r : Nat) : ∃ d, (g.stepped r).rail r = { g.rail r with detRef := d } := by
  have same : ({ (g.stepped r).rail r with detRef := none } : RailSt) = { g.rail r with detRef := none } := congrArg Prod.fst (g.stepped_loop r)
  exact ⟨_, congrArg (fun x : RailSt => { x with detRef := ((g.stepped r).rail r).detRef }) same⟩

theorem Gov.stepped_rstate (g : Gov) (r : Nat) : (g.stepped r).rstate r = g.rstate r := congrArg (fun x => x.2.1) (g.stepped_loop r)

theorem Gov.stepped_asleep (g : Gov) (r : Nat) : (g.stepped r).asleep = g.asleep := Gov.asleep_of_get (congrArg (fun x => x.2.2) (g.stepped_loop r))

/-- The error that the compensator takes. -/
def Gov.loopError (g : Gov) (r : Nat) : Int := if g.flag (F.SNS_RS_STAT_BROKEN r) then 0 else satSub (g.vcmd r) (s32 (((g.rail r).sense : Int) * 8192))

/-- A state after the compensator has computed on an error: the rail's new record, with its next on-time. -/
def Gov.compensated (g : Gov) (r : Nat) (e : Int) : Gov :=
  g.setRail r fun _ => { (compensate (g.rail r) e).1 with nextOn := g.onTimeFor r (compensate (g.rail r) e).2 (if (compensate (g.rail r) e).1.hold then g.kffFor r true else (compensate (g.rail r) e).1.kff) }

theorem Gov.compRequest_on {g : Gov} {r : Nat} (on : g.rstate r = rOn) (upset : Bool) :
    g.compRequest r upset = if upset then (g.stepped r).raise 274 r else (g.stepped r).compensated r ((g.stepped r).loopError r) := by
  have moved : g.moveVcmd r = g.approach r (g.act (F.RAIL_SLEW_SLEW_UP r)) (g.act (F.RAIL_SLEW_SLEW_DN r)) := if_pos on
  have runs : ¬ (g.rstate r < rRamp ∨ rRampDn < g.rstate r) := by rw [on]; decide
  have stays : (g.stepped r).rstate r ≠ rDisch := by rw [g.stepped_rstate r, on]; decide
  rw [Gov.compRequest, if_neg runs, moved]
  dsimp only
  rw [← Gov.stepped, if_neg stays]
  rfl

/-- R183's sum of products, in the order of the registers. -/
theorem compensate_fst (x : RailSt) (e : Int) : let w := s32 (([e, x.e1, x.e2, x.e3, x.w1, x.w2].zipIdx).foldl (fun a p => (satMac a (x.coef.getD p.2 0) p.1).val) 0)
    (compensate x e).1 = { x with w2 := x.w1, w1 := w, e3 := x.e2, e2 := x.e1, e1 := e, u1 := clampI (satAdd x.u1 w) (x.coef.getD 6 0) (x.coef.getD 7 0) } := rfl

/-! ### The feed-forward's step (R182, R184, R202) -/

/-- The state after a conversion of VIN: its value is published, and the step is counted. -/
def Gov.sensedVin (g : Gov) (code : BitVec 16) : Gov := (g.sset F.REG_VIN_VIN ((code.toNat : Int) * g.sact F.REG_VIN_GAIN_VIN_GAIN + g.sact F.REG_VIN_OFS_VIN_OFS)).countStep

/-- The rail takes the feed-forward's factor, and where it is not held its input voltage. -/
def Gov.fedForward (g : Gov) (r : Nat) : Gov := g.setRail r fun x => { x with kff := g.kffFor r x.hold, ffVin := if x.hold then x.ffVin else g.ffVin }

/-- A rail that is held computes its factor from the input voltage that it keeps. -/
theorem Gov.fedForward_rail (g : Gov) (r : Nat) : let h := g.fedForward r
    h.rail r = { g.rail r with kff := h.kffFor r (g.rail r).hold, ffVin := if (g.rail r).hold then (g.rail r).ffVin else h.ffVin } := by
  have vin : (g.fedForward r).ffVin = g.ffVin := rfl
  have factor : (g.fedForward r).kffFor r (g.rail r).hold = g.kffFor r (g.rail r).hold := by
    unfold Gov.kffFor
    cases held : (g.rail r).hold with
    | false => rfl
    | true =>
      have kept : ((g.fedForward r).rail r).ffVin = (g.rail r).ffVin := by simp [Gov.fedForward, held]
      rw [kept]
      rfl
  dsimp only
  rw [factor, vin]
  exact Gov.rail_setRail _ _ _

theorem Gov.sensedVin_only (g : Gov) (code : BitVec 16) : g.onlyFields (g.sensedVin code) [F.REG_VIN_VIN] :=
  fun f apart => (Gov.countStep_get _ f).trans (Gov.onlyFields_set _ (g.onlyFields_refl _) List.mem_cons_self f apart)

/-- A compensator's request on a rail that is ON, with the state that it leaves. -/
theorem compensatorRequest_on {r : Fin 8} {t : Fin 250} {s : State} (up : s.gov.up = true) (on : (s.gov.reach t).rstate r = rOn) :
    exec (.compensatorRequest r true t) s = .next { s with gov := ((s.gov.reach t).stepped r).raise 274 r } ∧
      exec (.compensatorRequest r false t) s = .next { s with gov := ((s.gov.reach t).stepped r).compensated r (((s.gov.reach t).stepped r).loopError r) } := by
  have next : ∀ upset, exec (.compensatorRequest r upset t) s = .next { s with gov := (s.gov.reach t).compRequest r upset } := fun upset => nextGov (s.gov.ev_up t _ up)
  exact ⟨by rw [next, Gov.compRequest_on on, if_pos rfl], by rw [next, Gov.compRequest_on on, if_neg Bool.false_ne_true]⟩

theorem feedForwardRequest_next {r : Fin 8} {code : BitVec 16} {t : Fin 250} {s : State} (up : s.gov.up = true) :
    exec (.feedForwardRequest r code t) s = .next { s with gov := ((s.gov.reach t).sensedVin code).fedForward r } := nextGov (s.gov.ev_up t _ up)

/-- A bad read holds the values and raises 274. -/
theorem Gov.raised_holds (g : Gov) (r : Nat) (awake : g.asleep = false) : let h := (g.stepped r).raise 274 r
    (h.rail r).nextOn = (g.rail r).nextOn ∧ (h.rail r).u1 = (g.rail r).u1 ∧ (h.rail r).e1 = (g.rail r).e1 ∧ (h.rail r).w1 = (g.rail r).w1 ∧ h.flag (F.FLT_STATUS_bit 274) = true := by
  have slept : (g.stepped r).asleep = false := (g.stepped_asleep r).trans awake
  obtain ⟨d, moved⟩ := g.stepped_rail r
  have rail := (Gov.rail_of_reg (besideFlt_reg ((g.stepped r).raise_besideFlt 274 r false slept)) r).trans moved
  dsimp only
  rw [rail]
  exact ⟨rfl, rfl, rfl, rfl, Gov.raise_flag _ _ _ _ slept (.inl (by decide))⟩

/-- The error as the state after the step shows it. -/
theorem Gov.loopError_after (g : Gov) (r : Nat) : let h := (g.stepped r).compensated r ((g.stepped r).loopError r)
    (g.stepped r).loopError r = if h.flag (F.SNS_RS_STAT_BROKEN r) then 0 else satSub (h.vcmd r) (s32 (((g.rail r).sense : Int) * 8192)) := by
  obtain ⟨d, moved⟩ := g.stepped_rail r
  rw [Gov.loopError, moved]
  rfl

theorem Gov.fedForward_vin (g : Gov) (r : Nat) (code : BitVec 16) : ((g.sensedVin code).fedForward r).sget F.REG_VIN_VIN = ssat 32 ((code.toNat : Int) * g.sact F.REG_VIN_GAIN_VIN_GAIN + g.sact F.REG_VIN_OFS_VIN_OFS) := by
  have counted : ((g.sensedVin code).fedForward r).get F.REG_VIN_VIN = (g.sset F.REG_VIN_VIN _).get F.REG_VIN_VIN := Gov.countStep_get _ _
  rw [Gov.sget, counted]
  exact Gov.sget_sset_self _ _ (by decide) (by decide)

theorem Gov.sensedVin_rail (g : Gov) (r : Nat) (code : BitVec 16) : (g.sensedVin code).rail r = g.rail r := by
  rw [Gov.sensedVin, Gov.rail_of_reg (Gov.countStep_reg _), Gov.sset_eq, Gov.rail_set]

end Sys2Proof.Machine

open Sys2Proof Sys2Proof.Machine

/-- Settles O24: on a rail that is ON vcmd moves and leaves the rest of its record alone (`Gov.stepped_rail`), then the step is `compensate` or the raise of 274; the feed-forward is `Gov.fedForward_rail`. -/
theorem compensatorSteps : Obligations.CompensatorSteps := by
  intro r t s g0 up awake
  refine ⟨fun on => ⟨_, (compensatorRequest_on up on).1, g0.raised_holds r awake⟩, fun on => ⟨_, (compensatorRequest_on up on).2, ?_⟩, fun code => ⟨_, feedForwardRequest_next up, g0.fedForward_vin r code, ?_, g0.sensedVin_only code⟩⟩
  · obtain ⟨d, moved⟩ := g0.stepped_rail r
    dsimp only
    rw [← g0.loopError_after, Gov.compensated, Gov.rail_setRail, compensate_fst, moved]
    exact ⟨rfl, rfl, rfl, rfl, rfl, rfl⟩
  · refine ((g0.sensedVin code).fedForward_rail r).trans ?_
    rw [g0.sensedVin_rail r code]
end

section
namespace Sys2Proof.Machine

/-! ### What an answer leaves of the command chapter and of the words (R353, R370) -/

/-- The command chapter beside the taken requests: load buffers, armed signals and what sessions keep. -/
def Gov.besideReqs (g : Gov) : CmdSt := { g.cmd with reqs := [] }

theorem besideReqs_bufs {g h : Gov} (e : h.besideReqs = g.besideReqs) : h.cmd.bufs = g.cmd.bufs := by have k := congrArg CmdSt.bufs e; exact k
theorem besideReqs_armed {g h : Gov} (e : h.besideReqs = g.besideReqs) : h.cmd.armed = g.cmd.armed := by have k := congrArg CmdSt.armed e; exact k

theorem Gov.takeUp_besideReqs (g : Gov) : g.takeUp.besideReqs = g.besideReqs := by
  unfold Gov.takeUp
  split
  · rfl
  · refine Gov.each_same Gov.besideReqs (fun g k => ?_) _ _
    dsimp only
    split
    · rfl
    · split <;> rfl

theorem Gov.besideReqs_of_cmd {g h : Gov} (e : h.cmd = g.cmd) : h.besideReqs = g.besideReqs := by rw [Gov.besideReqs, e, Gov.besideReqs]

theorem Gov.signalFence_besideReqs (g : Gov) (n : Nat) : (g.signalFence n).besideReqs = g.besideReqs := by
  unfold Gov.signalFence Gov.wakeWaiters
  rw [Gov.takeUp_besideReqs]
  refine (Gov.each_same Gov.besideReqs (fun g p => ?_) _ _).trans (Gov.besideReqs_of_cmd (Gov.mark_cmd _ _))
  split
  · exact Gov.besideReqs_of_cmd (g := g.setPhase p.1 .ready) (Gov.set_cmd _ _ _)
  · rfl

theorem Gov.journal_cmd (g : Gov) (n seq status : Nat) : (g.journal n seq status).cmd = g.cmd := by
  unfold Gov.journal
  split
  · rfl
  · simp

theorem Gov.unasked_besideReqs (g : Gov) (n : Nat) : (g.unasked n).besideReqs = g.besideReqs := by
  have flags : (g.unasked n).cmd = ((g.setReq n none).takeUp).cmd := by simp [Gov.unasked]
  exact (Gov.besideReqs_of_cmd flags).trans (Gov.takeUp_besideReqs _)

theorem Gov.post_besideReqs (g : Gov) (n : Nat) (ws : List Nat) (status : Nat) (params : List Nat) : (g.post n ws status params).besideReqs = g.besideReqs := by
  rw [Gov.post_eq]
  split
  · exact (Gov.besideReqs_of_cmd (Gov.zeroWords_cmd _ _)).trans (g.unasked_besideReqs n)
  · exact (Gov.besideReqs_of_cmd ((Gov.mark_cmd _ _).trans (Gov.writeWords_cmd _ _ _))).trans (g.unasked_besideReqs n)

theorem Gov.answer_besideReqs (g : Gov) (n : Nat) (ws : List Nat) (status : Nat) (params : List Nat) : (g.answer n ws status params).besideReqs = g.besideReqs := by
  have journalled : (g.journal n (pkSeq ws) status).besideReqs = g.besideReqs := Gov.besideReqs_of_cmd (g.journal_cmd _ _ _)
  rw [Gov.answer, Gov.post_besideReqs, Gov.commit]
  split
  · rw [Gov.signalFence_besideReqs, journalled]
  · exact journalled

theorem Gov.answer_loadBuf (g : Gov) (n : Nat) (ws : List Nat) (status : Nat) (params : List Nat) : (g.answer n ws status params).loadBuf n = g.loadBuf n := by
  have bufs : (g.answer n ws status params).cmd.bufs = g.cmd.bufs := besideReqs_bufs (g.answer_besideReqs n ws status params)
  rw [Gov.loadBuf, bufs, Gov.loadBuf]

/-- An answer leaves every word outside the command group and the channel's journal word alone. -/
theorem Gov.answer_word (g : Gov) {n : Nat} (hn : n < 16) (ws : List Nat) (status : Nat) {params : List Nat} (hp : params.length ≤ 61) {o : Nat} (journal : o ≠ W.SUP_JOURNAL n) (out : o < 0x1000 ∨ 0x4000 ≤ o) :
    (g.answer n ws status params).word o = g.word o := by
  have whole : ∀ h : Gov, h.get ⟨o, 0, 32⟩ = (h.word o).toNat := fun h => by
    simp only [Gov.get, field, Nat.pow_zero, Nat.div_one]
    exact Nat.mod_eq_of_lt (h.word o).isLt
  have same := g.answer_get n ws status params (f := ⟨o, 0, 32⟩) hn hp journal out
  rw [whole, whole] at same
  exact BitVec.eq_of_toNat_eq same

/-! ### A deferred answer (R370) -/

/-- The command's commit, its fence armed on an event, and its reply with status DEFERRED. -/
def Gov.defer (g : Gov) (n : Nat) (ws params : List Nat) (e : SigEvent) : Gov := (g.commit n ws stDeferred (some e)).post n ws stDeferred params

theorem Gov.commit_armed (g : Gov) (n : Nat) (ws : List Nat) (status : Nat) (e : SigEvent) :
    ∃ x, g.commit n ws status (some e) = (g.journal n (pkSeq ws) status).withCmd x ∧ (pkFsig ws = true → status / 32 = 0 → (e, pkSigFence ws) ∈ x.armed) := by
  unfold Gov.commit
  dsimp only
  split
  · exact ⟨_, rfl, fun _ _ => by simp⟩
  · next silent => exact ⟨(g.journal n (pkSeq ws) status).cmd, rfl, fun signals good => absurd (by simp [signals, good]) silent⟩

theorem Gov.defer_get (g : Gov) {n : Nat} (hn : n < 16) (ws : List Nat) {params : List Nat} (hp : params.length ≤ 61) (e : SigEvent) {f : Fld} (high : 0x4000 ≤ f.off) : (g.defer n ws params e).get f = g.get f :=
  (Gov.post_get _ _ _ _ _ hn hp (.inr (by omega))).trans (Gov.commit_get _ _ _ _ _ (by simp only [W.SUP_JOURNAL]; omega) (.inr high))

theorem Gov.defer_sns (g : Gov) (n : Nat) (ws params : List Nat) (e : SigEvent) : (g.defer n ws params e).sns = g.sns :=
  besideCmd_sns ((Gov.post_besideCmd _ _ _ _ _).trans (Gov.commit_besideCmd _ _ _ _ _))

/-- A deferred answer that follows a change of some words is the answer of R353 and R370. -/
theorem Gov.defer_deferred {g h : Gov} {n : Nat} (hn : n < 16) (ws : List Nat) {params : List Nat} (hp : params.length ≤ 61) (e : SigEvent) {others : List Nat} (only : g.onlyWords h others) :
    g.deferred (h.defer n ws params e) n ws params others e := by
  obtain ⟨x, committed, armed⟩ := h.commit_armed n ws stDeferred e
  have kept : ∀ f : Fld, f.off = W.SUP_JOURNAL n → (h.defer n ws params e).get f = (h.journal n (pkSeq ws) stDeferred).get f := fun f hf => by
    have low : f.off < 0x1000 := by rw [hf, W.SUP_JOURNAL]; omega
    refine (Gov.post_get _ _ _ _ _ hn hp (.inl low)).trans ?_
    rw [committed, Gov.withCmd_get]
  obtain ⟨number, valid, result⟩ := h.journal_journalled (n := n) (seq := pkSeq ws) (status := stDeferred) (Nat.mod_lt _ (by decide)) (by decide) (by decide)
  refine ⟨⟨Gov.post_replied _ _ _ _ _ hn hp, fun _ => ⟨(kept _ rfl).trans number, ?_, (kept _ rfl).trans result⟩, fun _ o listed out => ?_⟩, fun signals => ?_⟩
  · rw [Gov.flag, kept _ rfl]
    exact valid
  · simp only [List.mem_cons, not_or] at listed
    obtain ⟨stat, word, rest⟩ := listed
    rw [Gov.defer, Gov.post_word_elsewhere _ _ _ _ hp stat out, committed, Gov.withCmd_word, Gov.journal_word _ _ _ _ word]
    exact only o rest
  · have same : (h.defer n ws params e).cmd.armed = ((h.journal n (pkSeq ws) stDeferred).withCmd x).cmd.armed := by
      rw [Gov.defer, committed]
      exact besideReqs_armed (Gov.post_besideReqs _ _ _ _ _)
    rw [same]
    exact armed signals rfl

end Sys2Proof.Machine
end

section
namespace Sys2Proof.Machine

/-! ### REG_WRITE and REG_READ (R365) -/

theorem Gov.regWrite_bad {g : Gov} {n : Nat} {ws : List Nat} {i o st : Nat} (bad : g.firstBad n 0 (writePairs (pkParams ws)) = some (i, o, st)) : g.regWrite n ws = g.answer n ws st [i, o] := by
  rw [Gov.regWrite, bad]

theorem Gov.regWrite_error {g : Gov} {n : Nat} {ws : List Nat} {i o : Nat} (good : g.firstBad n 0 (writePairs (pkParams ws)) = none) (error : g.applyPairs 0 (writePairs (pkParams ws)) = .error (i, o)) :
    g.regWrite n ws = g.answer n ws stParam [i, o] := by
  rw [Gov.regWrite, good]
  dsimp only
  rw [error]

theorem Gov.regWrite_applied {g h : Gov} {n : Nat} {ws : List Nat} (good : g.firstBad n 0 (writePairs (pkParams ws)) = none) (ok : g.applyPairs 0 (writePairs (pkParams ws)) = .ok h) : g.regWrite n ws = h.answer n ws stOk [] := by
  rw [Gov.regWrite, good]
  dsimp only
  rw [ok]

/-- The status of a pair that is refused before it is staged. -/
theorem Gov.pairBad_status {g : Gov} {n off st : Nat} (bad : g.pairBad n off = some st) : st = stParam ∨ st = stState := by
  unfold Gov.pairBad at bad
  extract_lets inside lockedOut supplied at bad
  split at bad
  · exact .inl (Option.some.inj bad).symm
  · split at bad
    · exact .inr (Option.some.inj bad).symm
    · cases bad

theorem Gov.firstBad_status {g : Gov} {n : Nat} {pairs : List (Nat × Nat)} {k i o st : Nat} (bad : g.firstBad n k pairs = some (i, o, st)) : st = stParam ∨ st = stState := by
  induction pairs generalizing k with
  | nil => cases bad
  | cons p rest ih =>
    obtain ⟨off, v⟩ := p
    rw [Gov.firstBad] at bad
    split at bad
    · next first =>
      cases bad
      exact Gov.pairBad_status first
    · exact ih bad

/-- The number of parameters that REG_WRITE takes. -/
def pairCount (c : Nat) : Bool := decide (2 ≤ c) && decide (c ≤ 60) && c % 2 == 0

/-- An answer leaves PS_WAKE_STAT alone. -/
theorem Gov.answer_offWake (g : Gov) {n : Nat} (hn : n < 16) (ws : List Nat) (status : Nat) {params : List Nat} (hp : params.length ≤ 61) : (g.answer n ws status params).flag F.PS_WAKE_STAT_OFF_WAKE = g.flag F.PS_WAKE_STAT_OFF_WAKE :=
  congrArg (fun x => x != 0) (g.answer_get n ws status params hn hp (by simp only [F.PS_WAKE_STAT_OFF_WAKE, W.SUP_JOURNAL]; omega) (.inl (by decide)))

theorem Persist.clearWake_same (k : Persist) {g h : Gov} (same : h.flag F.PS_WAKE_STAT_OFF_WAKE = g.flag F.PS_WAKE_STAT_OFF_WAKE) : k.clearWake g h = k := by
  rw [Persist.clearWake, same]
  simp

section
variable {n : Fin 16} {ws : List Nat} {t : Fin 250} {s : State} (serves : s.gov.serves t n 0x10 ws) (count : paramCount ws pairCount = true)
include serves count

theorem regWrite_next : exec (.regWrite n t) s = .next { s with gov := (s.gov.reach t).regWrite n ws, keep := s.keep.clearWake (s.gov.reach t) ((s.gov.reach t).regWrite n ws) } := by
  have served := Gov.serve_eq (f := fun g ws => g.regWrite n ws) serves count
  have row : exec (.regWrite n t) s = s.onBoth fun g k =>
    ((g.ev t fun g => g.serve n 0x10 pairCount fun g ws => g.regWrite n ws), k.clearWake (g.ev t id) (g.ev t fun g => g.serve n 0x10 pairCount fun g ws => g.regWrite n ws)) := rfl
  rw [row]
  refine nextBoth ?_
  rw [Gov.ev_up _ _ _ serves.1, Gov.ev_up _ _ _ serves.1, served]
  rfl

/-- A REG_WRITE that is refused answers and writes nothing. -/
theorem regWrite_refuses {st i o : Nat} (code : st < 256) (refused : (s.gov.reach t).regWrite n ws = (s.gov.reach t).answer n ws st [i, o]) :
    Completes (.regWrite n t) s fun g => (s.gov.reach t).answered g n ws st [i, o] [] := by
  refine ⟨_, (regWrite_next serves count).trans ?_, Gov.answer_answered n.isLt ws code (by simp) fun _ _ => rfl⟩
  rw [refused, Persist.clearWake_same _ ((s.gov.reach t).answer_offWake n.isLt ws st (by simp))]

theorem regWrite_applies {h : Gov} (applied : (s.gov.reach t).regWrite n ws = h.answer n ws stOk []) : ∃ g k, exec (.regWrite n t) s = .next { s with gov := g, keep := k } ∧ h.answered g n ws stOk [] [] ∧
    k = { s.keep with wakeN := s.keep.wakeN && !((s.gov.reach t).flag F.PS_WAKE_STAT_OFF_WAKE && !h.flag F.PS_WAKE_STAT_OFF_WAKE) } := by
  refine ⟨_, _, (regWrite_next serves count).trans (by rw [applied]), Gov.answer_answered n.isLt ws (by decide) (by simp) fun _ _ => rfl, ?_⟩
  rw [Persist.clearWake, h.answer_offWake n.isLt ws stOk (by simp)]

end

/-- The parameters of a packet are no more than those counted. -/
theorem pkParams_length {ws : List Nat} {ok : Nat → Bool} (count : paramCount ws ok = true) : ∃ c, ok c = true ∧ (pkParams ws).length ≤ c := by
  unfold paramCount at count
  unfold pkParams
  dsimp only
  split at count
  · next both =>
    rw [if_pos both, List.length_take]
    exact ⟨_, (Bool.and_eq_true_iff.1 count).2, Nat.min_le_left _ _ |>.trans (by omega)⟩
  · next one =>
    rw [if_neg one, List.length_take]
    exact ⟨_, count, Nat.min_le_left _ _⟩

/-- An offset whose read has no effect of its own (R9, R328, R391). -/
def quietRead (o : Nat) : Prop := (o < 0x61000 ∨ 0x62000 ≤ o) ∧ (o < 0x70000 ∨ 0x7002C ≤ o) ∧ pairLow o = false ∧ (o < 4 ∨ pairLow (o - 4) = false)

theorem Gov.readWord_quiet (g : Gov) {o : Nat} (quiet : quietRead o) : g.readWord o = (g.view o, g) := by
  obtain ⟨drain, sg1, low, high⟩ := quiet
  exact Gov.readWord_plain low (fun h4 => high.resolve_left (by omega)) (by omega) (by omega)

/-- Reads without effects give the words as they show, in order. -/
theorem Gov.readAll_quiet (g : Gov) (read offs : List Nat) (quiet : ∀ o ∈ offs, quietRead o) :
    offs.foldl (fun (acc : List Nat × Gov) o => (acc.1 ++ [(acc.2.readWord o).1.toNat], (acc.2.readWord o).2)) (read, g) = (read ++ offs.map fun o => (g.view o).toNat, g) := by
  induction offs generalizing read with
  | nil => simp
  | cons o rest ih =>
    rw [List.foldl_cons, g.readWord_quiet (quiet o List.mem_cons_self), ih _ fun p hp => quiet p (List.mem_cons_of_mem _ hp)]
    simp

/-- The governor's part of REG_READ. -/
def Gov.regRead (g : Gov) (n : Nat) (ws : List Nat) : Gov :=
  let offs := pkParams ws
  if offs.any fun o => o % 4 != 0 || decide (2 ^ 20 ≤ o) || (findReg o).isNone then g.answer n ws stParam []
  else
    let r := offs.foldl (fun (acc : List Nat × Gov) o => (acc.1 ++ [(acc.2.readWord o).1.toNat], (acc.2.readWord o).2)) ([], g)
    r.2.answer n ws stOk r.1

/-- An offset that REG_READ refuses. -/
theorem badOffset_iff (offs : List Nat) : (offs.any fun o => o % 4 != 0 || decide (2 ^ 20 ≤ o) || (findReg o).isNone) = true ↔ ∃ o ∈ offs, o % 4 ≠ 0 ∨ 2 ^ 20 ≤ o ∨ findReg o = none := by
  simp [or_assoc]

theorem Gov.regRead_bad {g : Gov} {n : Nat} {ws : List Nat} (bad : ∃ o ∈ pkParams ws, o % 4 ≠ 0 ∨ 2 ^ 20 ≤ o ∨ findReg o = none) : g.regRead n ws = g.answer n ws stParam [] := if_pos ((badOffset_iff _).2 bad)

theorem Gov.regRead_quiet {g : Gov} {n : Nat} {ws : List Nat} (good : ¬ ∃ o ∈ pkParams ws, o % 4 ≠ 0 ∨ 2 ^ 20 ≤ o ∨ findReg o = none) (quiet : ∀ o ∈ pkParams ws, quietRead o) :
    g.regRead n ws = g.answer n ws stOk ((pkParams ws).map fun o => (g.view o).toNat) := by
  rw [Gov.regRead]
  dsimp only
  rw [if_neg fun bad => good ((badOffset_iff _).1 bad), g.readAll_quiet [] _ quiet]
  rfl

end Sys2Proof.Machine
end

section
namespace Sys2Proof.Machine

/-! ### Load buffers (R366) -/

theorem Gov.setBuf'_loadBuf (g : Gov) (n : Nat) (b : Option LoadBuf) : (g.setBuf' n b).loadBuf n = b := by
  have others : (g.cmd.bufs.filter fun p : Nat × LoadBuf => p.1 != n).find? (fun p => p.1 == n) = none :=
    List.find?_eq_none.2 fun p hp => by simpa using (List.mem_filter.1 hp).2
  cases b <;> simp [Gov.loadBuf, Gov.setBuf', Gov.withCmd, others]

theorem Gov.extend_first (g : Gov) (n : Nat) (isLaw : Bool) (index : Nat) (head words : List Nat) : g.extend n isLaw index head 0 words = some ⟨isLaw, index, head, words⟩ := if_pos rfl

/-- A packet that ends with a buffer kept or dropped is answered, and changes no word beside. -/
theorem Gov.setBuf'_answered (g : Gov) {n : Nat} (hn : n < 16) (ws : List Nat) (b : Option LoadBuf) {status : Nat} (code : status < 256) {params : List Nat} (hp : params.length ≤ 61) :
    g.answered ((g.setBuf' n b).answer n ws status params) n ws status params [] ∧ ((g.setBuf' n b).answer n ws status params).loadBuf n = b :=
  ⟨Gov.answer_answered hn ws code hp fun _ _ => rfl, (Gov.answer_loadBuf _ _ _ _ _).trans (g.setBuf'_loadBuf n b)⟩

/-! ### LAW_LOAD and LAW_UNLOAD (R102, R103) -/

theorem Gov.lawLoad_reserved {g : Gov} {n : Nat} {ws : List Nat} (reserved : bits (param ws 0) 6 2 ≠ 0 ∨ bits (param ws 0) 23 9 ≠ 0) : g.lawLoad n ws = (g.setBuf' n none).answer n ws stParam [] := if_pos reserved

section
variable {g : Gov} {n : Nat} {ws : List Nat} (low : bits (param ws 0) 6 2 = 0) (high : bits (param ws 0) 23 9 = 0) (first : bits (param ws 0) 16 7 = 0)
include low high first

/-- A first packet of a law: kept where it is not yet whole, else dropped from the buffer and judged. -/
theorem Gov.lawLoad_first : g.lawLoad n ws =
    if (lawWords ((pkParams ws).drop 2)).length < bits (param ws 0) 8 8 then (g.setBuf' n (some ⟨true, bits (param ws 0) 0 6, [bits (param ws 0) 8 8, param ws 1], (pkParams ws).drop 2⟩)).answer n ws stOk []
    else if (lawWords ((pkParams ws).drop 2)).length ≠ bits (param ws 0) 8 8 then (g.setBuf' n none).answer n ws stParam (if bits (param ws 0) 8 8 = 0 then [3] else [])
    else match (g.setBuf' n none).loadLaw (bits (param ws 0) 0 6) (bits (param ws 0) 8 8) (param ws 1) (lawWords ((pkParams ws).drop 2)) with
      | .inl c => (g.setBuf' n none).answer n ws stParam [c]
      | .inr start => ((g.setBuf' n none).installLaw (bits (param ws 0) 0 6) start (lawWords ((pkParams ws).drop 2))).answer n ws stOk [] := by
  rw [Gov.lawLoad]
  dsimp only
  rw [if_neg (by simp [low, high]), first, Gov.extend_first] <;> rfl

theorem Gov.lawLoad_short (short : (lawWords ((pkParams ws).drop 2)).length < bits (param ws 0) 8 8) :
    g.lawLoad n ws = (g.setBuf' n (some ⟨true, bits (param ws 0) 0 6, [bits (param ws 0) 8 8, param ws 1], (pkParams ws).drop 2⟩)).answer n ws stOk [] :=
  (Gov.lawLoad_first low high first).trans (if_pos short)

theorem Gov.lawLoad_long (long : bits (param ws 0) 8 8 < (lawWords ((pkParams ws).drop 2)).length) : g.lawLoad n ws = (g.setBuf' n none).answer n ws stParam (if bits (param ws 0) 8 8 = 0 then [3] else []) :=
  (Gov.lawLoad_first low high first).trans ((if_neg (Nat.lt_asymm long)).trans (if_pos (Nat.ne_of_gt long)))

theorem Gov.lawLoad_fails (whole : (lawWords ((pkParams ws).drop 2)).length = bits (param ws 0) 8 8) {c : Nat}
    (fails : (g.setBuf' n none).loadLaw (bits (param ws 0) 0 6) (bits (param ws 0) 8 8) (param ws 1) (lawWords ((pkParams ws).drop 2)) = .inl c) : g.lawLoad n ws = (g.setBuf' n none).answer n ws stParam [c] := by
  rw [Gov.lawLoad_first low high first, if_neg (by omega), if_neg (not_not.2 whole), fails]

theorem Gov.lawLoad_installs (whole : (lawWords ((pkParams ws).drop 2)).length = bits (param ws 0) 8 8) {start : Nat}
    (passes : (g.setBuf' n none).loadLaw (bits (param ws 0) 0 6) (bits (param ws 0) 8 8) (param ws 1) (lawWords ((pkParams ws).drop 2)) = .inr start) :
    g.lawLoad n ws = ((g.setBuf' n none).installLaw (bits (param ws 0) 0 6) start (lawWords ((pkParams ws).drop 2))).answer n ws stOk [] := by
  rw [Gov.lawLoad_first low high first, if_neg (by omega), if_neg (not_not.2 whole), passes]

end

/-- A free run lies in the store. -/
theorem freeRun_fits {runs : List (Nat × Nat)} {len start : Nat} (found : freeRun runs len = some start) : start + len ≤ 4096 := by
  have free := List.find?_some found
  simp only [Bool.and_eq_true, decide_eq_true_eq] at free
  exact free.1

/-- A law that passes has 1 to 128 instructions and a run of the store. -/
theorem Gov.loadLaw_passes {g : Gov} {k len crc start : Nat} {code : List (BitVec 64)} (passes : g.loadLaw k len crc code = .inr start) : 1 ≤ len ∧ len ≤ 128 ∧ start + len ≤ 4096 := by
  unfold Gov.loadLaw at passes
  cases found : freeRun (g.storeRuns k) len with
  | none =>
    rw [found] at passes
    split_ifs at passes
  | some run =>
    rw [found] at passes
    split_ifs at passes with index used size
    obtain rfl := Sum.inr.inj passes
    exact ⟨by omega, by omega, freeRun_fits found⟩

theorem Gov.dropLaw_word (g : Gov) (k : Nat) {o : Nat} (h0 : o ≠ W.LAW_W0 k) (h1 : o ≠ W.LAW_W1 k) : (g.dropLaw k).word o = g.word o := by
  rw [Gov.dropLaw, Gov.word_setWord_ne _ _ h1, Gov.word_setWord_ne _ _ h0]
  rfl

theorem Gov.dropLaw_clears (g : Gov) (k : Nat) : (g.dropLaw k).word (W.LAW_W0 k) = 0 ∧ (g.dropLaw k).word (W.LAW_W1 k) = 0 := by
  rw [Gov.dropLaw]
  exact ⟨(Gov.word_setWord_ne _ _ (by simp only [W.LAW_W0, W.LAW_W1]; omega)).trans (Gov.word_setWord_self _ _ _), Gov.word_setWord_self _ _ _⟩

theorem Gov.installLaw_word (g : Gov) (k start : Nat) (code : List (BitVec 64)) {o : Nat} (h0 : o ≠ W.LAW_W0 k) (h1 : o ≠ W.LAW_W1 k) : (g.installLaw k start code).word o = g.word o := by
  rw [Gov.installLaw, Gov.word_setWord_ne _ _ h1, Gov.mark_eq, Gov.word_set_ne _ _ h0, Gov.word_set_ne _ _ h0, Gov.word_set_ne _ _ h0, Gov.word_set_ne _ _ h0]
  exact g.dropLaw_word k h0 h1

/-- The directory entry of an installed law. -/
theorem Gov.installLaw_entry (g : Gov) (k : Nat) {start : Nat} {code : List (BitVec 64)} (size : code.length ≤ 128) (place : start < 4096) :
    (g.installLaw k start code).flag (F.LAW_W0_VALID k) = true ∧ (g.installLaw k start code).get (F.LAW_W0_START k) = start ∧ (g.installLaw k start code).get (F.LAW_W0_LEN k) = code.length := by
  have crc : ∀ (h : Gov) (f : Fld) (w : Word), f.off = W.LAW_W0 k → (h.setWord (W.LAW_W1 k) w).get f = h.get f := fun h f w e => Gov.get_congr (h.word_setWord_ne w (by rw [e]; simp only [W.LAW_W0, W.LAW_W1]; omega))
  have start_len : (F.LAW_W0_START k).apart (F.LAW_W0_LEN k) = true ∧ (F.LAW_W0_START k).apart (F.LAW_W0_STEPS k) = true ∧ (F.LAW_W0_START k).apart (F.LAW_W0_VALID k) = true := by simp [Fld.apart, F.LAW_W0_START, F.LAW_W0_LEN, F.LAW_W0_STEPS, F.LAW_W0_VALID]
  have len_steps : (F.LAW_W0_LEN k).apart (F.LAW_W0_STEPS k) = true ∧ (F.LAW_W0_LEN k).apart (F.LAW_W0_VALID k) = true := by simp [Fld.apart, F.LAW_W0_LEN, F.LAW_W0_STEPS, F.LAW_W0_VALID]
  rw [Gov.installLaw, Gov.mark_eq]
  refine ⟨?_, ?_, ?_⟩
  · rw [Gov.flag, crc _ _ _ rfl, ← Gov.flag, Gov.flag_set_self _ _ (by simp [F.LAW_W0_VALID])]
    rfl
  · rw [crc _ _ _ rfl, Gov.get_set_apart _ _ start_len.2.2, Gov.get_set_apart _ _ start_len.2.1, Gov.get_set_apart _ _ start_len.1, Gov.get_set_self _ _ (by simp [F.LAW_W0_START])]
    exact Nat.mod_eq_of_lt place
  · rw [crc _ _ _ rfl, Gov.get_set_apart _ _ len_steps.2, Gov.get_set_apart _ _ len_steps.1, Gov.get_set_self _ _ (by simp [F.LAW_W0_LEN])]
    exact Nat.mod_eq_of_lt (by simp only [F.LAW_W0_LEN]; omega)

/-- The directory words of a law lie apart from every channel's journal word. -/
theorem lawEntry_place {k : Nat} (hk : k < 64) (n : Nat) (hn : n < 16) : W.LAW_W0 k ≠ W.SUP_JOURNAL n ∧ W.LAW_W0 k < 0x1000 ∧ W.LAW_W1 k ≠ W.SUP_JOURNAL n ∧ W.LAW_W1 k < 0x1000 := by
  simp only [W.LAW_W0, W.LAW_W1, W.SUP_JOURNAL]; omega

/-- A law that is installed is answered OK, and the answer leaves its entry and the store alone. -/
theorem Gov.lawInstalled {g h : Gov} {n : Nat} (hn : n < 16) (ws : List Nat) {k start : Nat} (hk : k < 64) {code : List (BitVec 64)} (size : code.length ≤ 128) (place : start < 4096) (same : ∀ o, h.word o = g.word o) :
    let x := (h.installLaw k start code).answer n ws stOk []
    g.answered x n ws stOk [] [W.LAW_W0 k, W.LAW_W1 k] ∧ x.flag (F.LAW_W0_VALID k) = true ∧ x.get (F.LAW_W0_START k) = start ∧ x.get (F.LAW_W0_LEN k) = code.length ∧ x.eng.prog = (h.installLaw k start code).eng.prog := by
  obtain ⟨apart, low, -⟩ := lawEntry_place hk n hn
  obtain ⟨valid, from_, len⟩ := h.installLaw_entry k size place
  have kept : ∀ f : Fld, f.off = W.LAW_W0 k → ((h.installLaw k start code).answer n ws stOk []).get f = (h.installLaw k start code).get f := fun f e => Gov.answer_get _ _ _ _ _ hn (by simp) (by rw [e]; exact apart) (.inl (by rw [e]; exact low))
  refine ⟨Gov.answer_answered hn ws (by decide) (by simp) fun o out => ?_, ?_, (kept _ rfl).trans from_, (kept _ rfl).trans len, congrArg EngSt.prog (besideCmd_eng (Gov.answer_besideCmd _ _ _ _ _))⟩
  · simp only [List.mem_cons, List.not_mem_nil, or_false, not_or] at out
    exact (h.installLaw_word k start code out.1 out.2).trans (same o)
  · rw [Gov.flag, kept _ rfl]
    exact valid

/-- An unloaded law is answered OK, and its entry is clear. -/
theorem Gov.lawUnloaded (g : Gov) {n : Nat} (hn : n < 16) (ws : List Nat) {k : Nat} (hk : k < 64) : let x := (g.dropLaw k).answer n ws stOk []
    g.answered x n ws stOk [] [W.LAW_W0 k, W.LAW_W1 k] ∧ x.word (W.LAW_W0 k) = 0 ∧ x.word (W.LAW_W1 k) = 0 := by
  obtain ⟨apart0, low0, apart1, low1⟩ := lawEntry_place hk n hn
  obtain ⟨clear0, clear1⟩ := g.dropLaw_clears k
  refine ⟨Gov.answer_answered hn ws (by decide) (by simp) fun o out => ?_, (Gov.answer_word _ hn ws stOk (by simp) apart0 (.inl low0)).trans clear0, (Gov.answer_word _ hn ws stOk (by simp) apart1 (.inl low1)).trans clear1⟩
  simp only [List.mem_cons, List.not_mem_nil, or_false, not_or] at out
  exact g.dropLaw_word k out.1 out.2

/-! ### TABLE_LOAD (R226) -/

section
variable {g : Gov} {n : Nat} {ws : List Nat} (first : bits (param ws 0) 24 6 = 0)
include first

/-- A first packet of a table: kept where it is not yet whole, else dropped from the buffer and judged. -/
theorem Gov.tableLoad_first : g.tableLoad n ws =
    if (tableWords ((pkParams ws).drop 1)).length < bits (param ws 0) 8 6 then
      (g.setBuf' n (some ⟨false, bits (param ws 0) 0 6, [bits (param ws 0) 8 6, b2n (bit (param ws 0) 16), b2n (bit (param ws 0) 17)], (pkParams ws).drop 1⟩)).answer n ws stOk []
    else if (tableWords ((pkParams ws).drop 1)).length ≠ bits (param ws 0) 8 6 ∧ bits (param ws 0) 8 6 ≠ 0 then (g.setBuf' n none).answer n ws stParam []
    else match tableFault (bits (param ws 0) 8 6) (bit (param ws 0) 16) (bit (param ws 0) 17) (tableWords ((pkParams ws).drop 1)) with
      | some c => (((g.setBuf' n none).mark (F.TBL_CTRL_REFUSED (bits (param ws 0) 0 6))).set (F.TBL_CTRL_RSN (bits (param ws 0) 0 6)) c).answer n ws stParam [c]
      | none => ((g.setBuf' n none).storeTable (bits (param ws 0) 0 6) (tableWords ((pkParams ws).drop 1)) (bit (param ws 0) 16) (bit (param ws 0) 17)).defer n ws [tableCrc (tableWords ((pkParams ws).drop 1))] (.tblActive (bits (param ws 0) 0 6)) := by
  rw [Gov.tableLoad]
  dsimp only
  rw [first, Gov.extend_first] <;> rfl

theorem Gov.tableLoad_short (short : (tableWords ((pkParams ws).drop 1)).length < bits (param ws 0) 8 6) : g.tableLoad n ws =
    (g.setBuf' n (some ⟨false, bits (param ws 0) 0 6, [bits (param ws 0) 8 6, b2n (bit (param ws 0) 16), b2n (bit (param ws 0) 17)], (pkParams ws).drop 1⟩)).answer n ws stOk [] :=
  (Gov.tableLoad_first first).trans (if_pos short)

theorem Gov.tableLoad_long (long : bits (param ws 0) 8 6 < (tableWords ((pkParams ws).drop 1)).length) (nonzero : bits (param ws 0) 8 6 ≠ 0) : g.tableLoad n ws = (g.setBuf' n none).answer n ws stParam [] :=
  (Gov.tableLoad_first first).trans ((if_neg (Nat.lt_asymm long)).trans (if_pos ⟨Nat.ne_of_gt long, nonzero⟩))

theorem Gov.tableLoad_fails (whole : (tableWords ((pkParams ws).drop 1)).length = bits (param ws 0) 8 6 ∨ bits (param ws 0) 8 6 = 0) {c : Nat}
    (fails : tableFault (bits (param ws 0) 8 6) (bit (param ws 0) 16) (bit (param ws 0) 17) (tableWords ((pkParams ws).drop 1)) = some c) :
    g.tableLoad n ws = (((g.setBuf' n none).mark (F.TBL_CTRL_REFUSED (bits (param ws 0) 0 6))).set (F.TBL_CTRL_RSN (bits (param ws 0) 0 6)) c).answer n ws stParam [c] := by
  rw [Gov.tableLoad_first first, if_neg (by omega), if_neg (by omega), fails]

theorem Gov.tableLoad_stores (whole : (tableWords ((pkParams ws).drop 1)).length = bits (param ws 0) 8 6 ∨ bits (param ws 0) 8 6 = 0)
    (passes : tableFault (bits (param ws 0) 8 6) (bit (param ws 0) 16) (bit (param ws 0) 17) (tableWords ((pkParams ws).drop 1)) = none) :
    g.tableLoad n ws = ((g.setBuf' n none).storeTable (bits (param ws 0) 0 6) (tableWords ((pkParams ws).drop 1)) (bit (param ws 0) 16) (bit (param ws 0) 17)).defer n ws [tableCrc (tableWords ((pkParams ws).drop 1))] (.tblActive (bits (param ws 0) 0 6)) := by
  rw [Gov.tableLoad_first first, if_neg (by omega), if_neg (by omega), passes]

end

/-- The checks of R226 have the numbers 1 to 5. -/
theorem tableFault_small {nbp : Nat} {inc dec : Bool} {pts : List (Int × Int)} {c : Nat} (fails : tableFault nbp inc dec pts = some c) : c < 8 := by
  unfold tableFault at fails
  split_ifs at fails <;> obtain rfl := Option.some.inj fails <;> decide

/-- A table that passes has 2 to 33 breakpoints. -/
theorem tableFault_passes {nbp : Nat} {inc dec : Bool} {pts : List (Int × Int)} (passes : tableFault nbp inc dec pts = none) : 2 ≤ nbp ∧ nbp ≤ 33 := by
  by_contra out
  rw [tableFault, if_pos (by omega)] at passes
  cases passes

/-- A refused table: the reason stands in TBL_CTRL. -/
theorem Gov.tableRefused {g h : Gov} {n : Nat} (hn : n < 16) (ws : List Nat) (k : Nat) {c : Nat} (small : c < 8) (same : ∀ o, h.word o = g.word o) :
    let x := ((h.mark (F.TBL_CTRL_REFUSED k)).set (F.TBL_CTRL_RSN k) c).answer n ws stParam [c]
    g.answered x n ws stParam [c] [W.TBL_CTRL k] ∧ x.flag (F.TBL_CTRL_REFUSED k) = true ∧ x.get (F.TBL_CTRL_RSN k) = c := by
  have kept : ∀ {h : Gov} (f : Fld), f.off = W.TBL_CTRL k → (h.answer n ws stParam [c]).get f = h.get f := fun f e =>
    Gov.answer_get _ _ _ _ _ hn (by simp) (by rw [e]; simp only [W.TBL_CTRL, W.SUP_JOURNAL]; omega) (.inr (by rw [e]; simp only [W.TBL_CTRL]; omega))
  refine ⟨Gov.answer_answered hn ws (by decide) (by simp) fun o out => ?_, ?_, ?_⟩
  · have other := List.ne_of_not_mem_cons out
    rw [Gov.word_set_ne _ _ other, Gov.mark_eq, Gov.word_set_ne _ _ other, same]
  · rw [Gov.flag, kept _ rfl, ← Gov.flag, Gov.flag_set_apart _ _ (by simp [Fld.apart, F.TBL_CTRL_REFUSED, F.TBL_CTRL_RSN]), Gov.mark_eq, Gov.flag_set_self _ _ (by simp [F.TBL_CTRL_REFUSED])]
    rfl
  · rw [kept _ rfl, Gov.get_set_self _ _ (by simp [F.TBL_CTRL_RSN])]
    exact Nat.mod_eq_of_lt small

/-- The words of a table's shadow: its header and its breakpoints. -/
def shadowWords (k count : Nat) : List Nat := W.TBL_HDR k :: (List.range (2 * count)).map fun j => W.TBL_X k 0 + 4 * j

theorem points_length (pts : List (Int × Int)) : (pts.flatMap fun p => [ofSigned 32 p.1, ofSigned 32 p.2]).length = 2 * pts.length := by
  simp [List.length_flatMap, Nat.mul_comm]

/-- A list of words changes no other word. -/
theorem Gov.writeWords_word_apart (g : Gov) (off : Nat) (ws : List Nat) {o : Nat} (apart : ∀ i < ws.length, o ≠ off + 4 * i) : (g.writeWords off ws).word o = g.word o :=
  Gov.each_same_mem (fun h => h.word o) _ (fun _ i hi => Gov.word_setWord_ne _ _ (apart i (List.mem_range.1 hi))) g

theorem Gov.storeTable_word (g : Gov) (k : Nat) (pts : List (Int × Int)) (inc dec : Bool) {o : Nat} (out : o ∉ shadowWords k pts.length) : (g.storeTable k pts inc dec).word o = g.word o := by
  simp only [shadowWords, List.mem_cons, List.mem_map, List.mem_range, not_or, not_exists, not_and] at out
  obtain ⟨header, points⟩ := out
  rw [Gov.storeTable, Gov.queueTable, Gov.withSns_word, Gov.writeWords_word_apart, Gov.word_set_ne _ _ header, Gov.word_set_ne _ _ header, Gov.word_set_ne _ _ header]
  intro i hi
  exact Ne.symm (points i (by rwa [points_length] at hi))

theorem Gov.storeTable_count (g : Gov) (k : Nat) {pts : List (Int × Int)} (inc dec : Bool) (small : pts.length < 64) : (g.storeTable k pts inc dec).get (F.TBL_HDR_NBP k) = pts.length := by
  have apart : (F.TBL_HDR_NBP k).apart (F.TBL_HDR_INC k) = true ∧ (F.TBL_HDR_NBP k).apart (F.TBL_HDR_DEC k) = true := by simp [Fld.apart, F.TBL_HDR_NBP, F.TBL_HDR_INC, F.TBL_HDR_DEC]
  rw [Gov.storeTable, Gov.queueTable, Gov.withSns_get, Gov.writeWords_get _ _ _ (.inl (by simp only [F.TBL_HDR_NBP, W.TBL_X]; omega)), Gov.get_set_apart _ _ apart.2, Gov.get_set_apart _ _ apart.1, Gov.get_set_self _ _ (by simp [F.TBL_HDR_NBP])]
  exact Nat.mod_eq_of_lt small

theorem Gov.storeTable_queued (g : Gov) (k : Nat) (pts : List (Int × Int)) (inc dec : Bool) : (k, (⟨pts, inc, dec⟩ : TableLoad)) ∈ (g.storeTable k pts inc dec).sns.load := by
  rw [Gov.storeTable, Gov.queueTable, Gov.withSns_sns]
  simp

/-- A table that is stored is answered with its CRC, for its later activation. -/
theorem Gov.tableStored {g h : Gov} {n : Nat} (hn : n < 16) (ws : List Nat) (k : Nat) {pts : List (Int × Int)} (inc dec : Bool) (small : pts.length < 64) (same : ∀ o, h.word o = g.word o) :
    let x := (h.storeTable k pts inc dec).defer n ws [tableCrc pts] (.tblActive k)
    g.deferred x n ws [tableCrc pts] (shadowWords k pts.length) (.tblActive k) ∧ x.get (F.TBL_HDR_NBP k) = pts.length ∧ (k, ⟨pts, inc, dec⟩) ∈ x.sns.load := by
  refine ⟨Gov.defer_deferred hn ws (by simp) _ fun o out => (h.storeTable_word k pts inc dec out).trans (same o), ?_, ?_⟩
  · exact (Gov.defer_get _ hn ws (by simp) _ (by simp only [F.TBL_HDR_NBP]; omega)).trans (h.storeTable_count k inc dec small)
  · rw [Gov.defer_sns]
    exact h.storeTable_queued k pts inc dec

/-! ### TRIM_STEP (R229) -/

/-- The governor's part of TRIM_STEP. -/
def Gov.trimCommand (g : Gov) (n : Nat) (ws : List Nat) : Gov :=
  let r := bits (param ws 0) 0 3
  let step := bits (param ws 0) 8 2
  if step = 0 then g.answer n ws stParam []
  else
    let v := g.requestTrim r step
    if v.ok && (step == 3 || !g.flag F.LIM_STEADY_STAT_ACTIVE) then v.gov.answer n ws stOk [] else v.gov.answer n ws stState []

section
variable {g : Gov} {n : Nat} {ws : List Nat} {r step : Nat} (rail : bits (param ws 0) 0 3 = r) (code : bits (param ws 0) 8 2 = step)
include rail code

/-- A request that is taken at once is answered OK. -/
theorem Gov.trimCommand_taken (nonzero : step ≠ 0) {h : Gov} (verdict : g.requestTrim r step = accept h) (now : step = 3 ∨ g.flag F.LIM_STEADY_STAT_ACTIVE = false) : g.trimCommand n ws = h.answer n ws stOk [] := by
  rw [Gov.trimCommand]
  dsimp only
  rw [rail, code, if_neg nonzero, verdict]
  exact if_pos (by simpa [accept] using now)

/-- A request that is held or refused is answered STATE. -/
theorem Gov.trimCommand_state (nonzero : step ≠ 0) {v : Verdict} (verdict : g.requestTrim r step = v) (refused : v.ok = false ∨ (step ≠ 3 ∧ g.flag F.LIM_STEADY_STAT_ACTIVE = true)) : g.trimCommand n ws = v.gov.answer n ws stState [] := by
  rw [Gov.trimCommand]
  dsimp only
  rw [rail, code, if_neg nonzero, verdict]
  exact if_neg (by rcases refused with no | ⟨other, steady⟩ <;> simp [*])

end

/-- The state in which a step of the margin trim is held for the end of steady mode. -/
def Gov.heldTrim (g : Gov) (r step : Nat) : Gov := (g.withSns { g.sns with heldStep := Tab.put (fun _ => 0) g.sns.heldStep r step }).mark (F.MT_REQ_HELD r)

/-- The state after a step of the margin trim is taken. -/
def Gov.steppedTrim (g : Gov) (r step : Nat) : Gov := (g.withSns { g.sns with guard := g.sns.guard ++ [(r, (g.trimGuard r step).toNat, 0)] }).noteStep r

/-- The verdicts on a request: a restart is taken in any mode; a step is held in steady mode, taken where it is acceptable, and else refused. -/
theorem Gov.requestTrim_verdict (g : Gov) (r : Nat) : g.requestTrim r 3 = accept (g.restartWindow r) ∧ ∀ step, step = 1 ∨ step = 2 →
    (g.flag F.LIM_STEADY_STAT_ACTIVE = true → g.requestTrim r step = accept (g.heldTrim r step)) ∧
    (g.flag F.LIM_STEADY_STAT_ACTIVE = false → g.trimOk r step = true → g.requestTrim r step = accept (g.steppedTrim r step)) ∧
    (g.flag F.LIM_STEADY_STAT_ACTIVE = false → g.trimOk r step = false → g.requestTrim r step = refuse (g.mark (F.MT_REQ_REFUSED r))) := by
  refine ⟨rfl, fun step one => ⟨fun steady => ?_, fun free ok => ?_, fun free no => ?_⟩⟩
  · rw [Gov.requestTrim, if_neg (by omega), if_neg (by omega), if_pos steady]; rfl
  · rw [Gov.requestTrim, if_neg (by omega), if_neg (by omega), if_neg (by simp [free]), if_pos ok]; rfl
  · rw [Gov.requestTrim, if_neg (by omega), if_neg (by omega), if_neg (by simp [free]), if_neg (by simp [no])]

/-- A flag of MT_REQ set, and the request answered. -/
theorem Gov.trimFlagged {g h : Gov} {n : Nat} (hn : n < 16) (ws : List Nat) {r : Nat} {f : Fld} (place : f.off = W.MT_REQ r) (inside : f.lo + f.w ≤ 32) (one : f.w = 1) (same : ∀ o, h.word o = g.word o) :
    let x := (h.mark f).answer n ws stState []
    g.answered x n ws stState [] [W.MT_REQ r] ∧ x.flag f = true ∧ x.sns = h.sns := by
  have journal : f.off ≠ W.SUP_JOURNAL n := by rw [place]; simp only [W.MT_REQ, W.SUP_JOURNAL]; omega
  have out : 0x4000 ≤ f.off := by rw [place]; simp only [W.MT_REQ]; omega
  refine ⟨Gov.answer_answered hn ws (by decide) (by simp) fun o other => ?_, ?_, (besideCmd_sns (Gov.answer_besideCmd _ _ _ _ _)).trans (Gov.mark_sns _ _)⟩
  · rw [Gov.mark_eq, Gov.word_set_ne _ _ (by rw [place]; exact List.ne_of_not_mem_cons other), same]
  · rw [Gov.flag, Gov.answer_get _ _ _ _ _ hn (by simp) journal (.inr out), ← Gov.flag, Gov.mark_eq, Gov.flag_set_self _ _ inside, one]
    rfl

theorem Gov.set_withSns (g : Gov) (x : SnsSt) (f : Fld) (v : Nat) : (g.withSns x).set f v = (g.set f v).withSns x := rfl
theorem Gov.set64_withSns (g : Gov) (x : SnsSt) (off v : Nat) : (g.withSns x).set64 off v = (g.set64 off v).withSns x := rfl

theorem Gov.restartWindow_withSns (g : Gov) (x : SnsSt) (r : Nat) : (g.withSns x).restartWindow r = (g.restartWindow r).withSns x := by
  rw [Gov.restartWindow, Gov.set64_withSns, Gov.set_withSns, Gov.set_withSns, Gov.withSns_now, Gov.restartWindow]

/-- A step that is taken begins a new window, and its guard waits for its sample. -/
theorem Gov.trimTaken (g : Gov) {n : Nat} (hn : n < 16) (ws : List Nat) (r step : Nat) : let x := (g.steppedTrim r step).answer n ws stOk []
    (g.restartWindow r).answered x n ws stOk [] [] ∧ (r, (g.trimGuard r step).toNat, 0) ∈ x.sns.guard := by
  rw [Gov.steppedTrim, Gov.noteStep, Gov.restartWindow_withSns, Gov.restartWindow_withSns]
  refine ⟨Gov.answer_answered hn ws (by decide) (by simp) fun o _ => ?_, ?_⟩
  · rw [Gov.withSns_word, Gov.withSns_word]
  · rw [besideCmd_sns (Gov.answer_besideCmd _ _ _ _ _), Gov.withSns_sns, Gov.withSns_sns]
    simp

/-! ### RAIL_TARGET (R187, R189) -/

/-- The governor's part of RAIL_TARGET. -/
def Gov.railTarget (g : Gov) (n : Nat) (ws : List Nat) : Gov :=
  let r := bits (param ws 0) 0 3
  if g.boardMode || g.flag F.LIM_STEADY_STAT_ACTIVE || !g.railOn r then g.answer n ws stState []
  else
    let v := g.writeReg (W.RAIL_SEL r) (insertField (insertField (g.word (W.RAIL_SEL r)) 8 4 (bits (param ws 0) 8 4)) 12 1 (bits (param ws 0) 16 1))
    if v.ok then v.gov.defer n ws [] (.railReached r) else g.answer n ws stState []

theorem fieldsAt_railSel {r : Nat} (hr : r < 8) : fieldsAt (W.RAIL_SEL r) = [⟨"ENTRY_MAX", 0, 4, .rw, 0xF, false⟩, ⟨"OL_ENTRY", 4, 4, .rw, 0x0, false⟩, ⟨"FORCE_ENTRY", 8, 4, .rw, 0x0, false⟩, ⟨"FORCE_EN", 12, 1, .rw, 0x0, false⟩] := by
  have all : ∀ r : Fin 8, fieldsAt (W.RAIL_SEL r) = [⟨"ENTRY_MAX", 0, 4, .rw, 0xF, false⟩, ⟨"OL_ENTRY", 4, 4, .rw, 0x0, false⟩, ⟨"FORCE_ENTRY", 8, 4, .rw, 0x0, false⟩, ⟨"FORCE_EN", 12, 1, .rw, 0x0, false⟩] := by decide +kernel
  exact all ⟨r, hr⟩

theorem Gov.writeReg_railSel (g : Gov) {r : Nat} (hr : r < 8) (w : Word) :
    g.writeReg (W.RAIL_SEL r) w = if bit w.toNat 12 && g.flag F.LIM_STEADY_STAT_ACTIVE then g.refuseRail r else accept (g.shadow (W.RAIL_SEL r) w) := by
  have mapped : writable (W.RAIL_SEL r) = true := by rw [writable, fieldsAt_railSel hr]; rfl
  have at_ : W.RAIL_SEL r = 0x2410C + 0x100 * r := rfl
  have rail : (W.RAIL_SEL r - 0x24100) / 0x100 = r := by omega
  have group : g.writeReg (W.RAIL_SEL r) w = g.writeRegulator (W.RAIL_SEL r) w := by
    rw [Gov.writeReg, if_neg (by simp [mapped])]
    repeat rw [if_neg (by omega)]
    exact if_pos (by omega)
  have block : g.writeRegulator (W.RAIL_SEL r) w = g.writeRail r (W.RAIL_SEL r) w := by
    rw [Gov.writeRegulator, if_neg (by simp only [W.REG_TB]; omega), if_neg (by simp only [W.REG_TB_STAT]; omega), if_neg (by simp only [W.REG_CTRL]; omega), if_neg (by omega), if_pos (by omega), rail]
  rw [group, block, Gov.writeRail, if_neg (by simp only [W.RAIL_CTRL]; omega), if_neg (by simp only [W.RAIL_FLAGS]; omega), if_pos rfl]

/-- The word of RAIL_TARGET is stored: its forced entry and its enable are the command's. -/
theorem Gov.railSel_stored {g : Gov} {r : Nat} (hr : r < 8) {old : Word} {entry en : Nat} (he : entry < 16) (hn : en < 2)
    (ok : (g.writeReg (W.RAIL_SEL r) (insertField (insertField old 8 4 entry) 12 1 en)).ok = true) :
    (g.writeReg (W.RAIL_SEL r) (insertField (insertField old 8 4 entry) 12 1 en)).gov.get (F.RAIL_SEL_FORCE_ENTRY r) = entry ∧
      (g.writeReg (W.RAIL_SEL r) (insertField (insertField old 8 4 entry) 12 1 en)).gov.get (F.RAIL_SEL_FORCE_EN r) = en := by
  rw [g.writeReg_railSel hr] at ok ⊢
  split at ok
  · cases ok
  · next free =>
    rw [if_neg free]
    have written := fun f hf => (g.hold (W.RAIL_SEL r)).get_plain (insertField (insertField old 8 4 entry) 12 1 en) (off := W.RAIL_SEL r) (f := f) (by rw [fieldsAt_railSel hr]; exact hf)
    refine ⟨(written ⟨"FORCE_ENTRY", 8, 4, .rw, 0x0, false⟩ (by simp)).trans ?_, (written ⟨"FORCE_EN", 12, 1, .rw, 0x0, false⟩ (by simp)).trans ?_⟩
    · show field _ 8 4 = entry
      rw [field_insertField_apart (by decide), field_insertField_same (by decide)]
      exact Nat.mod_eq_of_lt he
    · show field _ 12 1 = en
      rw [field_insertField_same (by decide)]
      exact Nat.mod_eq_of_lt hn

/-- A served command that comes to a state completes with what holds of it. -/
theorem served_completes {c : Instr} {n : Fin 16} {op : Nat} {ok : Nat → Bool} {t : Fin 250} {s : State} {ws : List Nat} {f : Gov → List Nat → Gov} {h : Gov} {P : Gov → Prop}
    (row : exec c s = command n op ok t s f) (serves : s.gov.serves t n op ws) (count : paramCount ws ok = true) (comes : f (s.gov.reach t) ws = h) (holds : P h) : Completes c s P :=
  ⟨h, row.trans ((command_eq serves count).trans (nextGov comes)), holds⟩

theorem Gov.railTarget_state {g : Gov} {n : Nat} {ws : List Nat} (no : (g.boardMode = true ∨ g.flag F.LIM_STEADY_STAT_ACTIVE = true ∨ g.railOn (bits (param ws 0) 0 3) = false) ∨
    (g.writeReg (W.RAIL_SEL (bits (param ws 0) 0 3)) (insertField (insertField (g.word (W.RAIL_SEL (bits (param ws 0) 0 3))) 8 4 (bits (param ws 0) 8 4)) 12 1 (bits (param ws 0) 16 1))).ok = false) :
    g.railTarget n ws = g.answer n ws stState [] := by
  rw [Gov.railTarget]
  dsimp only
  split
  · rfl
  · next free =>
    rcases no with shut | refused
    · exact absurd (by simpa [or_assoc] using shut) free
    · rw [if_neg (by simp [refused])]

theorem Gov.railTarget_deferred {g : Gov} {n : Nat} {ws : List Nat} (free : ¬ (g.boardMode = true ∨ g.flag F.LIM_STEADY_STAT_ACTIVE = true ∨ g.railOn (bits (param ws 0) 0 3) = false))
    (ok : (g.writeReg (W.RAIL_SEL (bits (param ws 0) 0 3)) (insertField (insertField (g.word (W.RAIL_SEL (bits (param ws 0) 0 3))) 8 4 (bits (param ws 0) 8 4)) 12 1 (bits (param ws 0) 16 1))).ok = true) :
    g.railTarget n ws = (g.writeReg (W.RAIL_SEL (bits (param ws 0) 0 3)) (insertField (insertField (g.word (W.RAIL_SEL (bits (param ws 0) 0 3))) 8 4 (bits (param ws 0) 8 4)) 12 1 (bits (param ws 0) 16 1))).gov.defer n ws []
      (.railReached (bits (param ws 0) 0 3)) := by
  rw [Gov.railTarget]
  dsimp only
  rw [if_neg (by simpa [or_assoc] using free), if_pos ok]

end Sys2Proof.Machine

open Sys2Proof Sys2Proof.Machine

/-- Settles O51: each clause is one branch of its command's governor part, and the answer of R353 leaves what the branch wrote as it is. -/
theorem controlCommands : Obligations.ControlCommands := by
  intro n ws t s g0 now p0
  have hn := n.isLt
  have small : ∀ lo w : Nat, bits p0 lo w < 2 ^ w := fun lo w => Nat.mod_lt _ (by positivity)
  refine ⟨fun serves count => ?_, fun serves count => ?_, fun serves count => ?_, fun serves count => ?_, fun serves count first => ?_, fun serves count => ?_, fun serves count => ?_⟩
  · intro pairs
    refine ⟨fun i o st bad => ?_, fun good => ⟨fun i o error => ?_, fun g1 ok => ?_⟩⟩
    · have code : st < 256 := by rcases Gov.firstBad_status bad with rfl | rfl <;> decide
      exact regWrite_refuses serves count code (Gov.regWrite_bad bad)
    · exact regWrite_refuses serves count (by decide) (Gov.regWrite_error good error)
    · exact regWrite_applies serves count (Gov.regWrite_applied good ok)
  · intro offs bad
    refine ⟨fun is => ?_, fun good quiet => ?_⟩
    · exact served_completes (f := fun g ws => g.regRead n ws) rfl serves count (Gov.regRead_bad is) (Gov.answer_answered hn ws (by decide) (by simp) fun _ _ => rfl)
    · obtain ⟨c, most, length⟩ := pkParams_length count
      simp only [Bool.and_eq_true, decide_eq_true_eq] at most
      have fits : ((pkParams ws).map fun o => (now.view o).toNat).length ≤ 61 := by rw [List.length_map]; omega
      exact served_completes (f := fun g ws => g.regRead n ws) rfl serves count (Gov.regRead_quiet good quiet) (Gov.answer_answered hn ws (by decide) fits fun _ _ => rfl)
  · intro k len words clear
    refine ⟨fun reserved => ?_, fun low high first => ⟨fun short => ?_, fun long => ?_, fun whole => ⟨fun c fails => ?_, fun start passes => ?_⟩⟩⟩
    · exact served_completes (f := fun g ws => g.lawLoad n ws) rfl serves count (Gov.lawLoad_reserved reserved) (g0.setBuf'_answered hn ws none (by decide) (by simp))
    · exact served_completes (f := fun g ws => g.lawLoad n ws) rfl serves count (Gov.lawLoad_short low high first short) (g0.setBuf'_answered hn ws _ (by decide) (by simp))
    · exact served_completes (f := fun g ws => g.lawLoad n ws) rfl serves count (Gov.lawLoad_long low high first long) (g0.setBuf'_answered hn ws none (by decide) (by split <;> simp))
    · exact served_completes (f := fun g ws => g.lawLoad n ws) rfl serves count (Gov.lawLoad_fails low high first whole fails) (g0.setBuf'_answered hn ws none (by decide) (by simp)).1
    · obtain ⟨least, most, run⟩ := Gov.loadLaw_passes passes
      obtain ⟨answered, valid, from_, length, prog⟩ := Gov.lawInstalled (g := g0) (h := clear) hn ws (small 0 6) (start := start) (code := lawWords words) (by omega) (by omega) fun _ => rfl
      exact served_completes (f := fun g ws => g.lawLoad n ws) rfl serves count (Gov.lawLoad_installs low high first whole passes) ⟨answered, valid, from_, length.trans whole, prog⟩
  · intro k
    refine ⟨fun used => ?_, fun own free => ?_⟩
    · exact served_completes rfl serves count (if_pos used) (Gov.answer_answered hn ws (by decide) (by simp) fun _ _ => rfl)
    · exact served_completes rfl serves count (if_neg fun used => used.elim (Nat.not_lt.2 own) fun busy => busy free) (g0.lawUnloaded hn ws (small 0 6))
  · intro k nbp words pts shadow
    refine ⟨fun short => ?_, fun long nonzero => ?_, fun whole => ⟨fun c fails => ?_, fun passes => ?_⟩⟩
    · exact served_completes (f := fun g ws => g.tableLoad n ws) rfl serves count (Gov.tableLoad_short first short) (g0.setBuf'_answered hn ws _ (by decide) (by simp))
    · exact served_completes (f := fun g ws => g.tableLoad n ws) rfl serves count (Gov.tableLoad_long first long nonzero) (g0.setBuf'_answered hn ws none (by decide) (by simp))
    · exact served_completes (f := fun g ws => g.tableLoad n ws) rfl serves count (Gov.tableLoad_fails first whole fails) (Gov.tableRefused hn ws k (tableFault_small fails) fun _ => rfl)
    · obtain ⟨least, most⟩ := tableFault_passes passes
      have length : pts.length = nbp := by omega
      obtain ⟨answered, number, queued⟩ := Gov.tableStored (g := g0) (h := g0.setBuf' n none) hn ws k (pts := pts) (bit p0 16) (bit p0 17) (by omega) fun _ => rfl
      exact served_completes (f := fun g ws => g.tableLoad n ws) rfl serves count (Gov.tableLoad_stores first whole passes) ⟨answered, number.trans length, queued⟩
  · intro r step
    refine ⟨fun zero => ?_, fun three => ?_, fun one => ?_⟩
    · exact served_completes (f := fun g ws => g.trimCommand n ws) rfl serves count (if_pos zero) (Gov.answer_answered hn ws (by decide) (by simp) fun _ _ => rfl)
    · exact served_completes (f := fun g ws => g.trimCommand n ws) rfl serves count (Gov.trimCommand_taken rfl three (by decide) (g0.requestTrim_verdict r).1 (.inl rfl)) (Gov.answer_answered hn ws (by decide) (by simp) fun _ _ => rfl)
    · obtain ⟨held, taken, refused⟩ := (g0.requestTrim_verdict r).2 step one
      have nonzero : step ≠ 0 := by rcases one with e | e <;> rw [e] <;> decide
      have other : step ≠ 3 := by rcases one with e | e <;> rw [e] <;> decide
      refine ⟨fun steady => ?_, fun free no => ?_, fun free ok => ?_⟩
      · obtain ⟨answered, flag, sns⟩ := Gov.trimFlagged (g := g0) (h := g0.withSns { g0.sns with heldStep := Tab.put (fun _ => 0) g0.sns.heldStep r step }) hn ws (f := F.MT_REQ_HELD r) rfl (by simp [F.MT_REQ_HELD]) rfl fun _ => rfl
        refine served_completes (f := fun g ws => g.trimCommand n ws) rfl serves count (Gov.trimCommand_state rfl rfl nonzero (held steady) (.inr ⟨other, steady⟩)) ⟨answered, flag, ?_⟩
        exact (congrArg (fun x => Tab.get (fun _ => 0) x.heldStep r) sns).trans (Tab.get_put_self _ _ _ _)
      · obtain ⟨answered, flag, -⟩ := Gov.trimFlagged (g := g0) (h := g0) hn ws (f := F.MT_REQ_REFUSED r) rfl (by simp [F.MT_REQ_REFUSED]) rfl fun _ => rfl
        exact served_completes (f := fun g ws => g.trimCommand n ws) rfl serves count (Gov.trimCommand_state rfl rfl nonzero (refused free no) (.inl rfl)) ⟨answered, flag⟩
      · exact served_completes (f := fun g ws => g.trimCommand n ws) rfl serves count (Gov.trimCommand_taken rfl rfl nonzero (taken free ok) (.inr free)) (g0.trimTaken hn ws r step)
  · intro r no v
    refine ⟨fun shut => ?_, fun allowed ok => ?_⟩
    · exact served_completes (f := fun g ws => g.railTarget n ws) rfl serves count (Gov.railTarget_state shut) (Gov.answer_answered hn ws (by decide) (by simp) fun _ _ => rfl)
    · obtain ⟨entry, en⟩ := Gov.railSel_stored (small 0 3) (small 8 4) (small 16 1) ok
      have kept : ∀ f : Fld, 0x4000 ≤ f.off → (v.gov.defer n ws [] (.railReached r)).get f = v.gov.get f := fun f high => Gov.defer_get _ hn ws (by simp) _ high
      exact served_completes (f := fun g ws => g.railTarget n ws) rfl serves count (Gov.railTarget_deferred allowed ok)
        ⟨Gov.defer_deferred hn ws (by simp) _ fun _ _ => rfl, (kept _ (by simp only [F.RAIL_SEL_FORCE_ENTRY]; omega)).trans entry, (kept _ (by simp only [F.RAIL_SEL_FORCE_EN]; omega)).trans en⟩
end
section
namespace Sys2Proof.Machine

/-! ### The fast limits' words (R119, R193 to R195) -/

/-- A bollard action writes no word from 0x20000 up to the fault words. -/
theorem bollardFields_apart {f : Fld} (low : 0x20000 ≤ f.off) (high : f.off < 0x50000) : (F.HLIM_ACT_CNT_COUNT :: logFields ++ raiseFields 278).all f.apart = true := by
  have count : f.apart F.HLIM_ACT_CNT_COUNT = true := by simp [Fld.apart, F.HLIM_ACT_CNT_COUNT]; omega
  have log : logFields.all f.apart = true := by simp [logFields, Fld.apart, F.FLT_LOG_HEAD_HEAD, F.FLT_LOG_OVF_COUNT]; omega
  rw [List.cons_append, List.all_cons, List.all_append, count, log, raiseFields_low 278 high]
  rfl

theorem Gov.bollard_ph (g : Gov) (kind idx p : Nat) (awake : g.asleep = false) : (g.bollard kind idx).ph p = g.ph p :=
  Gov.ph_of_reg (besideFlt_reg (g.bollard_besideFlt kind idx awake)) p

/-! ### The phase over-current (R193) -/

/-- The state in which a phase is held low to its next period, its run one longer. -/
def Gov.limited (g : Gov) (p : Nat) : Gov := (g.setPh p fun x => { x with ocNow := true, ocRun := x.ocRun + 1, pulse := false }).mark (F.PH_STAT_OC_NOW p)

theorem Gov.limited_ph (g : Gov) (p : Nat) : (g.limited p).ph p = { g.ph p with ocNow := true, ocRun := (g.ph p).ocRun + 1, pulse := false } :=
  (Gov.ph_set _ _ _ _).trans (g.ph_setPh p _)

theorem Gov.limited_only (g : Gov) (p : Nat) : g.onlyFields (g.limited p) [F.PH_STAT_OC_NOW p] :=
  Gov.onlyFields_set _ (Gov.onlyFields_regs (g.onlyFields_refl _) rfl rfl) List.mem_cons_self

theorem Gov.limited_flag (g : Gov) (p : Nat) : (g.limited p).flag (F.PH_STAT_OC_NOW p) = true := Gov.flag_set_self _ _ (by simp [F.PH_STAT_OC_NOW])

/-- The start of a run counts the episode and is a bollard action. -/
def Gov.overcurrent (g : Gov) (p : Nat) : Gov := ((g.limited p).inc (F.PH_CNT_OC_COUNT p)).bollard 0 p

theorem Gov.overcurrent_awake {g : Gov} (p : Nat) (awake : g.asleep = false) : ((g.limited p).inc (F.PH_CNT_OC_COUNT p)).asleep = false := by
  rw [← awake]
  refine Gov.asleep_of_get ((Gov.get_set_apart _ _ ?_).trans (g.limited_only p _ ?_))
  · simp [Fld.apart, F.PS_STAT_STATE, F.PH_CNT_OC_COUNT]; omega
  · simp [Fld.apart, F.PS_STAT_STATE, F.PH_STAT_OC_NOW]; omega

theorem Gov.overcurrent_ph {g : Gov} (p : Nat) (awake : g.asleep = false) : (g.overcurrent p).ph p = { g.ph p with ocNow := true, ocRun := (g.ph p).ocRun + 1, pulse := false } :=
  (Gov.bollard_ph _ _ _ _ (Gov.overcurrent_awake p awake)).trans ((Gov.ph_set _ _ _ _).trans (g.limited_ph p))

/-- The words of an episode: the phase's OC_NOW and count, the count of bollard actions, and source 278. -/
theorem Gov.overcurrent_words {g : Gov} {p : Nat} (hp : p < 64) (awake : g.asleep = false) : (g.overcurrent p).flag (F.PH_STAT_OC_NOW p) = true ∧
    (g.overcurrent p).get (F.PH_CNT_OC_COUNT p) = usat 32 (g.get (F.PH_CNT_OC_COUNT p) + 1) ∧
    (g.overcurrent p).get F.HLIM_ACT_CNT_COUNT = usat 32 (g.get F.HLIM_ACT_CNT_COUNT + 1) ∧ (g.overcurrent p).flag (F.FLT_STATUS_bit 278) = true := by
  have counted := Gov.overcurrent_awake p awake
  refine ⟨?_, ?_, ?_, Gov.bollard_flag _ _ _ counted⟩
  · rw [Gov.flag, Gov.overcurrent, Gov.bollard_get _ _ _ counted (bollardFields_apart (by simp only [F.PH_STAT_OC_NOW]; omega) (by simp only [F.PH_STAT_OC_NOW]; omega)), ← Gov.flag,
      Gov.inc_eq, Gov.flag_set_apart _ _ (by simp [Fld.apart, F.PH_STAT_OC_NOW, F.PH_CNT_OC_COUNT]), g.limited_flag]
  · rw [Gov.overcurrent, Gov.bollard_get _ _ _ counted (bollardFields_apart (by simp only [F.PH_CNT_OC_COUNT]; omega) (by simp only [F.PH_CNT_OC_COUNT]; omega)), Gov.get_inc32 _ _ ⟨rfl, rfl⟩,
      g.limited_only p _ (by simp [Fld.apart, F.PH_STAT_OC_NOW, F.PH_CNT_OC_COUNT])]
  · rw [Gov.overcurrent, Gov.bollard_count _ _ _ counted, Gov.inc_eq, Gov.get_set_apart _ _ (by simp [Fld.apart, F.HLIM_ACT_CNT_COUNT, F.PH_CNT_OC_COUNT]; omega),
      g.limited_only p _ (by simp [Fld.apart, F.HLIM_ACT_CNT_COUNT, F.PH_STAT_OC_NOW]; omega)]

theorem phaseOvercurrent_next {p : Fin 64} {t : Fin 250} {s : State} (up : s.gov.up = true) (on : (s.gov.reach t).phaseOn p = true) (new : ((s.gov.reach t).ph p).ocNow = false) (keeps : ((s.gov.reach t).ph p).shed ≠ 2) :
    exec (.phaseOvercurrent p t) s = .next { s with gov := if ((s.gov.reach t).ph p).ocRun = 0 then (s.gov.reach t).overcurrent p else (s.gov.reach t).limited p } := by
  refine nextGov ((s.gov.ev_up t _ up).trans ((if_neg (by simp [on, new, keeps])).trans ?_))
  simp only [beq_iff_eq]
  rfl

/-! ### The phase fault (R194) -/

/-- Phase p is out of service for a fault and switches no more. -/
structure Gov.Faulted (g : Gov) (p : Nat) : Prop where
  awake : g.asleep = false
  oos   : g.flag (F.PH_CTRL_OOS p) = true
  fault : g.flag (F.PH_STAT_PFAULT p) = true
  off   : g.phaseOn p = false

/-- A change that leaves the power state and the phase's OOS, PFAULT and ACTIVE alone keeps it out of service. -/
theorem Gov.Faulted.congr {g h : Gov} {p : Nat} (a : g.Faulted p) (get : ∀ f ∈ [F.PS_STAT_STATE, F.PH_CTRL_OOS p, F.PH_STAT_PFAULT p, F.PH_STAT_ACTIVE p], h.get f = g.get f) : h.Faulted p where
  awake := (Gov.asleep_of_get (get _ (by simp))).trans a.awake
  oos := (congrArg (· != 0) (get (F.PH_CTRL_OOS p) (by simp))).trans a.oos
  fault := (congrArg (· != 0) (get (F.PH_STAT_PFAULT p) (by simp))).trans a.fault
  off := (congrArg (· != 0) (get (F.PH_STAT_ACTIVE p) (by simp))).trans a.off

theorem Gov.Faulted.raise {g : Gov} {p : Nat} (hp : p < 64) (a : g.Faulted p) (src detail : Nat) : (g.raise src detail).Faulted p :=
  a.congr fun f hf => g.raise_get _ _ _ a.awake (raiseFields_low _ (by
    simp only [List.mem_cons, List.not_mem_nil, or_false] at hf
    rcases hf with rfl | rfl | rfl | rfl <;> simp only [F.PS_STAT_STATE, F.PH_CTRL_OOS, F.PH_STAT_PFAULT, F.PH_STAT_ACTIVE] <;> omega))

/-- The words of a rail's telemetry are no phase's. -/
theorem railTele_apart {r p : Nat} (hr : r < 8) {f : Fld} (hf : f ∈ [F.PS_STAT_STATE, F.PH_CTRL_OOS p, F.PH_STAT_PFAULT p, F.PH_STAT_ACTIVE p]) :
    [F.RAIL_STATE_N_ACT r, F.RAIL_TELE_IOUT r, F.RAIL_POUT_POUT r].all f.apart = true ∧ f.apart (F.RAIL_CNT_ABORT_COUNT r) = true := by
  have place : f.off < 0x24000 ∨ 0x24900 ≤ f.off := by
    simp only [List.mem_cons, List.not_mem_nil, or_false] at hf
    rcases hf with rfl | rfl | rfl | rfl <;> simp only [F.PS_STAT_STATE, F.PH_CTRL_OOS, F.PH_STAT_PFAULT, F.PH_STAT_ACTIVE] <;> omega
  simp [Fld.apart, F.RAIL_STATE_N_ACT, F.RAIL_TELE_IOUT, F.RAIL_POUT_POUT, F.RAIL_CNT_ABORT_COUNT]
  omega

theorem Gov.Faulted.refreshAct {g : Gov} {p : Nat} (a : g.Faulted p) {r : Nat} (hr : r < 8) : (g.refreshAct r).Faulted p :=
  a.congr fun _ hf => g.refreshAct_get r (railTele_apart hr hf).1

/-- An addition takes phases in service alone. -/
theorem Gov.Faulted.addPhases {g : Gov} {p : Nat} (a : g.Faulted p) {r : Nat} (hr : r < 8) (n : Nat) : (g.addPhases r n).Faulted p :=
  a.congr fun f hf => g.addPhases_get r n (railTele_apart hr hf).1 fun q hq => by
    have other : q ≠ p := fun e => by
      have serves := ((g.mem_inService r q).1 hq).2
      rw [e, a.oos] at serves
      exact absurd serves (by decide)
    simp only [List.mem_cons, List.not_mem_nil, or_false] at hf
    rcases hf with rfl | rfl | rfl | rfl <;> simp [Fld.apart, F.PS_STAT_STATE, F.PH_CTRL_OOS, F.PH_STAT_PFAULT, F.PH_STAT_ACTIVE] <;> omega

theorem Gov.abortShed_get (g : Gov) (r : Nat) {f : Fld} (count : f.apart (F.RAIL_CNT_ABORT_COUNT r) = true) (shed : ∀ q, f.apart (F.PH_STAT_SHEDDING q) = true) : (g.abortShed r).get f = g.get f := by
  unfold Gov.abortShed
  split
  · rw [Gov.setRail_get, Gov.inc_eq, Gov.get_set_apart _ _ count, Gov.setPh_get, Gov.get_set_apart _ _ (shed _)]
  · rfl

/-- The state in which a phase's fault is marked, and a shed of its rail is aborted. -/
def Gov.markFault (g : Gov) (p : Nat) : Gov :=
  let g' := (g.mark (F.PH_CTRL_OOS p)).mark (F.PH_STAT_PFAULT p)
  if g'.flag (F.PH_CTRL_ASSIGNED p) then (if (g'.sheddingPhase (g.get (F.PH_CTRL_RAIL p))).isSome then g'.abortShed (g.get (F.PH_CTRL_RAIL p)) else g') else g'

/-- What replaces a phase that has left service: the next shed one where the rail is ON, and 271 where too few are left. -/
def Gov.replacePhase (g : Gov) (r : Nat) : Gov :=
  let g := g.refreshAct r
  let g := if g.rstate r = rOn then g.addPhases r (g.get (F.RAIL_STATE_N_REQ r)) else g
  if (g.inService r).length < g.act (F.RAIL_SHED_NPH_MIN r) then g.raise 271 r else g

theorem Gov.phaseFault_eq (g : Gov) (p : Nat) : g.phaseFault p =
    let h := ((g.markFault p).dropPhase p).raise 270 p
    if h.flag (F.PH_CTRL_ASSIGNED p) then h.replacePhase (g.get (F.PH_CTRL_RAIL p)) else h := rfl

theorem Gov.markFault_get (g : Gov) (p : Nat) {f : Fld} (hf : f ∈ [F.PS_STAT_STATE, F.PH_CTRL_OOS p, F.PH_STAT_PFAULT p, F.PH_STAT_ACTIVE p]) :
    (g.markFault p).get f = ((g.mark (F.PH_CTRL_OOS p)).mark (F.PH_STAT_PFAULT p)).get f := by
  have shed : ∀ q, f.apart (F.PH_STAT_SHEDDING q) = true := fun q => by
    simp only [List.mem_cons, List.not_mem_nil, or_false] at hf
    rcases hf with rfl | rfl | rfl | rfl <;> simp [Fld.apart, F.PS_STAT_STATE, F.PH_CTRL_OOS, F.PH_STAT_PFAULT, F.PH_STAT_ACTIVE, F.PH_STAT_SHEDDING] <;> omega
  unfold Gov.markFault
  dsimp only
  split
  · split
    · exact Gov.abortShed_get _ _ (railTele_apart (Gov.get_lt g _) hf).2 shed
    · rfl
  · rfl

theorem Gov.faulted_dropPhase {g : Gov} (p : Nat) (awake : g.asleep = false) : ((g.markFault p).dropPhase p).Faulted p := by
  have dropped : ∀ f ∈ [F.PS_STAT_STATE, F.PH_CTRL_OOS p, F.PH_STAT_PFAULT p], ((g.markFault p).dropPhase p).get f = ((g.mark (F.PH_CTRL_OOS p)).mark (F.PH_STAT_PFAULT p)).get f := fun f hf => by
    refine (Gov.dropPhase_get _ _ ?_).trans (g.markFault_get p (List.mem_append_left [F.PH_STAT_ACTIVE p] hf))
    simp only [List.mem_cons, List.not_mem_nil, or_false] at hf
    rcases hf with rfl | rfl | rfl <;> simp [Fld.apart, F.PS_STAT_STATE, F.PH_CTRL_OOS, F.PH_STAT_PFAULT, F.PH_STAT_ACTIVE, F.PH_STAT_SHEDDING] <;> omega
  refine ⟨?_, ?_, ?_, ?_⟩
  · rw [← awake]
    refine Gov.asleep_of_get ((dropped _ (by simp)).trans ?_)
    rw [Gov.mark_eq, Gov.get_set_apart _ _ (by simp [Fld.apart, F.PS_STAT_STATE, F.PH_STAT_PFAULT]), Gov.mark_eq, Gov.get_set_apart _ _ (by simp [Fld.apart, F.PS_STAT_STATE, F.PH_CTRL_OOS])]
  · rw [Gov.flag, dropped _ (by simp), ← Gov.flag, Gov.mark_eq, Gov.flag_set_apart _ _ (by simp [Fld.apart, F.PH_CTRL_OOS, F.PH_STAT_PFAULT]), Gov.mark_eq, Gov.flag_set_self _ _ (by simp [F.PH_CTRL_OOS])]
    rfl
  · rw [Gov.flag, dropped _ (by simp), ← Gov.flag, Gov.mark_eq, Gov.flag_set_self _ _ (by simp [F.PH_STAT_PFAULT])]
    rfl
  · rw [Gov.phaseOn, Gov.dropPhase, Gov.setPh_flag, Gov.flag_set_apart _ _ (by simp [Fld.apart, F.PH_STAT_ACTIVE, F.PH_STAT_SHEDDING]), Gov.flag_set_self _ _ (by simp [F.PH_STAT_ACTIVE])]
    rfl

theorem Gov.Faulted.replacePhase {g : Gov} {p : Nat} (hp : p < 64) (a : g.Faulted p) {r : Nat} (hr : r < 8) : (g.replacePhase r).Faulted p := by
  unfold Gov.replacePhase
  extract_lets shown added
  have still : added.Faulted p := by
    unfold added
    split
    · exact (a.refreshAct hr).addPhases hr _
    · exact a.refreshAct hr
  split
  · exact still.raise hp _ _
  · exact still

/-- A phase fault takes the phase out of service. -/
theorem Gov.phaseFault_faulted {g : Gov} {p : Nat} (hp : p < 64) (awake : g.asleep = false) : (g.phaseFault p).Faulted p := by
  have raised := (Gov.faulted_dropPhase p awake).raise hp 270 p
  rw [Gov.phaseFault_eq]
  dsimp only
  split
  · exact raised.replacePhase hp (Gov.get_lt g _)
  · exact raised

/-- The state in which the fault is taken: the phase's run is over. -/
def Gov.endRun (g : Gov) (p : Nat) : Gov := (g.setPh p fun x => { x with ocRun := 0, ocNow := false }).set (F.PH_STAT_OC_NOW p) 0

theorem Gov.endRun_asleep (g : Gov) (p : Nat) : (g.endRun p).asleep = g.asleep :=
  Gov.asleep_of_get (Gov.get_set_apart _ _ (by simp [Fld.apart, F.PS_STAT_STATE, F.PH_STAT_OC_NOW]; omega))

theorem phaseFault_next {p : Fin 64} {t : Fin 250} {s : State} (up : s.gov.up = true) (on : (s.gov.reach t).phaseOn p = true) (runs : 0 < ((s.gov.reach t).ph p).ocRun)
    (long : (s.gov.reach t).act (F.PH_OCF_OCF_N p) ≤ ((s.gov.reach t).ph p).ocRun) : exec (.phaseFault p t) s = .next { s with gov := ((s.gov.reach t).endRun p).phaseFault p } :=
  nextGov ((s.gov.ev_up t _ up).trans (if_pos ⟨on, runs, long⟩))

/-! ### The VCORE clamp (R195) -/

/-- The state in which every phase of rail 0 is low and the clamp is on. -/
def Gov.clamped (g : Gov) : Gov :=
  let h := g.each (g.railPhases 0) fun h p => h.setPh p fun x => { x with pulse := false }
  h.withReg { h.reg with clamp := true }

theorem Gov.clamped_get (g : Gov) (f : Fld) : g.clamped.get f = g.get f := by
  rw [Gov.clamped, Gov.withReg_get]
  exact Gov.each_same (fun h => h.get f) (fun h p => h.setPh_get p _ f) _ _

theorem Gov.pulsesLow (g : Gov) (xs : List Nat) {p : Nat} (hp : p ∈ xs) : ((g.each xs fun h p => h.setPh p fun x => { x with pulse := false }).ph p).pulse = false := by
  induction xs generalizing g with
  | nil => simp at hp
  | cons y ys ih =>
    by_cases later : p ∈ ys
    · exact ih _ later
    · have first : p = y := (List.mem_cons.1 hp).resolve_right later
      refine Gov.each_keeps (P := fun h => (h.ph p).pulse = false) (fun h q low => ?_) ys _ ?_
      · by_cases e : p = q
        · rw [e, Gov.ph_setPh]
        · rw [Gov.ph_setPh_ne _ _ e, low]
      · rw [first, Gov.ph_setPh]

theorem vcoreClampEngage_next {t : Fin 250} {s : State} (up : s.gov.up = true) (open_ : (s.gov.reach t).reg.clamp = false) : exec (.vcoreClampEngage t) s = .next { s with gov := (s.gov.reach t).clamped.bollard 1 0 } :=
  nextGov ((s.gov.ev_up t _ up).trans (if_neg (by simp [open_])))

end Sys2Proof.Machine

open Sys2Proof Sys2Proof.Machine

/-- Settles O26: the over-current and the clamp are a change of the phases' records and a bollard action; a faulted phase stays out of service through all that replaces it (`Gov.Faulted`). -/
theorem fastLimits : Obligations.FastLimits := by
  intro t s g0 up awake
  refine ⟨fun p on new keeps => ⟨_, phaseOvercurrent_next up on new keeps, ?_⟩, fun p on runs long => ⟨_, phaseFault_next up on runs long, ?_⟩, fun open_ => ⟨_, vcoreClampEngage_next up open_, ?_⟩⟩
  · by_cases first : (g0.ph p).ocRun = 0
    · obtain ⟨now, count, action, source⟩ := Gov.overcurrent_words p.isLt awake
      rw [if_pos first]
      rw [Gov.overcurrent_ph p awake]
      exact ⟨rfl, rfl, now, fun _ => ⟨count, action, source⟩, fun later => absurd first later.ne'⟩
    · rw [if_neg first]
      dsimp only
      rw [Gov.limited_ph]
      exact ⟨rfl, rfl, g0.limited_flag p, fun is => absurd is first, fun _ => g0.limited_only p⟩
  · obtain ⟨-, oos, fault, off⟩ := Gov.phaseFault_faulted p.isLt ((g0.endRun_asleep p).trans awake)
    exact ⟨oos, fault, off⟩
  · have slept : g0.clamped.asleep = false := (Gov.asleep_of_get (g0.clamped_get _)).trans awake
    have reg := besideFlt_reg (g0.clamped.bollard_besideFlt 1 0 slept)
    refine ⟨congrArg RegSt.clamp reg, fun p hp => ?_, (g0.clamped.bollard_count 1 0 slept).trans (by rw [g0.clamped_get])⟩
    rw [Gov.ph_of_reg reg]
    exact g0.pulsesLow _ hp
end
section
namespace Sys2Proof.Machine

/-! ### The soft-throttle step at a thermal sweep (R111, R117) -/

theorem Gov.stepDown_sns (g : Gov) (t : Int) : (g.stepDown t).sns = g.sns := by
  unfold Gov.stepDown
  dsimp only
  repeat' split
  all_goals rfl

theorem Gov.stepDown_asleep (g : Gov) (t : Int) : (g.stepDown t).asleep = g.asleep := by
  refine Gov.asleep_of_get ?_
  have other (v : Nat) : (g.set F.LIM_TSD_STAT_K v).get F.PS_STAT_STATE = g.get F.PS_STAT_STATE := Gov.get_set_apart _ _ (by decide)
  unfold Gov.stepDown
  dsimp only
  split
  · exact other 0
  · split
    · split
      · exact other _
      · rfl
    · split
      · exact other _
      · rfl

/-- The step after a sweep whose hottest sensor reads t; it does not overflow, as the active KMAX has its width. -/
theorem Gov.stepDown_step (g : Gov) (t : Int) :
    (g.stepDown t).get F.LIM_TSD_STAT_K =
      if g.actFlag F.LIM_CFG_TSD_EN = false then 0
      else if g.sact F.LIM_TSD_THR_T_SD ≤ t then (if g.get F.LIM_TSD_STAT_K < g.act F.LIM_TSD_STEP_KMAX then g.get F.LIM_TSD_STAT_K + 1 else g.get F.LIM_TSD_STAT_K)
      else if t < g.sact F.LIM_TSD_THR_T_SD - (g.act F.LIM_TSD_THR_T_HYS : Int) then g.get F.LIM_TSD_STAT_K - 1 else g.get F.LIM_TSD_STAT_K := by
  have stored {v : Nat} (small : v < 2 ^ 8) : (g.set F.LIM_TSD_STAT_K v).get F.LIM_TSD_STAT_K = v := (Gov.get_set_self _ _ (by decide)).trans (Nat.mod_eq_of_lt small)
  have step : g.get F.LIM_TSD_STAT_K < 2 ^ 8 := g.get_lt _
  have most : g.act F.LIM_TSD_STEP_KMAX < 2 ^ 8 := field_lt _ _ _
  unfold Gov.stepDown
  dsimp only
  simp only [Bool.not_eq_true']
  split
  · exact stored (by decide)
  · split
    · split
      · exact stored (by omega)
      · rfl
    · split
      · exact stored (by omega)
      · rfl

/-- The soft-thermal bollard raises a source at most. -/
theorem Gov.softThermal_keeps {g : Gov} (vals : List (Nat × Int)) (awake : g.asleep = false) : (g.softThermal vals).sns = g.sns ∧ (g.softThermal vals).get F.LIM_TSD_STAT_K = g.get F.LIM_TSD_STAT_K := by
  unfold Gov.softThermal
  dsimp only
  split
  · exact ⟨rfl, rfl⟩
  · split
    · exact ⟨besideFlt_sns (g.raise_besideFlt _ _ _ awake), g.raise_get _ _ _ awake (raiseFields_low _ (by decide))⟩
    · exact ⟨rfl, rfl⟩

/-- The state in which a thermal sweep's converted values are published (R210). -/
def Gov.thermalSwept (g : Gov) (vals : List (Nat × Int)) : Gov :=
  g.withSns { g.sns with tSweeps := g.sns.tSweeps ++ [⟨g.now, g.state != stSleep, vals⟩], tCount := g.sns.tCount + 1 }

theorem thermalSweepComplete_next {codes : List (Fin 384 × BitVec 16)} {t : Fin 250} {s : State} (up : s.gov.up = true) (awake : (s.gov.reach t).asleep = false) :
    exec (.thermalSweepComplete codes t) s = .next { s with
      gov :=
        let vals := (codes.filter fun c => !(s.gov.reach t).thermalCal (s.gov.reach t).sns.tCount c.1).map fun c => (c.1.val, c.2.toInt)
        (((s.gov.reach t).thermalSwept vals).stepDown ((s.gov.reach t).hottestNow vals)).softThermal vals } := by
  have shallow : (s.gov.reach t).state ≠ stDeep := fun deep => by simp [Gov.asleep, deep] at awake
  exact nextGov ((s.gov.ev_up t _ up).trans (if_neg shallow))

/-! ### The path monitors' sweep (R211) -/

/-- What the measured codes of the monitors of a set leave alone: the sweeps, and every word below the fault words but the monitors' FAIL and the trim windows; a set source 262 stays set. -/
structure Gov.Measures (ms : Nat → Prop) (g h : Gov) : Prop where
  held   : h.held = g.held
  sweeps : h.sns.pSweeps = g.sns.pSweeps
  count  : h.sns.pCount = g.sns.pCount
  get    : ∀ f : Fld, f.off < 0x50000 → (∀ m, ms m → f.apart (F.SNS_P_VAL_FAIL m) = true) → (∀ r, f.off ≠ 0x3310C + 0x20 * r) → h.get f = g.get f
  source : g.flag (F.FLT_STATUS_bit 262) = true → h.flag (F.FLT_STATUS_bit 262) = true

section
variable {ms : Nat → Prop} {g h k : Gov}

theorem Gov.Measures.refl (g : Gov) : Gov.Measures ms g g := ⟨rfl, rfl, rfl, fun _ _ _ _ => rfl, id⟩

theorem Gov.Measures.trans (a : Gov.Measures ms g h) (b : Gov.Measures ms h k) : Gov.Measures ms g k where
  held := b.held.trans a.held
  sweeps := b.sweeps.trans a.sweeps
  count := b.count.trans a.count
  get f low fail pm := (b.get f low fail pm).trans (a.get f low fail pm)
  source := b.source ∘ a.source

theorem Gov.Measures.mono {ns : Nat → Prop} (a : Gov.Measures ms g h) (sub : ∀ m, ms m → ns m) : Gov.Measures ns g h :=
  ⟨a.held, a.sweeps, a.count, fun f low fail pm => a.get f low (fun m hm => fail m (sub m hm)) pm, a.source⟩

theorem Gov.Measures.asleep (a : Gov.Measures ms g h) : h.asleep = g.asleep :=
  Gov.asleep_of_get (a.get _ (by decide) (fun m _ => by simp [Fld.apart, F.PS_STAT_STATE, F.SNS_P_VAL_FAIL]) fun r => by simp only [F.PS_STAT_STATE]; omega)

/-- The limit that the codes are judged against is no monitor's word. -/
theorem Gov.Measures.limit (a : Gov.Measures ms g h) : h.act F.SNS_PM_PM_FAIL = g.act F.SNS_PM_PM_FAIL :=
  Gov.act_congr a.held (a.get _ (by decide) (fun m _ => by simp [Fld.apart, F.SNS_PM_PM_FAIL, F.SNS_P_VAL_FAIL]) fun r => by simp only [F.SNS_PM_PM_FAIL]; omega)

/-- A monitor's FAIL is left to the monitors of the set. -/
theorem Gov.Measures.fail (a : Gov.Measures ms g h) {m : Nat} (hm : m < 128) (out : ¬ ms m) : h.flag (F.SNS_P_VAL_FAIL m) = g.flag (F.SNS_P_VAL_FAIL m) := by
  refine congrArg (· != 0) (a.get _ ?_ (fun j hj => ?_) fun r => ?_)
  · simp only [F.SNS_P_VAL_FAIL]; omega
  · have other : m ≠ j := fun e => out (e ▸ hj)
    simp [Fld.apart, F.SNS_P_VAL_FAIL]; omega
  · simp only [F.SNS_P_VAL_FAIL]; omega

theorem Gov.measures_set {f : Fld} (v : Nat) (low : f.off < 0x50000) (mine : (∃ m, ms m ∧ f = F.SNS_P_VAL_FAIL m) ∨ ∃ r, f.off = 0x3310C + 0x20 * r) : Gov.Measures ms g (g.set f v) where
  held := rfl
  sweeps := rfl
  count := rfl
  get k _ fail pm := Gov.get_set_apart _ _ (by
    rcases mine with ⟨m, hm, rfl⟩ | ⟨r, e⟩
    · exact fail m hm
    · have other : k.off ≠ f.off := e ▸ pm r
      simp [Fld.apart, other])
  source on := (Gov.flag_set_apart _ _ (by simp [Fld.apart, F.FLT_STATUS_bit]; omega)).trans on

theorem Gov.measures_raise {detail : Nat} (awake : g.asleep = false) : Gov.Measures ms g (g.raise 262 detail) where
  held := besideFlt_held (g.raise_besideFlt _ _ _ awake)
  sweeps := congrArg SnsSt.pSweeps (besideFlt_sns (g.raise_besideFlt _ _ _ awake))
  count := congrArg SnsSt.pCount (besideFlt_sns (g.raise_besideFlt _ _ _ awake))
  get _ low _ _ := g.raise_get _ _ _ awake (raiseFields_low _ low)
  source _ := g.raise_flag _ _ _ awake (.inl (by decide))

theorem Gov.measures_keepShadow (o : Nat) : Gov.Measures ms g (g.keepShadow o) := by
  unfold Gov.keepShadow
  split
  · exact .refl g
  · exact ⟨rfl, rfl, rfl, fun _ _ _ _ => rfl, id⟩

end

/-- The verdict on a monitor's code: FAIL, and 262 for a failure. -/
def Gov.codeVerdict (g : Gov) (m : Nat) (fail : Bool) : Gov :=
  if fail then ((g.keepShadow (W.SNS_P_VAL m)).mark (F.SNS_P_VAL_FAIL m)).raise 262 m else (g.keepShadow (W.SNS_P_VAL m)).set (F.SNS_P_VAL_FAIL m) 0

/-- A judged code in its trim window (R230). -/
def Gov.codeWindow (g : Gov) (m code : Nat) (fail : Bool) : Gov :=
  if g.flag (F.SNS_P_VAL_BROKEN m) || g.actFlag (F.SNS_P_CFG_NOGRP m) then g
  else
    let h := g.upd (F.MT_PMMIN_PMMIN (g.pmRail m)) (min code)
    if fail then h.mark (F.MT_PMMIN_FAILSEEN (g.pmRail m)) else h

theorem Gov.pathCode_eq (g : Gov) (m code : Nat) :
    g.pathCode m code = (g.codeVerdict m (decide (code ≤ g.act F.SNS_PM_PM_FAIL))).codeWindow m code (decide (code ≤ g.act F.SNS_PM_PM_FAIL)) := rfl

theorem Gov.codeWindow_measures (g : Gov) (m code : Nat) (fail : Bool) : Gov.Measures (fun _ => False) g (g.codeWindow m code fail) := by
  have rail : g.pmRail m < 2 ^ 3 := field_lt _ _ _
  have least : Gov.Measures (fun _ => False) g (g.upd (F.MT_PMMIN_PMMIN (g.pmRail m)) (min code)) := Gov.measures_set _ (by simp only [F.MT_PMMIN_PMMIN]; omega) (.inr ⟨_, rfl⟩)
  unfold Gov.codeWindow
  dsimp only
  split
  · exact .refl g
  · split
    · exact least.trans (Gov.measures_set _ (by simp only [F.MT_PMMIN_FAILSEEN]; omega) (.inr ⟨_, rfl⟩))
    · exact least

theorem Gov.codeVerdict_passes (g : Gov) (m : Nat) : g.codeVerdict m false = (g.keepShadow (W.SNS_P_VAL m)).set (F.SNS_P_VAL_FAIL m) 0 := if_neg (by decide)
theorem Gov.codeVerdict_fails (g : Gov) (m : Nat) : g.codeVerdict m true = ((g.keepShadow (W.SNS_P_VAL m)).set (F.SNS_P_VAL_FAIL m) 1).raise 262 m := if_pos rfl

theorem Gov.measures_mark {g : Gov} {m : Nat} (v : Nat) (hm : m < 128) : Gov.Measures (· = m) g ((g.keepShadow (W.SNS_P_VAL m)).set (F.SNS_P_VAL_FAIL m) v) :=
  (Gov.measures_keepShadow _).trans (Gov.measures_set v (by simp only [F.SNS_P_VAL_FAIL]; omega) (.inl ⟨m, rfl, rfl⟩))

theorem Gov.codeVerdict_measures {g : Gov} {m : Nat} (fail : Bool) (hm : m < 128) (awake : g.asleep = false) : Gov.Measures (· = m) g (g.codeVerdict m fail) := by
  cases fail with
  | false =>
    rw [Gov.codeVerdict_passes]
    exact Gov.measures_mark 0 hm
  | true =>
    have marked := Gov.measures_mark (g := g) 1 hm
    rw [Gov.codeVerdict_fails]
    exact marked.trans (Gov.measures_raise (marked.asleep.trans awake))

theorem Gov.codeVerdict_fail {g : Gov} {m : Nat} (fail : Bool) (hm : m < 128) (awake : g.asleep = false) : (g.codeVerdict m fail).flag (F.SNS_P_VAL_FAIL m) = fail := by
  cases fail with
  | false =>
    rw [Gov.codeVerdict_passes, Gov.flag_set_self _ _ (by simp [F.SNS_P_VAL_FAIL])]
    rfl
  | true =>
    have still := (Gov.measures_mark (g := g) 1 hm).asleep.trans awake
    rw [Gov.codeVerdict_fails, Gov.flag, Gov.raise_get _ _ _ _ still (raiseFields_low _ (by simp only [F.SNS_P_VAL_FAIL]; omega)), ← Gov.flag, Gov.flag_set_self _ _ (by simp [F.SNS_P_VAL_FAIL])]
    rfl

theorem Gov.codeVerdict_source {g : Gov} {m : Nat} (hm : m < 128) (awake : g.asleep = false) : (g.codeVerdict m true).flag (F.FLT_STATUS_bit 262) = true := by
  rw [Gov.codeVerdict_fails]
  exact Gov.raise_flag _ _ _ _ ((Gov.measures_mark 1 hm).asleep.trans awake) (.inl (by decide))

theorem Gov.pathCode_measures {g : Gov} {m : Nat} (code : Nat) (hm : m < 128) (awake : g.asleep = false) : Gov.Measures (· = m) g (g.pathCode m code) := by
  rw [Gov.pathCode_eq]
  exact (g.codeVerdict_measures _ hm awake).trans ((Gov.codeWindow_measures _ _ _ _).mono fun _ no => no.elim)

/-- A monitor's code sets its FAIL to the verdict, and a failure raises 262. -/
theorem Gov.pathCode_verdict {g : Gov} {m : Nat} (code : Nat) (hm : m < 128) (awake : g.asleep = false) :
    (g.pathCode m code).flag (F.SNS_P_VAL_FAIL m) = decide (code ≤ g.act F.SNS_PM_PM_FAIL) ∧ (code ≤ g.act F.SNS_PM_PM_FAIL → (g.pathCode m code).flag (F.FLT_STATUS_bit 262) = true) := by
  have window := (g.codeVerdict m (decide (code ≤ g.act F.SNS_PM_PM_FAIL))).codeWindow_measures m code (decide (code ≤ g.act F.SNS_PM_PM_FAIL))
  rw [Gov.pathCode_eq]
  refine ⟨(window.fail hm not_false).trans (Gov.codeVerdict_fail _ hm awake), fun fails => window.source ?_⟩
  rw [decide_eq_true fails]
  exact Gov.codeVerdict_source hm awake

/-- The judgement of a list of monitors' codes, in order. -/
def Gov.judgeAll (g : Gov) (cs : List (Fin 128 × BitVec 16)) : Gov := g.each cs fun g c => g.pathCode c.1 c.2.toNat

theorem Gov.judgeAll_measures {g : Gov} (cs : List (Fin 128 × BitVec 16)) (awake : g.asleep = false) : Gov.Measures (fun m => ∃ c ∈ cs, c.1.val = m) g (g.judgeAll cs) :=
  Gov.each_keeps_mem (P := Gov.Measures (fun m => ∃ c ∈ cs, c.1.val = m) g) cs
    (fun _ c hc a => a.trans ((Gov.pathCode_measures _ c.1.isLt (a.asleep.trans awake)).mono fun _ e => ⟨c, hc, e.symm⟩)) g (.refl g)

/-- Each monitor is judged once, so its FAIL is its own code's verdict. -/
theorem Gov.judgeAll_verdict {g : Gov} {cs : List (Fin 128 × BitVec 16)} (once : (cs.map (·.1)).Nodup) (awake : g.asleep = false) {c : Fin 128 × BitVec 16} (hc : c ∈ cs) :
    ((g.judgeAll cs).flag (F.SNS_P_VAL_FAIL c.1) = true ↔ c.2.toNat ≤ g.act F.SNS_PM_PM_FAIL) ∧
      ((g.judgeAll cs).flag (F.SNS_P_VAL_FAIL c.1) = true → (g.judgeAll cs).flag (F.FLT_STATUS_bit 262) = true) := by
  obtain ⟨before, after, rfl⟩ := List.append_of_mem hc
  have mine : ¬ ∃ d ∈ after, d.1.val = c.1.val := fun ⟨d, hd, e⟩ => by
    rw [List.map_append, List.map_cons] at once
    exact (List.nodup_cons.1 (List.nodup_append.1 once).2.1).1 (List.mem_map.2 ⟨d, hd, Fin.ext e⟩)
  have first := g.judgeAll_measures before awake
  have still := first.asleep.trans awake
  obtain ⟨fail, source⟩ := Gov.pathCode_verdict c.2.toNat c.1.isLt still
  have rest := Gov.judgeAll_measures after ((Gov.pathCode_measures c.2.toNat c.1.isLt still).asleep.trans still)
  have split : g.judgeAll (before ++ c :: after) = ((g.judgeAll before).pathCode c.1 c.2.toNat).judgeAll after := Gov.each_append _ _ _ _
  rw [split, rest.fail c.1.isLt mine, fail, decide_eq_true_eq]
  rw [first.limit] at source ⊢
  exact ⟨Iff.rfl, fun fails => rest.source (source fails)⟩

/-- The state in which a path sweep's values are kept (R211). -/
def Gov.pathSwept (g : Gov) (got : List (Fin 128 × BitVec 16)) : Gov :=
  g.withSns { g.sns with pSweeps := g.sns.pSweeps ++ [⟨g.now, true, got.map fun c => (c.1.val, (c.2.toNat : Int))⟩], pCount := g.sns.pCount + 1 }

theorem pathMonitorSweep_next {codes : List (Fin 128 × BitVec 16)} {t : Fin 250} {s : State} (up : s.gov.up = true) (on : (s.gov.reach t).state = stRun ∨ (s.gov.reach t).state = stIdle) :
    exec (.pathMonitorSweep codes t) s = .next { s with
      gov :=
        let got := codes.filter fun c => (s.gov.reach t).clocked ((s.gov.reach t).pmRegion c.1) && !(s.gov.reach t).pathCal (s.gov.reach t).sns.pCount c.1
        ((s.gov.reach t).pathSwept got).judgeAll (got.filter fun c => (s.gov.reach t).actFlag (F.SNS_P_CFG_EN c.1)) } :=
  nextGov ((s.gov.ev_up t _ up).trans (if_neg (by tauto)))

end Sys2Proof.Machine

open Sys2Proof Sys2Proof.Machine

/-- Settles O34: the step is `Gov.stepDown_step`; in a path sweep each monitor is judged once, by a change that leaves the other monitors' FAIL alone (`Gov.judgeAll_verdict`). -/
theorem sensorSweeps : Obligations.SensorSweeps := by
  intro t s g0 up awake
  refine ⟨fun codes => ?_, fun codes once on => ?_⟩
  · intro vals hot k thr
    obtain ⟨sns, step⟩ := Gov.softThermal_keeps vals (((g0.thermalSwept vals).stepDown_asleep hot).trans awake)
    exact ⟨_, thermalSweepComplete_next up awake, sns.trans (Gov.stepDown_sns _ _), step.trans ((g0.thermalSwept vals).stepDown_step hot)⟩
  · intro measured
    have still : (g0.pathSwept measured).asleep = false := awake
    have kept := (g0.pathSwept measured).judgeAll_measures (measured.filter fun c => g0.actFlag (F.SNS_P_CFG_EN c.1)) still
    have once' : ((measured.filter fun c => g0.actFlag (F.SNS_P_CFG_EN c.1)).map (·.1)).Nodup := once.sublist ((List.filter_sublist.trans List.filter_sublist).map _)
    exact ⟨_, pathMonitorSweep_next up on, kept.sweeps, kept.count, fun c hc en => Gov.judgeAll_verdict once' still (List.mem_filter.2 ⟨hc, en⟩)⟩
end
section
namespace Sys2Proof.Machine

/-! ### 64-bit counters and their wrap (R256) -/

theorem Gov.word_set64 (g : Gov) (o v p : Nat) (low : p ≠ o) (high : p ≠ o + 4) : (g.set64 o v).word p = g.word p :=
  (Gov.word_setWord_ne _ _ high).trans (Gov.word_setWord_ne _ _ low)

theorem Gov.get64_set64 (g : Gov) (o v : Nat) : (g.set64 o v).get64 o = v % 2 ^ 64 := by
  unfold Gov.get64 Gov.set64
  rw [Gov.word_setWord_ne _ _ (by omega), Gov.word_setWord_self, Gov.word_setWord_self, BitVec.toNat_ofNat, BitVec.toNat_ofNat]
  omega

theorem Gov.get64_congr {g h : Gov} {o : Nat} (low : h.word o = g.word o) (high : h.word (o + 4) = g.word (o + 4)) : h.get64 o = g.get64 o := by
  rw [Gov.get64, low, high, Gov.get64]

@[simp] theorem Gov.set64_cmd (g : Gov) (o v : Nat) : (g.set64 o v).cmd = g.cmd := (rfl)
@[simp] theorem Gov.set64_led (g : Gov) (o v : Nat) : (g.set64 o v).led = g.led := (rfl)

theorem Gov.get64_withLed (g : Gov) (x : LedSt) (o : Nat) : (g.withLed x).get64 o = g.get64 o := rfl

theorem Gov.addEnergy_eq (g : Gov) (o v : Nat) (wrap : Fld) :
    g.addEnergy o v wrap = if 2 ^ 64 ≤ g.get64 o + v then (g.set64 o (g.get64 o + v)).set wrap 1 else g.set64 o (g.get64 o + v) := rfl

theorem Gov.addEnergy_word (g : Gov) (o v : Nat) (wrap : Fld) {p : Nat} (low : p ≠ o) (high : p ≠ o + 4) (other : p ≠ wrap.off) : (g.addEnergy o v wrap).word p = g.word p := by
  rw [Gov.addEnergy_eq]
  split
  · rw [Gov.word_set_ne _ _ other, g.word_set64 _ _ _ low high]
  · exact g.word_set64 _ _ _ low high

theorem Gov.addEnergy_get64 (g : Gov) (o v : Nat) {wrap : Fld} (low : o ≠ wrap.off) (high : o + 4 ≠ wrap.off) : (g.addEnergy o v wrap).get64 o = (g.get64 o + v) % 2 ^ 64 := by
  rw [Gov.addEnergy_eq]
  split
  · rw [Gov.get64_congr (Gov.word_set_ne _ _ low) (Gov.word_set_ne _ _ high), Gov.get64_set64]
  · exact g.get64_set64 _ _

@[simp] theorem Gov.addEnergy_cmd (g : Gov) (o v : Nat) (wrap : Fld) : (g.addEnergy o v wrap).cmd = g.cmd := by
  rw [Gov.addEnergy_eq]
  split
  · rw [Gov.set_cmd, Gov.set64_cmd]
  · rw [Gov.set64_cmd]

@[simp] theorem Gov.addEnergy_led (g : Gov) (o v : Nat) (wrap : Fld) : (g.addEnergy o v wrap).led = g.led := by
  rw [Gov.addEnergy_eq]
  split
  · rw [Gov.set_led, Gov.set64_led]
  · rw [Gov.set64_led]

/-! ### The answer of a request that waited for its account's change (R244, R245) -/

/-- The reply to the request in service on a channel, where it is one of this opcode and not condemned. -/
def Gov.answerWaiting (g : Gov) (n op : Nat) (params : List Nat) : Gov :=
  match g.req n with
  | some r => if r.phase = .serving ∧ pkOpcode r.words = op ∧ r.doom.isNone then g.post n r.words stOk params else g
  | none => g

section
variable (g : Gov) (n op : Nat) {params : List Nat}

theorem Gov.answerWaiting_cases (params : List Nat) : g.answerWaiting n op params = g ∨ ∃ ws, g.answerWaiting n op params = g.post n ws stOk params := by
  unfold Gov.answerWaiting
  split
  · split
    · exact .inr ⟨_, rfl⟩
    · exact .inl rfl
  · exact .inl rfl

theorem Gov.answerWaiting_word (hn : n < 16) (hp : params.length ≤ 61) {o : Nat} (high : 0x3100 ≤ o) : (g.answerWaiting n op params).word o = g.word o := by
  obtain e | ⟨ws, e⟩ := g.answerWaiting_cases n op params
  · rw [e]
  · rw [e, Gov.post_word _ _ _ _ _ hn hp (.inr high)]

theorem Gov.answerWaiting_besideCmd (params : List Nat) : (g.answerWaiting n op params).besideCmd = g.besideCmd := by
  obtain e | ⟨ws, e⟩ := g.answerWaiting_cases n op params
  · rw [e]
  · rw [e, Gov.post_besideCmd]

theorem Gov.answerWaiting_replied (hn : n < 16) (hp : params.length ≤ 61) {r : Req} (req : g.req n = some r) (serving : r.phase = .serving) (code : pkOpcode r.words = op) (sound : r.doom = none) :
    (g.answerWaiting n op params).replied n r.words stOk params := by
  have waits : g.answerWaiting n op params = g.post n r.words stOk params := by
    simp [Gov.answerWaiting, req, serving, code, sound]
  rw [waits]
  exact Gov.post_replied _ _ _ _ _ hn hp

end

theorem Gov.fire_unarmed {g : Gov} {e : SigEvent} (unarmed : ∀ p ∈ g.cmd.armed, p.1 ≠ e) : g.fire e = g := by
  have signals : (g.cmd.armed.filter fun p => p.1 == e) = [] := List.filter_eq_nil_iff.2 fun p hp => by simpa using unarmed p hp
  have stay : (g.cmd.armed.filter fun p => p.1 != e) = g.cmd.armed := List.filter_eq_self.2 fun p hp => by simpa using unarmed p hp
  unfold Gov.fire
  rw [signals, stay]
  rfl

/-! ### A request left in service (R361, R362) -/

/-- A command is committed with its fence armed on an event, and its answer comes later. -/
def Gov.later (g : Gov) (n : Nat) (ws : List Nat) (e : SigEvent) : Gov := (g.commit n ws stOk (some e)).begin n

theorem Gov.begin_besides (g : Gov) (n : Nat) : (g.begin n).besideCmd = g.besideCmd ∧ (g.begin n).besideReqs = g.besideReqs := by
  unfold Gov.begin
  split
  · exact ⟨Gov.takeUp_besideCmd _, Gov.takeUp_besideReqs _⟩
  · exact ⟨rfl, rfl⟩

theorem Gov.commit_armed_req (g : Gov) (n : Nat) (ws : List Nat) (status : Nat) (e : SigEvent) (m : Nat) : (g.commit n ws status (some e)).req m = g.req m := by
  have kept := Gov.req_of_cmd (g.journal_cmd n (pkSeq ws) status) m
  unfold Gov.commit
  dsimp only
  split
  · exact kept
  · exact kept

/-- The command's journal word alone is written; its request is in service, and its fence, where it signals one, is armed. -/
theorem Gov.later_kept {g h : Gov} {n : Nat} {ws : List Nat} (e : SigEvent) {r : Req} (req : g.req n = some r) (words : r.words = ws) (cmd : h.cmd = g.cmd) (only : g.onlyWords h []) :
    (g.onlyWords (h.later n ws e) [W.SUP_JOURNAL n] ∧ (h.later n ws e).get (F.SUP_JOURNAL_RESULT n) = stOk ∧ ∃ r, (h.later n ws e).req n = some r ∧ r.words = ws ∧ r.phase = .serving) ∧
      (pkFsig ws = true → (e, pkSigFence ws) ∈ (h.later n ws e).cmd.armed) := by
  obtain ⟨x, committed, armed⟩ := h.commit_armed n ws stOk e
  obtain ⟨-, -, result⟩ := h.journal_journalled (n := n) (seq := pkSeq ws) (status := stOk) (Nat.mod_lt _ (by decide)) (by decide) (by decide)
  obtain ⟨serving, words'⟩ := Gov.begin_serving ((h.commit_armed_req n ws stOk e n).trans ((Gov.req_of_cmd cmd n).trans req))
  have word (o : Nat) : (h.later n ws e).word o = (h.journal n (pkSeq ws) stOk).word o := by
    rw [Gov.later, words' o (by simp), committed, Gov.withCmd_word]
  refine ⟨⟨fun o out => ?_, (Gov.get_congr (word _)).trans result, _, serving, words, rfl⟩, fun signals => ?_⟩
  · rw [word, Gov.journal_word _ _ _ _ (by simpa using out)]
    exact only o (by simp)
  · rw [Gov.later, besideReqs_armed (Gov.begin_besides _ n).2, committed]
    exact armed signals rfl

theorem Gov.serves_req {g : Gov} {t : Fin 250} {n op : Nat} {ws : List Nat} (serves : g.serves t n op ws) : ∃ r, (g.reach t).req n = some r ∧ r.words = ws := by
  obtain ⟨-, -, ⟨r, req, words, -⟩, -⟩ := serves
  exact ⟨r, req, words⟩

theorem Gov.later_led (g : Gov) (n : Nat) (ws : List Nat) (e : SigEvent) : (g.later n ws e).led = g.led :=
  besideCmd_led ((Gov.begin_besides _ n).1.trans (Gov.commit_besideCmd _ _ _ _ _))

/-- A refused command of an account answers and leaves the ledger alone. -/
theorem Gov.refused_led (g : Gov) {n : Nat} (hn : n < 16) (ws : List Nat) {status : Nat} (code : status < 256) : g.answered (g.answer n ws status []) n ws status [] [] ∧ (g.answer n ws status []).led = g.led :=
  ⟨Gov.answer_answered hn ws code (by simp) fun _ _ => rfl, besideCmd_led (g.answer_besideCmd n ws status [])⟩

/-! ### Opening an account (R244) -/

/-- The block of an account that opens: afresh, with its class and floors. -/
def Gov.freshBlock (g : Gov) (o : OpenReq) : Gov :=
  ((((g.zeroWords (blockWords o.acct)).set (F.ACC_STAT_STATE o.acct) 1).set (F.ACC_STAT_CLASS o.acct) o.cls).set (F.ACC_FLOOR_FLOOR_ACT o.acct) o.fact).set (F.ACC_FLOOR_FLOOR_PWR o.acct) o.fpwr

/-- The state in which an account has opened: its block, its tag and start time, and the ledger beside the words. -/
def Gov.opened (g : Gov) (o : OpenReq) (tick : Nat) : Gov :=
  let h := ((g.freshBlock o).writeWords (W.ACC_TAG o.acct 0) o.tag).set64 (W.ACC_TSTART o.acct) tick
  h.withLed { h.led with
    opens := h.led.opens.filter (·.acct != o.acct), accs := Tab.erase h.led.accs o.acct,
    wrapped := h.led.wrapped.filter (· != o.acct), unattr := h.led.unattr.filter (· != o.acct)
    stmts := h.led.stmts.map fun (x : Stmt) => if x.acct = o.acct then { x with shown := false } else x }

theorem Gov.openAccount_eq (g : Gov) (o : OpenReq) (tick : Nat) :
    g.openAccount o tick = ((g.opened o tick).fire (.acctOpen o.acct)).answerWaiting o.chan 0x20 [tick % 2 ^ 32, tick / 2 ^ 32 % 2 ^ 32] := rfl

theorem Gov.freshBlock_cmd (g : Gov) (o : OpenReq) : (g.freshBlock o).cmd = g.cmd := by simp [Gov.freshBlock]
theorem Gov.freshBlock_led (g : Gov) (o : OpenReq) : (g.freshBlock o).led = g.led := by simp [Gov.freshBlock, besideCmd_led (Gov.zeroWords_besideCmd g _)]

theorem Gov.opened_cmd (g : Gov) (o : OpenReq) (tick : Nat) : (g.opened o tick).cmd = g.cmd := by
  rw [Gov.opened, Gov.withLed_cmd, Gov.set64_cmd, Gov.writeWords_cmd, Gov.freshBlock_cmd]

theorem Gov.opened_opens (g : Gov) (o : OpenReq) (tick : Nat) : (g.opened o tick).led.opens = g.led.opens.filter (·.acct != o.acct) := by
  rw [Gov.opened, Gov.withLed_led, Gov.set64_led, besideCmd_led (Gov.writeWords_besideCmd _ _ _), Gov.freshBlock_led]

/-- The words of the block that the open leaves as it made them afresh. -/
theorem Gov.opened_word (g : Gov) {o : OpenReq} (tick : Nat) (tag : o.tag.length = 4) {p : Nat} (out : p < W.ACC_TAG o.acct 0 ∨ W.ACC_TEND o.acct ≤ p) : (g.opened o tick).word p = (g.freshBlock o).word p := by
  simp only [W.ACC_TAG, W.ACC_TEND] at out
  exact (Gov.word_set64 _ _ _ _ (by simp only [W.ACC_TSTART]; omega) (by simp only [W.ACC_TSTART]; omega)).trans (Gov.writeWords_word_outside _ _ _ (by simp only [W.ACC_TAG]; omega))

theorem Gov.freshBlock_zero (g : Gov) (o : OpenReq) {k : Nat} (two : 2 ≤ k) (inside : k < 23) : (g.freshBlock o).word (W.ACC_STAT o.acct + 4 * k) = 0 := by
  have mine : W.ACC_STAT o.acct + 4 * k ∈ blockWords o.acct := List.mem_map.2 ⟨k, List.mem_range.2 inside, rfl⟩
  unfold Gov.freshBlock
  rw [Gov.word_set_ne, Gov.word_set_ne, Gov.word_set_ne, Gov.word_set_ne, Gov.zeroWords_word, if_pos mine]
  all_goals simp only [W.ACC_STAT, F.ACC_STAT_STATE, F.ACC_STAT_CLASS, F.ACC_FLOOR_FLOOR_ACT, F.ACC_FLOOR_FLOOR_PWR]; omega

theorem Gov.freshBlock_fields (g : Gov) {o : OpenReq} (cls : o.cls < 2) (fact : o.fact < 2 ^ 12) (fpwr : o.fpwr < 2 ^ 16) :
    (g.freshBlock o).get (F.ACC_STAT_STATE o.acct) = 1 ∧ (g.freshBlock o).get (F.ACC_STAT_CLASS o.acct) = o.cls ∧
      (g.freshBlock o).get (F.ACC_FLOOR_FLOOR_ACT o.acct) = o.fact ∧ (g.freshBlock o).get (F.ACC_FLOOR_FLOOR_PWR o.acct) = o.fpwr := by
  unfold Gov.freshBlock
  refine ⟨?_, ?_, ?_, ?_⟩
  · rw [Gov.get_set_apart, Gov.get_set_apart, Gov.get_set_apart, Gov.get_set_self _ _ (by simp [F.ACC_STAT_STATE])]
    · rfl
    all_goals simp [Fld.apart, F.ACC_STAT_STATE, F.ACC_STAT_CLASS, F.ACC_FLOOR_FLOOR_ACT, F.ACC_FLOOR_FLOOR_PWR]
  · rw [Gov.get_set_apart, Gov.get_set_apart, Gov.get_set_self _ _ (by simp [F.ACC_STAT_CLASS])]
    · exact Nat.mod_eq_of_lt cls
    all_goals simp [Fld.apart, F.ACC_STAT_CLASS, F.ACC_FLOOR_FLOOR_ACT, F.ACC_FLOOR_FLOOR_PWR]
  · rw [Gov.get_set_apart, Gov.get_set_self _ _ (by simp [F.ACC_FLOOR_FLOOR_ACT])]
    · exact Nat.mod_eq_of_lt fact
    · simp [Fld.apart, F.ACC_FLOOR_FLOOR_ACT, F.ACC_FLOOR_FLOOR_PWR]
  · rw [Gov.get_set_self _ _ (by simp [F.ACC_FLOOR_FLOOR_PWR])]
    exact Nat.mod_eq_of_lt fpwr

theorem Gov.opened_tstart (g : Gov) (o : OpenReq) {tick : Nat} (small : tick < 2 ^ 64) : (g.opened o tick).get64 (W.ACC_TSTART o.acct) = tick := by
  rw [Gov.opened, Gov.get64_withLed, Gov.get64_set64, Nat.mod_eq_of_lt small]

theorem Gov.opened_zero64 (g : Gov) {o : OpenReq} (tick : Nat) (tag : o.tag.length = 4) {k p : Nat} (high : 8 ≤ k) (inside : k < 22) (place : p = W.ACC_STAT o.acct + 4 * k) : (g.opened o tick).get64 p = 0 := by
  have zero {j : Nat} (high : 8 ≤ j) (inside : j < 23) : (g.opened o tick).word (W.ACC_STAT o.acct + 4 * j) = 0 :=
    (g.opened_word tick tag (.inr (by simp only [W.ACC_TEND, W.ACC_STAT]; omega))).trans (g.freshBlock_zero o (by omega) inside)
  rw [place, Gov.get64, zero high (by omega), show W.ACC_STAT o.acct + 4 * k + 4 = W.ACC_STAT o.acct + 4 * (k + 1) from rfl, zero (by omega) (by omega)]
  rfl

/-! ### Closing an account (R245, R255) -/

/-- The state in which an account's close time, its state and LDG_CLOSED_E are written. -/
def Gov.closeMarked (g : Gov) (c : CloseReq) (tick : Nat) : Gov :=
  let h := (((g.set64 (W.ACC_TEND c.acct) tick).addClosed (g.closingAmount c.acct)).set (F.ACC_STAT_STATE c.acct) 2).set (F.ACC_STAT_STMT_REQ c.acct) (b2n c.stmt)
  h.withLed { h.led with closes := h.led.closes.filter (·.acct != c.acct) }

/-- The state in which the statement asked for is queued and the account's reservations are gone. -/
def Gov.closed (g : Gov) (c : CloseReq) (tick : Nat) : Gov := (if c.stmt then (g.closeMarked c tick).queueStmt c.acct else g.closeMarked c tick).purgeAcct c.acct

theorem Gov.closeAccount_eq (g : Gov) (c : CloseReq) (tick : Nat) :
    g.closeAccount c tick =
      let h := (g.closed c tick).fire (.acctClose c.acct)
      h.answerWaiting c.chan 0x21 (h.shownEnergy c.acct (W.ACC_ENERGY c.acct) ++ [tick % 2 ^ 32, tick / 2 ^ 32 % 2 ^ 32, if c.stmt then h.get (F.ACC_STMT_SLOT c.acct) + 256 else 0]) := rfl

theorem Gov.closeMarked_cmd (g : Gov) (c : CloseReq) (tick : Nat) : (g.closeMarked c tick).cmd = g.cmd := by
  simp [Gov.closeMarked, Gov.addClosed]

theorem Gov.closeMarked_led (g : Gov) (c : CloseReq) (tick : Nat) : (g.closeMarked c tick).led = { g.led with closes := g.led.closes.filter (·.acct != c.acct) } := by
  simp [Gov.closeMarked, Gov.addClosed]

/-- The words that the marks of a close leave alone. -/
theorem Gov.closeMarked_word (g : Gov) {c : CloseReq} (tick : Nat) {p : Nat} (stat : p ≠ W.ACC_STAT c.acct) (tend : p ≠ W.ACC_TEND c.acct ∧ p ≠ W.ACC_TEND c.acct + 4) (ledger : p < W.LDG_CLOSED_E ∨ W.LDG_WRAP_RAIL < p) :
    (g.closeMarked c tick).word p = g.word p := by
  simp only [W.LDG_CLOSED_E, W.LDG_WRAP_RAIL] at ledger
  rw [Gov.closeMarked, Gov.withLed_word, Gov.word_set_ne _ _ stat, Gov.word_set_ne _ _ stat, Gov.addClosed, Gov.addEnergy_word, Gov.word_set64 _ _ _ _ tend.1 tend.2]
  all_goals simp only [W.LDG_CLOSED_E, W.LDG_WRAP_RAIL]; omega

theorem Gov.closeMarked_poison (g : Gov) (c : CloseReq) (tick : Nat) (inside : c.acct < 256) : (g.closeMarked c tick).flag (F.ACC_STAT_POISON c.acct) = g.flag (F.ACC_STAT_POISON c.acct) := by
  have word : ((g.set64 (W.ACC_TEND c.acct) tick).addClosed (g.closingAmount c.acct)).word (W.ACC_STAT c.acct) = g.word (W.ACC_STAT c.acct) := by
    rw [Gov.addClosed, Gov.addEnergy_word, Gov.word_set64]
    all_goals simp only [W.ACC_STAT, W.ACC_TEND, W.LDG_CLOSED_E, W.LDG_WRAP_RAIL]; omega
  refine congrArg (· != 0) ?_
  rw [Gov.closeMarked, Gov.withLed_get, Gov.get_set_apart _ _ (by simp [Fld.apart, F.ACC_STAT_POISON, F.ACC_STAT_STMT_REQ]), Gov.get_set_apart _ _ (by simp [Fld.apart, F.ACC_STAT_POISON, F.ACC_STAT_STATE])]
  exact Gov.get_congr word

theorem Gov.closeMarked_marks (g : Gov) {c : CloseReq} {tick : Nat} (inside : c.acct < 256) (small : tick < 2 ^ 64) :
    (g.closeMarked c tick).get (F.ACC_STAT_STATE c.acct) = 2 ∧ (g.closeMarked c tick).get (F.ACC_STAT_STMT_REQ c.acct) = b2n c.stmt ∧
      (g.closeMarked c tick).get64 (W.ACC_TEND c.acct) = tick ∧ (g.closeMarked c tick).get64 W.LDG_CLOSED_E = (g.get64 W.LDG_CLOSED_E + g.closingAmount c.acct) % 2 ^ 64 := by
  have stat {h : Gov} {o : Nat} (ne : o ≠ W.ACC_STAT c.acct) (ne' : o + 4 ≠ W.ACC_STAT c.acct) :
      ((h.set (F.ACC_STAT_STATE c.acct) 2).set (F.ACC_STAT_STMT_REQ c.acct) (b2n c.stmt)).get64 o = h.get64 o :=
    (Gov.get64_congr (Gov.word_set_ne _ _ ne) (Gov.word_set_ne _ _ ne')).trans (Gov.get64_congr (Gov.word_set_ne _ _ ne) (Gov.word_set_ne _ _ ne'))
  rw [Gov.closeMarked]
  refine ⟨?_, ?_, ?_, ?_⟩
  · rw [Gov.withLed_get, Gov.get_set_apart _ _ (by simp [Fld.apart, F.ACC_STAT_STATE, F.ACC_STAT_STMT_REQ]), Gov.get_set_self _ _ (by simp [F.ACC_STAT_STATE])]
    rfl
  · rw [Gov.withLed_get, Gov.get_set_self _ _ (by simp [F.ACC_STAT_STMT_REQ])]
    cases c.stmt <;> rfl
  · rw [Gov.get64_withLed, stat (by simp only [W.ACC_TEND, W.ACC_STAT]; omega) (by simp only [W.ACC_TEND, W.ACC_STAT]; omega), Gov.addClosed,
      Gov.get64_congr (Gov.addEnergy_word _ _ _ _ ?_ ?_ ?_) (Gov.addEnergy_word _ _ _ _ ?_ ?_ ?_), Gov.get64_set64, Nat.mod_eq_of_lt small]
    all_goals simp only [W.ACC_TEND, W.LDG_CLOSED_E, W.LDG_WRAP_RAIL]; omega
  · rw [Gov.get64_withLed, stat (by simp only [W.LDG_CLOSED_E, W.ACC_STAT]; omega) (by simp only [W.LDG_CLOSED_E, W.ACC_STAT]; omega), Gov.addClosed,
      Gov.addEnergy_get64 _ _ _ (by decide) (by decide), Gov.get64_congr (Gov.word_set64 _ _ _ _ ?_ ?_) (Gov.word_set64 _ _ _ _ ?_ ?_)]
    all_goals simp only [W.ACC_TEND, W.LDG_CLOSED_E]; omega

/-! The statement asked for. -/

theorem Gov.queueStmt_word (g : Gov) (a : Nat) {p : Nat} (stmt : p ≠ W.ACC_STMT a) (count : p ≠ W.LDG_STMT) : (g.queueStmt a).word p = g.word p := by
  unfold Gov.queueStmt Gov.showStmts
  dsimp only
  rw [Gov.word_set_ne _ _ count, Gov.word_set_ne _ _ count, Gov.mark_eq, Gov.word_set_ne _ _ stmt, Gov.word_set_ne _ _ stmt, Gov.withLed_word]

theorem Gov.queueStmt_cmd (g : Gov) (a : Nat) : (g.queueStmt a).cmd = g.cmd := by
  simp [Gov.queueStmt, Gov.showStmts, Gov.mark_eq]

theorem Gov.queueStmt_closes (g : Gov) (a : Nat) : (g.queueStmt a).led.closes = g.led.closes := by
  simp [Gov.queueStmt, Gov.showStmts, Gov.mark_eq]

/-- The statement is queued, unsigned, in the lowest free slot. -/
theorem Gov.queueStmt_queued (g : Gov) (a : Nat) : ∃ x, (g.queueStmt a).led.stmts = g.led.stmts ++ [x] ∧ x.acct = a ∧ x.sig = none ∧ x.slot = g.freeSlot :=
  ⟨_, by simp [Gov.queueStmt, Gov.showStmts, Gov.mark_eq]; rfl, rfl, rfl, rfl⟩

theorem Gov.freeSlot_lt (g : Gov) : g.freeSlot < 256 := by
  unfold Gov.freeSlot
  cases found : (List.range 256).find? fun k => g.led.stmts.all fun x => x.slot != k with
  | none => decide
  | some k => exact List.mem_range.1 (List.mem_of_find?_eq_some found)

theorem Gov.queueStmt_slot (g : Gov) {a : Nat} (inside : a < 256) : (g.queueStmt a).get (F.ACC_STMT_SLOT a) = g.freeSlot := by
  have shown : (F.ACC_STMT_SLOT a).off ≠ 0x48878 := by simp only [F.ACC_STMT_SLOT]; omega
  unfold Gov.queueStmt Gov.showStmts
  dsimp only
  rw [Gov.get_congr (Gov.word_set_ne _ _ shown), Gov.get_congr (Gov.word_set_ne _ _ shown), Gov.mark_eq, Gov.get_set_apart _ _ (by simp [Fld.apart, F.ACC_STMT_SLOT, F.ACC_STMT_QUEUED]),
    Gov.get_set_self _ _ (by simp [F.ACC_STMT_SLOT])]
  exact Nat.mod_eq_of_lt g.freeSlot_lt

/-! The reservations. -/

theorem Gov.purge_word (g : Gov) (pick : Entry → Bool) {o : Nat} (high : 0x1000 ≤ o) (other : o % 0x40 ≠ 0x1C) : (g.purge pick).word o = g.word o :=
  (Gov.Keeps.of_get (P := fun o => 0x1000 ≤ o ∧ o % 0x40 ≠ 0x1C) (g.purge_held pick) fun _ h => g.purge_get pick h.1 h.2).word o ⟨high, other⟩

theorem Gov.setTable_beside (g : Gov) (table : List Entry) : (g.setTable table).cmd = g.cmd ∧ (g.setTable table).led = g.led :=
  ⟨(Gov.each_same Gov.cmd (fun _ _ => Gov.set_cmd _ _ _) _ _).trans (by simp), (Gov.each_same Gov.led (fun _ _ => Gov.set_led _ _ _) _ _).trans (by simp)⟩

theorem Gov.purge_beside (g : Gov) (pick : Entry → Bool) : (g.purge pick).cmd = g.cmd ∧ (g.purge pick).led = g.led := by
  unfold Gov.purge
  dsimp only
  split
  · exact ⟨rfl, rfl⟩
  · rw [Gov.inc_cmd, Gov.inc_led]
    exact g.setTable_beside _

/-! The close as a whole. -/

section
variable {g : Gov} {c : CloseReq} {tick : Nat}

theorem Gov.closed_cmd : (g.closed c tick).cmd = g.cmd := by
  rw [Gov.closed, Gov.purgeAcct, (Gov.purge_beside _ _).1]
  split
  · rw [Gov.queueStmt_cmd, Gov.closeMarked_cmd]
  · exact g.closeMarked_cmd c tick

theorem Gov.closed_closes : (g.closed c tick).led.closes = g.led.closes.filter (·.acct != c.acct) := by
  rw [Gov.closed, Gov.purgeAcct, (Gov.purge_beside _ _).2]
  split
  · rw [Gov.queueStmt_closes, Gov.closeMarked_led]
  · rw [Gov.closeMarked_led]

theorem Gov.closed_table : ∀ e ∈ (g.closed c tick).fcu.table, e.acct ≠ c.acct := by
  rw [Gov.closed, Gov.purgeAcct, Gov.purge_table]
  intro e he
  simpa using (List.mem_filter.1 he).2

theorem Gov.closed_word {p : Nat} (high : 0x1000 ≤ p) (other : p % 0x40 ≠ 0x1C) (stmt : p ≠ W.ACC_STMT c.acct) (count : p ≠ W.LDG_STMT) : (g.closed c tick).word p = (g.closeMarked c tick).word p := by
  rw [Gov.closed, Gov.purgeAcct, Gov.purge_word _ _ high other]
  split
  · exact Gov.queueStmt_word _ _ stmt count
  · rfl

theorem Gov.closeMarked_freeSlot : (g.closeMarked c tick).freeSlot = g.freeSlot := by
  rw [Gov.freeSlot, Gov.closeMarked_led, Gov.freeSlot]

theorem Gov.closed_unasked (no : c.stmt = false) : (g.closed c tick).led.stmts = g.led.stmts := by
  rw [Gov.closed, Gov.purgeAcct, (Gov.purge_beside _ _).2, no, if_neg (by decide), Gov.closeMarked_led]

theorem Gov.closed_asked (yes : c.stmt = true) : ∃ x, (g.closed c tick).led.stmts = g.led.stmts ++ [x] ∧ x.acct = c.acct ∧ x.sig = none ∧ x.slot = g.freeSlot := by
  obtain ⟨x, queued, acct, sig, slot⟩ := (g.closeMarked c tick).queueStmt_queued c.acct
  refine ⟨x, ?_, acct, sig, slot.trans Gov.closeMarked_freeSlot⟩
  rw [Gov.closed, Gov.purgeAcct, (Gov.purge_beside _ _).2, if_pos yes, queued, Gov.closeMarked_led]

theorem Gov.closed_slot (yes : c.stmt = true) (inside : c.acct < 256) : (g.closed c tick).get (F.ACC_STMT_SLOT c.acct) = g.freeSlot := by
  rw [Gov.closed, Gov.purgeAcct, Gov.purge_get _ _ (by simp only [F.ACC_STMT_SLOT]; omega) (by simp only [F.ACC_STMT_SLOT]; omega), if_pos yes, Gov.queueStmt_slot _ inside, Gov.closeMarked_freeSlot]

theorem Gov.closed_marks (inside : c.acct < 256) (small : tick < 2 ^ 64) :
    (g.closed c tick).get (F.ACC_STAT_STATE c.acct) = 2 ∧ (g.closed c tick).get (F.ACC_STAT_STMT_REQ c.acct) = b2n c.stmt ∧
      (g.closed c tick).get64 (W.ACC_TEND c.acct) = tick ∧ (g.closed c tick).get64 W.LDG_CLOSED_E = (g.get64 W.LDG_CLOSED_E + g.closingAmount c.acct) % 2 ^ 64 := by
  obtain ⟨state, stmt, tend, total⟩ := g.closeMarked_marks (c := c) inside small
  refine ⟨(Gov.get_congr (Gov.closed_word ?_ ?_ ?_ ?_)).trans state, (Gov.get_congr (Gov.closed_word ?_ ?_ ?_ ?_)).trans stmt,
    (Gov.get64_congr (Gov.closed_word ?_ ?_ ?_ ?_) (Gov.closed_word ?_ ?_ ?_ ?_)).trans tend, (Gov.get64_congr (Gov.closed_word ?_ ?_ ?_ ?_) (Gov.closed_word ?_ ?_ ?_ ?_)).trans total⟩
  all_goals simp only [F.ACC_STAT_STATE, F.ACC_STAT_STMT_REQ, W.ACC_TEND, W.LDG_CLOSED_E, W.ACC_STMT, W.LDG_STMT]; omega

theorem Gov.closed_shownEnergy (inside : c.acct < 256) : (g.closed c tick).shownEnergy c.acct (W.ACC_ENERGY c.acct) = g.shownEnergy c.acct (W.ACC_ENERGY c.acct) := by
  have poison : (g.closed c tick).flag (F.ACC_STAT_POISON c.acct) = g.flag (F.ACC_STAT_POISON c.acct) := by
    rw [← g.closeMarked_poison c tick inside]
    refine congrArg (· != 0) (Gov.get_congr (Gov.closed_word ?_ ?_ ?_ ?_))
    all_goals simp only [F.ACC_STAT_POISON, W.ACC_STMT, W.LDG_STMT]; omega
  have energy {p : Nat} (mine : p = W.ACC_ENERGY c.acct ∨ p = W.ACC_ENERGY c.acct + 4) : (g.closed c tick).word p = g.word p := by
    simp only [W.ACC_ENERGY] at mine
    rw [Gov.closed_word (by omega) (by omega) (by simp only [W.ACC_STMT]; omega) (by simp only [W.LDG_STMT]; omega),
      Gov.closeMarked_word _ _ (by simp only [W.ACC_STAT]; omega) (by simp only [W.ACC_TEND]; omega) (.inl (by simp only [W.LDG_CLOSED_E]; omega))]
  rw [Gov.shownEnergy, poison, energy (.inl rfl), energy (.inr rfl), Gov.shownEnergy]

end

/-! ### The rows -/

theorem accountOpenTick_next {a : Fin 256} {o : OpenReq} {tick : Nat} {t : Fin 250} {s : State} (runs : s.gov.engine = true) (found : ((s.gov.reach t).led.opens.find? fun o => o.acct == a.val) = some o)
    (comes : o.due = some tick ∨ (o.due = none ∧ (s.gov.reach t).onTick = true ∧ tick = (s.gov.reach t).now)) : exec (.accountOpenTick a t) s = .next { s with gov := (s.gov.reach t).openAccount o tick } := by
  show execAccountOpenTick a t s = _
  unfold execAccountOpenTick State.onGov
  refine nextGov ?_
  dsimp only
  rw [found]
  dsimp only
  rcases comes with due | ⟨due, onTick, rfl⟩
  · rw [due]
    exact if_pos runs
  · rw [due]
    exact if_pos (by simp [runs, onTick])

theorem accountCloseCommit_next {a : Fin 256} {c : CloseReq} {tick : Nat} {t : Fin 250} {s : State} (runs : s.gov.engine = true) (found : ((s.gov.reach t).led.closes.find? fun c => c.acct == a.val) = some c)
    (due : c.due = some tick) : exec (.accountCloseCommit a t) s = .next { s with gov := (s.gov.reach t).closeAccount c tick } := by
  show execAccountCloseCommit a t s = _
  unfold execAccountCloseCommit State.onGov
  refine nextGov ?_
  dsimp only
  rw [found]
  dsimp only
  rw [due]
  exact if_pos runs

/-- What an open leaves and answers, where no fence is armed on it. -/
theorem Gov.openAccount_opens {g : Gov} {o : OpenReq} {tick : Nat} (small : tick < 2 ^ 64) (unarmed : ∀ p ∈ g.cmd.armed, p.1 ≠ .acctOpen o.acct) :
    (∀ p, 0x3100 ≤ p → (g.openAccount o tick).word p = (g.opened o tick).word p) ∧ (g.openAccount o tick).led = (g.opened o tick).led ∧
      ∀ r, g.req o.chan = some r → r.phase = .serving → pkOpcode r.words = 0x20 → r.doom = none → (g.openAccount o tick).replied o.chan r.words stOk [tick % 2 ^ 32, tick / 2 ^ 32] := by
  have high : tick / 2 ^ 32 % 2 ^ 32 = tick / 2 ^ 32 := Nat.mod_eq_of_lt (by omega)
  rw [Gov.openAccount_eq, Gov.fire_unarmed (by rw [Gov.opened_cmd]; exact unarmed), high]
  exact ⟨fun p far => Gov.answerWaiting_word _ _ _ o.chan.isLt (by simp) far, besideCmd_led (Gov.answerWaiting_besideCmd _ _ _ _),
    fun r req => Gov.answerWaiting_replied _ _ _ o.chan.isLt (by simp) ((Gov.req_of_cmd (g.opened_cmd o tick) _).trans req)⟩

/-- What a close leaves and answers, where no fence is armed on it. -/
theorem Gov.closeAccount_closes {g : Gov} {c : CloseReq} {tick : Nat} (inside : c.acct < 256) (small : tick < 2 ^ 64) (unarmed : ∀ p ∈ g.cmd.armed, p.1 ≠ .acctClose c.acct) :
    (∀ p, 0x3100 ≤ p → (g.closeAccount c tick).word p = (g.closed c tick).word p) ∧ (g.closeAccount c tick).led = (g.closed c tick).led ∧ (g.closeAccount c tick).fcu = (g.closed c tick).fcu ∧
      ∀ r, g.req c.chan = some r → r.phase = .serving → pkOpcode r.words = 0x21 → r.doom = none →
        (g.closeAccount c tick).replied c.chan r.words stOk (g.shownEnergy c.acct (W.ACC_ENERGY c.acct) ++ [tick % 2 ^ 32, tick / 2 ^ 32, if c.stmt = true then g.freeSlot + 256 else 0]) := by
  have high : tick / 2 ^ 32 % 2 ^ 32 = tick / 2 ^ 32 := Nat.mod_eq_of_lt (by omega)
  have slot : (if c.stmt = true then (g.closed c tick).get (F.ACC_STMT_SLOT c.acct) + 256 else 0) = if c.stmt = true then g.freeSlot + 256 else 0 := by
    split
    next yes => rw [Gov.closed_slot yes inside]
    next => rfl
  have two : (g.shownEnergy c.acct (W.ACC_ENERGY c.acct)).length = 2 := by
    unfold Gov.shownEnergy
    split <;> rfl
  have short (x y z : Nat) : (g.shownEnergy c.acct (W.ACC_ENERGY c.acct) ++ [x, y, z]).length ≤ 61 := by simp [two]
  rw [Gov.closeAccount_eq, Gov.fire_unarmed (by rw [Gov.closed_cmd]; exact unarmed), high]
  dsimp only
  rw [slot, Gov.closed_shownEnergy inside]
  exact ⟨fun p far => Gov.answerWaiting_word _ _ _ c.chan.isLt (short _ _ _) far, besideCmd_led (Gov.answerWaiting_besideCmd _ _ _ _), besideCmd_fcu (Gov.answerWaiting_besideCmd _ _ _ _),
    fun r req => Gov.answerWaiting_replied _ _ _ c.chan.isLt (short _ _ _) ((Gov.req_of_cmd Gov.closed_cmd _).trans req)⟩

end Sys2Proof.Machine

open Sys2Proof Sys2Proof.Machine

/-- Settles O52: a command is refused, or recorded and left in service (`Gov.later_kept`); the open and the close are the changes `Gov.opened` and `Gov.closed` followed by the waiting request's answer. -/
theorem accountCommands : Obligations.AccountCommands := by
  intro n ws t s g0 a kept
  have hn := n.isLt
  refine ⟨fun serves count => ?_, fun serves count => ?_, fun serves count => ?_, fun a o tick runs found comes small cls fact fpwr tag unarmed => ?_, fun a c tick runs found due small _ unarmed => ?_⟩
  · intro o blocked fits
    obtain ⟨r, req, words⟩ := Gov.serves_req serves
    have stops : (g0.get (F.ACC_STAT_STATE a) = 1 ∨ (g0.led.opens.any fun o => o.acct == a) = true ∨ g0.flag F.IDL_STAT_ALIGN_PEND = true) ↔ blocked := by simp [blocked]
    refine ⟨fun no => ?_, fun yes short => ?_, fun yes ok => ?_⟩
    · exact served_completes rfl serves count (if_pos (stops.2 no)) (g0.refused_led hn ws (by decide))
    · have exceeds : o.cls = 0 ∧ g0.act F.LIM_LC_BUDGET_BUDGET < g0.floorPower + o.fpwr := by simpa [fits] using short
      exact served_completes rfl serves count ((if_neg (mt stops.1 yes)).trans (if_pos exceeds)) (g0.refused_led hn ws (by decide))
    · have within : ¬ (o.cls = 0 ∧ g0.act F.LIM_LC_BUDGET_BUDGET < g0.floorPower + o.fpwr) := by simpa [fits] using ok
      obtain ⟨held, armed⟩ := Gov.later_kept (h := g0.withLed { g0.led with opens := g0.led.opens ++ [o] }) (.acctOpen a) req words rfl fun _ _ => rfl
      exact served_completes rfl serves count ((if_neg (mt stops.1 yes)).trans (if_neg within)) ⟨Gov.later_led _ _ _ _, held, armed⟩
  · intro c blocked full
    obtain ⟨r, req, words⟩ := Gov.serves_req serves
    have stops : (g0.get (F.ACC_STAT_STATE a) ≠ 1 ∨ (g0.led.closes.any fun c => c.acct == a) = true) ↔ blocked := by simp [blocked]
    refine ⟨fun no => ?_, fun yes no => ?_, fun yes room => ?_⟩
    · exact served_completes rfl serves count (if_pos (stops.2 no)) (g0.refused_led hn ws (by decide))
    · exact served_completes rfl serves count ((if_neg (mt stops.1 yes)).trans (if_pos no)) (g0.refused_led hn ws (by decide))
    · obtain ⟨held, armed⟩ := Gov.later_kept (h := g0.withLed { g0.led with closes := g0.led.closes ++ [c] }) (.acctClose a) req words rfl fun _ _ => rfl
      exact served_completes rfl serves count ((if_neg (mt stops.1 yes)).trans (if_neg room)) ⟨Gov.later_led _ _ _ _, held, armed⟩
  · have code : (if g0.flag (F.ACC_STAT_POISON a) = true then stPoisoned else stOk) < 256 := by split <;> decide
    exact served_completes rfl serves count rfl (Gov.answer_answered hn ws code (by simp [Gov.wordsAt]) fun _ _ => rfl)
  · have acct : o.acct = a.val := by simpa using List.find?_some found
    rw [← acct] at unarmed ⊢
    obtain ⟨word, led, replied⟩ := Gov.openAccount_opens small unarmed
    obtain ⟨state, clas, floor, power⟩ := g0.freshBlock_fields cls fact fpwr
    have field {f : Fld} (mine : f.off = W.ACC_STAT o.acct ∨ f.off = W.ACC_FLOOR o.acct) : (g0.openAccount o tick).get f = (g0.freshBlock o).get f :=
      Gov.get_congr ((word _ (by simp only [W.ACC_STAT, W.ACC_FLOOR] at mine; omega)).trans (g0.opened_word tick tag (.inl (by simp only [W.ACC_STAT, W.ACC_FLOOR] at mine; simp only [W.ACC_TAG]; omega))))
    have wide {p : Nat} (far : 0x3100 ≤ p) : (g0.openAccount o tick).get64 p = (g0.opened o tick).get64 p := Gov.get64_congr (word _ far) (word _ (by omega))
    exact ⟨_, accountOpenTick_next runs found comes, (field (.inl rfl)).trans state, (field (.inl rfl)).trans clas, (field (.inr rfl)).trans floor, (field (.inr rfl)).trans power,
      (wide (by simp only [W.ACC_TSTART]; omega)).trans (g0.opened_tstart o small), (wide (by simp only [W.ACC_ENERGY]; omega)).trans (g0.opened_zero64 tick tag (k := 10) (by decide) (by decide) (by simp only [W.ACC_ENERGY, W.ACC_STAT]; omega)),
      (wide (by simp only [W.ACC_LEAK]; omega)).trans (g0.opened_zero64 tick tag (k := 12) (by decide) (by decide) (by simp only [W.ACC_LEAK, W.ACC_STAT]; omega)), (congrArg LedSt.opens led).trans (g0.opened_opens o tick), replied⟩
  · have acct : c.acct = a.val := by simpa using List.find?_some found
    have inside : c.acct < 256 := acct ▸ a.isLt
    rw [← acct] at unarmed ⊢
    obtain ⟨word, led, fcu, replied⟩ := Gov.closeAccount_closes inside small unarmed
    obtain ⟨state, stmt, tend, total⟩ := Gov.closed_marks (g := g0) inside small
    have wide {p : Nat} (far : 0x3100 ≤ p) : (g0.closeAccount c tick).get64 p = (g0.closed c tick).get64 p := Gov.get64_congr (word _ far) (word _ (by omega))
    refine ⟨_, accountCloseCommit_next runs found due, (Gov.get_congr (word _ ?_)).trans state, (wide ?_).trans tend, (Gov.get_congr (word _ ?_)).trans stmt, (congrArg LedSt.closes led).trans Gov.closed_closes,
      (wide ?_).trans total, ?_, fun no => ?_, fun yes => ?_, replied⟩
    · simp only [F.ACC_STAT_STATE]; omega
    · simp only [W.ACC_TEND]; omega
    · simp only [F.ACC_STAT_STMT_REQ]; omega
    · decide
    · rw [fcu]
      exact Gov.closed_table
    · rw [led, Gov.closed_unasked no]
    · rw [led]
      exact Gov.closed_asked yes
end
section
namespace Sys2Proof.Machine

/-! ### Moving in time leaves the power inputs alone (R32) -/

@[simp] theorem Gov.sset_powered (g : Gov) (f : Fld) (v : Int) : (g.sset f v).powered = g.powered := (rfl)
@[simp] theorem Gov.withNow_powered (g : Gov) (x : Nat) : (g.withNow x).powered = g.powered := (rfl)
@[simp] theorem Gov.withFree_powered (g : Gov) (x : Nat) : (g.withFree x).powered = g.powered := (rfl)
@[simp] theorem Gov.withEng_powered (g : Gov) (x : EngSt) : (g.withEng x).powered = g.powered := (rfl)
@[simp] theorem Gov.withSns_powered (g : Gov) (x : SnsSt) : (g.withSns x).powered = g.powered := (rfl)
@[simp] theorem Gov.withTrc_powered (g : Gov) (x : TrcSt) : (g.withTrc x).powered = g.powered := (rfl)
@[simp] theorem Gov.setRgn_powered (g : Gov) (k : Nat) (f : RegionSt → RegionSt) : (g.setRgn k f).powered = g.powered := (rfl)
@[simp] theorem Gov.setAns_powered (g : Gov) (b : Nat) (f : BerthAns → BerthAns) : (g.setAns b f).powered = g.powered := (rfl)
@[simp] theorem Gov.psStep_powered (g : Gov) (n : Nat) : (g.psStep n).powered = g.powered := (rfl)
@[simp] theorem Gov.setLate_powered (g : Gov) (l : LateSt) : (g.setLate l).powered = g.powered := (rfl)
@[simp] theorem Gov.writeWords_powered (g : Gov) (o : Nat) (ws : List Nat) : (g.writeWords o ws).powered = g.powered := Gov.powered_of_besideCmd (g.writeWords_besideCmd o ws)
@[simp] theorem Gov.fire_powered (g : Gov) (e : SigEvent) : (g.fire e).powered = g.powered := Gov.powered_of_besideCmd (g.fire_besideCmd e)
@[simp] theorem Gov.takeUp_powered (g : Gov) : g.takeUp.powered = g.powered := Gov.powered_of_besideCmd g.takeUp_besideCmd

theorem Gov.powered_ite {c : Prop} [Decidable c] {g h k : Gov} (yes : h.powered = g.powered) (no : k.powered = g.powered) : (if c then h else k).powered = g.powered := by
  split <;> assumption

/-! Step 4. -/

@[simp] theorem Gov.setLive_powered (g : Gov) (o : Nat) (w : Word) : (g.setLive o w).powered = g.powered := by simp [Gov.setLive, apply_ite Gov.powered]

@[simp] theorem Gov.overrunSlots_powered (g : Gov) : g.overrunSlots.2.powered = g.powered := by
  unfold Gov.overrunSlots
  dsimp only
  split <;> rfl

@[simp] theorem Gov.executed_powered (g : Gov) (rs : List LoopRes) (late : List Nat) : (g.executed rs late).2.powered = g.powered := by
  unfold Gov.executed
  dsimp only
  split <;> rfl

@[simp] theorem Gov.idleCycles_powered (g : Gov) (steps tbls : Nat) : (g.idleCycles steps tbls).2.powered = g.powered := by
  unfold Gov.idleCycles
  dsimp only
  split <;> rfl

@[simp] theorem Gov.overrun_powered (g : Gov) (k : Nat) : (g.overrun k).powered = g.powered := by simp [Gov.overrun]

@[simp] theorem Gov.commitLoop_powered (g : Gov) (written : List Nat) (r : LoopRes) : (g.commitLoop written r).powered = g.powered := by
  unfold Gov.commitLoop
  cases r.s0 <;> cases r.s1 <;> simp [apply_ite Gov.powered]

@[simp] theorem Gov.closeLoops_powered (g : Gov) (lanes written : List Nat) : (g.closeLoops lanes written).2.powered = g.powered := by
  simp [Gov.closeLoops, apply_ite Gov.powered]

@[simp] theorem Gov.stepFour_powered (g : Gov) (l : LateSt) : (g.stepFour l).powered = g.powered := by simp [Gov.stepFour]

/-! Step 5. -/

@[simp] theorem Gov.setWon_powered (g : Gov) (winners : List Nat) : (g.setWon winners).powered = g.powered := by simp [Gov.setWon]

@[simp] theorem Gov.arbitrate_powered (g : Gov) (idx : Nat) (bad : List (Nat × Nat)) : (g.arbitrate idx bad).powered = g.powered := by
  simp [Gov.arbitrate, apply_ite Gov.powered]

@[simp] theorem Gov.endSteady_powered (g : Gov) : g.endSteady.powered = g.powered := by simp [Gov.endSteady]

@[simp] theorem Gov.steadyBreak_powered (g : Gov) (idx : Nat) : (g.steadyBreak idx).powered = g.powered := by
  unfold Gov.steadyBreak
  split
  · rfl
  · extract_lets low slow word
    clear_value word
    cases word <;> simp

@[simp] theorem Gov.settleEntries_powered (g : Gov) : g.settleEntries.powered = g.powered := by
  simp [Gov.settleEntries, Gov.expireEntries, apply_ite Gov.powered]

@[simp] theorem Gov.dropHint_powered (g : Gov) (k : Nat) : (g.dropHint k).powered = g.powered := by simp [Gov.dropHint]

@[simp] theorem Gov.settleHints_powered (g : Gov) : g.settleHints.powered = g.powered :=
  Gov.each_powered (fun g h => by split <;> simp [apply_ite Gov.powered]) g _

@[simp] theorem Gov.freeEntry_powered (g : Gov) (e : BadEntry) : (g.freeEntry e).powered = g.powered := by simp [Gov.freeEntry, apply_ite Gov.powered]

@[simp] theorem Gov.stepFive_powered (g : Gov) (l : LateSt) : (g.stepFive l).powered = g.powered := by simp [Gov.stepFive, Gov.runLoops]

/-! Step 6. -/

@[simp] theorem Gov.dropSnap_powered (g : Gov) (b : Nat) : (g.dropSnap b).powered = g.powered := by simp [Gov.dropSnap, apply_ite Gov.powered]

@[simp] theorem Gov.formTargets_powered (g : Gov) (snaps : List Snap) : (g.formTargets snaps).powered = g.powered := by simp [Gov.formTargets]

@[simp] theorem Gov.publishForecast_powered (g : Gov) (classes : List Nat) (snaps : List Snap) (r : Nat) : (g.publishForecast classes snaps r).powered = g.powered := by
  unfold Gov.publishForecast
  dsimp only
  split <;> simp

@[simp] theorem Gov.showStage_powered (g : Gov) (x : Snap) : (g.showStage x).powered = g.powered := by simp [Gov.showStage]

@[simp] theorem Gov.selectEntry_powered (g : Gov) (r : Nat) : (g.selectEntry r).powered = g.powered := by
  simp [Gov.selectEntry, Gov.followVsel, apply_ite Gov.powered]

@[simp] theorem Gov.addPhases_powered (g : Gov) (r n : Nat) : (g.addPhases r n).powered = g.powered := by simp [Gov.addPhases, apply_ite Gov.powered]

@[simp] theorem Gov.beginShed_powered (g : Gov) (r : Nat) : (g.beginShed r).powered = g.powered := by
  unfold Gov.beginShed
  split <;> simp

@[simp] theorem Gov.phaseCounts_powered (g : Gov) (r : Nat) : (g.phaseCounts r).powered = g.powered := by simp [Gov.phaseCounts, apply_ite Gov.powered]

@[simp] theorem Gov.imbalance_powered (g : Gov) (r : Nat) : (g.imbalance r).powered = g.powered := by simp [Gov.imbalance, apply_ite Gov.powered]

@[simp] theorem Gov.regulatorStep_powered (g : Gov) : g.regulatorStep.powered = g.powered := by simp [Gov.regulatorStep, apply_ite Gov.powered]

@[simp] theorem Gov.trimStep_powered (g : Gov) : g.trimStep.powered = g.powered := by simp [Gov.trimStep]

@[simp] theorem Gov.stepSix_powered (g : Gov) (l : LateSt) : (g.stepSix l).powered = g.powered := by
  simp [Gov.stepSix, Gov.psTargets, Gov.withWords, apply_ite Gov.powered]

/-! Step 7. -/

@[simp] theorem Gov.setBuf_powered (g : Gov) (n : Nat) (b : TraceBuf) : (g.setBuf n b).powered = g.powered := by simp [Gov.setBuf]

@[simp] theorem Gov.record_powered (g : Gov) (n : Nat) (stop : Bool) (idx kind index v0 v1 : Nat) : (g.record n stop idx kind index v0 v1).powered = g.powered := by
  have lost (b : TraceBuf) : ((g.inc (F.TRC_LOST_COUNT n)).setBuf n b).powered = g.powered := (Gov.setBuf_powered _ _ _).trans (g.inc_powered _ _)
  exact Gov.powered_ite (g.setBuf_powered _ _) (Gov.powered_ite (g.mark_powered _) (Gov.powered_ite (lost _) (lost _)))

@[simp] theorem Gov.traceSample_powered (g : Gov) (idx : Nat) (cfg : List Nat) (sensed : List (Nat × Nat × Nat)) : (g.traceSample idx cfg sensed).powered = g.powered := by
  simp [Gov.traceSample, apply_ite Gov.powered]

@[simp] theorem Gov.watchValue_powered (g : Gov) (x : WatchHit) (var : Nat) : (g.watchValue x var).2.powered = g.powered := by
  have drawn : g.draw.2.powered = g.powered := rfl
  unfold Gov.watchValue
  cases x.res <;> simp [apply_ite Prod.snd, apply_ite Gov.powered, drawn]

@[simp] theorem Gov.watchSample_powered (g : Gov) (idx : Nat) (cfg : List Nat) (ran : List LoopRes) (gone : List Nat) : (g.watchSample idx cfg ran gone).powered = g.powered := by
  simp [Gov.watchSample, apply_ite Gov.powered]

@[simp] theorem Gov.stepSeven_powered (g : Gov) (l : LateSt) : (g.stepSeven l).powered = g.powered := by simp [Gov.stepSeven]

theorem Gov.lateStep_powered (g : Gov) (l : LateSt) : (g.lateStep l).powered = g.powered := by
  unfold Gov.lateStep Gov.withCode
  dsimp only
  split <;> split <;> simp

/-! Answers. -/

@[simp] theorem Gov.countHold_powered (g : Gov) : g.countHold.powered = g.powered := by simp [Gov.countHold, apply_ite Gov.powered]

@[simp] theorem Gov.refusal_powered (g : Gov) (b rsn : Nat) : (g.refusal b rsn).2.powered = g.powered := by simp [Gov.refusal, Gov.refusalRecord]

@[simp] theorem Gov.drive_powered (g : Gov) (code : Nat) : (g.drive code).powered = g.powered := by simp [Gov.drive]

@[simp] theorem Gov.runCodes_powered (g : Gov) : g.runCodes.powered = g.powered := by simp [Gov.runCodes]

@[simp] theorem Gov.beginExit_powered (g : Gov) (causes : Nat) (replayed : Bool) : (g.beginExit causes replayed).powered = g.powered := by simp [Gov.beginExit, apply_ite Gov.powered]

@[simp] theorem Gov.endRevert_powered (g : Gov) : g.endRevert.powered = g.powered := by simp [Gov.endRevert, apply_ite Gov.powered]

/-- The refusals' records, one after another. -/
@[simp] theorem Gov.refusals_powered (rs : List (Nat × Nat)) (acc : List Nat × Gov) :
    (rs.foldl (fun (acc : List Nat × Gov) p => ((acc.1 ++ [(acc.2.refusal p.1 p.2).1]), (acc.2.refusal p.1 p.2).2)) acc).2.powered = acc.2.powered := by
  induction rs generalizing acc with
  | nil => rfl
  | cons p rs ih => exact (ih _).trans (acc.2.refusal_powered p.1 p.2)

@[simp] theorem Gov.abortEntry_powered (g : Gov) (rs : List (Nat × Nat)) : (g.abortEntry rs).powered = g.powered := by
  simp [Gov.abortEntry, Gov.answerPs_powered, apply_ite Gov.powered]

@[simp] theorem Gov.commitEntry_powered (g : Gov) : g.commitEntry.powered = g.powered := by
  simp [Gov.commitEntry, Gov.answerPs_powered, apply_ite Gov.powered]

@[simp] theorem Gov.endExit_powered (g : Gov) : g.endExit.powered = g.powered := by simp [Gov.endExit]

theorem Gov.lateAnswers_powered (g : Gov) : g.lateAnswers.powered = g.powered := by simp [Gov.lateAnswers, Gov.weigh, apply_ite Gov.powered]

/-! Moving in time. -/

@[simp] theorem Gov.settlePower_powered (g : Gov) : g.settlePower.powered = g.powered := by simp [Gov.settlePower, apply_ite Gov.powered]

@[simp] theorem Gov.passTo_powered (g : Gov) (t : Nat) : (g.passTo t).powered = g.powered := by
  simp [Gov.passTo, Gov.settleClocks, Gov.runClocks, Gov.noteCross, apply_ite Gov.powered]

theorem Gov.takeInner_powered (g : Gov) (at_ : Nat) (x : Inner) : (g.takeInner at_ x).powered = g.powered := by
  cases x with
  | path l => simp [Gov.takeInner, Gov.lateStep_powered]
  | low => simp [Gov.takeInner, Gov.lateAnswers_powered]

theorem Gov.catchUp_powered (g : Gov) (fuel till : Nat) : (g.catchUp fuel till).powered = g.powered := by
  induction fuel generalizing g with
  | zero => rfl
  | succ fuel ih =>
    unfold Gov.catchUp
    split
    · rfl
    · exact (ih _).trans (g.takeInner_powered _ _)

/-- Moving to an instant leaves the power inputs alone. -/
theorem Gov.reach_powered (g : Gov) (t : Fin 250) : (g.reach t).powered = g.powered := by
  simp [Gov.reach, Gov.moveTo, Gov.catchUp_powered]

end Sys2Proof.Machine
end
section
namespace Sys2Proof.Machine

/-! ### A pilot is held in reset and restarted (R339, R340, R349) -/

/-- The firmware's record once pilot k waits for its reload: its turn is now, or after the pilots that wait. -/
def FirmSt.reloads (x : FirmSt) (k : Nat) : FirmSt :=
  match x.cur with
  | none => { x with cur := some k }
  | some _ => { x with waiting := sortBy (fun n => n) (x.waiting ++ [k]) }

theorem FirmSt.reloads_turn (x : FirmSt) (k : Nat) : (x.cur = none → (x.reloads k).cur = some k) ∧ ∀ j, x.cur = some j → (x.reloads k).cur = some j ∧ k ∈ (x.reloads k).waiting := by
  unfold FirmSt.reloads
  cases x.cur with
  | none => exact ⟨fun _ => rfl, fun j own => by cases own⟩
  | some i => exact ⟨fun free => absurd free (by simp), fun j own => ⟨own, (mem_sortBy _ _ _).2 (by simp)⟩⟩

/-- A pilot held in reset: its state, its turn, and the requests, buffers and answers it drops, which are no words. -/
theorem Gov.haltPilot_holds (g : Gov) (k : Nat) : ∃ h : Gov, (∀ f, h.get f = g.get f) ∧ (g.haltPilot k).firm = g.firm.reloads k ∧ ∀ f, (g.haltPilot k).get f = (h.set (F.FWP_PSTATE_STATE k) 3).get f := by
  unfold Gov.haltPilot
  extract_lets mine reqs _ condemned _ halted held record
  have get (f : Fld) : halted.get f = g.get f := by
    unfold halted
    split <;> rfl
  have firm : held.firm = g.firm := by
    unfold held halted
    split <;> rfl
  refine ⟨halted, get, ?_⟩
  have same : record = g.firm := firm
  clear_value record
  subst same
  rw [firm, FirmSt.reloads]
  cases g.firm.cur with
  | none => exact ⟨rfl, fun _ => rfl⟩
  | some _ => exact ⟨rfl, fun _ => rfl⟩

/-- The words that a restart of pilot k writes. -/
def restartFields (k : Nat) : List Fld := [F.FWP_PSTATE_STATE k, F.FWP_RST_CNT_COUNT k, F.FWP_RST_LAST_PILOT, F.FWP_RST_LAST_CAUSE] ++ logFields

/-- The restart of pilot k is counted and the pilot noted. -/
def Gov.countRestart (g : Gov) (k : Nat) : Gov := (g.inc (F.FWP_RST_CNT_COUNT k)).set F.FWP_RST_LAST_PILOT k

/-- The restart of pilot k is counted, noted with its cause, and logged. -/
def Gov.noteRestart (g : Gov) (k cause : Nat) : Gov := ((g.countRestart k).set F.FWP_RST_LAST_CAUSE cause).log (g.countRestart k).now 0xC [k + cause * 2 ^ 8]

theorem Gov.restartPilot_runs {g : Gov} {k : Nat} (cause : Nat) (runs : g.get (F.FWP_PSTATE_STATE k) ≠ 3) :
    g.restartPilot k cause = (g.noteRestart k cause).haltPilot k := if_neg runs

section
variable (g : Gov) (k cause : Nat)

theorem Gov.noteRestart_get {f : Fld} (out : (restartFields k).all f.apart = true) : (g.noteRestart k cause).get f = g.get f := by
  simp only [restartFields, List.all_append, List.all_cons, List.all_nil, Bool.and_true, Bool.and_eq_true] at out
  obtain ⟨⟨-, count, pilot, why⟩, logged⟩ := out
  rw [Gov.noteRestart, Gov.log_get _ _ _ _ logged, Gov.get_set_apart _ _ why, Gov.countRestart, Gov.get_set_apart _ _ pilot, Gov.inc_eq, Gov.get_set_apart _ _ count]

theorem Gov.restartPilot_get {f : Fld} (out : (restartFields k).all f.apart = true) : (g.restartPilot k cause).get f = g.get f := by
  by_cases runs : g.get (F.FWP_PSTATE_STATE k) = 3
  · exact congrArg (fun h : Gov => h.get f) (if_pos runs)
  · have state : f.apart (F.FWP_PSTATE_STATE k) = true := List.all_eq_true.1 out _ (by simp [restartFields])
    obtain ⟨h, same, -, get⟩ := (g.noteRestart k cause).haltPilot_holds k
    rw [Gov.restartPilot_runs cause runs, get, Gov.get_set_apart _ _ state, same, g.noteRestart_get k cause out]

end

/-- Pilot k is restarted for a cause: RESTARTING, counted, and noted with its cause. -/
structure Gov.Restarted (g g' : Gov) (k cause : Nat) : Prop where
  state : g'.get (F.FWP_PSTATE_STATE k) = 3
  count : g'.get (F.FWP_RST_CNT_COUNT k) = usat 32 (g.get (F.FWP_RST_CNT_COUNT k) + 1)
  pilot : g'.get F.FWP_RST_LAST_PILOT = k
  why   : g'.get F.FWP_RST_LAST_CAUSE = cause

theorem Gov.noteRestart_noted (g : Gov) {k cause : Nat} (hk : k < 3) (small : cause < 256) :
    (g.noteRestart k cause).get (F.FWP_RST_CNT_COUNT k) = usat 32 (g.get (F.FWP_RST_CNT_COUNT k) + 1) ∧ (g.noteRestart k cause).get F.FWP_RST_LAST_PILOT = k ∧ (g.noteRestart k cause).get F.FWP_RST_LAST_CAUSE = cause := by
  have logged {f : Fld} (low : f.off < 0x50000) : (g.noteRestart k cause).get f = ((g.countRestart k).set F.FWP_RST_LAST_CAUSE cause).get f :=
    Gov.log_get _ _ _ _ (by simp [logFields, Fld.apart, F.FLT_LOG_HEAD_HEAD, F.FLT_LOG_OVF_COUNT]; omega)
  refine ⟨?_, ?_, ?_⟩
  · rw [logged (by simp only [F.FWP_RST_CNT_COUNT]; omega), Gov.get_set_apart _ _ (by simp [Fld.apart, F.FWP_RST_CNT_COUNT, F.FWP_RST_LAST_CAUSE]; omega), Gov.countRestart,
      Gov.get_set_apart _ _ (by simp [Fld.apart, F.FWP_RST_CNT_COUNT, F.FWP_RST_LAST_PILOT]; omega), Gov.get_inc32 _ _ ⟨rfl, rfl⟩]
  · rw [logged (by decide), Gov.get_set_apart _ _ (by decide), Gov.countRestart, Gov.get_set_self _ _ (by decide)]
    exact Nat.mod_eq_of_lt (by simp only [F.FWP_RST_LAST_PILOT]; omega)
  · rw [logged (by decide), Gov.get_set_self _ _ (by decide)]
    exact Nat.mod_eq_of_lt small

theorem Gov.noteRestart_firm (g : Gov) (k cause : Nat) : (g.noteRestart k cause).firm = g.firm :=
  (besideFlt_firm (Gov.log_besideFlt _ _ _ _)).trans (by simp [Gov.countRestart])

theorem Gov.restartPilot_restarted {g : Gov} {k cause : Nat} (hk : k < 3) (small : cause < 256) (up : g.pilotUp k = true) :
    g.Restarted (g.restartPilot k cause) k cause ∧ (g.restartPilot k cause).firm = g.firm.reloads k := by
  have runs : g.get (F.FWP_PSTATE_STATE k) ≠ 3 := by
    rw [show g.get (F.FWP_PSTATE_STATE k) = 2 from beq_iff_eq.1 up]
    decide
  obtain ⟨count, pilot, why⟩ := g.noteRestart_noted hk small
  obtain ⟨h, same, turn, get⟩ := (g.noteRestart k cause).haltPilot_holds k
  have noted {f : Fld} (state : f.apart (F.FWP_PSTATE_STATE k) = true) : ((g.noteRestart k cause).haltPilot k).get f = (g.noteRestart k cause).get f := by
    rw [get, Gov.get_set_apart _ _ state, same]
  rw [Gov.restartPilot_runs cause runs]
  refine ⟨⟨?_, (noted ?_).trans count, (noted ?_).trans pilot, (noted ?_).trans why⟩, turn.trans (by rw [Gov.noteRestart_firm])⟩
  · rw [get, Gov.get_set_self _ _ (by simp only [F.FWP_PSTATE_STATE]; omega)]
    rfl
  · simp [Fld.apart, F.FWP_RST_CNT_COUNT, F.FWP_PSTATE_STATE]; omega
  · simp [Fld.apart, F.FWP_RST_LAST_PILOT, F.FWP_PSTATE_STATE]
  · simp [Fld.apart, F.FWP_RST_LAST_CAUSE, F.FWP_PSTATE_STATE]

/-! ### Failures (R320, R339) -/

/-- A state that a failing pilot's source is raised in: the words below the fault words and the firmware's record are as they were. -/
structure Gov.Raised (g h : Gov) (src : Nat) : Prop where
  get    : ∀ f : Fld, f.off < 0x50000 → h.get f = g.get f
  firm   : h.firm = g.firm
  source : h.flag (F.FLT_STATUS_bit src) = true

theorem Gov.raised_raise {g : Gov} {src : Nat} (detail : Nat) (high : 256 ≤ src) (awake : g.asleep = false) : g.Raised (g.raise src detail) src where
  get _ low := g.raise_get _ _ _ awake (raiseFields_low _ low)
  firm := besideFlt_firm (g.raise_besideFlt _ _ _ awake)
  source := g.raise_flag _ _ _ awake (.inl high)

theorem Gov.raised_logRaise {g : Gov} {src : Nat} (time type : Nat) (ps : List Nat) (detail : Nat) (high : 256 ≤ src) (awake : g.asleep = false) : g.Raised ((g.log time type ps).raise src detail) src := by
  have kept {f : Fld} (low : f.off < 0x50000) : (g.log time type ps).get f = g.get f :=
    Gov.log_get _ _ _ _ (by simp [logFields, Fld.apart, F.FLT_LOG_HEAD_HEAD, F.FLT_LOG_OVF_COUNT]; omega)
  obtain ⟨get, firm, source⟩ := Gov.raised_raise detail high ((Gov.asleep_of_get (kept (by decide))).trans awake)
  exact ⟨fun f low => (get f low).trans (kept low), firm.trans (besideFlt_firm (Gov.log_besideFlt _ _ _ _)), source⟩

/-- A failed pilot is restarted for its cause with its source raised, and reloaded now or in turn. -/
theorem Gov.Raised.restarts {g h : Gov} {src k cause : Nat} (raised : g.Raised h src) (hk : k < 3) (small : cause < 256) (area : 256 ≤ src ∧ src < 512) (up : g.pilotUp k = true) :
    g.Restarted (h.restartPilot k cause) k cause ∧ (h.restartPilot k cause).flag (F.FLT_STATUS_bit src) = true ∧
      (g.firm.cur = none → (h.restartPilot k cause).firm.cur = some k) ∧ ∀ j, g.firm.cur = some j → (h.restartPilot k cause).firm.cur = some j ∧ k ∈ (h.restartPilot k cause).firm.waiting := by
  have still : h.pilotUp k = true := (congrArg (· == 2) (raised.get _ (by simp [F.FWP_PSTATE_STATE]))).trans up
  obtain ⟨⟨state, count, pilot, why⟩, firm⟩ := Gov.restartPilot_restarted hk small still
  refine ⟨⟨state, count.trans ?_, pilot, why⟩, (congrArg (· != 0) (h.restartPilot_get k cause ?_)).trans raised.source, ?_⟩
  · rw [raised.get _ (by simp only [F.FWP_RST_CNT_COUNT]; omega)]
  · simp [restartFields, logFields, Fld.apart, F.FLT_STATUS_bit, F.FWP_PSTATE_STATE, F.FWP_RST_CNT_COUNT, F.FWP_RST_LAST_PILOT, F.FWP_RST_LAST_CAUSE, F.FLT_LOG_HEAD_HEAD, F.FLT_LOG_OVF_COUNT]
    omega
  · rw [firm, raised.firm]
    exact g.firm.reloads_turn k

/-! ### The next reload (R343, R349) -/

/-- The next reload takes the pilot that waits first. -/
theorem Gov.nextRestart_waiting {g : Gov} {j : Nat} {rest : List Nat} (waits : g.firm.waiting = j :: rest) : g.nextRestart.firm.cur = some j ∧ g.nextRestart.firm.waiting = rest := by
  unfold Gov.nextRestart
  rw [waits]
  exact ⟨rfl, rfl⟩

theorem Gov.nextRestart_none {g : Gov} (waits : g.firm.waiting = []) (rolls : g.firm.rolling = []) : g.nextRestart = g := by
  unfold Gov.nextRestart
  rw [waits, rolls]

/-- The next reload leaves the state of a pilot that is not the next of a rolling restart. -/
theorem Gov.nextRestart_state {g : Gov} {k : Nat} (other : g.firm.rolling.head? ≠ some k) : g.nextRestart.get (F.FWP_PSTATE_STATE k) = g.get (F.FWP_PSTATE_STATE k) := by
  unfold Gov.nextRestart
  split
  · rfl
  · split
    next j rest rolls =>
      have ne : j ≠ k := fun e => other (by rw [rolls, e]; rfl)
      refine Gov.restartPilot_get _ _ _ ?_
      simp [restartFields, logFields, Fld.apart, F.FWP_PSTATE_STATE, F.FWP_RST_CNT_COUNT, F.FWP_RST_LAST_PILOT, F.FWP_RST_LAST_CAUSE, F.FLT_LOG_HEAD_HEAD, F.FLT_LOG_OVF_COUNT]
      omega
    · rfl

/-! ### A reloaded pilot runs (R340, R341) -/

/-- What answers and the end of an update leave: the pilots' states and turns. -/
structure Gov.SameTurns (g h : Gov) : Prop where
  state   : ∀ k, h.get (F.FWP_PSTATE_STATE k) = g.get (F.FWP_PSTATE_STATE k)
  cur     : h.firm.cur = g.firm.cur
  waiting : h.firm.waiting = g.firm.waiting
  rolling : h.firm.rolling = g.firm.rolling

theorem Gov.SameTurns.refl (g : Gov) : g.SameTurns g := ⟨fun _ => rfl, rfl, rfl, rfl⟩
theorem Gov.SameTurns.trans {g h i : Gov} (a : g.SameTurns h) (b : h.SameTurns i) : g.SameTurns i :=
  ⟨fun k => (b.state k).trans (a.state k), b.cur.trans a.cur, b.waiting.trans a.waiting, b.rolling.trans a.rolling⟩

theorem Gov.sameTurns_of_firm {g h : Gov} (state : ∀ k, h.get (F.FWP_PSTATE_STATE k) = g.get (F.FWP_PSTATE_STATE k)) (firm : h.firm = g.firm) : g.SameTurns h :=
  ⟨state, congrArg FirmSt.cur firm, congrArg FirmSt.waiting firm, congrArg FirmSt.rolling firm⟩

theorem Gov.sameTurns_post (g : Gov) {n : Nat} (hn : n < 16) (ws : List Nat) (status : Nat) : g.SameTurns (g.post n ws status []) :=
  Gov.sameTurns_of_firm (fun k => Gov.post_get _ _ _ _ _ hn (by simp) (.inl (by simp [F.FWP_PSTATE_STATE]))) (besideCmd_firm (Gov.post_besideCmd _ _ _ _ _))

theorem Gov.sameTurns_answerLeft (g : Gov) (k : Nat) : g.SameTurns (g.answerLeft k) := by
  refine Gov.each_keeps_mem (P := fun h => g.SameTurns h) (pilotChannels k) (fun h n hn a => ?_) g (.refl g)
  have inside : n < 16 := List.mem_range.1 (List.mem_filter.1 hn).1
  split
  · split
    · exact a.trans (h.sameTurns_post inside _ _)
    · exact a.trans (h.sameTurns_post inside _ _)
  · exact a

theorem Gov.sameTurns_showImage (g : Gov) (m : Image) : g.SameTurns (g.showImage m) := by
  have firm : (g.showImage m).firm = { g.firm with image := m } := by simp [Gov.showImage, Gov.set64]
  refine ⟨fun k => ?_, by rw [firm], by rw [firm], by rw [firm]⟩
  unfold Gov.showImage
  dsimp only
  rw [Gov.withFirm_get, Gov.writeWords_get _ _ _ (.inr (by simp [F.FWP_PSTATE_STATE, W.FWP_DIGEST])), Gov.get_set_apart _ _ (by simp [Fld.apart, F.FWP_PSTATE_STATE, F.FWP_SVN_IMG_SVN])]
  exact Gov.get_congr ((Gov.word_set64 _ _ _ _ (by simp [F.FWP_PSTATE_STATE, W.FWP_FEAT]) (by simp [F.FWP_PSTATE_STATE, W.FWP_FEAT])).trans (Gov.word_set64 _ _ _ _ (by simp [F.FWP_PSTATE_STATE, W.FWP_VER]) (by simp [F.FWP_PSTATE_STATE, W.FWP_VER])))

theorem Gov.sameTurns_finishUpdate (g : Gov) : g.SameTurns g.finishUpdate := by
  have shown : g.SameTurns ((g.set F.FWP_UPD_USTATE 5).showImage g.firm.next) :=
    (Gov.sameTurns_of_firm (fun k => Gov.get_set_apart _ _ (by simp [Fld.apart, F.FWP_PSTATE_STATE, F.FWP_UPD_USTATE])) (Gov.set_firm _ _ _)).trans (Gov.sameTurns_showImage _ _)
  unfold Gov.finishUpdate
  dsimp only
  split
  · split
    · exact shown.trans (Gov.sameTurns_of_firm (fun k => Gov.answer_get _ _ _ _ _ (by decide) (by simp) (by simp [F.FWP_PSTATE_STATE, W.SUP_JOURNAL]) (.inl (by simp [F.FWP_PSTATE_STATE]))) (Gov.answer_firm _ _ _ _ _))
    · exact shown
  · exact shown

theorem Gov.sameTurns_sendNotice (g : Gov) : g.SameTurns g.sendNotice := by
  unfold Gov.sendNotice
  split
  · split
    · exact Gov.sameTurns_of_firm (fun _ => rfl) rfl
    · exact .refl g
  · exact .refl g

/-- The state in which a reloaded pilot has answered what was in flight. -/
def Gov.reloaded (g : Gov) (k : Nat) : Gov :=
  let h := g.set (F.FWP_PSTATE_STATE k) 2
  ((if k = 0 ∧ h.get F.FWP_UPD_USTATE = 3 ∧ h.firm.rolling = [] then h.finishUpdate else h).answerLeft k).takeUp

theorem Gov.pilotRuns_eq (g : Gov) (k : Nat) : g.pilotRuns k = (g.reloaded k).nextRestart := rfl

theorem Gov.sameTurns_reloaded (g : Gov) (k : Nat) : (g.set (F.FWP_PSTATE_STATE k) 2).SameTurns (g.reloaded k) := by
  have taken (h : Gov) : h.SameTurns h.takeUp := Gov.sameTurns_of_firm (fun _ => h.takeUp_get _) (besideCmd_firm h.takeUp_besideCmd)
  refine Gov.SameTurns.trans (Gov.SameTurns.trans ?_ (Gov.sameTurns_answerLeft _ k)) (taken _)
  split
  · exact Gov.sameTurns_finishUpdate _
  · exact .refl _

theorem Gov.pilotsOn_parts {g : Gov} (on : g.pilotsOn = true) : g.powered = true ∧ g.running = true ∧ g.asleep = false := by
  simp only [Gov.pilotsOn, Gov.up, Bool.and_eq_true, Bool.not_eq_true'] at on
  obtain ⟨⟨⟨powered, -⟩, running⟩, awake⟩ := on
  exact ⟨powered, running, awake⟩

/-- The state in which a reload has ended. -/
def Gov.unloaded (g : Gov) : Gov := g.withFirm { g.firm with cur := none }

section
variable {k : Fin 3} {t : Fin 250} {s : State} (on : (s.gov.reach t).pilotsOn = true) (cur : (s.gov.reach t).firm.cur = some k.val)
include on cur

/-- The guard of a completed reload looks for the power before the instant. -/
theorem restartComplete_passes : ¬ (!s.gov.powered ∨ !(s.gov.reach t).running ∨ (s.gov.reach t).asleep ∨ (s.gov.reach t).firm.cur ≠ some k.val) := by
  obtain ⟨powered, running, awake⟩ := Gov.pilotsOn_parts on
  rw [Gov.reach_powered] at powered
  simp [powered, running, awake, cur]

theorem restartComplete_runs (kept : (s.gov.reach t).get F.FWP_UPD_USTATE ≠ 1 ∧ (s.gov.reach t).get F.FWP_UPD_USTATE ≠ 2 ∧ sectionDigest s.keep.flash k = (s.gov.reach t).firm.image.secDig.getD k 0) :
    exec (.pilotRestartComplete k t) s = .next { s with gov := if k.val = 2 then ((s.gov.reach t).unloaded.pilotRuns k).sendNotice else (s.gov.reach t).unloaded.pilotRuns k } := by
  obtain ⟨receiving, verifying, same⟩ := kept
  exact nextGov ((if_neg (restartComplete_passes on cur)).trans (if_neg (not_or.2 ⟨receiving, not_or.2 ⟨verifying, not_not.2 same⟩⟩)))

theorem restartComplete_held (lost : ¬ ((s.gov.reach t).get F.FWP_UPD_USTATE ≠ 1 ∧ (s.gov.reach t).get F.FWP_UPD_USTATE ≠ 2 ∧ sectionDigest s.keep.flash k = (s.gov.reach t).firm.image.secDig.getD k 0)) :
    exec (.pilotRestartComplete k t) s = .next { s with gov := ((s.gov.reach t).unloaded.set (F.FWP_PSTATE_STATE k) 4).nextRestart } := by
  have other : (s.gov.reach t).get F.FWP_UPD_USTATE = 1 ∨ (s.gov.reach t).get F.FWP_UPD_USTATE = 2 ∨ sectionDigest s.keep.flash k ≠ (s.gov.reach t).firm.image.secDig.getD k 0 := by tauto
  exact nextGov ((if_neg (restartComplete_passes on cur)).trans (if_pos other))

end

theorem Gov.pstate_set (g : Gov) {k v : Nat} (hk : k < 3) (small : v < 8) : (g.set (F.FWP_PSTATE_STATE k) v).get (F.FWP_PSTATE_STATE k) = v :=
  (Gov.get_set_self _ _ (by simp only [F.FWP_PSTATE_STATE]; omega)).trans (Nat.mod_eq_of_lt small)

/-- A reloaded pilot runs, and the next one that waits is reloaded. -/
theorem Gov.pilotRuns_runs {g : Gov} {k : Nat} (hk : k < 3) (other : g.firm.rolling.head? ≠ some k) :
    (g.unloaded.pilotRuns k).get (F.FWP_PSTATE_STATE k) = 2 ∧ (g.firm.waiting = [] → g.firm.rolling = [] → (g.unloaded.pilotRuns k).firm.cur = none) ∧
      ∀ j rest, g.firm.waiting = j :: rest → (g.unloaded.pilotRuns k).firm.cur = some j ∧ (g.unloaded.pilotRuns k).firm.waiting = rest := by
  obtain ⟨state, cur, waiting, rolling⟩ := g.unloaded.sameTurns_reloaded k
  rw [Gov.pilotRuns_eq]
  refine ⟨?_, fun waits rolls => ?_, fun j rest waits => Gov.nextRestart_waiting (waiting.trans waits)⟩
  · rw [Gov.nextRestart_state (by rw [rolling]; exact other), state, Gov.pstate_set _ hk (by decide)]
  · rw [Gov.nextRestart_none (waiting.trans waits) (rolling.trans rolls), cur]
    rfl

/-- A reloaded pilot whose section the flash no longer holds is HELD, and the next one that waits is reloaded. -/
theorem Gov.unloaded_held {g : Gov} {k : Nat} (hk : k < 3) (other : g.firm.rolling.head? ≠ some k) :
    ((g.unloaded.set (F.FWP_PSTATE_STATE k) 4).nextRestart).get (F.FWP_PSTATE_STATE k) = 4 ∧
      ∀ j rest, g.firm.waiting = j :: rest → ((g.unloaded.set (F.FWP_PSTATE_STATE k) 4).nextRestart).firm.cur = some j ∧ ((g.unloaded.set (F.FWP_PSTATE_STATE k) 4).nextRestart).firm.waiting = rest := by
  have firm : (g.unloaded.set (F.FWP_PSTATE_STATE k) 4).firm = { g.firm with cur := none } := rfl
  refine ⟨?_, fun j rest waits => Gov.nextRestart_waiting (by rw [firm, waits])⟩
  rw [Gov.nextRestart_state (by rw [firm]; exact other), Gov.pstate_set _ hk (by decide)]

/-! ### Requests for a restart, and heartbeats (R339, R347) -/

theorem Gov.writeReg_pilots (g : Gov) {o : Nat} (w : Word) (which : o = W.FWP_RST_REQ ∨ o = W.SUP_HB_KICK) : g.writeReg o w = g.writePilots o w := by
  rcases which with rfl | rfl
  · rw [Gov.writeReg, if_neg (by decide)]
    simp [W.FWP_RST_REQ]
  · rw [Gov.writeReg, if_neg (by decide)]
    simp [W.SUP_HB_KICK]

theorem Gov.writePilots_kick (g : Gov) (w : Word) : g.writeReg W.SUP_HB_KICK w = accept (g.withFirm { g.firm with lastKick := g.now }) := by
  rw [g.writeReg_pilots w (.inr rfl)]
  rfl

/-- The pilots that FWP_RST_REQ names. -/
theorem bitList_pow {k : Nat} (hk : k < 3) : bitList 3 (2 ^ k) = [k] := by
  have each : ∀ k : Fin 3, bitList 3 (2 ^ k.val) = [k.val] := by decide
  exact each ⟨k, hk⟩

theorem Gov.writePilots_refused {g : Gov} {w : Word} {k : Nat} (names : field w 0 3 = 2 ^ k) (busy : g.get F.FWP_UPD_USTATE = 1 ∨ g.get F.FWP_UPD_USTATE = 2) :
    g.writeReg W.FWP_RST_REQ w = refuse (g.mark F.SUP_STAT_REFUSED) := by
  rw [g.writeReg_pilots w (.inl rfl)]
  exact (if_neg (by rw [names]; positivity)).trans (if_pos busy)

theorem Gov.writePilots_restart {g : Gov} {w : Word} {k : Nat} (hk : k < 3) (names : field w 0 3 = 2 ^ k) (on : g.pilotsOn = true) (up : g.pilotUp k = true) (receiving : g.get F.FWP_UPD_USTATE ≠ 1) (verifying : g.get F.FWP_UPD_USTATE ≠ 2) :
    g.writeReg W.FWP_RST_REQ w = accept (g.restartPilot k 5) := by
  have one : g.each (bitList 3 (field w 0 3)) (fun g k => if g.pilotsOn && g.pilotUp k then g.restartPilot k 5 else g) = g.restartPilot k 5 := by
    rw [names, bitList_pow hk]
    exact if_pos (by rw [on, up]; rfl)
  rw [g.writeReg_pilots w (.inl rfl), ← one]
  exact (if_neg (by rw [names]; positivity)).trans (if_neg (by tauto))

theorem Gov.markRefused_flag (g : Gov) : (g.mark F.SUP_STAT_REFUSED).flag F.SUP_STAT_REFUSED = true := by
  rw [Gov.mark_eq, Gov.flag_set_self _ _ (by decide)]
  rfl

theorem Gov.markRefused_only (g : Gov) : g.onlyFields (g.mark F.SUP_STAT_REFUSED) [F.SUP_STAT_REFUSED] := Gov.onlyFields_set 1 (g.onlyFields_refl _) (by simp)

/-- The restart's words do not hold OFF_WAKE. -/
theorem restartFields_offWake {k : Nat} (hk : k < 3) : (restartFields k).all F.PS_WAKE_STAT_OFF_WAKE.apart = true := by
  simp [restartFields, logFields, Fld.apart, F.PS_WAKE_STAT_OFF_WAKE, F.FWP_PSTATE_STATE, F.FWP_RST_CNT_COUNT, F.FWP_RST_LAST_PILOT, F.FWP_RST_LAST_CAUSE, F.FLT_LOG_HEAD_HEAD, F.FLT_LOG_OVF_COUNT]
  omega

/-! ### Harbour mode (R127, R347) -/

/-- The state in which a lapse has entered harbour mode. -/
def Gov.lapsed (g : Gov) : Gov := (((g.mark F.SUP_STAT_HARBOUR).mark F.SUP_STAT_HB_LAPSE).mark F.GOV_IRQ_SRC_HARBOUR).withLim { g.lim with harbour := true }

theorem heartbeatLapse_next {t : Fin 250} {s : State} (up : s.gov.up = true) (watched : (s.gov.reach t).firm.watched = true) (runs : (s.gov.reach t).get F.SUP_HB_HB_TMO ≠ 0) (out : (s.gov.reach t).flag F.SUP_STAT_HARBOUR = false)
    (late : (s.gov.reach t).firm.lastKick + (s.gov.reach t).get F.SUP_HB_HB_TMO * 1000000 ≤ (s.gov.reach t).now) : exec (.heartbeatLapse t) s = .next { s with gov := (s.gov.reach t).lapsed } :=
  nextGov (if_neg (by simp [up, watched, runs, out, late]))

theorem Gov.lapsed_flags (g : Gov) : g.lapsed.flag F.SUP_STAT_HARBOUR = true ∧ g.lapsed.flag F.SUP_STAT_HB_LAPSE = true ∧ g.lapsed.flag F.GOV_IRQ_SRC_HARBOUR = true := by
  simp only [Gov.lapsed, Gov.mark_eq, Gov.withLim_flag]
  refine ⟨?_, ?_, ?_⟩
  · rw [Gov.flag_set_apart _ _ (by decide), Gov.flag_set_apart _ _ (by decide), Gov.flag_set_self _ _ (by decide)]
    rfl
  · rw [Gov.flag_set_apart _ _ (by decide), Gov.flag_set_self _ _ (by decide)]
    rfl
  · rw [Gov.flag_set_self _ _ (by decide)]
    rfl

theorem Gov.lapsed_only (g : Gov) : g.onlyFields g.lapsed [F.SUP_STAT_HARBOUR, F.SUP_STAT_HB_LAPSE, F.GOV_IRQ_SRC_HARBOUR] := by
  have marked := Gov.onlyFields_set 1 (Gov.onlyFields_set 1 (Gov.onlyFields_set 1 (g.onlyFields_refl [F.SUP_STAT_HARBOUR, F.SUP_STAT_HB_LAPSE, F.GOV_IRQ_SRC_HARBOUR]) (f := F.SUP_STAT_HARBOUR) (by simp)) (f := F.SUP_STAT_HB_LAPSE) (by simp))
    (f := F.GOV_IRQ_SRC_HARBOUR) (by simp)
  exact fun f hf => marked f hf

/-- A failing pilot's row: its source is raised on a state that `Gov.Raised` describes, and it is restarted. -/
theorem failing_completes {c : Instr} {k cause src : Nat} {t : Fin 250} {s : State} {h : Gov} (hk : k < 3) (small : cause < 256) (area : 256 ≤ src ∧ src < 512) (up : (s.gov.reach t).pilotUp k = true)
    (row : exec c s = .next { s with gov := h.restartPilot k cause }) (raised : (s.gov.reach t).Raised h src) :
    Completes c s fun g => (g.get (F.FWP_PSTATE_STATE k) = 3 ∧ g.get (F.FWP_RST_CNT_COUNT k) = usat 32 ((s.gov.reach t).get (F.FWP_RST_CNT_COUNT k) + 1) ∧ g.get F.FWP_RST_LAST_PILOT = k ∧ g.get F.FWP_RST_LAST_CAUSE = cause) ∧
      g.flag (F.FLT_STATUS_bit src) = true ∧ ((s.gov.reach t).firm.cur = none → g.firm.cur = some k) ∧ ∀ j, (s.gov.reach t).firm.cur = some j → g.firm.cur = some j ∧ k ∈ g.firm.waiting := by
  obtain ⟨⟨state, count, pilot, why⟩, source, turn⟩ := raised.restarts hk small area up
  exact ⟨_, row, ⟨state, count, pilot, why⟩, source, turn⟩

end Sys2Proof.Machine

open Sys2Proof Sys2Proof.Machine

/-- Settles O46: a failure is a restart on a state with the source raised (`Gov.Raised.restarts`); a completed reload keeps the pilots' turns up to the next reload (`Gov.SameTurns`), and its guard's power is that of the instant (`Gov.reach_powered`). -/
theorem pilotEvents : Obligations.PilotEvents := by
  intro k t s g0 now restarted failed
  have hk := k.isLt
  refine ⟨fun on up pc => ?_, fun wr writes names => ⟨fun on up receiving verifying => ?_, fun busy => ?_⟩, fun on cur other => ?_, fun wr writes => ?_, fun up watched runs out late => ?_⟩
  · obtain ⟨-, -, awake⟩ := Gov.pilotsOn_parts on
    have runs : (g0.pilotsOn && g0.pilotUp k) = true := by rw [on, up]; rfl
    have passes : ¬ ((!g0.pilotsOn) = true ∨ (!g0.pilotUp k) = true) := by simp [on, up]
    have raised : g0.Raised (g0.raise (281 + k) pc.toNat) (281 + k) := Gov.raised_raise _ (by omega) awake
    refine ⟨?_, ?_, ?_, fun addr => ?_⟩
    · exact failing_completes hk (by decide) ⟨by omega, by omega⟩ up (nextGov (if_pos runs)) raised
    · exact failing_completes hk (by decide) ⟨by omega, by omega⟩ up (nextGov (if_pos runs)) raised
    · exact failing_completes hk (by decide) ⟨by omega, by omega⟩ up (nextGov (if_pos runs)) raised
    · exact failing_completes hk (by decide) ⟨by omega, by omega⟩ up (nextGov (if_neg passes)) (Gov.raised_logRaise _ _ _ _ (by omega) awake)
  · obtain ⟨⟨state, count, pilot, why⟩, -⟩ := Gov.restartPilot_restarted (cause := 5) hk (by decide) up
    exact ⟨_, portCommand_ends writes (Gov.writePilots_restart hk names on up receiving verifying) (Gov.restartPilot_get _ _ _ (restartFields_offWake hk)), rfl, state, count, pilot, why⟩
  · exact ⟨_, portCommand_ends writes (Gov.writePilots_refused names busy) (g0.markRefused_only F.PS_WAKE_STAT_OFF_WAKE (by decide)), rfl, g0.markRefused_flag, Gov.onlyFields_respond g0.markRefused_only 0 0⟩
  · intro kept
    refine ⟨fun ok => ?_, fun lost => ?_⟩
    · obtain ⟨state, idle, next⟩ := Gov.pilotRuns_runs hk other
      have notice := Gov.sameTurns_sendNotice (g0.unloaded.pilotRuns k)
      refine ⟨_, restartComplete_runs on cur ok, ?_⟩
      split
      · exact ⟨(notice.state k).trans state, fun waits rolls => notice.cur.trans (idle waits rolls), fun j rest waits => ⟨notice.cur.trans (next j rest waits).1, notice.waiting.trans (next j rest waits).2⟩⟩
      · exact ⟨state, idle, next⟩
    · exact ⟨_, restartComplete_held on cur lost, Gov.unloaded_held hk other⟩
  · exact ⟨_, portCommand_ends writes (Gov.writePilots_kick _ _) rfl, rfl, rfl, fun _ _ => rfl⟩
  · obtain ⟨harbour, lapse, irq⟩ := g0.lapsed_flags
    exact ⟨_, heartbeatLapse_next up watched runs out late, harbour, lapse, irq, rfl, g0.lapsed_only⟩
end

section
namespace Sys2Proof.Machine

/-! ### Entries whose end has come (R141, R143) -/

theorem Gov.expireEntries_table (g : Gov) (pick : Entry → Bool) : (g.expireEntries pick).fcu.table = g.fcu.table.filter fun e => !(g.entryDue e && pick e) := by
  unfold Gov.expireEntries
  dsimp only
  split
  · next idle =>
    refine (List.filter_eq_self.2 fun e he => ?_).symm
    rw [Bool.eq_false_iff.2 (List.filter_eq_nil_iff.1 (List.isEmpty_iff.1 idle) e he)]
    rfl
  · rw [Gov.inc_fcu, Gov.inc_fcu, Gov.setTable_fcu]

/-- Where entries are freed, the confirmed ones and the others are counted apart. -/
theorem Gov.expireEntries_counts {g : Gov} {pick : Entry → Bool} (due : (g.fcu.table.any fun e => g.entryDue e && pick e) = true) :
    let freed := g.fcu.table.filter fun e => g.entryDue e && pick e
    let confirmed := freed.countP fun e => e.st == .confirmed
    (g.expireEntries pick).get F.FCU_CNT_CONFEND_COUNT = usat 32 (g.get F.FCU_CNT_CONFEND_COUNT + confirmed) ∧
      (g.expireEntries pick).get F.FCU_CNT_EXPIRE_COUNT = usat 32 (g.get F.FCU_CNT_EXPIRE_COUNT + (freed.length - confirmed)) := by
  intro freed confirmed
  obtain ⟨e, he, ends⟩ := List.any_eq_true.1 due
  have freedSome : ¬ freed.isEmpty = true := fun none => List.filter_eq_nil_iff.1 (List.isEmpty_iff.1 none) e he ends
  have frees : g.expireEntries pick =
      ((g.setTable (g.fcu.table.filter fun e => !(g.entryDue e && pick e))).inc F.FCU_CNT_CONFEND_COUNT confirmed).inc F.FCU_CNT_EXPIRE_COUNT (freed.length - confirmed) := if_neg freedSome
  rw [frees]
  constructor
  · rw [Gov.inc_eq _ F.FCU_CNT_EXPIRE_COUNT, Gov.get_set_apart _ _ (by decide), Gov.setTable_counts _ _ _ (by decide)]
  · rw [Gov.get_inc32 _ _ (by decide), Gov.inc_eq, Gov.get_set_apart _ _ (by decide), Gov.setTable_get_apart _ _ (by decide) (by decide)]

theorem Gov.expireEntries_unconfirmed {g : Gov} {pick : Entry → Bool} (pending : ∀ e, pick e = true → e.st ≠ .confirmed) (due : (g.fcu.table.any fun e => g.entryDue e && pick e) = true) :
    (g.expireEntries pick).get F.FCU_CNT_EXPIRE_COUNT = usat 32 (g.get F.FCU_CNT_EXPIRE_COUNT + g.fcu.table.countP fun e => g.entryDue e && pick e) := by
  have none : (g.fcu.table.filter fun e => g.entryDue e && pick e).countP (fun e => e.st == .confirmed) = 0 := List.countP_eq_zero.2 fun e he => by
    simpa using pending e (Bool.and_eq_true_iff.1 (List.mem_filter.1 he).2).2
  rw [(Gov.expireEntries_counts due).2, none, Nat.sub_zero, List.countP_eq_length_filter]

theorem Gov.expireEntries_confirmed {g : Gov} {pick : Entry → Bool} (sure : ∀ e, pick e = true → e.st = .confirmed) (due : (g.fcu.table.any fun e => g.entryDue e && pick e) = true) :
    (g.expireEntries pick).get F.FCU_CNT_CONFEND_COUNT = usat 32 (g.get F.FCU_CNT_CONFEND_COUNT + g.fcu.table.countP fun e => g.entryDue e && pick e) := by
  have all : (g.fcu.table.filter fun e => g.entryDue e && pick e).countP (fun e => e.st == .confirmed) = (g.fcu.table.filter fun e => g.entryDue e && pick e).length := List.countP_eq_length.2 fun e he => by
    simpa using sure e (Bool.and_eq_true_iff.1 (List.mem_filter.1 he).2).2
  rw [(Gov.expireEntries_counts due).1, all, List.countP_eq_length_filter]

end Sys2Proof.Machine

open Sys2Proof Sys2Proof.Machine

/-- Settles O21: each row is `Gov.expireEntries` for the entries of its key and kind, which frees the due ones and counts them by kind. -/
theorem entryEnds : Obligations.EntryEnds := by
  intro b a i t s g0 engine mine rest
  have runs : ¬ (!s.gov.engine) = true := by simp [engine]
  have live : mine false = fun e => g0.entryDue e && (e.hasKey b a i.toNat && e.st != .confirmed) := funext fun e => by simp [mine, Bool.and_assoc, bne]
  have sure : mine true = fun e => g0.entryDue e && (e.hasKey b a i.toNat && e.st == .confirmed) := funext fun e => by simp [mine, Bool.and_assoc]
  constructor
  · refine ⟨_, nextGov (if_neg runs), ?_, fun due => ?_⟩
    · exact (g0.expireEntries_table _).trans (by simp only [rest, live])
    · rw [live] at due ⊢
      exact Gov.expireEntries_unconfirmed (fun e he => by simpa using (Bool.and_eq_true_iff.1 he).2) due
  · refine ⟨_, nextGov (if_neg runs), ?_, fun due => ?_⟩
    · exact (g0.expireEntries_table _).trans (by simp only [rest, sure])
    · rw [sure] at due ⊢
      exact Gov.expireEntries_confirmed (fun e he => by simpa using (Bool.and_eq_true_iff.1 he).2) due
end

section
namespace Sys2Proof.Machine

/-! ### Phase hints (R145) -/

/-- FCU_HINT_STAT: the bit of a class with an active hint, and the bit of a class that holds one. -/
abbrev hintActiveFld (k : Nat) : Fld := ⟨W.FCU_HINT_STAT, k, 1⟩
abbrev hintHeldFld (k : Nat) : Fld := ⟨W.FCU_HINT_STAT, 16 + k, 1⟩

theorem hintFld_apart {j k : Nat} (h : j ≠ k) : (⟨W.FCU_HINT_STAT, j, 1⟩ : Fld).apart ⟨W.FCU_HINT_STAT, k, 1⟩ = true := by
  simp [Fld.apart]; omega

/-- The hints are a matter of the forecast unit. -/
theorem Gov.hintOf_congr {g h : Gov} (e : h.fcu = g.fcu) (k : Nat) : h.hintOf k = g.hintOf k := congrArg (fun x : FcuSt => x.hints.find? fun y : PhaseHint => y.cls == k) e

theorem Gov.dropHint_hintOf (g : Gov) (k : Nat) : (g.dropHint k).hintOf k = none :=
  List.find?_eq_none.2 fun h hh => by simpa using (List.mem_filter.1 hh).2

theorem Gov.dropHint_held (g : Gov) {k : Nat} (hk : k < 16) : (g.dropHint k).get (hintHeldFld k) = 0 := Gov.get_set_self _ _ (by simp; omega)

theorem Gov.dropHint_active (g : Gov) {k : Nat} (hk : k < 16) : (g.dropHint k).get (hintActiveFld k) = 0 :=
  (Gov.get_set_apart _ _ (hintFld_apart (by omega))).trans (Gov.get_set_self _ _ (by simp; omega))

theorem Gov.dropHint_only (g : Gov) (k : Nat) : g.onlyFields (g.dropHint k) [hintActiveFld k, hintHeldFld k] :=
  Gov.onlyFields_set 0 (Gov.onlyFields_set 0 (fun _ _ => rfl) (by simp)) (by simp)

/-- Dropping a hint leaves every word in force but FCU_HINT_STAT. -/
theorem Gov.dropHint_act (g : Gov) (k : Nat) {f : Fld} (other : f.off ≠ W.FCU_HINT_STAT) : (g.dropHint k).act f = g.act f := by
  have apart : ∀ j, f.apart ⟨W.FCU_HINT_STAT, j, 1⟩ = true := fun j => by simp [Fld.apart, other]
  exact (Gov.act_set_apart _ _ (apart _)).trans (Gov.act_set_apart _ _ (apart _))

/-- The hint of a HINT word dequeued now: active from LEAD less PRE, until LEAD plus DUR or a CANCEL. -/
def Gov.newHint (g : Gov) (w : BitVec 64) : PhaseHint :=
  let lead := bits w.toNat 44 12
  let dur := bits w.toNat 28 16
  { cls := bits w.toNat 56 4, upAt := g.now + 1000 * (lead - g.act (F.FCU_CLS_CFG_PRE (bits w.toNat 56 4))), till := if dur = 0 then none else some (g.now + 1000 * (lead + dur)) }

/-- Give a class a hint: it is held, and active where its activation has come. -/
def Gov.holdHint (g : Gov) (h : PhaseHint) : Gov :=
  (((g.dropHint h.cls).withFcu { (g.dropHint h.cls).fcu with hints := (g.dropHint h.cls).fcu.hints ++ [h] }).mark (hintHeldFld h.cls)).set (hintActiveFld h.cls) (b2n (h.upAt ≤ g.now))

/-- A HINT of a class with a rail gives the class its new hint and counts it. -/
theorem Gov.phaseHint_new {g : Gov} {w : BitVec 64} (rails : g.act (F.FCU_CLS_CFG_RAILMASK (bits w.toNat 56 4)) ≠ 0) :
    g.phaseHint w = (g.holdHint (g.newHint w)).inc F.FCU_CNT_HINT_COUNT := by
  have pre : (g.dropHint (bits w.toNat 56 4)).act (F.FCU_CLS_CFG_PRE (bits w.toNat 56 4)) = g.act (F.FCU_CLS_CFG_PRE (bits w.toNat 56 4)) := g.dropHint_act _ (by simp [F.FCU_CLS_CFG_PRE, W.FCU_HINT_STAT]; omega)
  unfold Gov.phaseHint
  dsimp only
  rw [if_neg rails, pre]
  rfl

theorem Gov.holdHint_hintOf (g : Gov) (h : PhaseHint) : (g.holdHint h).hintOf h.cls = some h := by
  have dropped : (g.fcu.hints.filter fun x => x.cls != h.cls).find? (fun x => x.cls == h.cls) = none := g.dropHint_hintOf h.cls
  show ((g.fcu.hints.filter fun x => x.cls != h.cls) ++ [h]).find? (fun x => x.cls == h.cls) = some h
  rw [List.find?_append, dropped]
  simp

theorem Gov.holdHint_table (g : Gov) (h : PhaseHint) : (g.holdHint h).fcu.table = g.fcu.table := (rfl)

theorem Gov.holdHint_held (g : Gov) {h : PhaseHint} (class_ : h.cls < 16) : (g.holdHint h).get (hintHeldFld h.cls) = 1 :=
  (Gov.get_set_apart _ _ (hintFld_apart (by omega))).trans (Gov.get_set_self _ _ (by simp; omega))

theorem Gov.holdHint_active (g : Gov) {h : PhaseHint} (class_ : h.cls < 16) : (g.holdHint h).get (hintActiveFld h.cls) = b2n (h.upAt ≤ g.now) :=
  (Gov.get_set_self _ _ (by simp; omega)).trans (by cases decide (h.upAt ≤ g.now) <;> rfl)

theorem Gov.holdHint_get (g : Gov) (h : PhaseHint) {f : Fld} (other : f.off ≠ W.FCU_HINT_STAT) : (g.holdHint h).get f = g.get f := by
  have apart : ∀ j, f.apart ⟨W.FCU_HINT_STAT, j, 1⟩ = true := fun j => by simp [Fld.apart, other]
  exact (Gov.get_set_apart _ _ (apart _)).trans ((Gov.get_set_apart _ _ (apart _)).trans (g.dropHint_only h.cls f (by simp [apart])))

/-- What a counted HINT leaves: its class's hint, the class's two status bits and one more HINT. -/
theorem Gov.countedHint (g : Gov) {h : PhaseHint} (class_ : h.cls < 16) :
    let g' := (g.holdHint h).inc F.FCU_CNT_HINT_COUNT
    g'.fcu.table = g.fcu.table ∧ g'.hintOf h.cls = some h ∧ g'.get (hintHeldFld h.cls) = 1 ∧ g'.get (hintActiveFld h.cls) = b2n (h.upAt ≤ g.now) ∧ g'.get F.FCU_CNT_HINT_COUNT = usat 32 (g.get F.FCU_CNT_HINT_COUNT + 1) := by
  intro g'
  have bits : ∀ j, g'.get ⟨W.FCU_HINT_STAT, j, 1⟩ = (g.holdHint h).get ⟨W.FCU_HINT_STAT, j, 1⟩ := fun j => Gov.get_set_apart _ _ (by simp [Fld.apart, W.FCU_HINT_STAT, F.FCU_CNT_HINT_COUNT])
  have fcu : g'.fcu = (g.holdHint h).fcu := Gov.inc_fcu _ _ _
  exact ⟨(congrArg FcuSt.table fcu).trans (g.holdHint_table h), (Gov.hintOf_congr fcu _).trans (g.holdHint_hintOf h), (bits _).trans (g.holdHint_held class_), (bits _).trans (g.holdHint_active class_),
    (Gov.get_inc32 _ 1 (by decide)).trans (congrArg (fun x => usat 32 (x + 1)) (g.holdHint_get h (by decide)))⟩

/-- A hint is active at once where its lead is within PRE. -/
theorem Gov.newHint_due (g : Gov) (w : BitVec 64) : ((g.newHint w).upAt ≤ g.now) ↔ bits w.toNat 44 12 ≤ g.act (F.FCU_CLS_CFG_PRE (bits w.toNat 56 4)) := by
  simp only [Gov.newHint]; omega

/-- A class's hint becomes active, which the power states weigh anew. -/
def Gov.activeHint (g : Gov) (k : Nat) : Gov := (g.withPwr { g.pwr with restless := true }).mark (hintActiveFld k)

theorem Gov.activeHint_active (g : Gov) {k : Nat} (hk : k < 16) : (g.activeHint k).get (hintActiveFld k) = 1 := Gov.get_set_self _ _ (by simp; omega)

theorem Gov.activeHint_only (g : Gov) (k : Nat) : g.onlyFields (g.activeHint k) [hintActiveFld k] := Gov.onlyFields_set 1 (fun _ _ => rfl) (by simp)

theorem hintActivate_next {c : Fin 16} {t : Fin 250} {s : State} {h : PhaseHint} (engine : s.gov.engine = true) (held : (s.gov.reach t).hintOf c = some h) (due : h.upAt ≤ (s.gov.reach t).now) :
    exec (.hintActivate c t) s = .next { s with gov := (s.gov.reach t).activeHint c } :=
  nextGov (by simp [engine, held, due, Gov.activeHint])

theorem hintExpire_next {c : Fin 16} {t : Fin 250} {s : State} {h : PhaseHint} {e : Nat} (engine : s.gov.engine = true) (held : (s.gov.reach t).hintOf c = some h) (till : h.till = some e)
    (due : e ≤ (s.gov.reach t).now) : exec (.hintExpire c t) s = .next { s with gov := (s.gov.reach t).dropHint c } := by
  obtain ⟨cls, upAt, _⟩ := h
  subst till
  exact nextGov (by simp [engine, held, due])

theorem Gov.cancelHint_held {g : Gov} {w : BitVec 64} (held : g.hintOf (bits w.toNat 56 4) ≠ none) : g.cancelHint w = g.dropHint (bits w.toNat 56 4) := by
  obtain ⟨h, some⟩ := Option.ne_none_iff_exists'.1 held
  simp [Gov.cancelHint, some]

end Sys2Proof.Machine

open Sys2Proof Sys2Proof.Machine

/-- Settles O19: HINT gives its class the new hint (`Gov.phaseHint_new`), CANCEL and HINT_EXPIRE drop the class's hint, and HINT_ACTIVATE marks one bit. -/
theorem hintClasses : Obligations.HintClasses := by
  intro n w t s g0 engine idle k lead dur now
  have class_ : k < 16 := Nat.mod_lt _ (by decide)
  refine ⟨fun next rails => ?_, fun next held => ?_, fun c h held due => ?_, fun c h e held till due => ?_⟩
  · obtain ⟨table, held, heldBit, activeBit, count⟩ := (g0.dequeue n).countedHint (h := g0.newHint w) class_
    refine ⟨_, nextGov ((Gov.onHint_next _ engine idle next).trans (Gov.phaseHint_new rails)), table, held, heldBit, activeBit.trans ?_, count⟩
    exact congrArg b2n (decide_eq_decide.2 (g0.newHint_due w))
  · refine ⟨_, nextGov ((Gov.onHint_next _ engine idle next).trans (Gov.cancelHint_held held)), ?_, ?_, ?_, ?_⟩
    · exact (g0.dequeue n).dropHint_hintOf k
    · exact (g0.dequeue n).dropHint_active class_
    · exact (g0.dequeue n).dropHint_held class_
    · exact (g0.dequeue n).dropHint_only k
  · exact ⟨_, hintActivate_next engine held due, g0.activeHint_active c.isLt, rfl, g0.activeHint_only c⟩
  · exact ⟨_, hintExpire_next engine held till due, g0.dropHint_hintOf c, g0.dropHint_active c.isLt, g0.dropHint_held c.isLt, g0.dropHint_only c⟩
end

section
namespace Sys2Proof.Machine

/-! ### Clearing a list of fields -/

/-- Clearing a field leaves no bit set in a field of its word that reads 0, nor in the field itself. -/
theorem field_insertField_zero {x : Word} {lo w lo' w' : Nat} (h : field x lo' w' = 0 ∨ lo' = lo ∧ w' = w) : field (insertField x lo w 0) lo' w' = 0 := by
  refine Nat.eq_of_testBit_eq fun i => ?_
  rw [testBit_field, testBit_insertField, Nat.zero_testBit, Nat.zero_testBit]
  rcases h with zero | ⟨rfl, rfl⟩
  · have clear := testBit_field x lo' w' i
    rw [zero, Nat.zero_testBit] at clear
    split
    · rw [Bool.and_left_comm, ← clear, Bool.and_false]
    · split
      · simp
      · rw [Bool.and_left_comm, ← clear, Bool.and_false]
  · by_cases inside : i < w' <;> simp [inside]

/-- After a field is cleared, it reads 0, and so does every field that read 0. -/
theorem Gov.get_set_zero (g : Gov) {f h : Fld} (zero : h = f ∨ g.get h = 0) : (g.set f 0).get h = 0 := by
  simp only [Gov.get, Gov.set, Gov.word_setWord] at zero ⊢
  split
  · next same =>
    rw [same] at zero
    exact field_insertField_zero (zero.symm.imp_right fun e => by rw [e]; exact ⟨rfl, rfl⟩)
  · next other =>
    rcases zero with rfl | zero
    · exact absurd rfl other
    · exact zero

theorem Gov.clearAll_cons (g : Gov) (f : Fld) (fs : List Fld) : g.clearAll (f :: fs) = (g.set f 0).clearAll fs := (rfl)

theorem Gov.clearAll_append (g : Gov) (fs hs : List Fld) : g.clearAll (fs ++ hs) = (g.clearAll fs).clearAll hs := Gov.each_append _ _ _ _

theorem Gov.clearAll_flatMap {α : Type} (g : Gov) (xs : List α) (fs : α → List Fld) : g.clearAll (xs.flatMap fs) = g.each xs fun g x => g.clearAll (fs x) := by
  induction xs generalizing g with
  | nil => rfl
  | cons x xs ih => rw [List.flatMap_cons, Gov.clearAll_append, ih, Gov.each_cons]

/-- What the change for an element brings about, and no change of the list undoes, holds after all of them. -/
theorem Gov.each_reaches {α : Type} {f : Gov → α → Gov} {P : α → Gov → Prop} (step : ∀ g x y, y = x ∨ P y g → P y (f g x)) (xs : List α) {g : Gov} {y : α} (h : y ∈ xs ∨ P y g) : P y (g.each xs f) := by
  induction xs generalizing g with
  | nil => exact h.resolve_left List.not_mem_nil
  | cons x xs ih =>
    refine ih ?_
    rcases h with member | before
    · exact (List.mem_cons.1 member).symm.imp_right fun same => step g x y (.inl same)
    · exact .inr (step g x y (.inr before))

/-- Every field cleared reads 0. -/
theorem Gov.clearAll_get (g : Gov) {fs : List Fld} {f : Fld} (h : f ∈ fs) : (g.clearAll fs).get f = 0 :=
  Gov.each_reaches (P := fun f g => g.get f = 0) (fun g _ _ => g.get_set_zero) fs (.inl h)

/-- A field apart from every field cleared reads as before. -/
theorem Gov.clearAll_only (g : Gov) (fs : List Fld) : g.onlyFields (g.clearAll fs) fs := fun f apart =>
  Gov.each_same_mem (fun h => h.get f) fs (fun _ _ hk => Gov.get_set_apart _ _ (List.all_eq_true.1 apart _ hk)) g

theorem Gov.clearAll_word (g : Gov) {fs : List Fld} {o : Nat} (out : ∀ f ∈ fs, o ≠ f.off) : (g.clearAll fs).word o = g.word o :=
  Gov.each_same_mem (fun h => h.word o) fs (fun _ _ hf => Gov.word_set_ne _ _ (out _ hf)) g

/-- The whole words at some offsets, as fields. -/
abbrev wordFlds (offs : List Nat) : List Fld := offs.map fun o => ⟨o, 0, 32⟩

/-- Setting words to 0 is clearing them as fields. -/
theorem Gov.zeroWords_eq (g : Gov) (offs : List Nat) : g.zeroWords offs = g.clearAll (wordFlds offs) := by
  have whole : ∀ (g : Gov) (o : Nat), g.setWord o 0 = g.set ⟨o, 0, 32⟩ 0 := fun g o => congrArg (g.setWord o) (by
    have small := (g.word o).isLt
    simp [insertField, Nat.div_eq_of_lt small, Nat.mod_one])
  simp only [Gov.zeroWords, Gov.clearAll, Gov.each, List.foldl_map, whole]

/-! ### The clear commands (R150, R175, R206, R234, R289, R308, R331, R373, R395) -/

/-- The write answered OK and set the fields to 0, and no field outside them and the written word changed. -/
def Gov.clears (g g' : Gov) (ctrl : Nat) (fs : List Fld) : Prop :=
  g'.resp = 0 ∧ (∀ f ∈ fs, g'.get f = 0) ∧ ∀ h : Fld, h.off ≠ ctrl → fs.all h.apart = true → g'.get h = g.get h

/-- Clearing the fields, in any order, on a state that differs in the written word alone. -/
theorem Gov.clearAll_clears {g h : Gov} {ctrl : Nat} {fs hs : List Fld} (words : ∀ o, o ≠ ctrl → h.word o = g.word o) (same : ∀ f, f ∈ hs ↔ f ∈ fs) : g.clears ((h.clearAll hs).respond 0 0) ctrl fs := by
  refine ⟨rfl, fun f hf => h.clearAll_get ((same f).2 hf), fun f out apart => ?_⟩
  have apart' : hs.all f.apart = true := List.all_eq_true.2 fun k hk => List.all_eq_true.1 apart k ((same k).1 hk)
  exact (h.clearAll_only hs f apart').trans (Gov.get_congr (words _ out))

section
variable {c : Instr} {ok : Bool} {ctrl : Nat} {wr : PortWrite} {t : Fin 250} {s : State} {h : Gov} {fs hs : List Fld}

/-- A clear command: a write of its word with the CLR bit, whose group clears fields on a state that differs in that word alone. -/
theorem clear_next (row : exec c s = portCommandIf ok ctrl wr t s) (clr : ok = true) (writes : s.gov.writesNow t ctrl wr) (gives : (s.gov.reach t).writeReg ctrl wr.data = accept (h.clearAll hs))
    (words : ∀ o, o ≠ ctrl → h.word o = (s.gov.reach t).word o) (wake : W.PS_WAKE_STAT ≠ ctrl ∧ ∀ f ∈ hs, W.PS_WAKE_STAT ≠ f.off) : exec c s = .next { s with gov := (h.clearAll hs).respond 0 0 } :=
  row.trans (portCommandIf_gives clr writes gives ((h.clearAll_word wake.2).trans (words _ wake.1)))

theorem clear_completes (row : exec c s = portCommandIf ok ctrl wr t s) (clr : ok = true) (writes : s.gov.writesNow t ctrl wr) (gives : (s.gov.reach t).writeReg ctrl wr.data = accept (h.clearAll hs))
    (words : ∀ o, o ≠ ctrl → h.word o = (s.gov.reach t).word o) (same : ∀ f, f ∈ hs ↔ f ∈ fs) (wake : W.PS_WAKE_STAT ≠ ctrl ∧ ∀ f ∈ hs, W.PS_WAKE_STAT ≠ f.off) :
    Completes c s fun g => (s.gov.reach t).clears g ctrl fs :=
  ⟨_, clear_next row clr writes gives words wake, Gov.clearAll_clears words same⟩

end

/-- The words that FCU_CTRL.CLR sets to 0, beside the peak (R150). -/
abbrev fcuCounters : List Nat := (List.range 13).map fun k => W.FCU_CNT_ACCEPT + 4 * k

/-- The words that DRP_CTRL.CLR sets to 0 (R175). -/
abbrev clockCounters : List Nat := ((List.range 16).flatMap fun k => [W.FSYN_CNT_COAST k, W.DRP_RGN_EPI k, W.DRP_RGN_STIME_LO k, W.DRP_RGN_STIME_HI k]) ++ (List.range 256).map W.DRP_DET_CNT

/-- The words that PS_CTRL.CLR sets to 0 (R308). -/
abbrev powerRecords : List Nat := [W.PS_CNT_DONE, W.PS_CNT_ABORT, W.PS_CNT_REFUSE, W.PS_CNT_HOLD, W.PS_CNT_WAKE, W.PS_LOG_HEAD] ++ (List.range 64).map fun k => 0x700 + 4 * k

/-- The words that FLT_CTRL.CLR sets to 0 (R331). -/
abbrev faultCounters : List Nat := [W.FLT_CNT_DEFER, W.FLT_REC_DROP] ++ (List.range 12).map W.FLT_ECC_CE

/-- The words that CMD_CFG.CLR sets to 0 (R373). -/
abbrev commandCounters : List Nat := (List.range 16).flatMap fun n => [W.CMD_CNT_CRC n, W.CMD_CNT_TAKEN n]

/-- The fields that REG_CTRL.CLR clears (R206). -/
abbrev regulatorCounters : List Fld :=
  F.REG_SYNC_CNT_COUNT :: ((List.range 8).flatMap fun r => [F.RAIL_CNT_SHED_COUNT r, F.RAIL_CNT_ABORT_COUNT r, F.RAIL_CNT_OL_COUNT r, F.RAIL_FLAGS_OL_SEEN r]) ++ (List.range 64).flatMap fun p => [F.PH_CNT_OC_COUNT p, F.PH_I_IPK p]

theorem clockCounters_above : ∀ o ∈ clockCounters, W.PS_WAKE_STAT < o := by
  intro o ho
  rcases List.mem_append.1 ho with region | detector
  · obtain ⟨k, -, ho⟩ := List.mem_flatMap.1 region
    simp only [List.mem_cons, List.not_mem_nil, or_false, W.FSYN_CNT_COAST, W.DRP_RGN_EPI, W.DRP_RGN_STIME_LO, W.DRP_RGN_STIME_HI] at ho
    unfold W.PS_WAKE_STAT
    omega
  · obtain ⟨k, -, rfl⟩ := List.mem_map.1 detector
    unfold W.PS_WAKE_STAT W.DRP_DET_CNT
    omega

theorem regulatorCounters_above : ∀ f ∈ regulatorCounters, W.PS_WAKE_STAT < f.off := by
  intro f hf
  rcases List.mem_append.1 hf with rail | phase
  · rcases List.mem_cons.1 rail with rfl | rail
    · decide
    · obtain ⟨r, -, hf⟩ := List.mem_flatMap.1 rail
      simp only [List.mem_cons, List.not_mem_nil, or_false] at hf
      rcases hf with rfl | rfl | rfl | rfl <;> exact Nat.lt_of_lt_of_le (by decide) (Nat.le_add_right _ _)
  · obtain ⟨p, -, hf⟩ := List.mem_flatMap.1 phase
    rcases List.mem_pair.1 hf with rfl | rfl <;> exact Nat.lt_of_lt_of_le (by decide) (Nat.le_add_right _ _)

theorem Gov.writeReg_fcuCtrl (g : Gov) {w : Word} (clr : bit w.toNat 0 = true) :
    g.writeReg W.FCU_CTRL w = accept (g.clearAll (wordFlds fcuCounters ++ [F.FCU_LIVE_LIVE_PEAK])) := by
  rw [Gov.writeReg, if_neg (by decide), Gov.clearAll_append, ← Gov.zeroWords_eq]
  show _ = accept ((g.zeroWords fcuCounters).set F.FCU_LIVE_LIVE_PEAK 0)
  simp [W.FCU_CTRL, Gov.writeSluice, W.ASL_CFG, W.FCU_CFG, W.FCU_CONF_MAX, clr]

theorem Gov.writeReg_drpCtrl (g : Gov) {w : Word} (clr : bit w.toNat 0 = true) :
    g.writeReg W.DRP_CTRL w = accept (g.clearAll (wordFlds clockCounters)) := by
  rw [Gov.writeReg, if_neg (by decide), ← Gov.zeroWords_eq]
  simp [W.DRP_CTRL, Gov.writeClocks, Gov.clearClocks, clr]

theorem Gov.clearRegulator_eq (g : Gov) : g.clearRegulator = g.clearAll regulatorCounters := by
  rw [regulatorCounters, Gov.clearAll_append, Gov.clearAll_cons, Gov.clearAll_flatMap, Gov.clearAll_flatMap]
  rfl

theorem Gov.writeReg_regCtrl (g : Gov) {w : Word} (clr : bit w.toNat 0 = true) : g.writeReg W.REG_CTRL w = accept (g.clearAll regulatorCounters) := by
  rw [Gov.writeReg, if_neg (by decide), ← Gov.clearRegulator_eq]
  simp [W.REG_CTRL, Gov.writeRegulator, W.REG_TB, W.REG_TB_STAT, clr]

theorem Gov.writeReg_snsCtrl (g : Gov) {w : Word} (clr : bit w.toNat 0 = true) : g.writeReg W.SNS_CTRL w = accept g.clearSensing := by
  rw [Gov.writeReg, if_neg (by decide)]
  simp [W.SNS_CTRL, Gov.writeSensing, W.SNS_CAL, clr]

theorem clr_of_idlCtrl {w : Word} (clr : field w 0 4 = 4) : bit w.toNat 2 = true := by
  have low : w.toNat % 16 = 4 := by simpa [field] using clr
  simp [bit]; omega

theorem clr_of_psCtrl {w : Word} (clr : field w 4 3 = 4) : bit w.toNat 6 = true := by
  have low : w.toNat / 16 % 8 = 4 := by simpa [field] using clr
  simp [bit]; omega

/-- IDL_CTRL with CLR alone of its four commands. -/
theorem Gov.writeReg_idlCtrl (g : Gov) {w : Word} (clr : field w 0 4 = 4) :
    g.writeReg W.IDL_CTRL w = accept ((g.plain W.IDL_CTRL w).clearAll [F.IDL_CNT_CRC_COUNT, F.IDL_CNT_MISS_COUNT, F.IDL_CNT_LINKDN_COUNT]) := by
  have low : w.toNat % 16 = 4 := by simpa [field] using clr
  have enum : bit w.toNat 0 = false := by simp [bit]; omega
  have wake : bit w.toNat 1 = false := by simp [bit]; omega
  have stop : bit w.toNat 3 = false := by simp [bit]; omega
  rw [Gov.writeReg, if_neg (by decide)]
  simp [W.IDL_CTRL, Gov.writeHawser, W.IDL_CFG, Gov.writeIdlCtrl, enum, wake, clr_of_idlCtrl clr, stop]

/-- PS_CTRL with CLR and neither START nor CANCEL. -/
theorem Gov.writeReg_psCtrl (g : Gov) {w : Word} (clr : field w 4 3 = 4) :
    g.writeReg W.PS_CTRL w = accept ((g.plain W.PS_CTRL w).clearAll (wordFlds powerRecords)) := by
  have low : w.toNat / 16 % 8 = 4 := by simpa [field] using clr
  have start : bit w.toNat 4 = false := by simp [bit]; omega
  have cancel : bit w.toNat 5 = false := by simp [bit]; omega
  rw [Gov.writeReg, if_neg (by decide), ← Gov.zeroWords_eq]
  simp [W.PS_CTRL, Gov.writePower, Gov.writePsCtrl, Gov.clearPower, start, cancel, clr_of_psCtrl clr]

theorem Gov.writeReg_fltClear (g : Gov) {w : Word} (clr : bit w.toNat 5 = true) :
    g.writeReg W.FLT_CTRL w = accept ((g.plain W.FLT_CTRL w).clearAll (wordFlds faultCounters)) := by
  rw [Gov.writeReg, if_neg (by decide), ← Gov.zeroWords_eq]
  simp [W.FLT_CTRL, Gov.writeFaults, Gov.clearFaults, clr]

theorem Gov.writeReg_cmdCfg (g : Gov) {w : Word} (clr : bit w.toNat 16 = true) :
    g.writeReg W.CMD_CFG w = accept ((g.plain W.CMD_CFG w).clearAll (wordFlds commandCounters)) := by
  rw [Gov.writeReg, if_neg (by decide), ← Gov.zeroWords_eq]
  simp [W.CMD_CFG, Gov.writeCommands, clr]

theorem Gov.writeReg_trcCtrl (g : Gov) {w : Word} (clr : bit w.toNat 0 = true) : g.writeReg W.TRC_CTRL w = accept (g.plain W.TRC_CTRL w).clearTrace := by
  rw [Gov.writeReg, if_neg (by decide)]
  simp [W.TRC_CTRL, Gov.writeTrace, clr]

/-- CMD_CFG.WAIT_TMO takes the value written. -/
theorem Gov.plain_waitTmo (g : Gov) (w : Word) : (g.plain W.CMD_CFG w).get F.CMD_CFG_WAIT_TMO = field w 0 16 :=
  g.get_plain w (f := ⟨"WAIT_TMO", 0, 16, .rw, 0x64, false⟩) (by decide)

/-! ### The trace buffers (R391, R395) -/

/-- One trace buffer emptied: no records, none lost, not full. -/
def Gov.emptyBuf (g : Gov) (n : Nat) : Gov := ((g.setBuf n {}).set (F.TRC_STAT_FULL n) 0).set (F.TRC_LOST_COUNT n) 0

/-- What a trace buffer shows when it is empty. -/
def Gov.bufEmpty (g : Gov) (n : Nat) : Prop := (g.buf n).recs = [] ∧ (g.buf n).lost = false ∧ g.flag (F.TRC_STAT_FULL n) = false ∧ g.get (F.TRC_LOST_COUNT n) = 0

theorem Gov.flag_false_iff (g : Gov) (f : Fld) : g.flag f = false ↔ g.get f = 0 := by simp [Gov.flag]

theorem Gov.emptyBuf_buf (g : Gov) (m n : Nat) : (g.emptyBuf m).buf n = if n = m then {} else g.buf n := Tab.get_put (fun _ => ({} : TraceBuf)) g.trc.bufs m n {}

/-- Emptying one buffer empties it and fills no other. -/
theorem Gov.emptyBuf_bufEmpty (g : Gov) (m n : Nat) (h : n = m ∨ g.bufEmpty n) : (g.emptyBuf m).bufEmpty n := by
  have buf := g.emptyBuf_buf m n
  have level : ∀ f ∈ [F.TRC_STAT_FULL n, F.TRC_LOST_COUNT n], (g.setBuf m {}).get f = g.get f := fun f hf => by
    refine Gov.get_set_apart _ _ ?_
    rcases List.mem_pair.1 hf with rfl | rfl
    · simp [Fld.apart, F.TRC_STAT_FULL, F.TRC_STAT_LEVEL]
    · simp [Fld.apart, F.TRC_LOST_COUNT, F.TRC_STAT_LEVEL]; omega
  rcases h with rfl | ⟨recs, lost, full, count⟩
  · rw [if_pos rfl] at buf
    exact ⟨by rw [buf], by rw [buf], (Gov.flag_false_iff _ _).2 (Gov.get_set_zero _ (.inr (Gov.get_set_zero _ (.inl rfl)))), Gov.get_set_zero _ (.inl rfl)⟩
  · refine ⟨?_, ?_, ?_, ?_⟩
    · rw [buf]; split <;> simp [recs]
    · rw [buf]; split <;> simp [lost]
    · exact (Gov.flag_false_iff _ _).2 (Gov.get_set_zero _ (.inr (Gov.get_set_zero _ (.inr ((level _ (by simp)).trans ((g.flag_false_iff _).1 full))))))
    · exact Gov.get_set_zero _ (.inr (Gov.get_set_zero _ (.inr ((level _ (by simp)).trans count))))

theorem Gov.clearTrace_bufEmpty (g : Gov) {n : Nat} (hn : n < 4) : g.clearTrace.bufEmpty n :=
  Gov.each_reaches (P := fun n g => g.bufEmpty n) (fun g m n => g.emptyBuf_bufEmpty m n) (List.range 4) (.inl (List.mem_range.2 hn))

theorem Gov.bufEmpty.respond {g : Gov} {n : Nat} (h : g.bufEmpty n) : (g.respond 0 0).bufEmpty n := h

theorem Gov.clearTrace_only (g : Gov) : g.onlyWords g.clearTrace ((List.range 4).flatMap fun n => [W.TRC_STAT n, W.TRC_LOST n]) := fun o out =>
  Gov.each_same_mem (fun h => h.word o) (List.range 4) (fun g n hn => by
    have beside : o ≠ W.TRC_STAT n ∧ o ≠ W.TRC_LOST n := by
      simp only [List.mem_flatMap, not_exists, not_and] at out
      simpa using out n hn
    exact (Gov.word_set_ne _ _ beside.2).trans ((Gov.word_set_ne _ _ beside.1).trans (Gov.word_set_ne _ _ beside.1))) g

end Sys2Proof.Machine

open Sys2Proof Sys2Proof.Machine

/-- Settles O36: eight of the rows clear a list of fields (`clear_completes`), on the state with the command's word as the write leaves it; TRC_CTRL.CLR empties the four buffers. -/
theorem counterClears : Obligations.CounterClears := by
  intro wr t s g0 clears words
  have own : ∀ ctrl o, o ≠ ctrl → (g0.plain ctrl wr.data).word o = g0.word o := fun _ _ => g0.word_plain_ne wr.data
  refine ⟨fun clr writes => ?_, fun clr writes => ?_, fun clr writes => ?_, fun clr writes => ?_, fun clr writes => ?_, fun clr writes => ?_, fun clr writes => ?_, fun clr writes => ?_, fun clr writes => ?_⟩
  · exact clear_completes rfl clr writes (g0.writeReg_fcuCtrl clr) (fun _ _ => rfl) (fun f => by rw [List.mem_append, List.mem_singleton, List.mem_cons, or_comm]) (by decide)
  · exact clear_completes rfl clr writes (g0.writeReg_drpCtrl clr) (fun _ _ => rfl) (fun _ => .rfl) ⟨by decide, List.forall_mem_map.2 fun o ho => Nat.ne_of_lt (clockCounters_above o ho)⟩
  · exact clear_completes rfl clr writes (g0.writeReg_regCtrl clr) (fun _ _ => rfl) (fun _ => .rfl) ⟨by decide, fun f hf => Nat.ne_of_lt (regulatorCounters_above f hf)⟩
  · exact clear_completes rfl clr writes (g0.writeReg_snsCtrl clr) (fun _ _ => rfl) (fun _ => .rfl) (by decide)
  · exact clear_completes rfl (clr_of_idlCtrl clr) writes (g0.writeReg_idlCtrl clr) (own _) (fun _ => .rfl) (by decide)
  · exact clear_completes rfl (clr_of_psCtrl clr) writes (g0.writeReg_psCtrl clr) (own _) (fun _ => .rfl) (by decide)
  · exact clear_completes rfl clr writes (g0.writeReg_fltClear clr) (own _) (fun _ => .rfl) (by decide)
  · have kept : ((g0.plain W.CMD_CFG wr.data).clearAll (wordFlds commandCounters)).word W.CMD_CFG = (g0.plain W.CMD_CFG wr.data).word W.CMD_CFG := Gov.clearAll_word _ (by decide)
    have row : exec (.cmdCfgClr wr t) s = _ := clear_next rfl clr writes (g0.writeReg_cmdCfg clr) (own _) (by decide)
    have tmo : (((g0.plain W.CMD_CFG wr.data).clearAll (wordFlds commandCounters)).respond 0 0).get F.CMD_CFG_WAIT_TMO = field wr.data 0 16 :=
      (Gov.respond_get _ _ _ _).trans ((Gov.get_congr (f := F.CMD_CFG_WAIT_TMO) kept).trans (g0.plain_waitTmo wr.data))
    exact ⟨_, row, tmo, Gov.clearAll_clears (own _) fun _ => .rfl⟩
  · have out := (g0.plain W.TRC_CTRL wr.data).clearTrace_only
    have notWake : W.PS_WAKE_STAT ∉ (List.range 4).flatMap fun n => [W.TRC_STAT n, W.TRC_LOST n] := by decide
    have wake := (out W.PS_WAKE_STAT notWake).trans (own W.TRC_CTRL W.PS_WAKE_STAT (by decide))
    have row : exec (.trcCtrlClr wr t) s = _ := portCommandIf_gives clr writes (g0.writeReg_trcCtrl clr) wake
    refine ⟨_, row, fun n => ((g0.plain W.TRC_CTRL wr.data).clearTrace_bufEmpty n.isLt).respond, fun o ho => ?_⟩
    obtain ⟨ctrl, bufs⟩ := not_or.1 (mt List.mem_cons.2 ho)
    exact (Gov.respond_word _ _ _ o).trans ((out o bufs).trans (own W.TRC_CTRL o ctrl))
end

section
namespace Sys2Proof.Machine

/-! ### Records of regions and synthesizers -/

@[simp] theorem Gov.setRgn_get (g : Gov) (r : Nat) (x : RegionSt → RegionSt) (f : Fld) : (g.setRgn r x).get f = g.get f := rfl
@[simp] theorem Gov.rgn_set (g : Gov) (f : Fld) (v r : Nat) : (g.set f v).rgn r = g.rgn r := rfl
@[simp] theorem Gov.rgn_selectSource (g : Gov) (k sel alt r : Nat) : (g.selectSource k sel alt).rgn r = g.rgn r := rfl

@[simp] theorem Gov.rgn_setRgn_self (g : Gov) (r : Nat) (x : RegionSt → RegionSt) : (g.setRgn r x).rgn r = x (g.rgn r) := by
  simp [Gov.rgn, Gov.setRgn, Tab.get_upd]

/-! ### Readings that a store in the fields of a set does not move -/

/-- A reading that no store in a field of the set moves, nor the fault, forecast and synthesizers' records and the words kept in force. -/
structure SetFree {α : Type} (X : Fld → Prop) (rd : Gov → α) : Prop where
  set  : ∀ g f v, X f → rd (g.set f v) = rd g
  flt  : ∀ g x, rd (g.withFlt x) = rd g
  fcu  : ∀ g x, rd (g.withFcu x) = rd g
  held : ∀ g x, rd (g.withHeld x) = rd g
  syn  : ∀ g s f, rd (g.setSyn s f) = rd g

/-- A field reads alike after stores in fields apart from it. -/
theorem setFree_get (f : Fld) : SetFree (fun k => f.apart k = true) (fun g => g.get f) :=
  ⟨fun g _ v h => g.get_set_apart v h, fun _ _ => rfl, fun _ _ => rfl, fun _ _ => rfl, fun _ _ _ => rfl⟩

/-- The clocks' records but for the synthesizers' are no registers. -/
theorem setFree_clk {α : Type} (p : ClkSt → α) (free : ∀ (c : ClkSt) x, p { c with syns := x } = p c) : SetFree (fun _ => True) (fun g => p g.clk) :=
  ⟨fun _ _ _ _ => rfl, fun _ _ => rfl, fun _ _ => rfl, fun _ _ => rfl, fun g _ _ => free g.clk _⟩

/-- A region's record is no synthesizer's. -/
theorem setFree_rgn (r : Nat) : SetFree (fun _ => True) (fun g => g.rgn r) := setFree_clk (fun c => Tab.get (fun _ => ({} : RegionSt)) c.regions r) fun _ _ => rfl

/-- A stored word is a store in the field of all its bits. -/
theorem Gov.setWord_eq_set (g : Gov) (o : Nat) (w : Word) : g.setWord o w = g.set ⟨o, 0, 32⟩ w.toNat := by
  have whole : insertField (g.word o) 0 32 w.toNat = w := by
    have low : field (insertField (g.word o) 0 32 w.toNat) 0 32 = w.toNat % 2 ^ 32 := field_insertField_same (by decide)
    refine BitVec.eq_of_toNat_eq ?_
    simpa [field, Nat.mod_eq_of_lt (BitVec.isLt _)] using low
  rw [Gov.set, whole]

/-- The fields that fault resolution stores in (R313 to R315). -/
def resolveFld (k : Fld) : Prop :=
  k ∈ [F.FLT_LOG_HEAD_HEAD, F.FLT_LOG_OVF_COUNT, ⟨W.FLT_REC_SEQ, 0, 32⟩, F.FLT_REC_DROP_COUNT, F.FLT_REC_QUEUED, F.FCU_LIVE_LIVE, F.FCU_LIVE_LIVE_PEAK, F.FCU_CNT_PURGE_COUNT, F.FLT_CTRL_TRIPPED, F.FLT_CTRL_THROTTLED, F.FLT_CTRL_STOPPED] ∨
    (∃ b, k = F.BT_FCU_RCNT b) ∨ (∃ b < 256, k = F.FLT_QUAR_bit b) ∨ ∃ r < 8, k = F.RAIL_CTRL_EN r

/-- The fields that raises and bollard actions store in, with their resolution in SLEEP and DEEP. -/
def faultFld (k : Fld) : Prop :=
  resolveFld k ∨ k = F.HLIM_ACT_CNT_COUNT ∨ (∃ n, k = F.FLT_STATUS_bit n) ∨ ∃ n, k = ⟨W.SG1_CNT n, 0, 16⟩

section
variable {α : Type} {X : Fld → Prop} {rd : Gov → α} (H : SetFree X rd)
include H

theorem SetFree.setWord (g : Gov) (o : Nat) (w : Word) (h : X ⟨o, 0, 32⟩) : rd (g.setWord o w) = rd g := by
  rw [Gov.setWord_eq_set]
  exact H.set _ _ _ h

theorem SetFree.log (g : Gov) (time type : Nat) (ps : List Nat) (h : ∀ k ∈ logFields, X k) : rd (g.log time type ps) = rd g := by
  have put : rd ((g.logPut time type ps).set F.FLT_LOG_HEAD_HEAD ((g.flt.written + 1) % 8192)) = rd g := (H.set _ _ _ (h _ (by simp [logFields]))).trans (H.flt _ _)
  unfold Gov.log
  dsimp only
  split
  · exact (H.set _ _ _ (h _ (by simp [logFields]))).trans put
  · exact put

section
variable (h : ∀ k, resolveFld k → X k)
include h

theorem SetFree.queueRecord (g : Gov) (r : Raise) : rd (g.queueRecord r) = rd g := by
  have numbered := H.setWord g W.FLT_REC_SEQ (BitVec.ofNat 32 ((g.word W.FLT_REC_SEQ).toNat + 1)) (h _ (.inl (by simp)))
  unfold Gov.queueRecord
  dsimp only
  split
  · exact (H.flt _ _).trans ((H.set _ _ _ (h _ (.inl (by simp)))).trans numbered)
  · exact (H.set _ _ _ (h _ (.inl (by simp)))).trans ((H.flt _ _).trans numbered)

theorem SetFree.recordRaise (g : Gov) (r : Raise) : rd (g.recordRaise r) = rd g := by
  have logs : ∀ k ∈ logFields, X k := fun k hk => h k (.inl (by simp [logFields] at hk; rcases hk with rfl | rfl <;> simp))
  unfold Gov.recordRaise
  dsimp only
  split
  · rfl
  · exact (H.queueRecord h _ _).trans (H.log _ _ _ _ logs)

theorem SetFree.purge (g : Gov) (pick : Entry → Bool) : rd (g.purge pick) = rd g := by
  have counts : ∀ (g : Gov) (b v : Nat), rd (g.set (F.BT_FCU_RCNT b) v) = rd g := fun _ b _ => H.set _ _ _ (h _ (.inr (.inl ⟨b, rfl⟩)))
  have table : ∀ t : List Entry, rd (g.setTable t) = rd g := fun t =>
    (Gov.each_same rd (fun g b => counts g b _) _ _).trans ((H.set _ _ _ (h _ (.inl (by simp)))).trans ((H.set _ _ _ (h _ (.inl (by simp)))).trans (H.fcu _ _)))
  unfold Gov.purge
  dsimp only
  split
  · rfl
  · exact (H.set _ _ _ (h _ (.inl (by simp)))).trans (table _)

theorem SetFree.reactRaise (g : Gov) (r : Raise) : rd (g.reactRaise r) = rd g := by
  unfold Gov.reactRaise
  split
  · split
    · next b hb => exact (H.purge h _ _).trans (H.set _ _ _ (h _ (.inr (.inr (.inl ⟨b, raiseBerth_lt hb, rfl⟩)))))
    · rfl
  · refine (Gov.each_same_mem rd _ (fun g k hk => ?_) _).trans (H.set _ _ _ (h _ (.inl (by simp))))
    split
    · refine (H.set _ _ _ (h _ (.inr (.inr (.inr ⟨k, List.mem_range.1 hk, rfl⟩))))).trans ?_
      unfold Gov.hold
      split
      · rfl
      · exact H.held _ _
    · rfl
  · rfl

/-- Fault resolution does not move a reading that is free of its fields. -/
theorem SetFree.resolve (g : Gov) : rd g.resolve = rd g := by
  have reacts : ∀ (g : Gov) (r : Raise), rd ((g.recordRaise r).reactRaise r) = rd g := fun g r => (H.reactRaise h _ r).trans (H.recordRaise h g r)
  exact (H.set _ _ _ (h _ (.inl (by simp)))).trans ((H.set _ _ _ (h _ (.inl (by simp)))).trans ((Gov.each_same rd reacts _ _).trans (H.flt _ _)))

end

section
variable (h : ∀ k, faultFld k → X k)
include h

/-- A raise, awake or asleep, does not move a reading that is free of the fault fields. -/
theorem SetFree.raise (g : Gov) (src detail : Nat) (silent : Bool := false) : rd (g.raise src detail silent) = rd g := by
  have counted : rd (g.countRaise src) = rd g := by
    unfold Gov.countRaise
    split
    · next n _ => exact H.set _ _ _ (h _ (.inr (.inr (.inr ⟨n, rfl⟩))))
    · rfl
  have enlisted : rd ((g.countRaise src).enlist src detail silent) = rd g := (H.flt _ _).trans ((H.set _ _ _ (h _ (.inr (.inr (.inl ⟨src, rfl⟩))))).trans counted)
  unfold Gov.raise
  dsimp only
  split
  · rfl
  · split
    · exact counted
    · unfold Gov.settle
      split
      · exact (H.resolve (fun k hk => h k (.inl hk)) _).trans enlisted
      · exact enlisted

theorem SetFree.bollard (g : Gov) (kind idx : Nat) : rd (g.bollard kind idx) = rd g := by
  have logs : ∀ k ∈ logFields, X k := fun k hk => h k (.inl (.inl (by simp [logFields] at hk; rcases hk with rfl | rfl <;> simp)))
  exact (H.raise h _ _ _).trans ((H.log _ _ _ _ logs).trans (H.set _ _ _ (h _ (.inr (.inl rfl)))))

end

end

end Sys2Proof.Machine
end

section
namespace Sys2Proof.Machine

/-! ### What the synthesizers' and regions' shared operations store in -/

/-- No fault field is a field between the phases' and the fault words, outside the words at 0x1C of a block of 0x40 bytes or below their upper half. -/
theorem fault_apart {f : Fld} (low : 0x24900 ≤ f.off) (high : f.off < 0x50000) (count : f.off % 0x40 ≠ 0x1C ∨ f.lo + f.w ≤ 16) : ∀ k, faultFld k → f.apart k = true := by
  have other : ∀ k : Fld, k.off < 0x24900 ∨ 0x50000 ≤ k.off → f.apart k = true := fun k hk => by simp [Fld.apart, show f.off ≠ k.off by omega]
  rintro k ((listed | ⟨b, rfl⟩ | ⟨b, _, rfl⟩ | ⟨r, hr, rfl⟩) | rfl | ⟨n, rfl⟩ | ⟨n, rfl⟩)
  · have outside : ∀ k ∈ [F.FLT_LOG_HEAD_HEAD, F.FLT_LOG_OVF_COUNT, ⟨W.FLT_REC_SEQ, 0, 32⟩, F.FLT_REC_DROP_COUNT, F.FLT_REC_QUEUED, F.FCU_LIVE_LIVE, F.FCU_LIVE_LIVE_PEAK, F.FCU_CNT_PURGE_COUNT, F.FLT_CTRL_TRIPPED,
        F.FLT_CTRL_THROTTLED, F.FLT_CTRL_STOPPED], k.off < 0x24900 ∨ 0x50000 ≤ k.off := by decide
    exact other k (outside k listed)
  · rcases count with word | below
    · simp [Fld.apart, F.BT_FCU_RCNT, show f.off ≠ 0x2001C + 0x40 * b by omega]
    · simp [Fld.apart, F.BT_FCU_RCNT, below]
  · exact other _ (.inr (by simp only [F.FLT_QUAR_bit]; omega))
  · exact other _ (.inl (by simp only [F.RAIL_CTRL_EN]; omega))
  · exact other _ (.inl (by decide))
  · exact other _ (.inr (by simp only [F.FLT_STATUS_bit]; omega))
  · exact other _ (.inr (by simp only [W.SG1_CNT]; omega))

/-- The fields of a synthesizer's glide, and those of its target. -/
def glideFields (s : Nat) : List Fld := [F.FSYN_STAT_GLIDE s, F.FSYN_STAT_HELD s]
def targetFields (s : Nat) : List Fld := F.FSYN_FREQ_TGT s :: F.FSYN_STAT_FLOOR s :: F.FSYN_STAT_CLAMP s :: glideFields s

/-- The words of a region's episodes. -/
def episodeFields (rg : Nat) : List Fld := [F.DRP_RGN_EPI_COUNT rg, F.DRP_RGN_STIME_LO_STIME rg, F.DRP_RGN_STIME_HI_STIME rg, F.DRP_RGN_STAT_OPEN rg, F.DRP_RGN_STAT_DEPTH rg]

theorem read_ite {α : Type} {rd : Gov → α} {c : Prop} [Decidable c] {g h : Gov} {v : α} (yes : rd g = v) (no : rd h = v) : rd (if c then g else h) = v := by
  split <;> assumption

section
variable {α : Type} {X : Fld → Prop} {rd : Gov → α} (H : SetFree X rd)
include H

theorem SetFree.reglide (g : Gov) (s : Nat) (glide : ∀ k ∈ glideFields s, X k) : rd (g.reglide s) = rd g := by
  unfold Gov.reglide
  extract_lets _ _ x _ dir turned
  have same : rd turned = rd g := by
    unfold turned
    split
    · rfl
    · exact H.syn _ _ _
  exact (H.set _ _ _ (glide _ (by simp [glideFields]))).trans ((H.set _ _ _ (glide _ (by simp [glideFields]))).trans same)

theorem SetFree.retarget (g : Gov) (s : Nat) (fault : ∀ k, faultFld k → X k) (own : ∀ k ∈ targetFields s, X k) : rd (g.retarget s) = rd g := by
  have glide : ∀ k ∈ glideFields s, X k := fun k hk => own k (by simp [targetFields, hk])
  have aimed : ∀ (h : Gov) (v : Nat), rd ((h.set (F.FSYN_FREQ_TGT s) v).reglide s) = rd h := fun h v => (H.reglide _ _ glide).trans (H.set _ _ _ (own _ (by simp [targetFields])))
  unfold Gov.retarget
  split
  · rfl
  · split
    · exact aimed _ _
    · next ask _ =>
      have floored : ∀ v, rd (g.set (F.FSYN_STAT_FLOOR s) v) = rd g := fun v => H.set _ _ _ (own _ (by simp [targetFields]))
      have marked : ∀ h : Gov, rd (h.mark (F.FSYN_STAT_CLAMP s)) = rd h := fun h => H.set _ _ _ (own _ (by simp [targetFields]))
      refine (aimed _ _).trans (read_ite (read_ite ((marked _).trans (floored _)) ?_) ((H.syn _ _ _).trans (floored _)))
      exact (H.bollard fault _ _ _).trans ((H.syn _ _ _).trans ((marked _).trans (floored _)))

theorem SetFree.closeEpisode (g : Gov) (rg : Nat) (logs : ∀ k ∈ logFields, X k) (own : ∀ k ∈ episodeFields rg, X k) : rd (g.closeEpisode rg) = rd g := by
  have stored : ∀ (h : Gov) (k : Fld) (v : Nat), k ∈ episodeFields rg → rd (h.set k v) = rd h := fun h k v hk => H.set _ _ _ (own k hk)
  have upper : W.DRP_RGN_STIME_LO rg + 4 = W.DRP_RGN_STIME_HI rg := by simp only [W.DRP_RGN_STIME_LO, W.DRP_RGN_STIME_HI]; omega
  have timed : ∀ (h : Gov) (v : Nat), rd (h.set64 (W.DRP_RGN_STIME_LO rg) v) = rd h := fun h v => by
    rw [Gov.set64, upper]
    exact (H.setWord _ _ _ (own (F.DRP_RGN_STIME_HI_STIME rg) (by simp [episodeFields]))).trans (H.setWord _ _ _ (own (F.DRP_RGN_STIME_LO_STIME rg) (by simp [episodeFields])))
  unfold Gov.closeEpisode
  split
  · rfl
  · exact (stored _ _ _ (by simp [episodeFields])).trans ((stored _ _ _ (by simp [episodeFields])).trans ((H.log _ _ _ _ logs).trans ((timed _ _).trans (stored _ _ _ (by simp [episodeFields])))))

/-- Connecting a region stores in BUSY and, for the sources before and after, in the synthesizers' target fields. -/
theorem SetFree.connect (g : Gov) (rg : Nat) (fault : ∀ k, faultFld k → X k) (targets : ∀ s, ∀ k ∈ targetFields s, X k) :
    rd (g.connect rg) = rd ((g.set (F.DRP_RGN_MUX_BUSY rg) 0).setRgn rg fun x => { x with out := g.source rg, goneAt := none }) := by
  have aimed : ∀ (h : Gov) (s : Nat), rd (h.retarget s) = rd h := fun h s => H.retarget _ _ fault (targets s)
  let moved := (g.set (F.DRP_RGN_MUX_BUSY rg) 0).setRgn rg fun x => { x with out := g.source rg, goneAt := none }
  have left : ∀ old : Source, rd (match old with | .syn s => moved.retarget s | _ => moved) = rd moved := fun old => by
    split
    · exact aimed _ _
    · rfl
  unfold Gov.connect
  dsimp only
  split
  · exact (aimed _ _).trans (read_ite ((H.syn _ _ _).trans (left _)) (left _))
  · exact left _

end

end Sys2Proof.Machine
end

section
namespace Sys2Proof.Machine

/-! ### A word of a phase, a synthesizer or a region at the port -/

/-- A group's refusal that sets one flag. -/
theorem Gov.mark_refuses (g : Gov) {f : Fld} (inWord : f.lo + f.w ≤ 32) (one : f.w = 1) : g.refuses ((g.mark f).respond 0 0) f [] := by
  refine ⟨rfl, ?_, Gov.onlyFields_respond (Gov.onlyFields_set 1 (g.onlyFields_refl _) List.mem_cons_self) 0 0⟩
  rw [Gov.respond_flag, Gov.mark_eq, g.flag_set_self 1 inWord, one]
  rfl

/-- A write that its group refuses with one flag outside PS_WAKE_STAT. -/
theorem portCommand_refused {off : Nat} {wr : PortWrite} {t : Fin 250} {s : State} {f : Fld} (h : s.gov.writesNow t off wr) (e : (s.gov.reach t).writeReg off wr.data = refuse ((s.gov.reach t).mark f))
    (inWord : f.lo + f.w ≤ 32) (one : f.w = 1) (other : F.PS_WAKE_STAT_OFF_WAKE.off ≠ f.off) :
    ∃ g, portCommand off wr t s = .next { s with gov := g } ∧ (s.gov.reach t).refuses g f [] :=
  ⟨_, portCommand_ends h e (Gov.get_congr ((s.gov.reach t).word_set_ne 1 other)), (s.gov.reach t).mark_refuses inWord one⟩

theorem writable_phCtrl (p : Fin 64) : writable (W.PH_CTRL p) = true := by revert p; decide +kernel
theorem writable_fsynCtrl (k : Fin 16) : writable (W.FSYN_CTRL k) = true := by revert k; decide +kernel
theorem writable_mux (rg : Fin 16) : writable (W.DRP_RGN_MUX rg) = true := by revert rg; decide +kernel

theorem Gov.writeReg_phase (g : Gov) {off : Nat} (w : Word) (hw : writable off = true) (low : 0x24900 ≤ off) (high : off < 0x25100) : g.writeReg off w = g.writePhase ((off - 0x24900) / 0x20) off w := by
  have beyond : ∀ n ≤ 0x24900, ¬ off < n := fun n hn => by omega
  have tb : off ≠ W.REG_TB ∧ off ≠ W.REG_TB_STAT ∧ off ≠ W.REG_CTRL := by simp only [W.REG_TB, W.REG_TB_STAT, W.REG_CTRL]; omega
  unfold Gov.writeReg
  simp [hw, beyond, Gov.writeRegulator, tb, high, show off < 0x28000 by omega]

theorem Gov.writeReg_clocks (g : Gov) {off : Nat} (w : Word) (hw : writable off = true) (low : 0x28000 ≤ off) (high : off < 0x30000) : g.writeReg off w = g.writeClocks off w := by
  have beyond : ∀ n ≤ 0x28000, ¬ off < n := fun n hn => by omega
  unfold Gov.writeReg
  simp [hw, beyond, high]

theorem Gov.writeReg_phCtrl (g : Gov) (p : Fin 64) (w : Word) : g.writeReg (W.PH_CTRL p) w = g.writePhCtrl p w := by
  have own : (W.PH_CTRL p - 0x24900) / 0x20 = p.val := by simp only [W.PH_CTRL]; omega
  rw [g.writeReg_phase w (writable_phCtrl p) (by simp only [W.PH_CTRL]; omega) (by simp only [W.PH_CTRL]; omega), own]
  exact if_pos rfl

theorem Gov.writeReg_fsynCtrl (g : Gov) (k : Fin 16) (w : Word) : g.writeReg (W.FSYN_CTRL k) w = g.writeFsynCtrl k w := by
  have own : (W.FSYN_CTRL k - 0x28000) / 0x20 = k.val := by simp only [W.FSYN_CTRL]; omega
  rw [g.writeReg_clocks w (writable_fsynCtrl k) (by simp only [W.FSYN_CTRL]; omega) (by simp only [W.FSYN_CTRL]; omega), Gov.writeClocks]
  dsimp only
  rw [if_pos (by simp only [W.FSYN_CTRL]; omega), own, if_pos rfl]

theorem Gov.writeReg_mux (g : Gov) (rg : Fin 16) (w : Word) : g.writeReg (W.DRP_RGN_MUX rg) w = g.writeMux rg w := by
  have own : (W.DRP_RGN_MUX rg - 0x28200) / 0x20 = rg.val := by simp only [W.DRP_RGN_MUX]; omega
  rw [g.writeReg_clocks w (writable_mux rg) (by simp only [W.DRP_RGN_MUX]; omega) (by simp only [W.DRP_RGN_MUX]; omega), Gov.writeClocks]
  dsimp only
  rw [if_neg (by simp only [W.DRP_RGN_MUX]; omega), if_pos (by simp only [W.DRP_RGN_MUX]; omega), own, if_pos rfl]

/-! ### PH_CTRL (R176) -/

/-- Words alike in their low bits are alike in every field there. -/
theorem field_of_low {x y : Word} {n lo w : Nat} (same : field x 0 n = field y 0 n) (inside : lo + w ≤ n) : field x lo w = field y lo w := by
  refine Nat.eq_of_testBit_eq fun i => ?_
  have low := congrArg (fun v => v.testBit (lo + i)) same
  simp only [testBit_field, Nat.zero_add] at low ⊢
  by_cases hi : i < w
  · simpa [hi, show lo + i < n by omega] using low
  · simp [hi]

/-- OOS reads as written. -/
theorem Gov.plain_oos (g : Gov) (p : Fin 64) (w : Word) : (g.plain (W.PH_CTRL p) w).flag (F.PH_CTRL_OOS p) = bit w.toNat 16 := by
  have mapped : (⟨"OOS", 16, 1, .rw, 0x0, false⟩ : FieldDef) ∈ fieldsAt (W.PH_CTRL p) := by revert p; decide +kernel
  exact (congrArg (· != 0) (g.get_plain w mapped)).trans (by simp [fieldWrite, field, bit])

section
variable {g : Gov} {p : Fin 64} {w : Word} (unmoved : field (g.merged (W.PH_CTRL p) w) 0 10 = field (g.word (W.PH_CTRL p)) 0 10)
include unmoved

/-- A write that moves no phase leaves its rail and its assignment. -/
theorem Gov.plain_unmoved : (g.plain (W.PH_CTRL p) w).get (F.PH_CTRL_RAIL p) = g.get (F.PH_CTRL_RAIL p) ∧ (g.plain (W.PH_CTRL p) w).flag (F.PH_CTRL_ASSIGNED p) = g.flag (F.PH_CTRL_ASSIGNED p) := by
  have alike : ∀ lo n, lo + n ≤ 10 → field ((g.plain (W.PH_CTRL p) w).word (W.PH_CTRL p)) lo n = field (g.word (W.PH_CTRL p)) lo n := fun lo n inside => by
    rw [Gov.word_plain_self]
    exact field_of_low unmoved inside
  exact ⟨alike 0 3 (by decide), congrArg (· != 0) (alike 3 1 (by decide))⟩

/-- PH_CTRL where the phase is not moved: a phase set out of service is refused where its rail would keep too few, and leaves once it is off; one that is not out of service waits for nothing. -/
theorem Gov.writePhCtrl_unmoved : g.writePhCtrl p w =
    (let new := g.plain (W.PH_CTRL p) w
     let setOos := bit w.toNat 16 && !g.flag (F.PH_CTRL_OOS p)
     if setOos && g.flag (F.PH_CTRL_ASSIGNED p) && decide ((new.inService (g.get (F.PH_CTRL_RAIL p))).length < g.get (F.RAIL_SHED_NPH_READY (g.get (F.PH_CTRL_RAIL p)))) then refuse (g.mark (F.PH_STAT_REFUSED p))
     else if setOos then accept (new.setPh p fun x => { x with oosPend := g.phaseOn p })
     else accept (if bit w.toNat 16 then new else new.setPh p fun x => { x with oosPend := false })) := by
  obtain ⟨rail, assigned⟩ := Gov.plain_unmoved unmoved
  have still : field (g.word (W.PH_CTRL p)) 0 10 = field ((g.plain (W.PH_CTRL p) w).word (W.PH_CTRL p)) 0 10 := by rw [Gov.word_plain_self, unmoved]
  unfold Gov.writePhCtrl
  simp only [still, ne_eq, not_true_eq_false, decide_false, Bool.false_and, Bool.false_eq_true, if_false, rail, assigned, Gov.plain_oos]

end

/-- An accepted write of PH_CTRL stores the word, with the phase's record beside it. -/
theorem Gov.setPh_stores (g : Gov) (p off : Nat) (w : Word) (f : PhaseSt → PhaseSt) : g.stores (((g.plain off w).setPh p f).respond 0 0) off w :=
  ⟨rfl, g.word_plain_self off w, fun o ho => g.word_plain_ne w (by simpa using ho)⟩

/-- A stored write of another word keeps OFF_WAKE. -/
theorem Gov.stores_offWake {g g' : Gov} {off : Nat} {w : Word} (h : g.stores g' off w) (ho : off ≠ W.PS_WAKE_STAT) : g'.get F.PS_WAKE_STAT_OFF_WAKE = g.get F.PS_WAKE_STAT_OFF_WAKE :=
  Gov.get_congr (h.2.2 W.PS_WAKE_STAT (by simpa using ho.symm))

/-- PHASE_OOS_WRITE where the phase's record is updated. -/
theorem phaseOosWrite_stores {p : Fin 64} {wr : PortWrite} {t : Fin 250} {s : State} {f : PhaseSt → PhaseSt} (h : s.gov.writesNow t (W.PH_CTRL p) wr)
    (e : (s.gov.reach t).writePhCtrl p wr.data = accept (((s.gov.reach t).plain (W.PH_CTRL p) wr.data).setPh p f)) :
    Completes (.phaseOosWrite p wr t) s fun g => (s.gov.reach t).stores g (W.PH_CTRL p) wr.data ∧ g.flag (F.PH_CTRL_OOS p) = bit wr.data.toNat 16 ∧ g.ph p = f ((s.gov.reach t).ph p) := by
  have stored := (s.gov.reach t).setPh_stores p (W.PH_CTRL p) wr.data f
  have wake := Gov.stores_offWake stored (by simp only [W.PH_CTRL, W.PS_WAKE_STAT]; omega)
  refine ⟨_, portCommand_ends h (((s.gov.reach t).writeReg_phCtrl p wr.data).trans e) wake, stored, (s.gov.reach t).plain_oos p wr.data, ?_⟩
  exact Gov.ph_setPh _ _ _

/-! ### FSYN_CTRL (R159) -/

/-- A region selects the synthesizer, or is connected to it. -/
def Gov.feeds (g : Gov) (k : Nat) : Prop := ∃ rg : Fin 16, g.source rg = .syn k ∨ (g.rgn rg).out = .syn k

theorem Gov.any_feeds (g : Gov) (k : Nat) : ((List.range 16).any fun rg => g.source rg == .syn k || (g.rgn rg).out == .syn k) = true ↔ g.feeds k := by
  simp only [List.any_eq_true, List.mem_range, Bool.or_eq_true, beq_iff_eq, Gov.feeds]
  exact ⟨fun ⟨rg, lt, h⟩ => ⟨⟨rg, lt⟩, h⟩, fun ⟨rg, h⟩ => ⟨rg, rg.isLt, h⟩⟩

theorem Gov.writeFsynCtrl_accepted {g : Gov} {k : Nat} {w : Word} (ok : if bit w.toNat 0 then 200 ≤ g.get (F.HLIM_FSYN_FUSE k) else ¬ g.feeds k) : g.writeFsynCtrl k w = accept (g.shadow (W.FSYN_CTRL k) w) := by
  unfold Gov.writeFsynCtrl
  split at ok
  · next en => rw [if_pos en, if_neg (by omega)]
  · next en => rw [if_neg en, if_neg (by rwa [g.any_feeds])]

theorem Gov.writeFsynCtrl_refused {g : Gov} {k : Nat} {w : Word} (bad : if bit w.toNat 0 then g.get (F.HLIM_FSYN_FUSE k) < 200 else g.feeds k) : g.writeFsynCtrl k w = refuse (g.mark (F.FSYN_STAT_REFUSED k)) := by
  unfold Gov.writeFsynCtrl
  split at bad
  · next en => rw [if_pos en, if_pos bad]
  · next en => rw [if_neg en, if_pos (by rwa [g.any_feeds])]

end Sys2Proof.Machine
end

section
namespace Sys2Proof.Machine

/-! ### DRP_RGN_MUX (R167, R169) -/

/-- A field of a region's multiplexer word is apart from the fault fields, from every synthesizer's fields and from the episodes'. -/
theorem mux_apart {f : Fld} (rg : Fin 16) (mux : f.off = W.DRP_RGN_MUX rg) :
    (∀ k, faultFld k → f.apart k = true) ∧ (∀ s, ∀ k ∈ targetFields s, f.apart k = true) ∧ (∀ r, ∀ k ∈ episodeFields r, f.apart k = true) := by
  have lt := rg.isLt
  simp only [W.DRP_RGN_MUX] at mux
  refine ⟨fault_apart (by omega) (by omega) (.inl (by omega)), fun s k hk => ?_, fun r k hk => ?_⟩
  · have other : k.off ≠ f.off := by
      simp only [targetFields, glideFields, List.mem_cons, List.not_mem_nil, or_false] at hk
      rcases hk with rfl | rfl | rfl | rfl | rfl
      all_goals simp only [F.FSYN_FREQ_TGT, F.FSYN_STAT_FLOOR, F.FSYN_STAT_CLAMP, F.FSYN_STAT_GLIDE, F.FSYN_STAT_HELD]; omega
    simp [Fld.apart, other.symm]
  · have other : k.off ≠ f.off := by
      simp only [episodeFields, List.mem_cons, List.not_mem_nil, or_false] at hk
      rcases hk with rfl | rfl | rfl | rfl | rfl
      all_goals simp only [F.DRP_RGN_EPI_COUNT, F.DRP_RGN_STIME_LO_STIME, F.DRP_RGN_STIME_HI_STIME, F.DRP_RGN_STAT_OPEN, F.DRP_RGN_STAT_DEPTH]; omega
    simp [Fld.apart, other.symm]

theorem logFields_fault {k : Fld} (hk : k ∈ logFields) : faultFld k := by
  simp only [logFields, List.mem_cons, List.not_mem_nil, or_false] at hk
  rcases hk with rfl | rfl
  · exact .inl (.inl (by simp))
  · exact .inl (.inl (by simp))

/-- Closing an episode leaves the multiplexers' words alone, and the regions' records. -/
theorem Gov.closeEpisode_mux (g : Gov) (r : Nat) {f : Fld} (rg : Fin 16) (mux : f.off = W.DRP_RGN_MUX rg) : (g.closeEpisode r).get f = g.get f :=
  let ⟨fault, _, episode⟩ := mux_apart rg mux
  (setFree_get f).closeEpisode g r (fun k hk => fault k (logFields_fault hk)) (episode r)

theorem Gov.closeEpisode_rgn (g : Gov) (r k : Nat) : (g.closeEpisode r).rgn k = g.rgn k := (setFree_rgn k).closeEpisode g r (fun _ _ => trivial) fun _ _ => trivial

/-- Connecting a region clears its BUSY and leaves the other fields of its multiplexer alone. -/
theorem Gov.connect_mux (g : Gov) (rg : Fin 16) : (g.connect rg).flag (F.DRP_RGN_MUX_BUSY rg) = false ∧
    (∀ f : Fld, f.off = W.DRP_RGN_MUX rg → f.apart (F.DRP_RGN_MUX_BUSY rg) = true → (g.connect rg).get f = g.get f) ∧ (g.connect rg).rgn rg = { g.rgn rg with out := g.source rg, goneAt := none } := by
  have reads : ∀ f : Fld, f.off = W.DRP_RGN_MUX rg → (g.connect rg).get f = (g.set (F.DRP_RGN_MUX_BUSY rg) 0).get f := fun f mux =>
    let ⟨fault, targets, _⟩ := mux_apart rg mux
    ((setFree_get f).connect g rg fault targets).trans (Gov.setRgn_get _ _ _ _)
  refine ⟨?_, fun f mux apart => (reads f mux).trans (g.get_set_apart 0 apart), ?_⟩
  · rw [Gov.flag, reads _ rfl, g.get_set_self 0 (by simp only [F.DRP_RGN_MUX_BUSY]; decide)]
    rfl
  · exact ((setFree_rgn rg).connect g rg (fun _ _ => trivial) fun _ _ _ => trivial).trans (by rw [Gov.rgn_setRgn_self, Gov.rgn_set])

section
variable (g : Gov) (rg : Fin 16) (sel alt : Nat)

/-- A selection reads as its codes, and stores in SEL and ALT alone. -/
theorem Gov.selectSource_reads : (g.selectSource rg sel alt).get (F.DRP_RGN_MUX_SEL rg) = sel % 4 ∧ (g.selectSource rg sel alt).get (F.DRP_RGN_MUX_ALT rg) = alt % 16 ∧
    g.onlyFields (g.selectSource rg sel alt) [F.DRP_RGN_MUX_SEL rg, F.DRP_RGN_MUX_ALT rg] := by
  refine ⟨?_, Gov.get_set_self _ _ (by simp only [F.DRP_RGN_MUX_ALT]; decide), Gov.onlyFields_set _ (Gov.onlyFields_set _ (g.onlyFields_refl _) (by simp)) (by simp)⟩
  exact (Gov.get_set_apart _ _ (by simp [Fld.apart, F.DRP_RGN_MUX_SEL, F.DRP_RGN_MUX_ALT])).trans (Gov.get_set_self _ _ (by simp only [F.DRP_RGN_MUX_SEL]; decide))

/-- A switch that begins shows BUSY and the selection; the connected source stays until it is done. -/
theorem Gov.beginSwitch_reads : (g.beginSwitch rg sel alt).get (F.DRP_RGN_MUX_SEL rg) = sel % 4 ∧ (g.beginSwitch rg sel alt).get (F.DRP_RGN_MUX_ALT rg) = alt % 16 ∧
    (g.beginSwitch rg sel alt).flag (F.DRP_RGN_MUX_BUSY rg) = true ∧ (g.beginSwitch rg sel alt).rgn rg = { g.rgn rg with swAt := g.now } := by
  obtain ⟨sels, alts, _⟩ := g.selectSource_reads rg sel alt
  let begun := ((g.selectSource rg sel alt).set (F.DRP_RGN_MUX_BUSY rg) 1).setRgn rg fun x => { x with swAt := g.now }
  have cases : g.beginSwitch rg sel alt = if begun.source rg = .off then begun.closeEpisode rg else begun := rfl
  have closed : ∀ f : Fld, f.off = W.DRP_RGN_MUX rg → (g.beginSwitch rg sel alt).get f = ((g.selectSource rg sel alt).set (F.DRP_RGN_MUX_BUSY rg) 1).get f := fun f mux => by
    rw [cases]
    exact read_ite (rd := fun h => h.get f) ((begun.closeEpisode_mux rg rg mux).trans (Gov.setRgn_get _ _ _ _)) (Gov.setRgn_get _ _ _ _)
  have record : (g.beginSwitch rg sel alt).rgn rg = begun.rgn rg := by
    rw [cases]
    exact read_ite (rd := fun h => h.rgn rg) (begun.closeEpisode_rgn rg rg) rfl
  refine ⟨?_, ?_, ?_, record.trans (by rw [Gov.rgn_setRgn_self, Gov.rgn_set, Gov.rgn_selectSource])⟩
  · rw [closed _ rfl, Gov.get_set_apart _ _ (by simp [Fld.apart, F.DRP_RGN_MUX_SEL, F.DRP_RGN_MUX_BUSY]), sels]
  · rw [closed _ rfl, Gov.get_set_apart _ _ (by simp [Fld.apart, F.DRP_RGN_MUX_ALT, F.DRP_RGN_MUX_BUSY]), alts]
  · rw [Gov.flag, closed _ rfl, Gov.get_set_self _ 1 (by simp only [F.DRP_RGN_MUX_BUSY]; decide)]
    rfl

/-- A forced region is connected to the selected source at once. -/
theorem Gov.forceSource_reads : (g.forceSource rg sel alt).get (F.DRP_RGN_MUX_SEL rg) = sel % 4 ∧ (g.forceSource rg sel alt).get (F.DRP_RGN_MUX_ALT rg) = alt % 16 ∧
    (g.forceSource rg sel alt).flag (F.DRP_RGN_MUX_BUSY rg) = false ∧ (g.forceSource rg sel alt).rgn rg = { g.rgn rg with out := sourceOf rg (sel % 4) (alt % 16), goneAt := none } := by
  obtain ⟨sels, alts, _⟩ := g.selectSource_reads rg sel alt
  let selected := g.selectSource rg sel alt
  let closed := if selected.source rg = .off then selected.closeEpisode rg else selected
  have kept : ∀ f : Fld, f.off = W.DRP_RGN_MUX rg → closed.get f = selected.get f := fun f mux => read_ite (rd := fun h => h.get f) (selected.closeEpisode_mux rg rg mux) rfl
  have record : closed.rgn rg = g.rgn rg := read_ite (rd := fun h => h.rgn rg) ((selected.closeEpisode_rgn rg rg).trans (g.rgn_selectSource rg sel alt rg)) (g.rgn_selectSource rg sel alt rg)
  obtain ⟨busy, others, rgn⟩ := closed.connect_mux rg
  have source : closed.source rg = sourceOf rg (sel % 4) (alt % 16) := by rw [Gov.source, kept _ rfl, kept _ rfl, sels, alts]
  refine ⟨(others _ rfl ?_).trans ((kept _ rfl).trans sels), (others _ rfl ?_).trans ((kept _ rfl).trans alts), busy, rgn.trans ?_⟩
  · simp [Fld.apart, F.DRP_RGN_MUX_SEL, F.DRP_RGN_MUX_BUSY]
  · simp [Fld.apart, F.DRP_RGN_MUX_ALT, F.DRP_RGN_MUX_BUSY]
  · rw [source, record]

end

/-- The state with the rest of a written multiplexer word stored: the selection as it was, and FORCE taken out. -/
def Gov.muxRest (g : Gov) (rg : Nat) (w : Word) : Gov :=
  g.plain (W.DRP_RGN_MUX rg) (insertField (insertField (insertField w 0 2 (g.get (F.DRP_RGN_MUX_SEL rg))) 4 4 (g.get (F.DRP_RGN_MUX_ALT rg))) 24 1 0)

/-- BUSY is read-only at the port. -/
theorem Gov.muxRest_busy (g : Gov) (rg : Fin 16) (w : Word) : (g.muxRest rg w).flag (F.DRP_RGN_MUX_BUSY rg) = g.flag (F.DRP_RGN_MUX_BUSY rg) := by
  have mapped : (⟨"BUSY", 16, 1, .ro, 0x0, false⟩ : FieldDef) ∈ fieldsAt (W.DRP_RGN_MUX rg) := by revert rg; decide +kernel
  exact congrArg (· != 0) (g.get_plain _ mapped)

/-- The source that a write of the multiplexer names. -/
def muxSource (rg : Nat) (w : Word) : Source := sourceOf rg (field w 0 2) (field w 4 4)

/-- The rule of a multiplexer's write, by its branches. -/
theorem Gov.writeMux_eq (g : Gov) (rg : Nat) (w : Word) : g.writeMux rg w =
    if g.anchored ∧ muxSource rg w ≠ g.source rg then refuse (g.mark (F.DRP_RGN_MUX_REFUSED rg))
    else if bit w.toNat 24 then
      if g.sourcePresent (g.rgn rg).out || !g.sourcePresent (muxSource rg w) then refuse (g.mark (F.DRP_RGN_MUX_REFUSED rg)) else accept ((g.muxRest rg w).forceSource rg (field w 0 2) (field w 4 4))
    else if muxSource rg w = g.source rg then accept ((g.muxRest rg w).selectSource rg (field w 0 2) (field w 4 4))
    else if g.switchBad rg (muxSource rg w) then refuse (g.mark (F.DRP_RGN_MUX_REFUSED rg))
    else accept ((g.muxRest rg w).beginSwitch rg (field w 0 2) (field w 4 4)) := rfl

section
variable {g : Gov} {rg : Nat} {w : Word}

theorem Gov.writeMux_same (noForce : bit w.toNat 24 = false) (same : muxSource rg w = g.source rg) : g.writeMux rg w = accept ((g.muxRest rg w).selectSource rg (field w 0 2) (field w 4 4)) := by
  rw [Gov.writeMux_eq, if_neg (fun h => h.2 same), if_neg (by simp [noForce]), if_pos same]

theorem Gov.writeMux_switch (noForce : bit w.toNat 24 = false) (other : muxSource rg w ≠ g.source rg) (free : g.anchored = false) (good : g.switchBad rg (muxSource rg w) = false) :
    g.writeMux rg w = accept ((g.muxRest rg w).beginSwitch rg (field w 0 2) (field w 4 4)) := by
  rw [Gov.writeMux_eq, if_neg (by simp [free]), if_neg (by simp [noForce]), if_neg other, if_neg (by rw [Bool.not_eq_true]; exact good)]

theorem Gov.writeMux_force (force : bit w.toNat 24 = true) (free : g.anchored = false ∨ muxSource rg w = g.source rg) (stopped : g.sourcePresent (g.rgn rg).out = false) (there : g.sourcePresent (muxSource rg w) = true) :
    g.writeMux rg w = accept ((g.muxRest rg w).forceSource rg (field w 0 2) (field w 4 4)) := by
  have moves : ¬ (g.anchored = true ∧ muxSource rg w ≠ g.source rg) := fun ⟨anchored, other⟩ => free.elim (fun h => by simp [h] at anchored) other
  have forced : (g.sourcePresent (g.rgn rg).out || !g.sourcePresent (muxSource rg w)) = false := by simp [stopped, there]
  rw [Gov.writeMux_eq, if_neg moves, if_pos force, if_neg (by rw [Bool.not_eq_true]; exact forced)]

theorem Gov.writeMux_switchRefused (noForce : bit w.toNat 24 = false) (other : muxSource rg w ≠ g.source rg) (bad : g.anchored = true ∨ g.switchBad rg (muxSource rg w) = true) :
    g.writeMux rg w = refuse (g.mark (F.DRP_RGN_MUX_REFUSED rg)) := by
  rw [Gov.writeMux_eq]
  by_cases anchored : g.anchored = true
  · rw [if_pos ⟨anchored, other⟩]
  · rw [if_neg (fun h => anchored h.1), if_neg (by simp [noForce]), if_neg other, if_pos (bad.resolve_left anchored)]

theorem Gov.writeMux_forceRefused (force : bit w.toNat 24 = true) (bad : g.sourcePresent (g.rgn rg).out = true ∨ g.sourcePresent (muxSource rg w) = false) : g.writeMux rg w = refuse (g.mark (F.DRP_RGN_MUX_REFUSED rg)) := by
  have refused : (g.sourcePresent (g.rgn rg).out || !g.sourcePresent (muxSource rg w)) = true := by rcases bad with h | h <;> simp [h]
  rw [Gov.writeMux_eq, if_pos force, if_pos refused, ite_self]

end

theorem regionSwitch_port {rg : Fin 16} {wr : PortWrite} {t : Fin 250} {s : State} (noForce : bit wr.data.toNat 24 = false) : exec (.regionSwitch rg wr t) s = portCommand (W.DRP_RGN_MUX rg) wr t s :=
  if_pos (by simp [noForce])

theorem regionForce_port {rg : Fin 16} {wr : PortWrite} {t : Fin 250} {s : State} (force : bit wr.data.toNat 24 = true) : exec (.regionForce rg wr t) s = portCommand (W.DRP_RGN_MUX rg) wr t s := if_pos force

/-- A field of a word is smaller than its width allows. -/
theorem field_mod (w : Word) (lo n : Nat) : field w lo n % 2 ^ n = field w lo n := Nat.mod_mod _ _

/-- An accepted write of a multiplexer: the selection reads as written, where the power-state words are left. -/
theorem muxWrite_accepted {rg : Fin 16} {wr : PortWrite} {t : Fin 250} {s : State} {h : Gov} (hw : s.gov.writesNow t (W.DRP_RGN_MUX rg) wr) (e : (s.gov.reach t).writeMux rg wr.data = accept h)
    (power : ((s.gov.reach t).muxRest rg wr.data).samePower h) (sel : h.get (F.DRP_RGN_MUX_SEL rg) = field wr.data 0 2 % 4) (alt : h.get (F.DRP_RGN_MUX_ALT rg) = field wr.data 4 4 % 16) :
    ∃ g, portCommand (W.DRP_RGN_MUX rg) wr t s = .next { s with gov := g } ∧ (g.resp = 0 ∧ g.get (F.DRP_RGN_MUX_SEL rg) = field wr.data 0 2 ∧ g.get (F.DRP_RGN_MUX_ALT rg) = field wr.data 4 4) ∧
      g.flag (F.DRP_RGN_MUX_BUSY rg) = h.flag (F.DRP_RGN_MUX_BUSY rg) ∧ g.rgn rg = h.rgn rg ∧ ∀ o, g.word o = h.word o := by
  have rest : ((s.gov.reach t).muxRest rg wr.data).get F.PS_WAKE_STAT_OFF_WAKE = (s.gov.reach t).get F.PS_WAKE_STAT_OFF_WAKE :=
    Gov.get_congr ((s.gov.reach t).word_plain_ne _ (by simp only [W.DRP_RGN_MUX, F.PS_WAKE_STAT_OFF_WAKE]; omega))
  have wake : (h.respond 0 0).get F.PS_WAKE_STAT_OFF_WAKE = (s.gov.reach t).get F.PS_WAKE_STAT_OFF_WAKE := by rw [Gov.respond_get, power.get F.PS_WAKE_STAT_OFF_WAKE, rest]
  refine ⟨h.respond 0 0, portCommand_ends hw (((s.gov.reach t).writeReg_mux rg wr.data).trans e) wake, ⟨rfl, ?_, ?_⟩, h.respond_flag 0 0 _, rfl, h.respond_word 0 0⟩
  · rw [Gov.respond_get, sel]
    exact field_mod _ 0 2
  · rw [Gov.respond_get, alt]
    exact field_mod _ 4 4

theorem muxWrite_refused {rg : Fin 16} {wr : PortWrite} {t : Fin 250} {s : State} (hw : s.gov.writesNow t (W.DRP_RGN_MUX rg) wr) (e : (s.gov.reach t).writeMux rg wr.data = refuse ((s.gov.reach t).mark (F.DRP_RGN_MUX_REFUSED rg))) :
    ∃ g, portCommand (W.DRP_RGN_MUX rg) wr t s = .next { s with gov := g } ∧ (s.gov.reach t).refuses g (F.DRP_RGN_MUX_REFUSED rg) [] :=
  portCommand_refused hw (((s.gov.reach t).writeReg_mux rg wr.data).trans e) (by simp only [F.DRP_RGN_MUX_REFUSED]; decide) rfl (by simp only [F.PS_WAKE_STAT_OFF_WAKE, F.DRP_RGN_MUX_REFUSED]; omega)

end Sys2Proof.Machine

open Sys2Proof Sys2Proof.Machine

/-- Settles O40: each write is one branch of its group's rule (`Gov.writePhCtrl_unmoved`, `Gov.writeFsynCtrl_accepted`, `Gov.writeMux_switch` and the others); a switch and a force are read through the episode that they close and the synthesizers that they aim anew. -/
theorem phaseAndClockWrites : Obligations.PhaseAndClockWrites := by
  intro wr t s g0
  refine ⟨fun p hw unmoved => ?_, fun k hw => ?_, fun rg hw => ?_⟩
  · have verdict := Gov.writePhCtrl_unmoved unmoved
    refine ⟨fun off => ?_, fun on was enough => ?_, fun on was assigned few => ?_⟩
    · rw [off] at verdict
      obtain ⟨g, next, stored, oos, record⟩ := phaseOosWrite_stores hw verdict
      exact ⟨g, next, stored, oos.trans off, by rw [record]⟩
    · rw [on, was, if_neg (by simpa using enough)] at verdict
      obtain ⟨g, next, stored, oos, record⟩ := phaseOosWrite_stores hw verdict
      exact ⟨g, next, stored, oos.trans on, by rw [record]⟩
    · rw [on, was, assigned, if_pos (by simpa using few)] at verdict
      exact portCommand_refused hw ((g0.writeReg_phCtrl p wr.data).trans verdict) (by simp only [F.PH_STAT_REFUSED]; decide) rfl (by simp only [F.PS_WAKE_STAT_OFF_WAKE, F.PH_STAT_REFUSED]; omega)
  · refine ⟨fun ok => ?_, fun bad => ?_⟩
    · have stored : g0.storesLater ((g0.shadow (W.FSYN_CTRL k) wr.data).respond 0 0) (W.FSYN_CTRL k) wr.data := g0.shadow_storesLater _ _ (g0.shadow (W.FSYN_CTRL k) wr.data).eng
      have wake := Gov.storesLater_offWake stored (by simp only [W.FSYN_CTRL, W.PS_WAKE_STAT]; omega)
      exact ⟨_, portCommand_ends hw ((g0.writeReg_fsynCtrl k wr.data).trans (Gov.writeFsynCtrl_accepted ok)) wake, stored⟩
    · exact portCommand_refused hw ((g0.writeReg_fsynCtrl k wr.data).trans (Gov.writeFsynCtrl_refused bad)) (by simp only [F.FSYN_STAT_REFUSED]; decide) rfl (by simp only [F.PS_WAKE_STAT_OFF_WAKE, F.FSYN_STAT_REFUSED]; omega)
  · have power := Gov.samePower.refl (g0.muxRest rg wr.data)
    have words : ∀ o, o ≠ W.DRP_RGN_MUX rg → (g0.muxRest rg wr.data).word o = g0.word o := fun o ho => g0.word_plain_ne _ ho
    refine ⟨fun noForce same => ?_, fun noForce other free good => ?_, fun noForce other bad => ?_, fun force free stopped there => ?_, fun force bad => ?_⟩
    · obtain ⟨sel, alt, only⟩ := (g0.muxRest rg wr.data).selectSource_reads rg (field wr.data 0 2) (field wr.data 4 4)
      obtain ⟨g, next, selects, shown, rgn, word⟩ := muxWrite_accepted hw (Gov.writeMux_same noForce same) (power.selectSource rg _ _) sel alt
      refine ⟨g, (regionSwitch_port noForce).trans next, selects, shown.trans ?_, rgn, fun o ho => ?_⟩
      · exact (congrArg (· != 0) (only _ (by simp [Fld.apart, F.DRP_RGN_MUX_BUSY, F.DRP_RGN_MUX_SEL, F.DRP_RGN_MUX_ALT]))).trans (g0.muxRest_busy rg wr.data)
      · have out : o ≠ W.DRP_RGN_MUX rg := by simpa using ho
        exact (word o).trans ((Gov.word_set_ne _ _ out).trans ((Gov.word_set_ne _ _ out).trans (words o out)))
    · obtain ⟨sel, alt, busy, begun⟩ := (g0.muxRest rg wr.data).beginSwitch_reads rg (field wr.data 0 2) (field wr.data 4 4)
      obtain ⟨g, next, selects, shown, rgn, _⟩ := muxWrite_accepted hw (Gov.writeMux_switch noForce other free good) (power.beginSwitch rg _ _) sel alt
      have record := rgn.trans begun
      exact ⟨g, (regionSwitch_port noForce).trans next, selects, shown.trans busy, by rw [record]; rfl, by rw [record]; rfl⟩
    · obtain ⟨g, next, refused⟩ := muxWrite_refused hw (Gov.writeMux_switchRefused noForce other bad)
      exact ⟨g, (regionSwitch_port noForce).trans next, refused⟩
    · obtain ⟨sel, alt, busy, forced⟩ := (g0.muxRest rg wr.data).forceSource_reads rg (field wr.data 0 2) (field wr.data 4 4)
      obtain ⟨g, next, selects, shown, rgn, _⟩ := muxWrite_accepted hw (Gov.writeMux_force force free stopped there) (power.forceSource rg _ _) sel alt
      have record := rgn.trans forced
      have named : sourceOf rg (field wr.data 0 2 % 4) (field wr.data 4 4 % 16) = muxSource rg wr.data := congrArg₂ (sourceOf rg) (field_mod _ 0 2) (field_mod _ 4 4)
      exact ⟨g, (regionForce_port force).trans next, selects, shown.trans busy, (congrArg RegionSt.out record).trans named, congrArg RegionSt.goneAt record⟩
    · obtain ⟨g, next, refused⟩ := muxWrite_refused hw (Gov.writeMux_forceRefused force bad)
      exact ⟨g, (regionForce_port force).trans next, refused⟩
end

section
namespace Sys2Proof.Machine

/-! ### A crossing whose count stops the clock that its region is connected to (R154, R158) -/

/-- Detector 0 is armed and region 0 has no episode. The region selects REFCLK and is connected to a source with the number 64. No synthesizer has it, and no run leads here; but `State` allows it, and the words of that number lie on the detectors' counts: its enable is the lowest bit of detector 0's, its lock that of detector 4's. -/
def strayCount : State :=
  Test.on [(F.DRP_DET_CFG_EN 0, 1), (F.RAIL_CTRL_EN 0, 1), (F.RAIL_STATE_INWIN 0, 1), (F.DRP_RGN_STR_EN 0, 1), (F.DRP_RGN_MUX_SEL 0, 2), (F.DRP_DET_CNT_COUNT 0, 1), (F.DRP_DET_CNT_COUNT 4, 1)] fun g => g.setRgn 0 fun x => { x with out := .syn 64 }

/-- There the hypotheses of the clause that opens an episode hold: the region runs before the crossing. -/
theorem strayCount_meets : strayCount.gov.up = true ∧ (strayCount.gov.reach 0).act (F.DRP_DET_CFG_REGION 0) = 0 ∧ (strayCount.gov.reach 0).armed 0 = true ∧ (strayCount.gov.reach 0).episode 0 = false ∧
    (strayCount.gov.reach 0).actFlag (F.DRP_RGN_STR_EN 0) = true ∧ (strayCount.gov.reach 0).regionRuns 0 = true := by decide +kernel

/-- The crossing counts from 1 to 2 before it looks whether the region runs; that clears the enable of the connected source, and no episode opens. -/
theorem strayCount_crossing : (match exec (.droopCrossing 0 0) strayCount with | .next s => some (s.gov.get (F.DRP_DET_CNT_COUNT 0), s.gov.flag (F.DRP_RGN_STAT_OPEN 0)) | _ => none) = some (2, false) := by decide +kernel

end Sys2Proof.Machine

open Sys2Proof Sys2Proof.Machine

/-- Refutes O59: the clause of a crossing that opens an episode reads whether the region runs before the crossing, but the model reads it after the detector's count is stored, and that store can stop the region's connected source where the source has a number that no synthesizer has. -/
theorem not_clockEvents : ¬ Obligations.ClockEvents := by
  intro h
  obtain ⟨up, region, armed, quiet, enabled, runs⟩ := strayCount_meets
  obtain ⟨detectors, -⟩ := h 0 strayCount up
  obtain ⟨⟨g, crossing, -, -, -, -, -, opens⟩, -⟩ := detectors 0
  simp only [Fin.val_zero, region] at opens
  obtain ⟨opened, -⟩ := opens armed quiet enabled runs
  have closed := strayCount_crossing
  rw [crossing] at closed
  have shut : g.flag (F.DRP_RGN_STAT_OPEN 0) = false := congrArg Prod.snd (Option.some.inj closed)
  rw [opened] at shut
  exact absurd shut (by decide)
end

section
namespace Sys2Proof.Machine

/-! ### The start of a rail's period (R183, R185, R190, R206) -/

/-- Fields of different words are apart. -/
theorem Fld.apart_of_off {f k : Fld} (h : f.off ≠ k.off) : f.apart k = true := by simp [Fld.apart, h]

/-- A period start has put the written fields, the computed on-time and a commit in force, before the rail moves. -/
structure Gov.PeriodBegun (g h : Gov) (r : Nat) : Prop where
  now  : h.now = g.now
  get  : ∀ f : Fld, f.apart (F.RAIL_STATE_REACHED r) = true → h.get f = g.get f
  on   : h.railOn r = g.flag (F.RAIL_CTRL_EN r)
  rail : h.rail r = { g.rail r with onTime := (g.rail r).nextOn, commit := false, coef := if (g.rail r).commit then g.coefShadow r else (g.rail r).coef }

@[simp] theorem Gov.setPh_act (g : Gov) (p : Nat) (x : PhaseSt → PhaseSt) (f : Fld) : (g.setPh p x).act f = g.act f := rfl

theorem Gov.schedulePhases_keeps (g : Gov) (r k : Nat) (f : Fld) : (g.schedulePhases r).now = g.now ∧ (g.schedulePhases r).get f = g.get f ∧ (g.schedulePhases r).act f = g.act f ∧ (g.schedulePhases r).rail k = g.rail k := by
  unfold Gov.schedulePhases
  exact ⟨Gov.each_same (fun h => h.now) (fun h p => h.setPh_now p _) _ _, Gov.each_same (fun h => h.get f) (fun h p => h.setPh_get p _ f) _ _, Gov.each_same (fun h => h.act f) (fun h p => h.setPh_act p _ f) _ _,
    Gov.each_same (fun h => h.rail k) (fun h p => h.rail_setPh k p _) _ _⟩

/-- A signed field apart from a stored one: the coefficients' words are not the state's. -/
theorem Gov.coefShadow_set (g : Gov) (r v : Nat) : (g.set (F.RAIL_STATE_REACHED r) v).coefShadow r = g.coefShadow r := by
  have kept : ∀ f : Fld, f.off ≠ 0x24104 + 0x100 * r → (g.set (F.RAIL_STATE_REACHED r) v).sget f = g.sget f := fun f other => g.sget_set_apart v (Fld.apart_of_off other)
  have b : ∀ j < 4, (F.RAIL_B_B r j).off ≠ 0x24104 + 0x100 * r := fun j _ => by simp only [F.RAIL_B_B]; omega
  simp only [Gov.coefShadow, List.map_cons, List.map_nil]
  rw [kept _ (b 0 (by decide)), kept _ (b 1 (by decide)), kept _ (b 2 (by decide)), kept _ (b 3 (by decide)), kept (F.RAIL_C1_C1 r) (by simp only [F.RAIL_C1_C1]; omega),
    kept (F.RAIL_C2_C2 r) (by simp only [F.RAIL_C2_C2]; omega), kept (F.RAIL_VC_LO_VC_LO r) (by simp only [F.RAIL_VC_LO_VC_LO]; omega), kept (F.RAIL_VC_HI_VC_HI r) (by simp only [F.RAIL_VC_HI_VC_HI]; omega)]

/-- The commit at a period start: the shadow comes in force where one was asked for. -/
def Gov.withCommit (g : Gov) (r : Nat) : Gov := if (g.rail r).commit then g.commitCoeffs r else g

theorem Gov.withCommit_rail (g : Gov) (r : Nat) : (g.withCommit r).rail r = { g.rail r with commit := false, coef := if (g.rail r).commit then g.coefShadow r else (g.rail r).coef } := by
  unfold Gov.withCommit
  split
  · exact Gov.rail_setRail _ _ _
  · next none => rw [← Bool.not_eq_true _ |>.mp none]

theorem Gov.withCommit_keeps (g : Gov) (r : Nat) (f : Fld) : (g.withCommit r).now = g.now ∧ (g.withCommit r).get f = g.get f ∧ (g.withCommit r).act f = g.act f := by
  unfold Gov.withCommit
  split
  · exact ⟨rfl, rfl, rfl⟩
  · exact ⟨rfl, rfl, rfl⟩

/-- What a period start does: it puts what waits in force, then stops a tripped rail, starts a wanted one and stops any other. -/
theorem Gov.periodStart_spec (g : Gov) (r : Nat) : ∃ h, g.PeriodBegun h r ∧
    g.periodStart r = if h.flag F.FLT_CTRL_TRIPPED then h.beginFaultStop r else if h.railWant r then h.beginStart r else h.beginStop r := by
  unfold Gov.periodStart
  extract_lets old phs live noted commit begun
  refine ⟨begun, ?_, rfl⟩
  have cleared : noted = live ∨ noted = live.set (F.RAIL_STATE_REACHED r) 0 := by
    unfold noted
    split
    · exact .inl rfl
    · exact .inr rfl
  have now : noted.now = g.now := by rcases cleared with e | e <;> rw [e] <;> rfl
  have get : ∀ f : Fld, f.apart (F.RAIL_STATE_REACHED r) = true → noted.get f = g.get f := fun f apart => by
    rcases cleared with e | e
    · rw [e]; rfl
    · rw [e, Gov.get_set_apart _ _ apart]; rfl
  have on : noted.act (F.RAIL_CTRL_EN r) = g.get (F.RAIL_CTRL_EN r) := by
    have held : live.act (F.RAIL_CTRL_EN r) = g.get (F.RAIL_CTRL_EN r) := g.act_activate _ (by simp [railHeldWord, F.RAIL_CTRL_EN, W.RAIL_SEL])
    rcases cleared with e | e
    · rw [e, held]
    · rw [e, Gov.act_set_apart _ _ (Fld.apart_of_off (by simp only [F.RAIL_CTRL_EN, F.RAIL_STATE_REACHED]; omega)), held]
  have shadow : noted.coefShadow r = g.coefShadow r := by
    rcases cleared with e | e
    · rw [e]; rfl
    · rw [e, Gov.coefShadow_set]; rfl
  have rail : noted.rail r = g.rail r := by rcases cleared with e | e <;> rw [e] <;> rfl
  have keeps := fun f => (commit.setRail r fun x => { x with onTime := x.nextOn }).schedulePhases_keeps r r f
  have kept := fun f => noted.withCommit_keeps r f
  refine ⟨?_, fun f apart => ?_, ?_, ?_⟩
  · exact (keeps F.FLT_CTRL_TRIPPED).1.trans ((kept F.FLT_CTRL_TRIPPED).1.trans now)
  · exact (keeps f).2.1.trans ((kept f).2.1.trans (get f apart))
  · exact congrArg (· != 0) ((keeps _).2.2.1.trans ((kept _).2.2.trans on))
  · refine (keeps F.FLT_CTRL_TRIPPED).2.2.2.trans ((Gov.rail_setRail _ _ _).trans ?_)
    rw [show commit = noted.withCommit r from rfl, Gov.withCommit_rail, rail, shadow]

/-! ### Starts and stops (R190, R191) -/

theorem Gov.beginStart_off {g : Gov} {r : Nat} (free : g.flag (F.RAIL_STATE_FSTOP r) = false) (off : g.rstate r = rOff) : g.beginStart r = g.enterState r rOnDly := by
  unfold Gov.beginStart
  dsimp only
  rw [if_neg (by simp [free]), if_pos off]

theorem Gov.beginStart_offDly {g : Gov} {r : Nat} (free : g.flag (F.RAIL_STATE_FSTOP r) = false) (waits : g.rstate r = rOffDly) : g.beginStart r = g.enterState r rOn := by
  unfold Gov.beginStart
  dsimp only
  rw [if_neg (by simp [free]), if_neg (by rw [waits]; decide), if_pos waits]

theorem Gov.beginStop_runs {g : Gov} {r : Nat} (runs : g.rstate r = rRamp ∨ g.rstate r = rOn) : g.beginStop r = (g.abortShed r).enterState r rOffDly := by
  have awaits : g.rstate r ≠ rOnDly := by rcases runs with e | e <;> rw [e] <;> decide
  unfold Gov.beginStop
  dsimp only
  rw [if_neg awaits, if_pos runs]

/-- A rail that enters a state as its period starts: its time in the state runs from now, with what waited in force. -/
theorem Gov.PeriodBegun.enters {g h k : Gov} {r : Nat} (b : g.PeriodBegun h r) (now : k.now = h.now) (rail : ∃ n, k.rail r = { h.rail r with shedOk := n }) {st : Nat} (hst : st < 8) :
    let e := k.enterState r st
    e.rstate r = st ∧ (e.rail r).stateAt = g.now ∧ (e.rail r).onTime = (g.rail r).nextOn ∧ (e.rail r).commit = false ∧ (e.rail r).coef = if (g.rail r).commit then g.coefShadow r else (g.rail r).coef := by
  obtain ⟨n, same⟩ := rail
  dsimp only
  rw [Gov.enterState_rstate, Gov.enterState_rail, same, b.rail, now, b.now, Nat.mod_eq_of_lt hst]
  exact ⟨rfl, rfl, rfl, rfl, rfl⟩

end Sys2Proof.Machine

open Sys2Proof Sys2Proof.Machine

/-- Settles O22: the period start puts what waits in force (`Gov.PeriodBegun`), then the rail's state and its enable select one entry into a state. -/
theorem railPeriodStarts : Obligations.RailPeriodStarts := by
  intro r t s g0 up calm free
  obtain ⟨h, begun, start⟩ := g0.periodStart_spec r
  have row : exec (.railPeriodStart r t) s = .next { s with gov := g0.periodStart r } := nextGov (s.gov.ev_up t _ up)
  have untripped : h.flag F.FLT_CTRL_TRIPPED = false := (congrArg (· != 0) (begun.get _ (Fld.apart_of_off (by simp only [F.FLT_CTRL_TRIPPED, F.RAIL_STATE_REACHED]; omega)))).trans calm
  have state : h.rstate r = g0.rstate r := begun.get _ (by simp [Fld.apart, F.RAIL_STATE_STATE, F.RAIL_STATE_REACHED])
  have fstop : h.flag (F.RAIL_STATE_FSTOP r) = g0.flag (F.RAIL_STATE_FSTOP r) := congrArg (· != 0) (begun.get _ (by simp [Fld.apart, F.RAIL_STATE_FSTOP, F.RAIL_STATE_REACHED]))
  have want : h.railWant r = g0.flag (F.RAIL_CTRL_EN r) := by rw [Gov.railWant, begun.on, begun.rail, free]; simp
  rw [untripped, want, if_neg Bool.false_ne_true] at start
  refine ⟨fun en loose off => ⟨_, row.trans (nextGov ?_), begun.enters rfl ⟨_, rfl⟩ (by decide)⟩, fun en loose waits => ⟨_, row.trans (nextGov ?_), begun.enters rfl ⟨_, rfl⟩ (by decide)⟩,
    fun en runs => ⟨_, row.trans (nextGov ?_), begun.enters (h.abortShed_now r) (h.abortShed_rail r) (by decide)⟩⟩
  · rw [start, if_pos en, Gov.beginStart_off (fstop.trans loose) (state.trans off)]
  · rw [start, if_pos en, Gov.beginStart_offDly (fstop.trans loose) (state.trans waits)]
  · rw [start, if_neg (by simp [en]), Gov.beginStop_runs (by rwa [state])]
end

section
namespace Sys2Proof.Machine

/-! ### The rail's timed steps (R187, R190, R191) -/

theorem Gov.railTimer_due {g : Gov} {r : Nat} {t : Fin 250} {st : Nat} {us : Fld} (up : g.up = true) (state : (g.reach t).rstate r = st) (due : ((g.reach t).rail r).stateAt + (g.reach t).act us * 1000 ≤ (g.reach t).now)
    (f : Gov → Gov) : g.railTimer r t st us f = f (g.reach t) := if_pos ⟨up, state, due⟩

theorem railPgoodDelayExpiry_next {r : Fin 8} {t : Fin 250} {s : State} {a : Nat} (up : s.gov.up = true) (on : (s.gov.reach t).rstate r = rOn) (since : ((s.gov.reach t).rail r).goodAt = some a)
    (due : a + (s.gov.reach t).act (F.RAIL_WIN_PG_DLY r) * 1000 ≤ (s.gov.reach t).now) :
    exec (.railPgoodDelayExpiry r t) s = .next { s with gov := (s.gov.reach t).setRail r fun x => { x with good := true } } := by
  refine nextGov ?_
  dsimp only
  rw [since]
  exact if_pos ⟨up, on, due⟩

/-- A signed field reads as a stored value in its range. -/
theorem Gov.vcmd_setVcmd (g : Gov) (r : Nat) {v : Int} (low : 0 ≤ v) (high : v < 2 ^ 31) : (g.setVcmd r v).vcmd r = v :=
  (g.sget_sset_self v (f := F.RAIL_VCMD_VCMD r) (by simp only [F.RAIL_VCMD_VCMD]; decide) (by simp only [F.RAIL_VCMD_VCMD]; decide)).trans
    (ssat_of_range 32 v (by omega) (by omega))

theorem Gov.sensed_range (g : Gov) (r : Nat) : 0 ≤ g.sensed r ∧ g.sensed r < 2 ^ 31 := by
  have bound : g.get (F.RAIL_TELE_VOUT r) < 2 ^ 12 := g.get_lt _
  unfold Gov.sensed
  omega

theorem Gov.volts_range (g : Gov) (r e : Nat) : 0 ≤ g.volts r e ∧ g.volts r e < 2 ^ 31 := by
  have bound : g.entry r e < 2 ^ 12 := field_lt _ _ _
  unfold Gov.volts
  omega

/-- A ramp raises the phases in service, takes its voltage and resets the compensator, then enters RAMP. -/
theorem Gov.rampFrom_eq (g : Gov) (r : Nat) (v : Int) : ∃ (h : Gov) (x : RailSt → RailSt), h.now = g.now ∧ (∀ y, (x y).good = false) ∧
    g.rampFrom r v = (((h.setVcmd r v).set (F.RAIL_STATE_REACHED r) 0).setRail r x).enterState r rRamp :=
  ⟨_, _, (Gov.refreshAct_now _ _).trans (Gov.each_same (fun h => h.now) (fun h p => read_ite (rd := fun h => h.now) rfl (h.raisePhase_now p)) _ _), fun _ => rfl, rfl⟩

theorem Gov.enterState_vcmd (g : Gov) (r st : Nat) : (g.enterState r st).vcmd r = g.vcmd r :=
  Gov.sget_set_apart g st (by simp [Fld.apart, F.RAIL_VCMD_VCMD, F.RAIL_STATE_STATE])

/-- A ramp starts now, from its voltage, and the rail is not good. -/
theorem Gov.rampFrom_ramps (g : Gov) (r : Nat) {v : Int} (low : 0 ≤ v) (high : v < 2 ^ 31) :
    let h := g.rampFrom r v
    h.rstate r = rRamp ∧ (h.rail r).stateAt = g.now ∧ h.vcmd r = v ∧ (h.rail r).good = false := by
  obtain ⟨h, x, now, good, ramp⟩ := g.rampFrom_eq r v
  dsimp only
  rw [ramp, Gov.enterState_rail, Gov.rail_setRail, Gov.enterState_vcmd]
  refine ⟨Gov.enterState_rstate _ r rRamp, ?_, ?_, good _⟩
  · rw [Gov.setRail_now, Gov.set_now, Gov.setVcmd, Gov.sset_now, now]
  · rw [Gov.vcmd, Gov.setRail_sget, Gov.sget_set_apart _ _ (by simp [Fld.apart, F.RAIL_VCMD_VCMD, F.RAIL_STATE_REACHED]), ← Gov.vcmd, h.vcmd_setVcmd r low high]

/-- A rail that goes off drops its phases, clears its flags and empties its record, then enters OFF. -/
theorem Gov.railOff_eq (g : Gov) (r : Nat) : ∃ (h : Gov) (x : RailSt → RailSt), h.now = g.now ∧ (∀ y, (x y).bins = []) ∧
    g.railOff r = ((((h.set (F.RAIL_STATE_FSTOP r) 0).set (F.RAIL_STATE_REACHED r) 0).set (F.RAIL_STATE_INWIN r) 0).setRail r x).enterState r rOff :=
  ⟨_, _, (Gov.refreshAct_now _ _).trans (Gov.each_same (fun h => h.now) (fun h p => h.dropPhase_now p) _ _), fun _ => rfl, rfl⟩

/-- A rail that goes off: it is OFF from now, with FSTOP clear and no overload bins. -/
theorem Gov.railOff_off (g : Gov) (r : Nat) :
    let h := g.railOff r
    h.rstate r = rOff ∧ (h.rail r).stateAt = g.now ∧ h.flag (F.RAIL_STATE_FSTOP r) = false ∧ (h.rail r).bins = [] := by
  obtain ⟨h, x, now, bins, off⟩ := g.railOff_eq r
  dsimp only
  rw [off, Gov.enterState_rail, Gov.rail_setRail]
  refine ⟨Gov.enterState_rstate _ r rOff, now, ?_, bins _⟩
  rw [Gov.enterState, Gov.setRail_flag, Gov.flag_set_apart _ _ (by simp [Fld.apart, F.RAIL_STATE_FSTOP, F.RAIL_STATE_STATE]), Gov.setRail_flag,
    Gov.flag_set_apart _ _ (by simp [Fld.apart, F.RAIL_STATE_FSTOP, F.RAIL_STATE_INWIN]), Gov.flag_set_apart _ _ (by simp [Fld.apart, F.RAIL_STATE_FSTOP, F.RAIL_STATE_REACHED]),
    Gov.flag_set_self _ _ (by simp [F.RAIL_STATE_FSTOP])]
  rfl

/-- A rail that enters a state with its record changed: only its STATE field changes. -/
theorem Gov.enterState_only (g : Gov) (r st : Nat) (x : RailSt → RailSt) : g.onlyFields ((g.setRail r x).enterState r st) [F.RAIL_STATE_STATE r] :=
  Gov.onlyFields_regs (h := (g.setRail r x).set (F.RAIL_STATE_STATE r) st) (Gov.onlyFields_set st (Gov.onlyFields_regs (g.onlyFields_refl _) rfl rfl) List.mem_cons_self) rfl rfl

end Sys2Proof.Machine

open Sys2Proof Sys2Proof.Machine

/-- Settles O23: each delay's expiry is one step of the rail at the instant (`Gov.railTimer_due`): a ramp, a stop of the ramp, the end of the discharge, or the mark of a good rail. -/
theorem railTimedSteps : Obligations.RailTimedSteps := by
  intro r t s g0 up
  have voltage : 0 ≤ min (g0.sensed r) (g0.volts r (g0.tgt r)) ∧ min (g0.sensed r) (g0.volts r (g0.tgt r)) < 2 ^ 31 := by
    have sensed := g0.sensed_range r
    have target := g0.volts_range r (g0.tgt r)
    omega
  refine ⟨fun state due => ⟨_, nextGov (Gov.railTimer_due up state due _), g0.rampFrom_ramps r voltage.1 voltage.2⟩,
    fun state due => ⟨_, nextGov (Gov.railTimer_due up state due _), ?_, ?_, ?_, g0.enterState_only r rRampDn _⟩,
    fun state due => ⟨_, nextGov (Gov.railTimer_due up state due _), g0.railOff_off r⟩,
    fun a on since due => ⟨_, railPgoodDelayExpiry_next up on since due, ?_, Gov.onlyFields_regs (g0.onlyFields_refl _) rfl rfl⟩⟩
  · exact Gov.enterState_rstate _ r rRampDn
  · rw [Gov.enterState_rail]; rfl
  · rw [Gov.enterState_rail, Gov.rail_setRail]
  · rw [Gov.rail_setRail]
end

section
namespace Sys2Proof.Machine

/-! ### The start of a phase's period (R179, R193, R197) -/

/-- The state in which a phase's period has begun: a fast limit's hold is over. -/
def Gov.freshPeriod (g : Gov) (p : Nat) : Gov :=
  (g.setPh p fun x => { x with ocNow := false, ocRun := if (g.ph p).ocNow then x.ocRun else 0, raised := false }).set (F.PH_STAT_OC_NOW p) 0

theorem Gov.freshPeriod_ph (g : Gov) (p : Nat) : (g.freshPeriod p).ph p = { g.ph p with ocNow := false, ocRun := if (g.ph p).ocNow then (g.ph p).ocRun else 0, raised := false } :=
  (Gov.ph_set _ _ _ _).trans (g.ph_setPh p _)

theorem Gov.freshPeriod_only (g : Gov) (p : Nat) : g.onlyFields (g.freshPeriod p) [F.PH_STAT_OC_NOW p] :=
  Gov.onlyFields_set _ (Gov.onlyFields_regs (g.onlyFields_refl _) rfl rfl) List.mem_cons_self

theorem Gov.freshPeriod_phaseOn (g : Gov) (p : Nat) : (g.freshPeriod p).phaseOn p = g.phaseOn p :=
  congrArg (· != 0) (g.freshPeriod_only p _ (by simp [Fld.apart, F.PH_STAT_ACTIVE, F.PH_STAT_OC_NOW]))

section
variable {g : Gov} {p : Nat} (stays : (g.ph p).oosPend = false)
include stays

/-- A phase that is not shed starts a pulse where it is on, not clamped, and its rail has an on-time. -/
theorem Gov.phasePeriod_pulses (kept : (g.ph p).shed = 0) : g.phasePeriod p =
    let r := g.get (F.PH_CTRL_RAIL p)
    let pulse := (g.freshPeriod p).phaseOn p && !(r == 0 && g.reg.clamp) && decide (0 < (g.rail r).onTime)
    let rise := g.tickOf (g.ph p).startAt
    (g.freshPeriod p).setPh p fun y => { y with pulse := pulse, riseAt := rise, fallAt := rise + (g.rail r).onTime } := by
  unfold Gov.phasePeriod
  dsimp only
  rw [if_neg (by simp [stays]), if_neg (by omega), if_neg (by omega)]
  rfl

theorem Gov.phasePeriod_sheds (asked : (g.ph p).shed = 1) : g.phasePeriod p = (g.freshPeriod p).setPh p fun x => { x with shed := 2, pulse := false } := by
  unfold Gov.phasePeriod
  dsimp only
  rw [if_neg (by simp [stays]), if_pos asked]
  rfl

theorem Gov.phasePeriod_ends (last : (g.ph p).shed = 2) : g.phasePeriod p = (g.freshPeriod p).finishShed p := by
  unfold Gov.phasePeriod
  dsimp only
  rw [if_neg (by simp [stays]), if_neg (by omega), if_pos last]
  rfl

end

/-! ### The end of a shed (R198) -/

theorem Gov.dropPhase_off (g : Gov) (p : Nat) : (g.dropPhase p).phaseOn p = false ∧ (g.dropPhase p).flag (F.PH_STAT_SHEDDING p) = false ∧ ((g.dropPhase p).ph p).shed = 0 := by
  refine ⟨?_, ?_, by rw [Gov.dropPhase, Gov.ph_setPh]⟩
  · rw [Gov.phaseOn, Gov.dropPhase, Gov.setPh_flag, Gov.flag_set_apart _ _ (by simp [Fld.apart, F.PH_STAT_ACTIVE, F.PH_STAT_SHEDDING]), Gov.flag_set_self _ _ (by simp [F.PH_STAT_ACTIVE])]
    rfl
  · rw [Gov.dropPhase, Gov.setPh_flag, Gov.flag_set_self _ _ (by simp [F.PH_STAT_SHEDDING])]
    rfl

/-- A finished shed reads, apart from its rail's telemetry and its count, as the drop of the phase. -/
theorem Gov.finishShed_get (g : Gov) (p : Nat) {f : Fld} (tele : [F.RAIL_STATE_N_ACT (g.get (F.PH_CTRL_RAIL p)), F.RAIL_TELE_IOUT (g.get (F.PH_CTRL_RAIL p)), F.RAIL_POUT_POUT (g.get (F.PH_CTRL_RAIL p))].all f.apart = true)
    (count : f.apart (F.RAIL_CNT_SHED_COUNT (g.get (F.PH_CTRL_RAIL p))) = true) : (g.finishShed p).get f = (g.dropPhase p).get f := by
  unfold Gov.finishShed
  dsimp only
  rw [Gov.setRail_get, Gov.inc_eq, Gov.get_set_apart _ _ count, Gov.refreshAct_get _ _ tele]

/-- The end of a shed: the phase is off, and its rail counts one more shed. -/
theorem Gov.finishShed_off (g : Gov) (p : Nat) :
    let h := g.finishShed p
    h.phaseOn p = false ∧ h.flag (F.PH_STAT_SHEDDING p) = false ∧ (h.ph p).shed = 0 ∧
      h.get (F.RAIL_CNT_SHED_COUNT (g.get (F.PH_CTRL_RAIL p))) = usat 32 (g.get (F.RAIL_CNT_SHED_COUNT (g.get (F.PH_CTRL_RAIL p))) + 1) := by
  have rail : g.get (F.PH_CTRL_RAIL p) < 8 := g.get_lt _
  generalize own : g.get (F.PH_CTRL_RAIL p) = r at rail
  have high : ∀ f : Fld, 0x24900 ≤ f.off → (g.finishShed p).get f = (g.dropPhase p).get f := fun f hf => by
    refine g.finishShed_get p ?_ (Fld.apart_of_off (by simp only [own, F.RAIL_CNT_SHED_COUNT]; omega))
    simp [own, Fld.apart, F.RAIL_STATE_N_ACT, F.RAIL_TELE_IOUT, F.RAIL_POUT_POUT]
    omega
  obtain ⟨off, ended, shed⟩ := g.dropPhase_off p
  refine ⟨(congrArg (· != 0) (high _ (by simp only [F.PH_STAT_ACTIVE]; omega))).trans off, (congrArg (· != 0) (high _ (by simp only [F.PH_STAT_SHEDDING]; omega))).trans ended, ?_, ?_⟩
  · unfold Gov.finishShed
    dsimp only
    rw [Gov.ph_setRail, Gov.inc_eq, Gov.ph_set, Gov.ph_of_reg (Gov.refreshAct_reg _ _), shed]
  · unfold Gov.finishShed
    dsimp only
    rw [own, Gov.setRail_get, Gov.get_inc32 _ _ ⟨rfl, rfl⟩, Gov.refreshAct_get _ _ (by simp [Fld.apart, F.RAIL_CNT_SHED_COUNT, F.RAIL_STATE_N_ACT, F.RAIL_TELE_IOUT, F.RAIL_POUT_POUT]),
      Gov.dropPhase_get _ _ (by simp [Fld.apart, F.RAIL_CNT_SHED_COUNT, F.PH_STAT_ACTIVE, F.PH_STAT_SHEDDING]; omega)]

end Sys2Proof.Machine

open Sys2Proof Sys2Proof.Machine

/-- Settles O27: how far a shed has come selects what the period's start does: a pulse, the last period, or the end of the shed (`Gov.finishShed_off`), which is also SHED_COMPLETE. -/
theorem phasePeriods : Obligations.PhasePeriods := by
  intro p t s g0 up
  refine ⟨fun assigned stays => ?_, fun last => ⟨_, nextGov ((s.gov.ev_up t _ up).trans (if_pos last)), g0.finishShed_off p⟩⟩
  have row : exec (.phasePeriodStart p t) s = .next { s with gov := g0.phasePeriod p } := nextGov ((s.gov.ev_up t _ up).trans (if_pos assigned))
  refine ⟨fun kept => ⟨_, row.trans (nextGov (Gov.phasePeriod_pulses stays kept)), ?_, ?_, ?_, ?_, Gov.onlyFields_regs (g0.freshPeriod_only p) rfl rfl⟩,
    fun asked => ⟨_, row.trans (nextGov (Gov.phasePeriod_sheds stays asked)), ?_, ?_, Gov.onlyFields_regs (g0.freshPeriod_only p) rfl rfl⟩,
    fun last => ⟨_, row.trans (nextGov (Gov.phasePeriod_ends stays last)), ?_⟩⟩
  · rw [Gov.ph_setPh, Gov.freshPeriod_phaseOn]
  · rw [Gov.ph_setPh]
  · rw [Gov.ph_setPh]
  · rw [Gov.ph_setPh, Gov.freshPeriod_ph]
  · rw [Gov.ph_setPh]
  · rw [Gov.ph_setPh]
  · obtain ⟨off, ended, -⟩ := (g0.freshPeriod p).finishShed_off p
    exact ⟨off, ended⟩
end

section
namespace Sys2Proof.Machine

/-! ### The end of an overload bin (R196) -/

/-- A rail's window with its present bin joined: at most the last sixteen bins. -/
def RailSt.window (x : RailSt) : List (Nat × Nat) := (x.bins ++ [(x.binSum, x.binN)]).drop ((x.bins.length + 1) - 16)

theorem RailSt.window_length (x : RailSt) : x.window.length ≤ max 16 x.bins.length := by
  simp only [RailSt.window, List.length_drop, List.length_append, List.length_singleton]
  omega

theorem RailSt.window_last (x : RailSt) : x.window.getLast? = some (x.binSum, x.binN) := by
  have short : x.bins.length + 1 - 16 ≤ x.bins.length := by omega
  rw [RailSt.window, List.drop_append_of_le_length short, List.getLast?_concat]

/-- The mean of the window, as published. -/
def RailSt.loadMean (x : RailSt) : Nat := usat 16 ((x.window.map (·.1)).foldl (· + ·) 0 / max 1 ((x.window.map (·.2)).foldl (· + ·) 0))

/-- The state in which the bin has joined the window and the mean is published. -/
def Gov.binned (g : Gov) (r : Nat) : Gov := (g.setRail r fun x => { x with bins := (g.rail r).window, binSum := 0, binN := 0 }).set (F.RAIL_POUT_IOL_MEAN r) (g.rail r).loadMean

theorem Gov.binned_rail (g : Gov) (r : Nat) : (g.binned r).rail r = { g.rail r with bins := (g.rail r).window, binSum := 0, binN := 0 } := (Gov.rail_set _ _ _ _).trans (g.rail_setRail r _)

theorem Gov.binned_mean (g : Gov) (r : Nat) : (g.binned r).get (F.RAIL_POUT_IOL_MEAN r) = (g.rail r).loadMean := (Gov.get_set_self _ _ (by simp [F.RAIL_POUT_IOL_MEAN])).trans (usat_mod 16 _)

theorem Gov.binned_get (g : Gov) (r : Nat) {f : Fld} (apart : f.apart (F.RAIL_POUT_IOL_MEAN r) = true) : (g.binned r).get f = g.get f := Gov.get_set_apart _ _ apart

/-- The onset of an overload: the flag and its record are marked, and the onset is counted. -/
def Gov.overloads (g : Gov) (r : Nat) : Gov := ((g.mark (F.RAIL_FLAGS_OL r)).mark (F.RAIL_FLAGS_OL_SEEN r)).inc (F.RAIL_CNT_OL_COUNT r)

/-- The end of a bin: the window grows; a mean above the limit begins an overload, and one at or below fifteen sixteenths of it ends it. -/
theorem Gov.binEnd_eq (g : Gov) (r : Nat) : g.binEnd r =
    let lim := (g.binned r).act (F.RAIL_OL_ILIM_SLOW r)
    if (g.binned r).flag (F.RAIL_FLAGS_OL r) then (if (g.rail r).loadMean * 16 ≤ lim * 15 then (g.binned r).set (F.RAIL_FLAGS_OL r) 0 else g.binned r)
    else if lim < (g.rail r).loadMean then ((g.binned r).overloads r).raise 271 r else g.binned r := by
  unfold Gov.binEnd Gov.overloads Gov.binned RailSt.loadMean RailSt.window
  rfl

theorem Gov.binned_limit (g : Gov) (r : Nat) : (g.binned r).act (F.RAIL_OL_ILIM_SLOW r) = g.act (F.RAIL_OL_ILIM_SLOW r) :=
  (Gov.act_set_apart _ _ (by simp [Fld.apart, F.RAIL_OL_ILIM_SLOW, F.RAIL_POUT_IOL_MEAN])).trans (Gov.setRail_act _ _ _ _)

theorem Gov.binned_flag (g : Gov) (r : Nat) : (g.binned r).flag (F.RAIL_FLAGS_OL r) = g.flag (F.RAIL_FLAGS_OL r) :=
  congrArg (· != 0) (g.binned_get r (by simp [Fld.apart, F.RAIL_FLAGS_OL, F.RAIL_POUT_IOL_MEAN]))

theorem Gov.overloads_rail (g : Gov) (r : Nat) : (g.overloads r).rail r = g.rail r := by rw [Gov.overloads, Gov.inc_eq, Gov.rail_set, Gov.mark_eq, Gov.rail_set, Gov.mark_eq, Gov.rail_set]

/-- The onset marks OL and OL_SEEN, and leaves the mean and the power state. -/
theorem Gov.overloads_reads (g : Gov) (r : Nat) : (g.overloads r).flag (F.RAIL_FLAGS_OL r) = true ∧ (g.overloads r).flag (F.RAIL_FLAGS_OL_SEEN r) = true ∧
    (g.overloads r).get (F.RAIL_POUT_IOL_MEAN r) = g.get (F.RAIL_POUT_IOL_MEAN r) ∧ (g.overloads r).asleep = g.asleep := by
  have apart : ∀ f : Fld, f.off ≠ 0x24108 + 0x100 * r → f.off ≠ 0x2418C + 0x100 * r → (g.overloads r).get f = g.get f := fun f flags count =>
    (Gov.get_set_apart _ _ (Fld.apart_of_off count)).trans ((Gov.get_set_apart _ _ (Fld.apart_of_off flags)).trans (Gov.get_set_apart _ _ (Fld.apart_of_off flags)))
  refine ⟨?_, ?_, apart _ (by simp only [F.RAIL_POUT_IOL_MEAN]; omega) (by simp only [F.RAIL_POUT_IOL_MEAN]; omega), Gov.asleep_of_get (apart _ (by simp only [F.PS_STAT_STATE]; omega) (by simp only [F.PS_STAT_STATE]; omega))⟩
  · rw [Gov.overloads, Gov.inc_eq, Gov.flag_set_apart _ _ (by simp [Fld.apart, F.RAIL_FLAGS_OL, F.RAIL_CNT_OL_COUNT]), Gov.mark_eq, Gov.flag_set_apart _ _ (by simp [Fld.apart, F.RAIL_FLAGS_OL, F.RAIL_FLAGS_OL_SEEN]),
      Gov.mark_eq, Gov.flag_set_self _ _ (by simp [F.RAIL_FLAGS_OL])]
    rfl
  · rw [Gov.overloads, Gov.inc_eq, Gov.flag_set_apart _ _ (by simp [Fld.apart, F.RAIL_FLAGS_OL_SEEN, F.RAIL_CNT_OL_COUNT]), Gov.mark_eq, Gov.flag_set_self _ _ (by simp [F.RAIL_FLAGS_OL_SEEN])]
    rfl

/-- An onset with its source raised: the rail's words below the fault words read as marked. -/
theorem Gov.overload_raised {g : Gov} {r : Nat} (hr : r < 8) (awake : g.asleep = false) :
    let h := (g.overloads r).raise 271 r
    h.flag (F.RAIL_FLAGS_OL r) = true ∧ h.flag (F.RAIL_FLAGS_OL_SEEN r) = true ∧ h.flag (F.FLT_STATUS_bit 271) = true ∧ h.get (F.RAIL_POUT_IOL_MEAN r) = g.get (F.RAIL_POUT_IOL_MEAN r) ∧ h.rail r = g.rail r := by
  obtain ⟨now, seen, mean, slept⟩ := g.overloads_reads r
  have slept := slept.trans awake
  have low : ∀ f : Fld, f.off < 0x50000 → ((g.overloads r).raise 271 r).get f = (g.overloads r).get f := fun f hf => Gov.raise_get _ _ _ _ slept (raiseFields_low 271 hf)
  refine ⟨(congrArg (· != 0) (low _ (by simp only [F.RAIL_FLAGS_OL]; omega))).trans now, (congrArg (· != 0) (low _ (by simp only [F.RAIL_FLAGS_OL_SEEN]; omega))).trans seen, Gov.raise_flag _ _ _ _ slept (.inl (by decide)),
    (low _ (by simp only [F.RAIL_POUT_IOL_MEAN]; omega)).trans mean, ?_⟩
  exact (Gov.rail_of_reg (besideFlt_reg (Gov.raise_besideFlt _ _ _ _ slept)) r).trans (g.overloads_rail r)

/-- An overload stays as long as the mean is above fifteen sixteenths of the limit. -/
theorem Gov.binEnd_stays {g : Gov} {r : Nat} (was : g.flag (F.RAIL_FLAGS_OL r) = true) :
    let h := g.binEnd r
    h.rail r = (g.binned r).rail r ∧ (h.flag (F.RAIL_FLAGS_OL r) = true ↔ g.act (F.RAIL_OL_ILIM_SLOW r) * 15 < h.get (F.RAIL_POUT_IOL_MEAN r) * 16) := by
  have bins := g.binEnd_eq r
  dsimp only at bins
  rw [g.binned_limit, g.binned_flag, if_pos was] at bins
  dsimp only
  rw [bins]
  by_cases low : (g.rail r).loadMean * 16 ≤ g.act (F.RAIL_OL_ILIM_SLOW r) * 15
  · rw [if_pos low, Gov.flag_set_self _ _ (by simp [F.RAIL_FLAGS_OL]), Gov.get_set_apart _ _ (by simp [Fld.apart, F.RAIL_POUT_IOL_MEAN, F.RAIL_FLAGS_OL]), g.binned_mean]
    exact ⟨Gov.rail_set _ _ _ _, by simp [low]⟩
  · rw [if_neg low, g.binned_flag, was, g.binned_mean]
    exact ⟨rfl, by simp only [true_iff]; omega⟩

/-- An overload begins where the mean is above the limit, with its record and its source. -/
theorem Gov.binEnd_begins {g : Gov} {r : Nat} (hr : r < 8) (awake : g.asleep = false) (was : g.flag (F.RAIL_FLAGS_OL r) = false) :
    let h := g.binEnd r
    h.rail r = (g.binned r).rail r ∧ (h.flag (F.RAIL_FLAGS_OL r) = true ↔ g.act (F.RAIL_OL_ILIM_SLOW r) < h.get (F.RAIL_POUT_IOL_MEAN r)) ∧
      (h.flag (F.RAIL_FLAGS_OL r) = true → h.flag (F.RAIL_FLAGS_OL_SEEN r) = true ∧ h.flag (F.FLT_STATUS_bit 271) = true) := by
  have slept : (g.binned r).asleep = false := (Gov.asleep_of_get (g.binned_get r (Fld.apart_of_off (by simp only [F.PS_STAT_STATE, F.RAIL_POUT_IOL_MEAN]; omega)))).trans awake
  have bins := g.binEnd_eq r
  dsimp only at bins
  rw [g.binned_limit, g.binned_flag, was, if_neg Bool.false_ne_true] at bins
  dsimp only
  rw [bins]
  by_cases above : g.act (F.RAIL_OL_ILIM_SLOW r) < (g.rail r).loadMean
  · obtain ⟨now, seen, source, kept, rail⟩ := Gov.overload_raised hr slept
    rw [if_pos above, now, kept, g.binned_mean]
    exact ⟨rail, by simp [above], fun _ => ⟨seen, source⟩⟩
  · rw [if_neg above, g.binned_flag, was, g.binned_mean]
    exact ⟨rfl, by simp [above], fun set => absurd set (by decide)⟩

end Sys2Proof.Machine

open Sys2Proof Sys2Proof.Machine

/-- Settles O28: the bin joins the window (`Gov.binned`), and the published mean decides whether an overload begins (`Gov.binEnd_begins`) or stays (`Gov.binEnd_stays`). -/
theorem overloadBins : Obligations.OverloadBins := by
  intro r t s g0 up awake runs full
  have row : exec (.overloadBinEnd r t) s = .next { s with gov := g0.binEnd r } := nextGov ((s.gov.ev_up t _ up).trans (if_pos ⟨runs, full⟩))
  have rail : (g0.binEnd r).rail r = (g0.binned r).rail r := by
    cases was : g0.flag (F.RAIL_FLAGS_OL r) with
    | true => exact (Gov.binEnd_stays was).1
    | false => exact (Gov.binEnd_begins r.isLt awake was).1
  refine ⟨_, row, ?_⟩
  dsimp only
  rw [rail, Gov.binned_rail]
  exact ⟨rfl, rfl, (g0.rail r).window_length, (g0.rail r).window_last, fun was => (Gov.binEnd_begins r.isLt awake was).2, fun was => (Gov.binEnd_stays was).2⟩
end

section
namespace Sys2Proof.Machine

/-! ### The timebase's phase zero (R178 to R181) -/

/-- A move toward a number stays within its bound. -/
theorem toward_near (x tgt bound : Nat) : toward x tgt bound ≤ x + bound ∧ x ≤ toward x tgt bound + bound := by
  unfold toward
  split
  · omega
  · omega

/-- A phase zero has set the effective period and judged the lock, before the rails count it. -/
structure Gov.Retimed (g h : Gov) : Prop where
  now   : h.now = g.now
  rails : h.reg.rails = g.reg.rails
  held  : h.held = g.held
  only  : g.onlyFields h [F.REG_TB_STAT_PER_EFF, F.REG_TB_STAT_SYNC_LOCK]
  above : h.perEff ≤ g.perEff + g.perEff / 200
  below : g.perEff ≤ h.perEff + g.perEff / 200

/-- A stored effective period within the bound reads as stored. -/
theorem Gov.Retimed.of_move {g b : Gov} (fits : g.perEff + g.perEff / 200 < 2 ^ 18) {tgt share : Nat} (lock : Nat) (small : share ≤ g.perEff / 200) (now : b.now = g.now) (rails : b.reg.rails = g.reg.rails) (held : b.held = g.held)
    (fuses : b.fuses = g.fuses) (regs : b.regs = g.regs) : g.Retimed ((b.set F.REG_TB_STAT_PER_EFF (toward g.perEff tgt share)).set F.REG_TB_STAT_SYNC_LOCK lock) := by
  obtain ⟨above, below⟩ := toward_near g.perEff tgt share
  have eff : ((b.set F.REG_TB_STAT_PER_EFF (toward g.perEff tgt share)).set F.REG_TB_STAT_SYNC_LOCK lock).perEff = toward g.perEff tgt share := by
    rw [Gov.perEff, Gov.get_set_apart _ _ (by decide), Gov.get_set_self _ _ (by decide)]
    exact Nat.mod_eq_of_lt (Nat.lt_of_le_of_lt (by omega) fits)
  refine ⟨by simpa using now, by simpa using rails, by simpa using held, Gov.onlyFields_set _ (Gov.onlyFields_set _ (Gov.onlyFields_regs (g.onlyFields_refl _) fuses regs) (by simp)) (by simp), ?_, ?_⟩
  · rw [eff]; omega
  · rw [eff]; omega

theorem Gov.Retimed.withReg {g h : Gov} (moved : g.Retimed h) {x : RegSt} (rails : x.rails = h.reg.rails) : g.Retimed (h.withReg x) :=
  ⟨by simpa using moved.now, by simpa using rails.trans moved.rails, by simpa using moved.held, Gov.onlyFields_regs moved.only (Gov.withReg_fuses _ _) (Gov.withReg_regs _ _), moved.above, moved.below⟩

/-- The state with the lock judged and the effective period moved, in phase with SYNC_IN or toward the programmed period. -/
theorem Gov.phaseZero_spec (g : Gov) (since : Nat) (fits : g.perEff + g.perEff / 200 < 2 ^ 18) : ∃ h : Gov, g.phaseZero since = (h.withReg { h.reg with zeroAt := some (pwmTicks h.now) }).each (List.range 8) Gov.scheduleRail ∧ g.Retimed h := by
  rw [Gov.phaseZero]
  dsimp only
  split
  · exact ⟨_, rfl, .of_move fits _ (Nat.lt_succ_iff.1 (Nat.mod_lt _ (Nat.succ_pos _))) rfl rfl rfl rfl rfl⟩
  · exact ⟨_, rfl, (Gov.Retimed.of_move fits 0 (Nat.le_refl _) rfl rfl rfl rfl rfl).withReg rfl⟩

/-- The state without the regulator's record. -/
def Gov.besideReg (g : Gov) : Gov := g.withReg {}

theorem Gov.scheduleRail_keeps (g : Gov) (r : Nat) : (g.scheduleRail r).besideReg = g.besideReg ∧ (g.scheduleRail r).reg.zeroAt = g.reg.zeroAt ∧ ∀ k, k ≠ r → (g.scheduleRail r).rail k = g.rail k := by
  unfold Gov.scheduleRail
  dsimp only
  split
  · exact ⟨rfl, rfl, fun k other => g.rail_setRail_ne _ other⟩
  · exact ⟨rfl, rfl, fun k other => g.rail_setRail_ne _ other⟩

/-- A full count begins again, and places the rail's period. -/
theorem Gov.scheduleRail_full {g : Gov} {r : Nat} (full : g.act (F.RAIL_CTRL_RDIV r) ≤ (g.rail r).tbCount) :
    (g.scheduleRail r).rail r = { g.rail r with tbCount := 0, startAt := some (pwmTicks g.now + g.act (F.RAIL_CTRL_RPH r) * g.perRail r / 256) } := by
  rw [Gov.scheduleRail]
  dsimp only
  rw [if_neg (by omega), Gov.rail_setRail]

theorem Gov.scheduleRail_counts {g : Gov} {r : Nat} (counts : (g.rail r).tbCount < g.act (F.RAIL_CTRL_RDIV r)) : (g.scheduleRail r).rail r = { g.rail r with tbCount := (g.rail r).tbCount + 1 } := by
  rw [Gov.scheduleRail]
  dsimp only
  rw [if_pos (by omega), Gov.rail_setRail]

/-- Each rail is counted once, on a state that differs in other rails' records alone. -/
theorem Gov.scheduled_rail (g : Gov) (r : Fin 8) : ∃ k : Gov, k.besideReg = g.besideReg ∧ k.rail r = g.rail r ∧ (g.each (List.range 8) Gov.scheduleRail).rail r = (k.scheduleRail r).rail r := by
  have other : ∀ (h : Gov), ∀ y ∈ List.range 8, y ≠ r.val → (h.scheduleRail y).rail r = h.rail r := fun h y _ ne => (h.scheduleRail_keeps y).2.2 r ne.symm
  obtain ⟨k, base, read⟩ := Gov.each_at List.nodup_range (List.mem_range.2 r.isLt) g (fun h => h.rail r) (fun h => (h.besideReg, h.rail r)) other
    fun h y hy ne => Prod.ext (h.scheduleRail_keeps y).1 (other h y hy ne)
  exact ⟨k, congrArg Prod.fst base, congrArg Prod.snd base, read⟩

theorem Gov.scheduled_keeps (g : Gov) : (g.each (List.range 8) Gov.scheduleRail).besideReg = g.besideReg ∧ (g.each (List.range 8) Gov.scheduleRail).reg.zeroAt = g.reg.zeroAt :=
  ⟨Gov.each_same Gov.besideReg (fun h r => (h.scheduleRail_keeps r).1) _ _, Gov.each_same (fun h => h.reg.zeroAt) (fun h r => (h.scheduleRail_keeps r).2.1) _ _⟩

/-- What is read of two states alike beside the regulator's record. -/
theorem besideReg_now {g h : Gov} (same : h.besideReg = g.besideReg) : h.now = g.now := by
  have reads : ∀ k : Gov, k.now = k.besideReg.now := fun k => rfl
  rw [reads h, same, ← reads g]

theorem besideReg_get {g h : Gov} (same : h.besideReg = g.besideReg) (f : Fld) : h.get f = g.get f := by
  have reads : ∀ k : Gov, k.get f = k.besideReg.get f := fun k => rfl
  rw [reads h, same, ← reads g]

theorem besideReg_act {g h : Gov} (same : h.besideReg = g.besideReg) (f : Fld) : h.act f = g.act f := by
  have reads : ∀ k : Gov, k.act f = k.besideReg.act f := fun k => rfl
  rw [reads h, same, ← reads g]

theorem besideReg_perRail {g h : Gov} (same : h.besideReg = g.besideReg) (r : Nat) : h.perRail r = g.perRail r := by
  have reads : ∀ k : Gov, k.perRail r = k.besideReg.perRail r := fun k => rfl
  rw [reads h, same, ← reads g]

/-! ### SYNC_IN (R180, R181) -/

/-- A SYNC_IN period that is valid: near the programmed one, and in the range of frequencies. -/
def Gov.edgeValid (g : Gov) (period : Nat) : Prop := g.per * 9 ≤ period * 10 ∧ period * 10 ≤ g.per * 11 ∧ 25600 ≤ period ∧ period * 300 ≤ 51200000

theorem Gov.syncEdge_off {g : Gov} (off : g.actFlag F.REG_SYNC_SYNC_EN = false) (period : Nat) : g.syncEdge period = g.withReg { g.reg with edges := 0, acquired := false } := by
  unfold Gov.syncEdge
  dsimp only
  rw [if_pos (by simp [off])]

theorem Gov.syncEdge_valid {g : Gov} (on : g.actFlag F.REG_SYNC_SYNC_EN = true) {period : Nat} (valid : g.edgeValid period) :
    g.syncEdge period = (g.set F.REG_TB_STAT_SYNC_VALID 1).withReg { g.reg with edges := g.reg.edges + 1, measured := period, acquired := g.reg.acquired || decide (16 ≤ g.reg.edges + 1), edgeAt := g.now } := by
  obtain ⟨low, high, fast, slow⟩ := valid
  simp [Gov.syncEdge, on, low, high, fast, slow, b2n]

theorem Gov.syncEdge_invalid {g : Gov} (on : g.actFlag F.REG_SYNC_SYNC_EN = true) {period : Nat} (bad : ¬ g.edgeValid period) : g.syncEdge period = (g.set F.REG_TB_STAT_SYNC_VALID 0).withReg { g.reg with edges := 0 } := by
  have judged : (decide (g.per * 9 ≤ period * 10) && decide (period * 10 ≤ g.per * 11) && decide (25600 ≤ period) && decide (period * 300 ≤ 51200000)) = false := by
    rw [← Bool.not_eq_true]
    simpa only [Gov.edgeValid, Bool.and_eq_true, decide_eq_true_eq, and_assoc] using bad
  simp only [Gov.syncEdge, judged, on]
  simp [b2n]

/-- The loss of SYNC_IN before its source is raised. -/
def Gov.unlocked (g : Gov) : Gov := ((g.set F.REG_TB_STAT_SYNC_LOCK 0).mark F.REG_TB_STAT_SYNC_LOST).inc F.REG_SYNC_CNT_COUNT

theorem Gov.unlocked_reads (g : Gov) : g.unlocked.flag F.REG_TB_STAT_SYNC_LOCK = false ∧ g.unlocked.flag F.REG_TB_STAT_SYNC_LOST = true ∧ g.unlocked.get F.REG_SYNC_CNT_COUNT = usat 32 (g.get F.REG_SYNC_CNT_COUNT + 1) ∧ g.unlocked.asleep = g.asleep := by
  refine ⟨?_, ?_, ?_, Gov.asleep_of_get ?_⟩
  · rw [Gov.unlocked, Gov.inc_eq, Gov.flag_set_apart _ _ (by decide), Gov.mark_eq, Gov.flag_set_apart _ _ (by decide), Gov.flag_set_self _ _ (by decide)]
    rfl
  · rw [Gov.unlocked, Gov.inc_eq, Gov.flag_set_apart _ _ (by decide), Gov.mark_eq, Gov.flag_set_self _ _ (by decide)]
    rfl
  · rw [Gov.unlocked, Gov.get_inc32 _ _ (by decide), Gov.mark_eq, Gov.get_set_apart _ _ (by decide), Gov.get_set_apart _ _ (by decide)]
  · rw [Gov.unlocked, Gov.inc_eq, Gov.get_set_apart _ _ (by decide), Gov.mark_eq, Gov.get_set_apart _ _ (by decide), Gov.get_set_apart _ _ (by decide)]

theorem Gov.syncLoss_eq (g : Gov) : g.syncLoss = (g.unlocked.raise 273 0).withReg { (g.unlocked.raise 273 0).reg with acquired := false, edges := 0, inPhase := 0 } := by
  rw [Gov.syncLoss, Gov.unlocked]

/-- A lost SYNC_IN: no lock, the loss recorded, counted and raised. -/
theorem Gov.syncLoss_reads {g : Gov} (awake : g.asleep = false) : g.syncLoss.reg.acquired = false ∧ g.syncLoss.flag F.REG_TB_STAT_SYNC_LOCK = false ∧ g.syncLoss.flag F.REG_TB_STAT_SYNC_LOST = true ∧
    g.syncLoss.get F.REG_SYNC_CNT_COUNT = usat 32 (g.get F.REG_SYNC_CNT_COUNT + 1) ∧ g.syncLoss.flag (F.FLT_STATUS_bit 273) = true := by
  obtain ⟨lock, lost, count, slept⟩ := g.unlocked_reads
  have slept := slept.trans awake
  have low : ∀ f : Fld, f.off < 0x50000 → (g.unlocked.raise 273 0).get f = g.unlocked.get f := fun f hf => g.unlocked.raise_get _ _ _ slept (raiseFields_low 273 hf)
  rw [g.syncLoss_eq, Gov.withReg_flag, Gov.withReg_flag, Gov.withReg_flag, Gov.withReg_get, Gov.withReg_reg]
  refine ⟨rfl, ?_, ?_, ?_, g.unlocked.raise_flag _ _ _ slept (.inl (by decide))⟩
  · rw [Gov.flag, low _ (by decide)]
    exact lock
  · rw [Gov.flag, low _ (by decide)]
    exact lost
  · rw [low _ (by decide), count]

end Sys2Proof.Machine

open Sys2Proof Sys2Proof.Machine

/-- Settles O25: a phase zero moves the effective period within its bound (`Gov.Retimed`) and counts each rail once (`Gov.scheduled_rail`); an edge and a loss are one branch each. -/
theorem syncInput : Obligations.SyncInput := by
  intro t s g0 up
  refine ⟨fun fits since => ?_, fun off period => ⟨_, nextGov ((s.gov.ev_up t _ up).trans (Gov.syncEdge_off off _)), rfl, fun _ _ => rfl⟩, fun on period => ?_, fun awake acquired on late => ⟨_, nextGov (if_pos ⟨up, acquired, on, ?_⟩), Gov.syncLoss_reads awake⟩⟩
  · obtain ⟨h, zero, timed⟩ := g0.phaseZero_spec since.toNat fits
    let placed := h.withReg { h.reg with zeroAt := some (pwmTicks h.now) }
    have rail : ∀ r : Fin 8, placed.rail r = g0.rail r := fun r => congrArg (fun x => Tab.get (fun _ => ({} : RailSt)) x r.val) timed.rails
    have act : ∀ f : Fld, f.off ≠ 0x24008 → placed.act f = g0.act f := fun f other =>
      Gov.act_congr timed.held (timed.only f (by simp [Fld.apart_of_off (k := F.REG_TB_STAT_PER_EFF) other, Fld.apart_of_off (k := F.REG_TB_STAT_SYNC_LOCK) other]))
    have word : ∀ r : Fin 8, 0x24100 + 0x100 * r.val ≠ 0x24008 := fun r => by omega
    obtain ⟨beside, zeroAt⟩ := placed.scheduled_keeps
    have eff : (placed.each (List.range 8) Gov.scheduleRail).perEff = h.perEff := besideReg_get beside _
    refine ⟨_, nextGov ((s.gov.ev_up t _ up).trans zero), ?_, ?_, ?_, fun r full => ?_, fun r counts => ?_, fun f apart => (besideReg_get beside f).trans (timed.only f apart)⟩
    · exact eff.le.trans timed.above
    · exact timed.below.trans (Nat.add_le_add_right eff.ge _)
    · rw [zeroAt, ← timed.now]
      rfl
    · obtain ⟨k, same, own, read⟩ := placed.scheduled_rail r
      have acts : ∀ f : Fld, f.off ≠ 0x24008 → k.act f = g0.act f := fun f other => (besideReg_act same f).trans (act f other)
      rw [read, Gov.scheduleRail_full (by rw [acts _ (word r), own, rail]; exact full), besideReg_now same, acts _ (word r), besideReg_perRail same, besideReg_perRail beside]
      exact ⟨rfl, by rw [show placed.now = g0.now from timed.now]⟩
    · obtain ⟨k, same, own, read⟩ := placed.scheduled_rail r
      rw [read, Gov.scheduleRail_counts (by rw [besideReg_act same, act _ (word r), own, rail]; exact counts), own, rail]
  · have stored : ∀ v x, g0.onlyFields ((g0.set F.REG_TB_STAT_SYNC_VALID v).withReg x) [F.REG_TB_STAT_SYNC_VALID] := fun v x => Gov.onlyFields_regs (Gov.onlyFields_set v (g0.onlyFields_refl _) List.mem_cons_self) (Gov.withReg_fuses _ _) (Gov.withReg_regs _ _)
    have shown : ∀ v x, ((g0.set F.REG_TB_STAT_SYNC_VALID v).withReg x).flag F.REG_TB_STAT_SYNC_VALID = (v % 2 != 0) := fun v x => (Gov.withReg_flag _ _ _).trans (Gov.flag_set_self _ _ (by decide))
    by_cases valid : g0.edgeValid period.toNat
    · refine ⟨_, nextGov ((s.gov.ev_up t _ up).trans (Gov.syncEdge_valid on valid)), stored _ _, ?_, fun _ => ⟨rfl, rfl, rfl, fun many => ?_⟩, ?_⟩
      · rw [shown]
        exact iff_of_true rfl valid
      · simp [show 16 ≤ g0.reg.edges + 1 by omega]
      · rw [shown]
        exact fun clear => absurd clear (by decide)
    · refine ⟨_, nextGov ((s.gov.ev_up t _ up).trans (Gov.syncEdge_invalid on valid)), stored _ _, ?_, ?_, fun _ => rfl⟩
      · rw [shown]
        exact iff_of_false (by decide) valid
      · rw [shown]
        exact fun set => absurd set (by decide)
  · show 2 * g0.perEff * 10 ≤ (g0.now - g0.reg.edgeAt) * 512
    omega
end

section
namespace Sys2Proof.Machine

/-! ### The window of a rail (R204) -/

/-- The regulator's record is no register, and no fault moves it. -/
theorem setFree_reg : SetFree (fun _ => True) (fun g => g.reg) :=
  ⟨fun g f v _ => g.set_reg f v, fun g x => g.withFlt_reg x, fun g x => g.withFcu_reg x, fun g x => g.withHeld_reg x, fun g s f => g.setSyn_reg s f⟩

theorem Gov.raise_reg (g : Gov) (src detail : Nat) : (g.raise src detail).reg = g.reg := setFree_reg.raise (fun _ _ => trivial) g src detail

/-- Where the fields of fault resolution stand: beside the rails' words but for RAIL_CTRL, and beyond the collector, or at 0x1C of a block of 0x40 bytes. -/
theorem resolveFld_off {k : Fld} (h : resolveFld k) : k.off < 0x24100 ∨ (∃ r < 8, k.off = 0x24100 + 0x100 * r) ∨ 0x50040 ≤ k.off ∨ k.off % 0x40 = 0x1C := by
  rcases h with listed | ⟨b, rfl⟩ | ⟨b, _, rfl⟩ | ⟨r, hr, rfl⟩
  · have outside : ∀ k ∈ [F.FLT_LOG_HEAD_HEAD, F.FLT_LOG_OVF_COUNT, ⟨W.FLT_REC_SEQ, 0, 32⟩, F.FLT_REC_DROP_COUNT, F.FLT_REC_QUEUED, F.FCU_LIVE_LIVE, F.FCU_LIVE_LIVE_PEAK, F.FCU_CNT_PURGE_COUNT, F.FLT_CTRL_TRIPPED,
        F.FLT_CTRL_THROTTLED, F.FLT_CTRL_STOPPED], k.off < 0x24100 ∨ 0x50040 ≤ k.off := by decide
    exact (outside k listed).imp_right fun high => .inr (.inl high)
  · exact .inr (.inr (.inr (by simp only [F.BT_FCU_RCNT]; omega)))
  · exact .inr (.inr (.inl (by simp only [F.FLT_QUAR_bit]; omega)))
  · exact .inr (.inl ⟨r, hr, rfl⟩)

theorem faultFld_off {k : Fld} (h : faultFld k) : k.off < 0x24100 ∨ (∃ r < 8, k.off = 0x24100 + 0x100 * r) ∨ 0x50000 ≤ k.off ∨ k.off % 0x40 = 0x1C := by
  rcases h with resolves | rfl | ⟨n, rfl⟩ | ⟨n, rfl⟩
  · exact (resolveFld_off resolves).imp_right (Or.imp_right (Or.imp_left (Nat.le_trans (by decide))))
  · exact .inl (by decide)
  · exact .inr (.inr (.inl (by simp only [F.FLT_STATUS_bit]; omega)))
  · exact .inr (.inr (.inl (by simp only [W.SG1_CNT]; omega)))

/-- No fault field is a rail's WIN_LOST. -/
theorem fault_apart_winLost (r : Fin 8) : ∀ k, faultFld k → (F.RAIL_FLAGS_WIN_LOST r).apart k = true := fun k hk => Fld.apart_of_off (by
  have stands := faultFld_off hk
  simp only [F.RAIL_FLAGS_WIN_LOST]
  omega)

/-- Fault resolution stores in no collector bit of the governor's sources. -/
theorem resolve_apart_status {n : Nat} (hn : 256 ≤ n ∧ n < 512) : ∀ k, resolveFld k → (F.FLT_STATUS_bit n).apart k = true := fun k hk => Fld.apart_of_off (by
  have stands := resolveFld_off hk
  simp only [F.FLT_STATUS_bit]
  omega)

/-- A raised source of the governor's shows in its collector bit in every power state: the resolution of SLEEP and DEEP leaves it. -/
theorem Gov.raise_status (g : Gov) {src : Nat} (detail : Nat) (high : 256 ≤ src ∧ src < 512) : (g.raise src detail).flag (F.FLT_STATUS_bit src) = true := by
  unfold Gov.raise Gov.settle
  dsimp only
  rw [if_neg (by omega)]
  split
  · assumption
  · split
    · rw [Gov.flag, (setFree_get (F.FLT_STATUS_bit src)).resolve (resolve_apart_status high)]
      exact Gov.enlist_flag _ _ _ _
    · exact Gov.enlist_flag _ _ _ _

/-- A rail's counts of conversions inside and outside of its window after one more. -/
def RailSt.counted (x : RailSt) (inside : Bool) : RailSt := if inside then { x with inCnt := x.inCnt + 1, outCnt := 0 } else { x with inCnt := 0, outCnt := x.outCnt + 1 }

/-- A code lies in the window about the command voltage. -/
def Gov.insideWindow (g : Gov) (r code : Nat) : Prop :=
  -((g.act (F.RAIL_WIN_UV_WIN r) : Int) * 163840) ≤ (code : Int) * 8192 - g.vcmd r ∧ (code : Int) * 8192 - g.vcmd r ≤ (g.act (F.RAIL_WIN_OV_WIN r) : Int) * 163840

/-- INWIN as the counts of one more conversion judge it. -/
def Gov.inWindow (g : Gov) (r code : Nat) : Prop :=
  g.flag (F.SNS_RS_STAT_BROKEN r) = false ∧
    (if g.flag (F.RAIL_STATE_INWIN r) = true then g.insideWindow r code ∨ (g.rail r).outCnt + 1 < 8 else g.insideWindow r code ∧ 8 ≤ (g.rail r).inCnt + 1)

theorem RailSt.counted_counts (x : RailSt) (inside : Bool) : (x.counted inside).sense = x.sense ∧
    (inside = true → (x.counted inside).inCnt = x.inCnt + 1 ∧ (x.counted inside).outCnt = 0) ∧ (inside = false → (x.counted inside).inCnt = 0 ∧ (x.counted inside).outCnt = x.outCnt + 1) := by
  cases inside <;> simp [RailSt.counted]

/-- Eight outside in a row leave the window, and eight inside enter it. -/
theorem RailSt.counted_judged (x : RailSt) (inside was : Bool) : (if was then decide ((x.counted inside).outCnt < 8) else decide (8 ≤ (x.counted inside).inCnt)) = true ↔
    if was = true then inside = true ∨ x.outCnt + 1 < 8 else inside = true ∧ 8 ≤ x.inCnt + 1 := by
  cases inside with
  | true => cases was <;> simp [RailSt.counted]
  | false => cases was <;> simp [RailSt.counted]

/-- A conversion counts inside or outside, and INWIN follows the counts. -/
theorem Gov.windowCount_eq (g : Gov) (r code : Nat) : ∃ inside now : Bool, (inside = true ↔ g.insideWindow r code) ∧ (now = true ↔ g.inWindow r code) ∧
    g.windowCount r code = (g.setRail r fun x => x.counted inside).windowIs r now := by
  unfold Gov.windowCount
  dsimp only
  set inside := decide (g.vcmd r - (g.act (F.RAIL_WIN_UV_WIN r) : Int) * 163840 ≤ (code : Int) * 8192) && decide ((code : Int) * 8192 ≤ g.vcmd r + (g.act (F.RAIL_WIN_OV_WIN r) : Int) * 163840) with hinside
  have judged : inside = true ↔ g.insideWindow r code := by
    rw [hinside, Bool.and_eq_true, decide_eq_true_eq, decide_eq_true_eq, Gov.insideWindow]
    omega
  refine ⟨inside, _, judged, ?_, rfl⟩
  rw [Gov.rail_setRail, Gov.setRail_flag, Gov.setRail_flag, Bool.and_eq_true, Bool.not_eq_true', Gov.inWindow, ← judged]
  exact and_congr_right fun _ => (g.rail r).counted_judged inside _

/-- INWIN judged, where the rail does not leave its window in state ON. -/
structure Gov.Judged (g h : Gov) (r : Nat) (now : Bool) : Prop where
  only   : g.onlyFields h [F.RAIL_STATE_INWIN r]
  inwin  : h.flag (F.RAIL_STATE_INWIN r) = now
  counts : (h.rail r).sense = (g.rail r).sense ∧ (h.rail r).inCnt = (g.rail r).inCnt ∧ (h.rail r).outCnt = (g.rail r).outCnt
  bad    : g.flag (F.RAIL_STATE_INWIN r) = true → now = false → (h.rail r).goodAt = none ∧ (h.rail r).good = false

theorem Gov.windowIs_clamp (g : Gov) (r : Nat) (now : Bool) : (g.windowIs r now).reg.clamp = g.reg.clamp := by
  unfold Gov.windowIs
  dsimp only
  split
  · split
    · rw [Gov.raise_reg, Gov.mark_eq, Gov.set_reg]
      rfl
    · rfl
  · split
    · rfl
    · rfl

theorem Gov.rstate_set_inwin (g : Gov) (r v : Nat) : (g.set (F.RAIL_STATE_INWIN r) v).rstate r = g.rstate r := Gov.get_set_apart _ _ (by simp [Fld.apart, F.RAIL_STATE_INWIN, F.RAIL_STATE_STATE])

theorem Gov.windowIs_stays {g : Gov} {r : Nat} {now : Bool} (stays : ¬ (g.flag (F.RAIL_STATE_INWIN r) = true ∧ now = false ∧ g.rstate r = rOn)) : g.Judged (g.windowIs r now) r now := by
  have shown : (g.set (F.RAIL_STATE_INWIN r) (b2n now)).flag (F.RAIL_STATE_INWIN r) = now := by
    rw [Gov.flag_set_self _ _ (by simp [F.RAIL_STATE_INWIN])]
    cases now <;> rfl
  have stored : g.onlyFields (g.set (F.RAIL_STATE_INWIN r) (b2n now)) [F.RAIL_STATE_INWIN r] := Gov.onlyFields_set _ (g.onlyFields_refl _) List.mem_cons_self
  have kept : ∀ x : RailSt → RailSt, g.onlyFields ((g.set (F.RAIL_STATE_INWIN r) (b2n now)).setRail r x) [F.RAIL_STATE_INWIN r] := fun x => Gov.onlyFields_regs stored (Gov.setRail_fuses _ _ _) (Gov.setRail_regs _ _ _)
  unfold Gov.windowIs
  dsimp only
  split
  · next leaves =>
    simp only [Bool.and_eq_true, Bool.not_eq_true'] at leaves
    rw [if_neg (by rw [Gov.rstate, Gov.setRail_get, ← Gov.rstate, Gov.rstate_set_inwin]; exact fun on => stays ⟨leaves.1, leaves.2, on⟩)]
    exact ⟨kept _, shown, by simp, fun _ _ => by simp⟩
  · next remains =>
    have bad : g.flag (F.RAIL_STATE_INWIN r) = true → now = false → False := fun was clear => remains (by simp [was, clear])
    split
    · exact ⟨kept _, shown, by simp, fun was clear => (bad was clear).elim⟩
    · exact ⟨stored, shown, by simp, fun was clear => (bad was clear).elim⟩

theorem Gov.windowIs_leaves {g : Gov} {r : Fin 8} (was : g.flag (F.RAIL_STATE_INWIN r) = true) (on : g.rstate r = rOn) : (g.windowIs r false).flag (F.RAIL_FLAGS_WIN_LOST r) = true ∧ (g.windowIs r false).flag (F.FLT_STATUS_bit 272) = true := by
  unfold Gov.windowIs
  dsimp only
  rw [if_pos (by simp [was]), if_pos (by rw [Gov.rstate, Gov.setRail_get, ← Gov.rstate, Gov.rstate_set_inwin]; exact on)]
  refine ⟨?_, Gov.raise_status _ _ (by decide)⟩
  rw [Gov.flag, (setFree_get _).raise (fault_apart_winLost r), Gov.mark_eq, ← Gov.flag, Gov.flag_set_self _ _ (by simp [F.RAIL_FLAGS_WIN_LOST])]
  rfl

end Sys2Proof.Machine
end

section
namespace Sys2Proof.Machine

/-! ### Remote-sense conversions (R195, R202, R204) -/

/-- The rail's telemetry. -/
def teleFields (r : Nat) : List Fld := [F.RAIL_TELE_VOUT r, F.RAIL_TELE_IOUT r, F.RAIL_POUT_POUT r]

/-- A remote-sense code is stored, with the telemetry that follows it, before its window is judged. -/
structure Gov.Sensed (g h : Gov) (r code : Nat) : Prop where
  only  : g.onlyFields h (teleFields r)
  held  : h.held = g.held
  vout  : h.get (F.RAIL_TELE_VOUT r) = code / 4
  rail  : h.rail r = { g.rail r with sense := code }
  clamp : r = 0 → code ≤ 4 * g.get F.HLIM_VCORE_MAX → h.reg.clamp = false

theorem tele_apart {r : Nat} {f : Fld} (vout : f.off ≠ 0x24178 + 0x100 * r) (pout : f.off ≠ 0x2417C + 0x100 * r) : (teleFields r).all f.apart = true := by
  simp [teleFields, Fld.apart_of_off (k := F.RAIL_TELE_VOUT r) vout, Fld.apart_of_off (k := F.RAIL_TELE_IOUT r) vout, Fld.apart_of_off (k := F.RAIL_POUT_POUT r) pout]

/-- What the window's judgement reads is not the telemetry. -/
theorem Gov.Sensed.judges {g h : Gov} {r code : Nat} (sensed : g.Sensed h r code) (hr : r < 8) :
    h.rstate r = g.rstate r ∧ h.flag (F.RAIL_STATE_INWIN r) = g.flag (F.RAIL_STATE_INWIN r) ∧ (h.insideWindow r code ↔ g.insideWindow r code) ∧ (h.inWindow r code ↔ g.inWindow r code) := by
  have get : ∀ f : Fld, f.off ≠ 0x24178 + 0x100 * r → f.off ≠ 0x2417C + 0x100 * r → h.get f = g.get f := fun f vout pout => sensed.only f (tele_apart vout pout)
  have flag : ∀ f : Fld, f.off ≠ 0x24178 + 0x100 * r → f.off ≠ 0x2417C + 0x100 * r → h.flag f = g.flag f := fun f vout pout => congrArg (· != 0) (get f vout pout)
  have act : ∀ f : Fld, f.off ≠ 0x24178 + 0x100 * r → f.off ≠ 0x2417C + 0x100 * r → h.act f = g.act f := fun f vout pout => Gov.act_congr sensed.held (get f vout pout)
  have inwin := flag (F.RAIL_STATE_INWIN r) (by simp only [F.RAIL_STATE_INWIN]; omega) (by simp only [F.RAIL_STATE_INWIN]; omega)
  have vcmd : h.vcmd r = g.vcmd r := congrArg (toSigned 32) (get (F.RAIL_VCMD_VCMD r) (by simp only [F.RAIL_VCMD_VCMD]; omega) (by simp only [F.RAIL_VCMD_VCMD]; omega))
  have inside : h.insideWindow r code ↔ g.insideWindow r code := by
    rw [Gov.insideWindow, Gov.insideWindow, vcmd, act (F.RAIL_WIN_UV_WIN r) (by simp only [F.RAIL_WIN_UV_WIN]; omega) (by simp only [F.RAIL_WIN_UV_WIN]; omega),
      act (F.RAIL_WIN_OV_WIN r) (by simp only [F.RAIL_WIN_OV_WIN]; omega) (by simp only [F.RAIL_WIN_OV_WIN]; omega)]
  refine ⟨get (F.RAIL_STATE_STATE r) (by simp only [F.RAIL_STATE_STATE]; omega) (by simp only [F.RAIL_STATE_STATE]; omega), inwin, inside, ?_⟩
  rw [Gov.inWindow, Gov.inWindow, inside, inwin, sensed.rail, flag (F.SNS_RS_STAT_BROKEN r) (by simp only [F.SNS_RS_STAT_BROKEN]; omega) (by simp only [F.SNS_RS_STAT_BROKEN]; omega)]

/-- The state with the code stored and its telemetry published. -/
def Gov.withSense (g : Gov) (r code : Nat) : Gov := ((g.setRail r fun x => { x with sense := code }).set (F.RAIL_TELE_VOUT r) (code / 4)).refreshTele r

theorem Gov.withSense_reg (g : Gov) (r code : Nat) : (g.withSense r code).reg = (g.setRail r fun x => { x with sense := code }).reg := by rw [Gov.withSense, Gov.refreshTele_reg, Gov.set_reg]

theorem Gov.withSense_only (g : Gov) (r code : Nat) : g.onlyFields (g.withSense r code) (teleFields r) := by
  have stored : g.onlyFields ((g.setRail r fun x => { x with sense := code }).set (F.RAIL_TELE_VOUT r) (code / 4)) (teleFields r) :=
    Gov.onlyFields_set _ (Gov.onlyFields_regs (g.onlyFields_refl _) (Gov.setRail_fuses _ _ _) (Gov.setRail_regs _ _ _)) (by simp [teleFields])
  exact Gov.onlyFields_set _ (Gov.onlyFields_set _ stored (by simp [teleFields])) (by simp [teleFields])

theorem Gov.withSense_vout (g : Gov) (r : Nat) (code : BitVec 14) : (g.withSense r code.toNat).get (F.RAIL_TELE_VOUT r) = code.toNat / 4 := by
  rw [Gov.withSense, Gov.refreshTele_get _ _ (by simp [Fld.apart, F.RAIL_TELE_VOUT, F.RAIL_TELE_IOUT, F.RAIL_POUT_POUT]), Gov.get_set_self _ _ (by simp [F.RAIL_TELE_VOUT])]
  exact Nat.mod_eq_of_lt (show code.toNat / 4 < 2 ^ 12 by omega)

theorem Gov.rail_unclamped (g : Gov) (r : Nat) : (g.withReg { g.reg with clamp := false }).rail r = g.rail r := rfl

/-- The step's branch on the clamp: it ends where rail 0 is at or below its maximum. -/
theorem Gov.sensed_spec (g : Gov) (r : Fin 8) (code : BitVec 14) :
    g.Sensed (if r.val = 0 ∧ code.toNat ≤ 4 * (g.withSense r code.toNat).get F.HLIM_VCORE_MAX then (g.withSense r code.toNat).withReg { (g.withSense r code.toNat).reg with clamp := false } else g.withSense r code.toNat) r code.toNat := by
  have only := g.withSense_only r code.toNat
  have held : (g.withSense r code.toNat).held = g.held := by simp [Gov.withSense, Gov.refreshTele]
  have rail : (g.withSense r code.toNat).rail r = { g.rail r with sense := code.toNat } := (Gov.rail_of_reg (g.withSense_reg r _) r).trans (g.rail_setRail r _)
  have most : (g.withSense r code.toNat).get F.HLIM_VCORE_MAX = g.get F.HLIM_VCORE_MAX := only _ (tele_apart (by simp only [F.HLIM_VCORE_MAX]; omega) (by simp only [F.HLIM_VCORE_MAX]; omega))
  rw [most]
  split
  · exact ⟨Gov.onlyFields_regs only (Gov.withReg_fuses _ _) (Gov.withReg_regs _ _), (Gov.withReg_held _ _).trans held, (Gov.withReg_get _ _ _).trans (g.withSense_vout r code), (Gov.rail_unclamped _ _).trans rail, fun _ _ => rfl⟩
  · next stays => exact ⟨only, held, g.withSense_vout r code, rail, fun zero low => (stays ⟨zero, low⟩).elim⟩

/-- A rail that stays judged, or leaves its window outside ON, shows the code, its counts and no other change. -/
theorem Gov.Sensed.stays {g h k : Gov} {r code : Nat} {within now : Bool} (sensed : g.Sensed h r code) (judged : (h.setRail r fun x => x.counted within).Judged k r now) :
    k.get (F.RAIL_TELE_VOUT r) = code / 4 ∧ (k.rail r).sense = code ∧ (within = true → (k.rail r).inCnt = (g.rail r).inCnt + 1 ∧ (k.rail r).outCnt = 0) ∧
    (within = false → (k.rail r).inCnt = 0 ∧ (k.rail r).outCnt = (g.rail r).outCnt + 1) ∧ g.onlyFields k (F.RAIL_STATE_INWIN r :: teleFields r) := by
  have apart : (F.RAIL_TELE_VOUT r).apart (F.RAIL_STATE_INWIN r) = true := Fld.apart_of_off (by simp only [F.RAIL_TELE_VOUT, F.RAIL_STATE_INWIN]; omega)
  obtain ⟨sense, inCnt, outCnt⟩ := judged.counts
  obtain ⟨kept, inside, outside⟩ := (h.rail r).counted_counts within
  rw [Gov.rail_setRail] at sense inCnt outCnt
  rw [inCnt, outCnt]
  rw [sensed.rail] at inside outside kept sense ⊢
  refine ⟨(judged.only _ (by simpa using apart)).trans sensed.vout, sense.trans kept, inside, outside, fun f beside => ?_⟩
  obtain ⟨own, others⟩ := Bool.and_eq_true_iff.1 beside
  exact (judged.only f (by simpa using own)).trans (sensed.only f others)

/-- What a remote-sense conversion comes to: the code is stored, and a driven rail's window is judged. -/
theorem remoteSense_row {t : Fin 250} {s : State} (up : s.gov.up = true) (r : Fin 8) (code : BitVec 14) : ∃ h : Gov, (s.gov.reach t).Sensed h r code.toNat ∧
    exec (.remoteSenseConversion r code t) s = .next { s with gov := if rRamp ≤ h.rstate r ∧ h.rstate r ≤ rRampDn then h.windowCount r code.toNat else h } :=
  ⟨_, (s.gov.reach t).sensed_spec r code, nextGov (s.gov.ev_up t _ up)⟩

end Sys2Proof.Machine
end

section
namespace Sys2Proof.Machine

/-! ### Phase-current conversions (R202, R213) -/

/-- What conversions leave of a phase. -/
def PhaseSt.measured (x : PhaseSt) : Nat × Nat × Nat × Bool × Option Nat := (x.cur, x.sum, x.n, x.cal, x.convAt)

/-- A phase's conversions, with the sample's peak. -/
def Gov.measured (g : Gov) (p : Nat) : (Nat × Nat × Nat × Bool × Option Nat) × Nat := ((g.ph p).measured, g.get (F.PH_I_IPK p))

/-- What a conversion reads beside the phase's own record: the time, its calibration and the calibration slots. -/
def Gov.calibration (g : Gov) (p : Nat) : Nat × Nat × Nat × Nat × Bool := (g.now, g.act (F.PH_CAL_OFS p), g.act (F.PH_CAL_GAIN p), g.act F.SNS_CAL_CAL_ADC, g.actFlag F.SNS_CFG_CAL_EN)

theorem Gov.calSlot_of_calibration {g h : Gov} {p : Nat} (same : h.calibration p = g.calibration p) : h.calSlot p = g.calSlot p ∧ h.now = g.now ∧ ∀ code, h.phaseCurrent p code = g.phaseCurrent p code := by
  simp only [Gov.calibration, Prod.mk.injEq] at same
  obtain ⟨now, ofs, gain, adc, en⟩ := same
  exact ⟨by rw [Gov.calSlot, Gov.calSlot, now, adc, en], now, fun code => by rw [Gov.phaseCurrent, Gov.phaseCurrent, ofs, gain]⟩

/-- A store in another word than a phase's PH_I leaves its conversions. -/
theorem Gov.measured_set (g : Gov) (p v : Nat) {f : Fld} (apart : f.off ≠ 0x2490C + 0x20 * p) : (g.set f v).measured p = g.measured p := by
  rw [Gov.measured, Gov.ph_set, Gov.get_set_apart _ _ (Fld.apart_of_off (Ne.symm apart)), Gov.measured]

theorem Gov.measured_setRail (g : Gov) (p r : Nat) (x : RailSt → RailSt) : (g.setRail r x).measured p = g.measured p := by
  rw [Gov.measured, Gov.ph_setRail, Gov.setRail_get, Gov.measured]

theorem Gov.measured_setPh (g : Gov) (p q : Nat) {x : PhaseSt → PhaseSt} (same : ∀ y, (x y).measured = y.measured) : (g.setPh q x).measured p = g.measured p := by
  rw [Gov.measured, Gov.setPh_get, Gov.measured]
  by_cases own : p = q
  · rw [own, Gov.ph_setPh, same]
  · rw [Gov.ph_setPh_ne _ _ own]

theorem Gov.measured_refreshTele (g : Gov) (p r : Nat) : (g.refreshTele r).measured p = g.measured p :=
  (Gov.measured_set _ p _ (by simp only [F.RAIL_POUT_POUT]; omega)).trans (g.measured_set p _ (by simp only [F.RAIL_TELE_IOUT]; omega))

theorem Gov.measured_abortShed (g : Gov) (p r : Nat) : (g.abortShed r).measured p = g.measured p := by
  unfold Gov.abortShed
  split
  · next q _ =>
    rw [Gov.measured_setRail, Gov.inc_eq, Gov.measured_set _ _ _ (by simp only [F.RAIL_CNT_ABORT_COUNT]; omega), Gov.measured_setPh, Gov.measured_set _ _ _ (by simp only [F.PH_STAT_SHEDDING]; omega)]
    exact fun _ => rfl
  · rfl

theorem Gov.measured_raisePhase (g : Gov) (p q : Nat) : (g.raisePhase q).measured p = g.measured p := by
  rw [Gov.raisePhase, Gov.measured_setPh, Gov.mark_eq, Gov.measured_set _ _ _ (by simp only [F.PH_STAT_ACTIVE]; omega)]
  exact fun _ => rfl

theorem Gov.measured_addPhases (g : Gov) (p r n : Nat) : (g.addPhases r n).measured p = g.measured p := by
  unfold Gov.addPhases
  dsimp only
  split
  · rfl
  · rw [Gov.measured_setRail, Gov.refreshAct, Gov.measured_refreshTele, Gov.measured_set _ _ _ (by simp only [F.RAIL_STATE_N_ACT]; omega)]
    exact Gov.each_same (fun h => h.measured p) (fun h q => h.measured_raisePhase p q) _ _

/-- The rule that follows the conversions may resume and add phases, and leaves every phase's conversions. -/
theorem Gov.measured_conversionRule (g : Gov) (p r : Nat) : (g.conversionRule r).measured p = g.measured p := by
  have added : ∀ (h : Gov) (c : Prop) [Decidable c] (n : Nat), (if c then h.addPhases r n else h).measured p = h.measured p := fun h c _ n => by
    split
    · exact h.measured_addPhases p r n
    · rfl
  unfold Gov.conversionRule
  dsimp only
  split
  · exact g.measured_refreshTele p r
  · split
    · exact (added _ _ _).trans ((Gov.measured_abortShed _ p r).trans (g.measured_refreshTele p r))
    · exact (added _ _ _).trans (g.measured_refreshTele p r)

/-- A conversion stores in its phase's record and PH_I alone. -/
theorem Gov.convert_other (g : Gov) {p q : Nat} (code : Nat) (other : p ≠ q) : (g.convert q code).measured p = g.measured p := by
  have stamped : ∀ x : PhaseSt → PhaseSt, (g.setPh q x).measured p = g.measured p := fun x => by rw [Gov.measured, Gov.setPh_get, Gov.ph_setPh_ne _ _ other, Gov.measured]
  unfold Gov.convert
  dsimp only
  split
  · exact stamped _
  · rw [Gov.upd_eq, Gov.measured_set _ _ _ (by simp only [F.PH_I_IPK]; omega), stamped]

/-- A store in a phase's PH_I is none in the calibration's words. -/
theorem Gov.calibration_set (g : Gov) (p v : Nat) {f : Fld} (word : f.off % 0x20 = 0xC) : (g.set f v).calibration p = g.calibration p := by
  have apart : ∀ k : Fld, k.off % 0x20 ≠ 0xC → (g.set f v).act k = g.act k := fun k hk => Gov.act_set_apart _ _ (Fld.apart_of_off fun same => hk (same ▸ word))
  rw [Gov.calibration, Gov.set_now, apart _ (by simp only [F.PH_CAL_OFS]; omega), apart _ (by simp only [F.PH_CAL_GAIN]; omega), apart _ (by decide), Gov.actFlag, apart _ (by decide), Gov.calibration, Gov.actFlag]

theorem Gov.convert_calibration (g : Gov) (p q code : Nat) : (g.convert q code).calibration p = g.calibration p := by
  have stamped : ∀ x : PhaseSt → PhaseSt, (g.setPh q x).calibration p = g.calibration p := fun x => rfl
  unfold Gov.convert
  dsimp only
  split
  · exact stamped _
  · rw [Gov.upd_eq, Gov.calibration_set _ _ _ (by simp only [F.PH_I_IPK]; omega), stamped]

/-- A calibration keeps the phase's last current. -/
theorem Gov.convert_cal {g : Gov} {p : Nat} (cal : g.calSlot p = true) (code : Nat) : (g.convert p code).ph p = { g.ph p with cal := true, convAt := some g.now } := by
  rw [Gov.convert, if_pos cal, Gov.ph_setPh]

theorem Gov.convert_value {g : Gov} {p : Nat} (slot : g.calSlot p = false) (code : Nat) : let i := g.phaseCurrent p code
    (g.convert p code).ph p = { g.ph p with cur := i, cal := false, convAt := some g.now, sum := (g.ph p).sum + i, n := (g.ph p).n + 1 } ∧ (g.convert p code).get (F.PH_I_IPK p) = max (g.get (F.PH_I_IPK p)) i := by
  have small : g.phaseCurrent p code < 2 ^ 16 := (usat_mod 16 _).symm.trans_lt (Nat.mod_lt _ (by decide))
  intro i
  rw [Gov.convert, if_neg (by simp [slot])]
  dsimp only
  refine ⟨?_, ?_⟩
  · rw [Gov.upd_eq, Gov.ph_set, Gov.ph_setPh]
  · rw [Gov.upd_eq, Gov.get_set_self _ _ (by simp [F.PH_I_IPK]), Gov.setPh_get, Nat.max_comm]
    exact Nat.mod_eq_of_lt (Nat.max_lt.2 ⟨g.get_lt (F.PH_I_IPK p), small⟩)

/-- The conversions of one instant, seen from one phase: those of the others leave it. -/
theorem Gov.converted_at {codes : List (Fin 64 × BitVec 12)} (once : (codes.map (·.1)).Nodup) {c : Fin 64 × BitVec 12} (hc : c ∈ codes) (g : Gov) :
    ∃ h : Gov, h.measured c.1 = g.measured c.1 ∧ h.calibration c.1 = g.calibration c.1 ∧ (g.each codes fun g c => g.convert c.1 c.2.toNat).measured c.1 = (h.convert c.1 c.2.toNat).measured c.1 := by
  have other : ∀ (h : Gov), ∀ d ∈ codes, d ≠ c → (h.convert d.1 d.2.toNat).measured c.1 = h.measured c.1 := fun h d hd ne =>
    h.convert_other _ fun same => ne (List.inj_on_of_nodup_map once hd hc (Fin.ext same.symm))
  obtain ⟨h, base, read⟩ := Gov.each_at once.of_map hc g (fun h => h.measured c.1) (fun h => (h.measured c.1, h.calibration c.1)) other fun h d hd ne => Prod.ext (other h d hd ne) (h.convert_calibration _ _ _)
  exact ⟨h, congrArg Prod.fst base, congrArg Prod.snd base, read⟩

/-- A phase with no conversion at the instant keeps its conversions. -/
theorem Gov.converted_other {codes : List (Fin 64 × BitVec 12)} {p : Fin 64} (hp : p ∉ codes.map (·.1)) (g : Gov) : (g.each codes fun g c => g.convert c.1 c.2.toNat).measured p = g.measured p :=
  Gov.each_same_mem (fun h => h.measured p) codes (fun h c hc => h.convert_other _ fun same => hp (List.mem_map.2 ⟨c, hc, Fin.ext same.symm⟩)) g

/-- The conversions of one instant, with the rule that follows them for the rails concerned. -/
theorem phaseCurrents_row {t : Fin 250} {s : State} (up : s.gov.up = true) (codes : List (Fin 64 × BitVec 12)) : ∃ h : Gov,
    exec (.phaseCurrentConversion codes t) s = .next { s with gov := h } ∧ ∀ p, h.measured p = ((s.gov.reach t).each codes fun g c => g.convert c.1 c.2.toNat).measured p :=
  ⟨_, nextGov (s.gov.ev_up t _ up), fun p => Gov.each_same (fun h => h.measured p) (fun h r => h.measured_conversionRule p r) _ _⟩

end Sys2Proof.Machine

open Sys2Proof Sys2Proof.Machine

/-- Settles O29: a remote-sense conversion stores its code (`Gov.Sensed`), and a driven rail counts it and judges INWIN (`Gov.windowCount_eq`); each phase is converted once, on a state with its own calibration (`Gov.converted_at`), and the rule that follows keeps the conversions. -/
theorem conversions : Obligations.Conversions := by
  intro t s g0 up
  refine ⟨fun r code => ?_, fun codes once => ?_⟩
  · intro tele windowed away inside was isIn leaves
    obtain ⟨h, sensed, row⟩ := remoteSense_row (t := t) up r code
    obtain ⟨state, inwin, sameInside, sameIn⟩ := sensed.judges r.isLt
    have ends : r = 0 → code.toNat ≤ 4 * g0.get F.HLIM_VCORE_MAX → h.reg.clamp = false := fun zero => sensed.clamp (congrArg Fin.val zero)
    by_cases driven : windowed
    · obtain ⟨within, now, isWithin, isNow, counted⟩ := h.windowCount_eq r code.toNat
      rw [if_pos (by rw [state]; exact driven), counted] at row
      have within_iff : within = true ↔ inside := isWithin.trans sameInside
      have now_iff : now = true ↔ isIn := isNow.trans sameIn
      have clear_iff : now = false ↔ ¬ isIn := by rw [← Bool.not_eq_true, now_iff]
      refine ⟨_, row, fun zero low => (Gov.windowIs_clamp _ _ _).trans (ends zero low), fun idle => absurd driven idle, fun _ stays => ?_, fun ⟨_, was, out⟩ on => ?_⟩
      · have judged := Gov.windowIs_stays (g := h.setRail r fun x => x.counted within) (r := r) (now := now) fun ⟨was, clear, on⟩ => stays ⟨⟨driven, inwin.symm.trans was, clear_iff.1 clear⟩, state.symm.trans on⟩
        obtain ⟨vout, sense, ins, outs, only⟩ := sensed.stays judged
        refine ⟨vout, sense, fun i => ins (within_iff.2 i), fun o => outs (by rw [← Bool.not_eq_true, within_iff]; exact o), ?_, fun ⟨_, was, out⟩ => judged.bad (inwin.trans was) (clear_iff.2 out), only⟩
        rw [judged.inwin]
        exact now_iff
      · obtain rfl : now = false := clear_iff.2 out
        exact Gov.windowIs_leaves (inwin.trans was) (state.trans on)
    · rw [if_neg (by rw [state]; exact driven)] at row
      exact ⟨_, row, ends, fun _ => ⟨sensed.vout, congrArg RailSt.sense sensed.rail, sensed.only⟩, fun pos => absurd pos driven, fun ⟨pos, _⟩ => absurd pos driven⟩
  · obtain ⟨g, row, kept⟩ := phaseCurrents_row (t := t) up codes
    refine ⟨g, row, fun c hc => ?_, fun p hp => ?_⟩
    · obtain ⟨h, before, calibrated, read⟩ := g0.converted_at once hc
      obtain ⟨slot, now, value⟩ := Gov.calSlot_of_calibration calibrated
      have after := (kept c.1).trans read
      simp only [Gov.measured, PhaseSt.measured, Prod.mk.injEq] at after before
      obtain ⟨⟨cur, sum, n, cal, convAt⟩, peak⟩ := after
      obtain ⟨⟨cur0, sum0, n0, -, -⟩, peak0⟩ := before
      cases hs : g0.calSlot c.1 with
      | true =>
        rw [Gov.convert_cal (slot.trans hs)] at cur sum n cal convAt
        exact ⟨convAt.trans (by rw [now]), cal, fun _ => ⟨cur.trans cur0, sum.trans sum0, n.trans n0⟩, fun clear => absurd clear (by simp)⟩
      | false =>
        obtain ⟨record, ipk⟩ := Gov.convert_value (slot.trans hs) c.2.toNat
        rw [record] at cur sum n cal convAt
        rw [ipk] at peak
        simp only [value] at cur sum peak
        exact ⟨convAt.trans (by rw [now]), cal, fun set => absurd set (by simp), fun _ => ⟨cur, by rw [sum, sum0], by rw [n, n0], by rw [peak, peak0]⟩⟩
    · have same := (kept p).trans (Gov.converted_other hp g0)
      simp only [Gov.measured, PhaseSt.measured, Prod.mk.injEq] at same
      obtain ⟨⟨cur, sum, -, -, -⟩, peak⟩ := same
      exact ⟨cur, sum, peak⟩
end

section
namespace Sys2Proof.Machine

/-! ### Writes of RAIL_CTRL (R185, R190, R191) -/

theorem fieldsAt_railCtrl (r : Fin 8) : fieldsAt (W.RAIL_CTRL r) =
    [⟨"EN", 0, 1, .rw, 0x0, false⟩, ⟨"RDIV", 1, 2, .rw, 0x0, false⟩, ⟨"RPH", 8, 8, .rw, 0x0, false⟩, ⟨"VF_TBL", 16, 6, .rw, 0x0, false⟩, ⟨"EFF_TBL", 22, 6, .rw, 0x0, false⟩, ⟨"COMMIT", 31, 1, .trig, 0x0, false⟩] := by
  revert r
  decide +kernel

theorem writable_railCtrl (r : Fin 8) : writable (W.RAIL_CTRL r) = true := by
  rw [writable, fieldsAt_railCtrl]
  rfl

theorem Gov.writeReg_railCtrl (g : Gov) (r : Fin 8) (w : Word) : g.writeReg (W.RAIL_CTRL r) w = g.writeRailCtrl r w := by
  have at_ : W.RAIL_CTRL r = 0x24100 + 0x100 * r.val := rfl
  have rail : (W.RAIL_CTRL r - 0x24100) / 0x100 = r.val := by omega
  have group : g.writeReg (W.RAIL_CTRL r) w = g.writeRegulator (W.RAIL_CTRL r) w := by
    rw [Gov.writeReg, if_neg (by simp [writable_railCtrl r])]
    repeat rw [if_neg (by omega)]
    exact if_pos (by omega)
  rw [group, Gov.writeRegulator, if_neg (by simp only [W.REG_TB]; omega), if_neg (by simp only [W.REG_TB_STAT]; omega), if_neg (by simp only [W.REG_CTRL]; omega), if_neg (by omega), if_pos (by omega), rail]
  exact if_pos rfl

/-- The word that a write of RAIL_CTRL stores: COMMIT is no state. -/
def railCtrlWord (w : Word) : Word := insertField w 31 1 0

/-- What a write of RAIL_CTRL stores: EN and RDIV as written, and no COMMIT. -/
theorem Gov.plain_railCtrl (g : Gov) (r : Fin 8) (w : Word) : (g.plain (W.RAIL_CTRL r) (railCtrlWord w)).flag (F.RAIL_CTRL_EN r) = bit w.toNat 0 ∧
    (g.plain (W.RAIL_CTRL r) (railCtrlWord w)).get (F.RAIL_CTRL_RDIV r) = field w 1 2 ∧ (g.plain (W.RAIL_CTRL r) (railCtrlWord w)).flag (F.RAIL_CTRL_COMMIT r) = false := by
  have written := fun f hf => g.get_plain (railCtrlWord w) (off := W.RAIL_CTRL r) (f := f) (by rw [fieldsAt_railCtrl r]; exact hf)
  have en : (g.plain (W.RAIL_CTRL r) (railCtrlWord w)).get (F.RAIL_CTRL_EN r) = field w 0 1 := (written ⟨"EN", 0, 1, .rw, 0x0, false⟩ (by simp)).trans (field_insertField_apart (by decide))
  have rdiv : (g.plain (W.RAIL_CTRL r) (railCtrlWord w)).get (F.RAIL_CTRL_RDIV r) = field w 1 2 := (written ⟨"RDIV", 1, 2, .rw, 0x0, false⟩ (by simp)).trans (field_insertField_apart (by decide))
  refine ⟨?_, rdiv, (Gov.flag_false_iff _ _).2 (written ⟨"COMMIT", 31, 1, .trig, 0x0, false⟩ (by simp))⟩
  exact (congrArg (· != 0) en).trans (by simp [field, bit])

/-- The conditions on which RAIL_CTRL takes a write (R177, R178, R185, R315). -/
def Gov.railCtrlFits (g : Gov) (r : Nat) (w : Word) : Prop :=
  let new := g.plain (W.RAIL_CTRL r) (railCtrlWord w)
  (bit w.toNat 0 = true → g.flag F.FLT_CTRL_TRIPPED = false) ∧
    (bit w.toNat 0 = true → g.flag (F.RAIL_CTRL_EN r) = false → new.railFit r = true ∧ new.rateFit r g.perEff = true ∧ coefFit (g.rail r).coef = true) ∧
    (bit w.toNat 0 = true → g.flag (F.RAIL_CTRL_EN r) = true → field w 1 2 = g.get (F.RAIL_CTRL_RDIV r) ∨ new.rateFit r g.perEff = true) ∧ (bit w.toNat 31 = true → coefFit (g.coefShadow r) = true)

/-- The state that an accepted write of RAIL_CTRL leaves: the word is stored beside the one in force, and COMMIT is noted. -/
def Gov.railCtrlTaken (g : Gov) (r : Nat) (w : Word) : Gov :=
  if bit w.toNat 31 then (g.shadow (W.RAIL_CTRL r) (railCtrlWord w)).setRail r fun x => { x with commit := true } else g.shadow (W.RAIL_CTRL r) (railCtrlWord w)

/-- A write of RAIL_CTRL is refused by the first of its conditions that fails, and taken where none does. -/
theorem Gov.writeRailCtrl_verdict (g : Gov) (r : Fin 8) (w : Word) : (g.railCtrlFits r w → g.writeRailCtrl r w = accept (g.railCtrlTaken r w)) ∧ (¬ g.railCtrlFits r w → g.writeRailCtrl r w = g.refuseRail r) := by
  obtain ⟨en, rdiv, -⟩ := g.plain_railCtrl r w
  unfold Gov.writeRailCtrl
  dsimp only
  rw [← railCtrlWord, en, rdiv]
  have refused : ¬ g.railCtrlFits r w → (g.railCtrlFits r w → g.refuseRail r = accept (g.railCtrlTaken r w)) ∧ (¬ g.railCtrlFits r w → g.refuseRail r = g.refuseRail r) := fun bad => ⟨fun fits => absurd fits bad, fun _ => rfl⟩
  split
  · next trips =>
    obtain ⟨on, tripped⟩ := Bool.and_eq_true_iff.1 trips
    exact refused fun ⟨free, _⟩ => absurd tripped (by simp [free on])
  · next free =>
    split
    · next unfit =>
      simp only [Bool.and_eq_true, Bool.not_eq_true'] at unfit
      obtain ⟨⟨on, off⟩, fails⟩ := unfit
      exact refused fun ⟨_, fits, _⟩ => by simp [fits on off] at fails
    · next fits =>
      split
      · next moves =>
        simp only [Bool.and_eq_true, decide_eq_true_eq, Bool.not_eq_true'] at moves
        obtain ⟨⟨⟨on, was⟩, other⟩, fails⟩ := moves
        exact refused fun ⟨_, _, keeps, _⟩ => (keeps on was).elim (fun same => other same.symm) fun fits => by simp [fits] at fails
      · next keeps =>
        split
        · next unfit =>
          obtain ⟨commit, fails⟩ := Bool.and_eq_true_iff.1 unfit
          exact refused fun ⟨_, _, _, coef⟩ => by simp [coef commit] at fails
        · next coef =>
          have taken : g.railCtrlFits r w := by
            refine ⟨fun on => ?_, fun on off => ?_, fun on was => ?_, fun commit => ?_⟩
            · simpa [on] using free
            · simpa [on, off, and_assoc] using fits
            · refine or_iff_not_imp_left.2 fun other => ?_
              simpa [on, was, Ne.symm other] using keeps
            · simpa [commit] using coef
          refine ⟨fun _ => ?_, fun bad => absurd taken bad⟩
          unfold Gov.railCtrlTaken
          split <;> rfl

/-- A taken write of RAIL_CTRL: the word is stored to be active later, and the commit is noted. -/
theorem Gov.railCtrlTaken_stored (g : Gov) (r : Fin 8) (w : Word) : let h := (g.railCtrlTaken r w).respond 0 0
    g.storesLater h (W.RAIL_CTRL r) (railCtrlWord w) ∧ h.rail r = { g.rail r with commit := bit w.toNat 31 || (g.rail r).commit } := by
  have held : (g.hold (W.RAIL_CTRL r)).isHeld (W.RAIL_CTRL r) = true := by simp [Gov.isHeld_hold]
  obtain ⟨⟨_, written, words⟩, acts⟩ := Gov.plain_storesLater (g.hold_word _) (g.hold_actWord _) held (railCtrlWord w) {}
  have rail : (g.shadow (W.RAIL_CTRL r) (railCtrlWord w)).rail r = g.rail r := by
    unfold Gov.shadow Gov.hold
    split <;> rfl
  unfold Gov.railCtrlTaken
  cases bit w.toNat 31 with
  | true => exact ⟨⟨⟨rfl, written, words⟩, acts⟩, (Gov.rail_setRail _ _ _).trans (by rw [rail]; rfl)⟩
  | false => exact ⟨⟨⟨rfl, written, words⟩, acts⟩, rail⟩

/-- A write of RAIL_CTRL comes to the state it takes, or to the refusal. -/
theorem railCtrl_ends {r : Fin 8} {wr : PortWrite} {t : Fin 250} {s : State} (writes : s.gov.writesNow t (W.RAIL_CTRL r) wr) :
    ((s.gov.reach t).railCtrlFits r wr.data → portCommand (W.RAIL_CTRL r) wr t s = .next { s with gov := ((s.gov.reach t).railCtrlTaken r wr.data).respond 0 0 }) ∧
    (¬ (s.gov.reach t).railCtrlFits r wr.data → ∃ g, portCommand (W.RAIL_CTRL r) wr t s = .next { s with gov := g } ∧ (s.gov.reach t).refuses g (F.RAIL_FLAGS_REFUSED r) []) := by
  obtain ⟨takes, refuses⟩ := (s.gov.reach t).writeRailCtrl_verdict r wr.data
  have row := (s.gov.reach t).writeReg_railCtrl r wr.data
  refine ⟨fun fits => ?_, fun bad => ?_⟩
  · obtain ⟨stored, -⟩ := (s.gov.reach t).railCtrlTaken_stored r wr.data
    exact portCommand_ends writes (row.trans (takes fits)) (Gov.storesLater_offWake stored (by simp only [W.RAIL_CTRL, W.PS_WAKE_STAT]; omega))
  · exact portCommand_refused writes (row.trans (refuses bad)) (by simp [F.RAIL_FLAGS_REFUSED]) rfl (by simp only [F.PS_WAKE_STAT_OFF_WAKE, F.RAIL_FLAGS_REFUSED]; omega)

end Sys2Proof.Machine

open Sys2Proof Sys2Proof.Machine

/-- Settles O39: the three commands are one write of RAIL_CTRL, taken where its conditions hold (`Gov.writeRailCtrl_verdict`), with the word stored to be active later (`Gov.railCtrlTaken_stored`). -/
theorem railWrites : Obligations.RailWrites := by
  intro r wr t s g0 writes w new en commit was accepts taken refused
  obtain ⟨takes, refuses⟩ := railCtrl_ends writes
  have stored : taken ((g0.railCtrlTaken r wr.data).respond 0 0) := by
    obtain ⟨later, rail⟩ := g0.railCtrlTaken_stored r wr.data
    obtain ⟨enabled, -, uncommitted⟩ := g0.plain_railCtrl r wr.data
    exact ⟨later, (congrArg (· != 0) (Gov.stores_get later.1 _)).trans enabled, (congrArg (· != 0) (Gov.stores_get later.1 _)).trans uncommitted, rail⟩
  have accepted : ∀ c : Instr, exec c s = portCommand (W.RAIL_CTRL r) wr t s → accepts → Completes c s taken := fun c row fits => ⟨_, row.trans (takes fits), stored⟩
  have declined : ∀ c : Instr, exec c s = portCommand (W.RAIL_CTRL r) wr t s → ¬ accepts → Completes c s refused := fun c row bad =>
    let ⟨g, ends, refusal⟩ := refuses bad
    ⟨g, row.trans ends, refusal⟩
  have enable : en = true → exec (.railEnable r wr t) s = portCommand (W.RAIL_CTRL r) wr t s := fun on => if_pos on
  have disable : en = false → exec (.railDisable r wr t) s = portCommand (W.RAIL_CTRL r) wr t s := fun off => if_pos (congrArg not off)
  have commits : commit = true → exec (.railCommit r wr t) s = portCommand (W.RAIL_CTRL r) wr t s := fun asked => if_pos asked
  exact ⟨fun on => accepted _ (enable on), fun on => declined _ (enable on), fun off => accepted _ (disable off), fun off => declined _ (disable off), fun asked => accepted _ (commits asked), fun asked => declined _ (commits asked)⟩
end
